-- ==== Sys2Proof/Word.lean ====
section
/-! DEFINITION. The word types of the block: a byte, the 32-bit word of an object's field map (R21), and the
sparse table that every numbered collection of the state is held in. -/

namespace Sys2Proof

/-- A byte of a packet, a chunk, an object or a buffer. -/
abbrev Byte := BitVec 8

/-- One 32-bit word of an object's field map (R21). -/
abbrev Word := BitVec 32

/-- A count of cycles of the 400 MHz timebase (R332), from the first power-up of the block on. -/
abbrev Cyc := Nat

/-- A sparse table: keys strictly rising, each with its value. What a missing key means is said where the table is read. -/
abbrev Tab (α : Type) := List (Nat × α)

end Sys2Proof
end

