-- ==== Sys2Proof/Syntax.lean ====
section
/-! DEFINITION. The commands of the block: one constructor for every row of spec/opcode_table.json, with the operands
the row's rule gives it. Command packets carry the whole packet (R395 to R397); events carry the instant, in cycles of
the 400 MHz timebase, and what the outside world contributes to the event. -/

namespace Sys2Proof

/-- How a command packet reached the Gangway (R399, R401). -/
inductive Via where
  /-- A UDP datagram: source address and port, destination address and port, and the datagram facts of R72. -/
  | udp (srcIp srcPort dstIp dstPort : Nat) (ipOptions fragment badChecksum : Bool)
  /-- An SPI WRITE; `whole` is false when the transaction ended inside a byte (R401). -/
  | spi (whole : Bool)
  deriving DecidableEq, Repr

/-- A command packet as received (R395, R396, R397). The OPCODE is the constructor's (or its operand). -/
structure Packet where
  t       : Cyc         -- instant at which the last byte was received (R273)
  via     : Via         -- transport
  count   : Nat         -- bytes the transport delivered: UDP payload length, or SPI bytes after the first (R399, R401)
  magic   : Byte        -- 0x00
  version : Byte        -- 0x01: [3:0] version, [5:4] KIND, [7:6] reserved
  tag     : Byte        -- 0x04
  seq     : Byte        -- 0x05
  length  : BitVec 16   -- 0x06
  token   : BitVec 64   -- 0x08
  payload : List Byte   -- from 0x10 to LENGTH - 4
  crc     : Word        -- trailer
  deriving DecidableEq, Repr

/-- A UDP datagram delivered to BBI (R72, R100). -/
structure Datagram where
  srcIp       : Nat
  srcPort     : Nat
  dstIp       : Nat
  dstPort     : Nat
  ipLen       : Nat        -- IPv4 total length, counted against the Quay (R104)
  ipOptions   : Bool
  fragment    : Bool
  badChecksum : Bool
  payload     : List Byte
  deriving DecidableEq, Repr

/-- An Ethernet frame at a line port (R323 to R329). -/
structure Frame where
  dst       : BitVec 48
  src       : BitVec 48
  tags      : Nat               -- number of 802.1Q tags
  pcp       : Nat               -- of the first tag, 0 when untagged (R325)
  vid       : Nat               -- VID of the first tag; 0 is a priority tag
  etherType : BitVec 16
  length    : Nat               -- destination address to FCS
  fcsOk     : Bool
  payload   : List Byte         -- after the EtherType
  deriving DecidableEq, Repr

/-- A Sync or Follow_Up message of IEEE 802.1AS, as far as R336 and R345 use it. -/
structure SyncMsg where
  followUp   : Bool            -- a Follow_Up; otherwise a Sync
  twoStep    : Bool            -- twoStepFlag of a Sync
  domain     : Nat
  sequenceId : Nat
  sourcePort : Nat             -- sourcePortIdentity
  originNs   : Nat             -- preciseOriginTimestamp, ns
  correction : Int             -- correctionField, 2^-16 ns
  intervalNs : Nat             -- the Sync interval the message announces
  deriving DecidableEq, Repr

/-- An Announce message (R336, R337). -/
structure AnnounceMsg where
  domain       : Nat
  gmIdentity   : BitVec 64
  stepsRemoved : Nat
  intervalNs   : Nat
  deriving DecidableEq, Repr

/-- What a sink's receiver capability reports (R303). -/
structure SinkCaps where
  rev20  : Bool            -- DisplayPort revision 2.0 or later
  coded  : Bool            -- 128b/132b channel coding
  rates  : List Nat        -- link rates: 1 UHBR10, 2 UHBR13.5, 3 UHBR20
  lanes  : Nat             -- lane count
  pollUs : Nat             -- interval at which it wants its lane status read, µs
  deriving DecidableEq, Repr

/-- What an AUX transaction returned (R304). -/
inductive AuxAnswer where
  | caps (c : SinkCaps)    -- an ACK with the receiver capability
  | ack                    -- any other ACK
  | defer
  | nack
  deriving DecidableEq, Repr

/-- What the sink's lane status shows (R303, R306, R307). -/
structure LaneStatus where
  eqDone   : Bool          -- every lane equalised, with interlane alignment
  cdsDone  : Bool
  locked   : Bool          -- no lane reports lost lock or lost alignment
  presets  : List Nat      -- preset requested per logical lane
  symErr   : Nat           -- symbol error count, summed over lanes
  deriving DecidableEq, Repr

/-- The kind of a low-power state of a channel (R383). -/
inductive LowPower where
  | powerDown
  | selfRefresh
  deriving DecidableEq, Repr

/-- What the array returned for one data line (R385). -/
inductive LineCheck where
  | clean
  | corrected
  | uncorrectable
  deriving DecidableEq, Repr

/-- What a data line is read for (R385). -/
inductive LineUse where
  | data                                        -- for its requester
  | check (unit : Nat)                          -- for the check of a correction map: a 64-byte unit of its staging bytes (R202)
  | surface (id unit first count : Nat)         -- to merge `count` bytes from `first` on into a 64-byte unit of a surface
  | list (id unit first count : Nat)            -- the same for a Skim list
  | staging (unit first count : Nat)            -- the same for the staging buffer of the correction map
  deriving DecidableEq, Repr

/-- What a sweep of one byte lane and direction found: for each code tried, whether it passed (R371, R372). -/
structure SweepLane where
  firstCode : Nat
  passes    : List Bool
  deriving DecidableEq, Repr

/-- The outcome of DRAM start-up training of one channel (R370). -/
structure ChannelTraining where
  density  : Nat             -- MR8: 1 for 1 GiB, 2 for 2 GiB, 3 for 4 GiB; any other number is no density of R366
  rfm      : Bool            -- MR27: refresh management is needed
  tries    : List Nat        -- how often steps 1 to 6 failed to answer at FSP_L, then at FSP_H: twelve numbers
  sweepsL  : List SweepLane  -- full sweeps at FSP_L: lane 0 read, lane 1 read, lane 0 write, lane 1 write
  sweepsH  : List SweepLane  -- full sweeps at FSP_H
  mr4      : Nat
  deriving DecidableEq, Repr

/-- A reset condition (R516, R518). -/
inductive ResetCause where
  | pin          -- RESET_N low
  | brownOut     -- VDD_CORE or VDD_IO below 90 %, or a supply out of range
  deriving DecidableEq, Repr

/-- The readings of one housekeeping round (R475). -/
structure Readings where
  codes    : List Nat      -- conversion codes of channels 0 to 63
  margin   : Nat           -- lowest timing-monitor margin, device units (R473)
  mode     : List (Option Nat) := []  -- VOUT_MODE: what each try reads, one byte; none when it is not acknowledged or fails its PEC (R472, R474)
  vout     : List (Option Nat) := []  -- READ_VOUT: what each try reads, 16 bits; none when it fails (R474)
  late     : List Bool := []  -- VOUT_COMMAND of a set-point change that had to wait (R473): whether each try succeeds
  acks     : List Bool := []  -- VOUT_COMMAND at the end of this round: whether each try succeeds (R474)
  deriving DecidableEq, Repr

/-- A lane, a gang or a row whose work reads dynamic memory, and the 64-byte units of that read that were uncorrectable (R385). -/
structure ReadBy where
  k   : Nat
  bad : List Nat := []
  deriving DecidableEq, Repr

/-- A segment of the content library, and the channel of each of its 4 KiB units (R389). -/
structure SegmentRead where
  bytes : List Byte
  chans : List Nat := []
  deriving DecidableEq, Repr

/-- What the array returned for a data line, and what it is read for (R385). -/
structure LineRead where
  check : LineCheck
  use   : LineUse := .data
  deriving DecidableEq, Repr

/-- The commands of the block. The comment of each constructor names its row's rule. -/
inductive Instr where
  -- command packets
  | pair (p : Packet)                      -- R407
  | unpair (p : Packet)                    -- R408
  | sessionQuery (p : Packet)              -- R424
  | eventAck (p : Packet)                  -- R417
  | deviceInfo (p : Packet)                -- R426
  | sessionSubscribe (p : Packet)          -- R419
  | gangwayConfigure (p : Packet)          -- R422
  | mooringConfigure (p : Packet)          -- R112
  | mooringReset (p : Packet)              -- R112
  | mooringQuery (p : Packet)              -- R114
  | ingestConfigure (p : Packet)           -- R113
  | crcCompute (p : Packet)                -- R126
  | codecConfigure (p : Packet)            -- R150
  | codecQuery (p : Packet)                -- R151
  | codecDecompress (p : Packet)           -- R135
  | codecCompress (p : Packet)             -- R145
  | serviceConfigure (p : Packet)          -- R188
  | planQuery (p : Packet)                 -- R189
  | scanoutConfigure (p : Packet)          -- R282
  | overlayCommit (p : Packet)             -- R273
  | gammaSet (p : Packet)                  -- R270
  | lanternConfigure (p : Packet)          -- R288
  | lanternWrite (p : Packet)              -- R288
  | opticsSet (p : Packet)                 -- R210
  | corrMapLoad (p : Packet)               -- R201
  | corrMapCommit (p : Packet)             -- R202
  | fanConfigure (p : Packet)              -- R205
  | lathEvaluate (p : Packet)              -- R194
  | surfaceCreate (p : Packet)             -- R245
  | surfaceDestroy (p : Packet)            -- R246
  | surfaceWrite (p : Packet)              -- R246
  | skimListWrite (p : Packet)             -- R247
  | skimSubmit (p : Packet)                -- R250
  | linkConfigure (p : Packet)             -- R320
  | linkRetrain (p : Packet)               -- R306
  | linkTest (p : Packet)                  -- R310
  | bbConfigure (p : Packet)               -- R322
  | bbTest (p : Packet)                    -- R319
  | linkQuery (p : Packet)                 -- R321
  | bridgeSet (p : Packet)                 -- R360
  | timeConfigure (p : Packet)             -- R362
  | triggerConfigure (p : Packet)          -- R346
  | timeStep (p : Packet)                  -- R335
  | groupConfigure (p : Packet)            -- R363
  | memConfigure (p : Packet)              -- R392
  | memQuery (p : Packet)                  -- R393
  | memCalibrate (p : Packet)              -- R391
  | store (p : Packet)                     -- R438
  | settingsRevert (p : Packet)            -- R437
  | settingsErase (p : Packet)             -- R433
  | factoryWrite (p : Packet)              -- R427
  | nvmQuery (p : Packet)                  -- R457
  | imageLoad (p : Packet)                 -- R427
  | imageVerify (p : Packet)               -- R444
  | imageActivate (p : Packet)             -- R446
  | imageActivateConfirm (p : Packet)      -- R448
  | imageActivateAbandon (p : Packet)      -- R449
  | firmwareQuery (p : Packet)             -- R458
  | deviceRestart (p : Packet)             -- R525
  | powerConfigure (p : Packet)            -- R489
  | backlightConfigure (p : Packet)        -- R488
  | railProfileSet (p : Packet)            -- R487
  | thermalQuery (p : Packet)              -- R491
  | fasciaConfigure (p : Packet)           -- R504
  | fasciaImage (p : Packet)               -- R502
  | fasciaQuery (p : Packet)               -- R506
  | objectRead (p : Packet)                -- R426
  | tallyRead (p : Packet)                 -- R508
  | wakeConfigure (p : Packet)             -- R515
  | wakeSubscribe (p : Packet)             -- R514
  | tallyExport (p : Packet)               -- R514
  | selfTestMramScan (p : Packet)          -- R536
  | selfTestScanoutPath (p : Packet)       -- R536
  | gangwayEcho (p : Packet)               -- R426
  -- events of the Gangway
  | gangwayRetransmission (opcode : BitVec 16) (p : Packet)   -- R410
  | spiRead (t : Cyc) (bytes : Nat)                           -- R401: bytes clocked after the first
  | spiStatus (t : Cyc) (bytes : Nat)                         -- R400
  | eventResend (t : Cyc) (slot : Nat)                        -- R417
  | keyDebounced (t : Cyc) (turned : Bool)                    -- R412
  | sealDebounced (t : Cyc) (opened : Bool)                   -- R415
  -- ingest
  | sceneDatagram (t : Cyc) (d : Datagram)                    -- R100
  | sceneChunk (t : Cyc)                                      -- R95: the next chunk of the Quay
  | quaySpill (t : Cyc)                                       -- R103
  | nackDue (t : Cyc) (mooring : Nat)                         -- R120
  -- codec
  | decompressionJobStart (t : Cyc) (lane : ReadBy)          -- R131: the read is that of the job's input
  | decompressionJobEnd (t : Cyc) (lane : Nat)                -- R137
  | decompressionResume (t : Cyc) (mooring : Nat)             -- R140
  | libraryPieceRelease (t : Cyc) (mooring : Nat)             -- R130
  | librarySegmentRead (t : Cyc) (mooring : Nat) (frame : Nat) (segment : SegmentRead) (size : Nat)  -- R179: the schedule's next segment and the frame it is for
  | compressionBlockDone (t : Cyc) (lane : ReadBy)           -- R146: the read is that of the block's input
  | compressionPreempt (t : Cyc) (lane : Nat)                 -- R141
  -- the field
  | sceneCut (t : Cyc)                                        -- R40
  | planComplete (t : Cyc)                                    -- R162
  | fieldTick (t : Cyc)                                       -- R35
  -- firmware trial
  | imageReady (t : Cyc)                                      -- R446
  | healthDeadline (t : Cyc)                                  -- R449
  | healthConfirm (t : Cyc)                                   -- R448
  | pilotWatchdogExpiry (t : Cyc)                             -- R451
  -- scan-out
  | tideMark (t : Cyc)                                        -- R46
  | commitLatch (t : Cyc)                                     -- R273
  | overlayPrefetchStart (t : Cyc)                            -- R274
  | lineStart (t : Cyc)                                       -- R537
  | overlayFetchReturn (t : Cyc) (sector plane : Nat) (row : ReadBy)  -- R281: data of one overlay row of a sector arrived; the units are those of the surface
  | overlayUnderrun (t : Cyc) (sector plane : Nat)            -- R279
  | backlightZoneRise (t : Cyc) (zone : Nat)                  -- R466
  | backlightZoneFall (t : Cyc) (zone : Nat)                  -- R466
  | blankingWindow (t : Cyc) (port : Nat)                     -- R185
  | testRequestTimeout (t : Cyc)                              -- R187
  | teEdge (t : Cyc) (port : Nat)                             -- R286
  | teWindowEnd (t : Cyc) (port : Nat)                        -- R286
  -- rendering
  | tileStart (t : Cyc) (gang : Nat)                          -- R163
  | tileFinish (t : Cyc) (gang : ReadBy)                     -- R237: the read is that of a replay copy
  | cacheLineFill (t : Cyc) (gang mooring coat : Nat) (relief : Bool) (col row line : Nat) (bad : Bool)  -- R238, R239
  -- Skim
  | skimPieceStart (t : Cyc)                                  -- R258
  | skimEntryDone (t : Cyc) (badUnits : List (Nat × Nat))     -- R251: uncorrectable units read, (surface, unit), R260
  | bollardComplete (t : Cyc)                                 -- R254
  | surfaceClearDone (t : Cyc)                                -- R245
  | corrMapCheckDone (t : Cyc)                               -- R202
  -- panel links
  | hpdHigh (t : Cyc) (port : Nat)                            -- R301
  | hpdUnplug (t : Cyc) (port : Nat)                          -- R306
  | irqHpd (t : Cyc) (port : Nat) (status : Option LaneStatus)        -- R306: what the AUX read returned
  | trainingPhaseDone (t : Cyc) (port : Nat)                  -- R303
  | trainingPhaseTimeout (t : Cyc) (port : Nat)               -- R303
  | auxReply (t : Cyc) (port : Nat) (answer : AuxAnswer)      -- R304
  | auxTimeout (t : Cyc) (port : Nat)                         -- R304
  | linkRecalUnit (t : Cyc) (port : Nat) (status : Option LaneStatus) -- R307
  | linkTestEnd (t : Cyc) (port : Nat) (errors sinkErr : List Nat) (readable : Bool) (status : Option LaneStatus)  -- R313
  | bbTestEnd (t : Cyc) (port : Nat) (errors : Nat)           -- R319
  | bbPortUp (t : Cyc) (port : Nat)                           -- R315
  | bbPortDown (t : Cyc) (port : Nat)                         -- R315
  | adaptFreeze (t : Cyc) (port : Nat)                        -- R318
  | adaptResume (t : Cyc) (port : Nat)                        -- R318
  | lpiEntry (t : Cyc) (port : Nat)                           -- R316
  | lpiWake (t : Cyc) (port : Nat)                            -- R316
  -- bridge
  | linePortFrame (t : Cyc) (port : Nat) (f : Frame)          -- R324
  | egressTransmit (t : Cyc) (port : Nat)                     -- R330
  | gateEntryChange (t : Cyc) (port : Nat)                    -- R331
  | addressAgeOut (t : Cyc)                                   -- R325
  -- time
  | syncReceived (t : Cyc) (port : Nat) (m : SyncMsg)         -- R336
  | announceReceived (t : Cyc) (port : Nat) (m : AnnounceMsg) -- R336
  | pdelayReqReceived (t : Cyc) (port sequenceId : Nat) (requester : Nat)      -- R344
  | pdelayReqSend (t : Cyc) (port : Nat)                      -- R344
  | pdelayRespReceived (t : Cyc) (port sequenceId : Nat) (t2 t3 : Nat) (ratio : Nat)  -- R344: ratio is u1.31
  | followUpTimeout (t : Cyc)                                 -- R345
  | syncTimeout (t : Cyc) (domain : Nat)                      -- R337
  | announceTimeout (t : Cyc) (domain : Nat)                  -- R337
  | switchInstant (t : Cyc)                                   -- R339
  | slewEnd (t : Cyc)                                         -- R339
  | clockCarry (t : Cyc)                                      -- R333
  | acquireTimeout (t : Cyc)                                  -- R342
  | trigRise (t : Cyc) (k : Nat)                              -- R346
  | trigFall (t : Cyc) (k : Nat)                              -- R346
  | evtCapture (t : Cyc) (k : Nat) (falling : Bool)           -- R348
  -- group
  | heartbeatReceived (t : Cyc) (d : Datagram)                -- R355
  | rankDead (t : Cyc) (rank : Nat)                           -- R352
  | groupJoined (t : Cyc)                                     -- R353
  | groupCommitSend (t : Cyc)                                 -- R356
  | groupCommitReceived (t : Cyc) (d : Datagram)              -- R357
  | repairReqSend (t : Cyc) (mooring : Nat)                   -- R359
  | repairReqReceived (t : Cyc) (d : Datagram)                -- R359
  | repairReceived (t : Cyc) (d : Datagram)                   -- R359
  -- dynamic memory
  | refreshDue (t : Cyc) (ch : Nat)                           -- R376
  | refpbIssue (t : Cyc) (ch : Nat)                           -- R376
  | mr4Read (t : Cyc) (ch : Nat) (rate : Option Nat)          -- R376
  | rowActivation (t : Cyc) (ch bank row requester : Nat)     -- R381
  | breakwaterWindowClear (t : Cyc)                           -- R381
  | dramLineRead (t : Cyc) (ch line requester : Nat) (read : LineRead)  -- R385
  | powerDownEntry (t : Cyc) (ch : Nat) (kind : LowPower)     -- R383
  | lowPowerExit (t : Cyc) (ch : Nat)                         -- R383
  | frequencyChangeStart (t : Cyc) (ch : Nat)                 -- R374
  | frequencySwitchDone (t : Cyc) (ch : Nat)                  -- R374
  | dramSweepDone (t : Cyc) (ch : Nat) (lanes : List SweepLane)  -- R372
  | patrolScrubUnit (t : Cyc) (corrected : Nat) (bad : List Nat) -- R386
  | dramRecalUnit (t : Cyc)                                   -- R372
  | journalCompactionUnit (t : Cyc)                           -- R436
  | wakeDrainUnit (t : Cyc)                                   -- R514
  | libraryCompressionUnit (t : Cyc) (block : List Byte)      -- R180
  -- MRAM
  | mramRecordDone (t : Cyc)                                  -- R428
  | storeTokenRefill (t : Cyc)                                -- R439
  | nvmWindowRetry (t : Cyc)                                  -- R440
  -- housekeeping and power
  | housekeepingRoundStart (t : Cyc)                          -- R347
  | housekeepingRoundEnd (t : Cyc) (r : Readings)             -- R475
  | shutdownHalt (t : Cyc)                                    -- R485
  | avsCriticalMargin (t : Cyc) (r : Readings)                -- R473: the margin and the writes' outcomes are those of r
  | railUpStep (t : Cyc)                                      -- R460
  | railPgRise (t : Cyc) (rail : Nat)                         -- R460
  | railPgTimeout (t : Cyc)                                   -- R463
  | railPgLost (t : Cyc) (rail : Nat)                         -- R463
  | railDownStep (t : Cyc)                                    -- R461
  | railRetry (t : Cyc)                                       -- R463
  -- fascia and wake
  | fasciaFrame (t : Cyc)                                     -- R495
  | fasciaUpdateStart (t : Cyc)                               -- R498
  | wakePinExport (t : Cyc)                                   -- R513
  -- reset and start-up
  | resetRelease (t : Cyc) (recoverLow : Bool)                -- R516
  | resetAssert (t : Cyc) (cause : ResetCause)                -- R518
  | supplyRemoved (t : Cyc)                                   -- R519
  | sramTestDone (t : Cyc) (repaired fault : Bool)            -- R520
  | recoveryPresenceSample (t : Cyc)                          -- R453
  | slotCheckDone (t : Cyc)                                   -- R444
  | pilotBootDone (t : Cyc)                                   -- R522
  | dramTrainingDone (t : Cyc) (result : List ChannelTraining)  -- R370
  | imageVerifyDone (t : Cyc)                                 -- R444
  | restartReset (t : Cyc)                                    -- R525
  | tftpWriteRequest (t : Cyc) (srcIp srcPort : Nat) (name mode : List Byte) (blksize : Option Nat)  -- R454
  | tftpDataBlock (t : Cyc) (srcIp srcPort : Nat) (block : Nat) (data : List Byte)  -- R454
  | recoverySpiWrite (t : Cyc) (slot offset : Nat) (data : List Byte)  -- R455
  | recoverySpiStatus (t : Cyc)                               -- R455
  | recoverySpiFinish (t : Cyc) (slot size : Nat)             -- R455
  | recoveryVerifyDone (t : Cyc)                              -- R456
  | unassignedOpcode (opcode : BitVec 16) (p : Packet)        -- R403
  | receiveQuietStart (t : Cyc) (port : Nat)                  -- R316
  | receiveQuietEnd (t : Cyc) (port : Nat)                    -- R318
  | mramScanDone (t : Cyc)                                    -- R536
  | pilotTakeover (t : Cyc)                                   -- R451
  | laneEqPoll (t : Cyc) (port : Nat) (status : LaneStatus)   -- R303
  deriving DecidableEq, Repr

end Sys2Proof
end

