-- ==== Sys2Proof/Config.lean ====
section
/-! DEFINITION. What the manual leaves open: one constant without a body per open value. A statement about one holds for
every value it could have. Those with a `Nat` argument `count` are applied to the state's counter of free values, so
that each use is a value of its own. -/

namespace Sys2Proof.Config

/-- R443, R444: the coordinates of the vendor public key fixed in the boot ROM, which the manual does not print. -/
opaque vendorKeyX : Nat
/-- R443, R444: the second coordinate of the vendor public key. -/
opaque vendorKeyY : Nat
/-- DEVICE_INFO (R426): the silicon stepping. -/
opaque stepping : Byte
/-- R427: byte `i` of the device serial number, written at manufacture. -/
opaque serialByte : Nat → Byte
/-- R406: the 32 random bits of a session token. -/
opaque tokenRandom : Nat → BitVec 32
/-- R427: what byte `offset` of a firmware slot holds that nothing has written. -/
opaque slotByte : Nat → Nat → Byte
/-- R201: what a byte of the staging map buffer holds that nothing has written since the last successful commit (65,552 times the
commits before, plus the offset). -/
opaque stagingByte : Nat → Byte
/-- R441: how many bytes of a record in progress reach the MRAM when power is lost. -/
opaque tornBytes : Nat → Nat
/-- R71: the coat storage available in bytes, with a number of present channels of a density. -/
opaque coatStorage : Nat → Nat → Nat
/-- R332, R338: the INCR the servo sets after a Sync, before the limit of 500 ppm is applied. -/
opaque servoIncr : Nat → Nat
/-- R336: the rate at which a domain's estimate D advances between Syncs, per timebase cycle. -/
opaque domainIncr : Nat → Nat
/-- R316: the wake time, in nanoseconds, of a backbone lane in low-power idle at a line rate in Gb/s (IEEE 802.3
Clause 78; the manual prints no figure). -/
opaque wakeNs : Nat → Nat
/-- R146, R143: the bytes of the compressed candidate of a block (the job's key, input block, the frame emitted before it, from
which history, repeat offsets and tables follow, level, window log). -/
opaque compressCandidate : Nat → List Byte → List Byte → Nat → Nat → List Byte
/-- R141: how far into a block, in steps of 4 KiB, a suspended compression job has come (the job's key, block). -/
opaque encoderProgress : Nat → Nat → Nat
/-- R142: the block state of a compression job's context: sequence index, literals and match bytes left, distance, repeat
offsets (the job's key, the frame emitted before the block, input bytes of the block taken). -/
opaque encoderBlock : Nat → List Byte → Nat → Nat × Nat × Nat × Nat × (Nat × Nat × Nat)
/-- R142: the entropy state of a compression job's context (the job's key, the frame emitted before the block, input bytes of the
block taken). -/
opaque encoderEntropy : Nat → List Byte → Nat → List Byte
/-- R142: the partly encoded block of a compression job's context. -/
opaque encoderPart : Nat → List Byte → Nat → List Byte
/-- R142: the bit accumulator of a compression job's context. -/
opaque encoderAcc : Nat → List Byte → Nat → BitVec 64
/-- R142: the valid bits of that accumulator, before the limit of 64 is applied. -/
opaque encoderBits : Nat → List Byte → Nat → Nat
/-- R257: how many 64-byte units an entry has begun to write when a tide mark passes (tide mark, local time at which the entry
began). -/
opaque entryProgress : Nat → Nat → Nat
/-- R473: the low, high and critical thresholds of the timing monitors, fixed per part. -/
opaque avsLow : Nat
/-- R473: the high threshold. -/
opaque avsHigh : Nat
/-- R473: the critical threshold. -/
opaque avsCritical : Nat
/-- R511: the log lines that Jonyk has for the wake at the end of a round (count): severity and text. The manual gives no line. -/
opaque logLines : Nat → List (BitVec 3 × List (BitVec 7))
/-- R310: whether the sink of a port reports a pattern among those it supports (count, port, pattern). -/
opaque sinkSupports : Nat → Nat → Nat → Bool
/-- R310, R312: whether the sink of a port answers AUX at the time of a test request (count, port). -/
opaque sinkAnswers : Nat → Nat → Bool
/-- R445: whether the schema of a new image can hold every value that the generation it migrates from stores (count). -/
opaque migrates : Nat → Bool
/-- R454: the UDP port from which the ROM answers a transfer, its RFC 1350 transfer identifier (count). -/
opaque tftpTid : Nat → BitVec 16
/-- R456: the cycles from a passed verification to the restart, before the limit of 100 ms is applied (count). -/
opaque recoveryDelay : Nat → Nat
/-- R536: the light-field value of an internally generated test pixel (count, pixel, channel), before the limit of 32,768. -/
opaque testLight : Nat → Nat → Nat → BitVec 16
/-- R536: the RGBA8 word of an overlay plane at an internally generated test pixel (count, plane, pixel). -/
opaque testOverlay : Nat → Nat → Nat → BitVec 32
/-- R536: the sector line whose place the test line takes in dither (count). -/
opaque testLine : Nat → Nat
/-- R536: what a fault of a sector's scan-out path changes in an output code of a test line (count, sector, code): the bits that
come out inverted, none in a path without a fault. -/
opaque pathFault : Nat → Nat → Nat → BitVec 10
/-- R322: the blocks with an invalid sync header or decode error that a backbone port has received since the last field tick
(count, port). -/
opaque blockErrors : Nat → Nat → Nat
/-- R322: the FEC codewords corrected since the last field tick (count, port). -/
opaque fecCorrected : Nat → Nat → Nat
/-- R322: the uncorrectable FEC codewords since the last field tick (count, port). -/
opaque fecUncorrectable : Nat → Nat → Nat
/-- R382: whether the rolling activation counts of JESD209-5C, where MR27 requires refresh management, call for an RFM
at an activation (count, channel). The manual prints none of the counts. -/
opaque rfmDue : Nat → Nat → Bool
/-- R389, R165: whether a buffer whose place in its pool no rule gives (a chunk in the spill pool or the pending store, a
codec context) has a part on a channel (count, channel). -/
opaque onChannel : Nat → Nat → Bool

/-- R257: of the contents that the manual lets scan-out show in a 64-byte unit, which one it shows in a field (field and surface,
unit). -/
opaque showsNew : Nat → Nat → Nat

/-- R475, R476: the millivolts that a code of a supply channel stands for (channel, code); the manual gives no scale. -/
opaque supplyMv : Nat → Nat → Nat
/-- R475, R480: the milliwatts that a code of a power monitor stands for (channel, code); the manual gives no scale. -/
opaque monitorMw : Nat → Nat → Nat
/-- R475, R478: the temperature, s8.8 degrees, that a code of a junction diode stands for (diode, code). -/
opaque diodeTemp : Nat → Nat → Int
/-- R159: the clocks per unit of work that a field measured (count, coefficient); R161: the DRAM bytes of a round. -/
opaque measured : Nat → Nat → Nat

end Sys2Proof.Config
end

