-- ==== Sys2Proof/Machine/Fixed.lean ====
section
/-! DEFINITION. Exact-integer operators of R18, byte order of R12, serial arithmetic of R76 and R409, bit fields of R13,
sparse tables and the CRC-32C of R75. -/

namespace Sys2Proof.Machine

/-! ## The operators of R18 -/

/-- R18: `x >> n`, the arithmetic right shift. -/
def asr (x : Int) (n : Nat) : Int := x / (2 ^ n : Nat)

/-- R18: `rnd(x, n)`. -/
def rnd (x : Int) (n : Nat) : Int := if n = 0 then x else asr (x + (2 ^ (n - 1) : Nat)) n

/-- R18: `sat(x, lo, hi)`. -/
def sat (x lo hi : Int) : Int := if x < lo then lo else if hi < x then hi else x

/-- R18: `wrap(x, b)`. -/
def wrap (x : Int) (b : Nat) : Nat := (x % (2 ^ b : Nat)).toNat

/-- R18: `fdiv(x, y)` for y > 0. -/
def fdiv (x y : Int) : Int := x / y

/-- The least integer that is not below x / y, for naturals. -/
def cdiv (x y : Nat) : Nat := (x + y - 1) / y

/-- The signed value of a two's complement field of `b` bits (R17). -/
def signed (v b : Nat) : Int := if v < 2 ^ (b - 1) then (v : Int) else (v : Int) - (2 ^ b : Nat)

/-- A natural that saturates at `b` bits. -/
def satN (v b : Nat) : Nat := if v < 2 ^ b then v else 2 ^ b - 1

/-! ## Bit fields (R13) -/

/-- The `w` bits of `v` from bit `lo` on. -/
def bits (v lo w : Nat) : Nat := (v >>> lo) % 2 ^ w

/-- Whether bit `i` of `v` is set. -/
def bit (v i : Nat) : Bool := v.testBit i

/-- A flag as a bit. -/
def b2n (b : Bool) : Nat := if b then 1 else 0

/-- Flags as a number, the first in bit 0. -/
def maskOf : List Bool → Nat
  | [] => 0
  | b :: bs => b2n b + 2 * maskOf bs

/-- How many bits of `v` below bit `n` are set. -/
def popcount : Nat → Nat → Nat
  | 0, _ => 0
  | n + 1, v => v % 2 + popcount n (v / 2)

/-- The parity of the lower `n` bits of `v` (R369). -/
def parity (n v : Nat) : Nat := popcount n v % 2

/-! ## Serial arithmetic -/

/-- R76: `a` is newer than `b` when wrap(a - b, 32) lies from 1 to 2^31 - 1. -/
def newer32 (a b : Nat) : Bool :=
  let d := wrap ((a : Int) - (b : Int)) 32
  decide (1 ≤ d ∧ d < 2 ^ 31)

/-- R409: `a` is newer than `b` when wrap(a - b, 8) lies from 1 to 127. -/
def newer8 (a b : Nat) : Bool :=
  let d := wrap ((a : Int) - (b : Int)) 8
  decide (1 ≤ d ∧ d ≤ 127)

/-- The serial distance from `b` up to `a`. -/
def dist32 (a b : Nat) : Nat := wrap ((a : Int) - (b : Int)) 32

/-! ## Bytes (R12) -/

/-- A byte from a number. -/
def byte (v : Nat) : Byte := BitVec.ofNat 8 v

/-- R12: the `n` bytes of `v`, least significant first. -/
def le : Nat → Nat → List Byte
  | 0, _ => []
  | n + 1, v => byte v :: le n (v / 256)

/-- R12: the value of bytes, least significant first. -/
def leVal : List Byte → Nat
  | [] => 0
  | b :: bs => b.toNat + 256 * leVal bs

/-- Network order (R12): the `n` bytes of `v`, most significant first. -/
def be (n v : Nat) : List Byte := (le n v).reverse

/-- The value of bytes in network order. -/
def beVal (bs : List Byte) : Nat := leVal bs.reverse

/-- `n` zero bytes. -/
def zeros (n : Nat) : List Byte := List.replicate n 0

/-- Padded with zeros to a multiple of `m`. -/
def padTo (m : Nat) (bs : List Byte) : List Byte := bs ++ zeros ((m - bs.length % m) % m)

/-- The little-endian number of `n` bytes at offset `off` of `bs`; bytes beyond the end read as 0. -/
def num (bs : List Byte) (off n : Nat) : Nat := leVal ((bs.drop off).take n)

/-- The same as a signed number. -/
def snum (bs : List Byte) (off n : Nat) : Int := signed (num bs off n) (8 * n)

/-- The `n` bytes at offset `off`, padded with zeros beyond the end. -/
def slice (bs : List Byte) (off n : Nat) : List Byte :=
  let x := (bs.drop off).take n
  x ++ zeros (n - x.length)

/-- Whether every byte is 0. -/
def allZero (bs : List Byte) : Bool := bs.all (· == 0)

/-- The 32-bit words of bytes in offset order, a last partial word padded with zeros. -/
def toWords : Nat → List Byte → List Word
  | 0, _ => []
  | n + 1, bs => BitVec.ofNat 32 (num bs 0 4) :: toWords n (bs.drop 4)

/-- Words as bytes, in offset order. -/
def ofWords (ws : List Word) : List Byte := ws.flatMap (fun w => le 4 w.toNat)

/-! ## Sparse tables -/

/-- The entry of a key. -/
def Tab.get? {α : Type} (m : Tab α) (k : Nat) : Option α :=
  match m with
  | [] => none
  | (j, v) :: r => if j = k then some v else if k < j then none else Tab.get? r k

/-- The entry of a key, or a default. -/
def Tab.getD {α : Type} (m : Tab α) (k : Nat) (d : α) : α := (Tab.get? m k).getD d

/-- The table with the entry of a key set; keys stay rising. -/
def Tab.put {α : Type} (m : Tab α) (k : Nat) (v : α) : Tab α :=
  match m with
  | [] => [(k, v)]
  | (j, w) :: r => if j = k then (k, v) :: r else if k < j then (k, v) :: (j, w) :: r else (j, w) :: Tab.put r k v

/-- The table without a key. -/
def Tab.del {α : Type} (m : Tab α) (k : Nat) : Tab α := m.filter (fun p => p.1 != k)

/-- The byte at an address, or the default of unlisted addresses. -/
def Memory.read (m : List (Nat × Byte)) (dflt : Nat → Byte) (a : Nat) : Byte :=
  (Tab.get? m a).getD (dflt a)

/-- One byte written. Writing what an unlisted address reads as removes the entry, where that is a fixed byte. -/
def Memory.write (dflt : Option Byte) (m : List (Nat × Byte)) (a : Nat) (v : Byte) : List (Nat × Byte) :=
  if dflt = some v then Tab.del m a else Tab.put m a v

/-- Bytes written from an address on. -/
def Memory.writeAll (dflt : Option Byte) (m : List (Nat × Byte)) (a : Nat) : List Byte → List (Nat × Byte)
  | [] => m
  | v :: vs => Memory.writeAll dflt (Memory.write dflt m a v) (a + 1) vs

/-- `n` bytes read from an address on. -/
def Memory.readAll (m : List (Nat × Byte)) (dflt : Nat → Byte) (a : Nat) : Nat → List Byte
  | 0 => []
  | n + 1 => Memory.read m dflt a :: Memory.readAll m dflt (a + 1) n

/-! ## Lists -/

/-- R385, R388, R389: bytes as a requester receives them, the units of some size that are lost being zero. -/
def blank (size : Nat) (lost : Nat → Bool) (l : List Byte) : List Byte :=
  (List.zip (List.range l.length) l).map (fun e => if lost (e.1 / size) then 0 else e.2)

/-- The element at an index, or a default. -/
def nth {α : Type} (l : List α) (i : Nat) (d : α) : α := l.getD i d

/-- The list with the element at an index changed; an index beyond the end changes nothing. -/
def modAt {α : Type} (l : List α) (i : Nat) (f : α → α) : List α := l.modify i f

/-- The indices below `n` at which a predicate holds. -/
def idxs (n : Nat) (p : Nat → Bool) : List Nat := (List.range n).filter p

/-- An element inserted into a list sorted by `lt`, after every element that is not greater. -/
def insertBy {α : Type} (lt : α → α → Bool) (a : α) : List α → List α
  | [] => [a]
  | b :: r => if lt a b then a :: b :: r else b :: insertBy lt a r

/-- A stable insertion sort. -/
def sortBy {α : Type} (lt : α → α → Bool) : List α → List α
  | [] => []
  | a :: r => insertBy (fun x y => !(lt y x)) a (sortBy lt r)

/-- The first of the least elements under `lt`. -/
def minBy? {α : Type} (lt : α → α → Bool) : List α → Option α
  | [] => none
  | a :: r => some (r.foldl (fun m x => if lt x m then x else m) a)

/-- The sum of a list. -/
def sumN (l : List Nat) : Nat := l.foldl (· + ·) 0

/-- Whether a list of numbers has no repeats. -/
def distinct : List Nat → Bool
  | [] => true
  | a :: r => !(r.contains a) && distinct r

/-- Whether a list of integers rises strictly. -/
def rising : List Int → Bool
  | a :: b :: r => decide (a < b) && rising (b :: r)
  | _ => true

/-- Ranges (first, last) of consecutive numbers of a list. -/
def runs : List Nat → List (Nat × Nat)
  | [] => []
  | a :: r =>
    match runs r with
    | (x, y) :: m => if x = a + 1 then (a, y) :: m else (a, a) :: (x, y) :: m
    | [] => [(a, a)]

/-! ## CRC-32C (R75) -/

/-- One bit of the reflected register. -/
def crcBit (r : Nat) : Nat := if r % 2 = 1 then (r / 2) ^^^ 0x82F63B78 else r / 2

/-- One byte of the reflected register (R75). -/
def crcByte (r : Nat) (b : Byte) : Nat :=
  crcBit (crcBit (crcBit (crcBit (crcBit (crcBit (crcBit (crcBit (r ^^^ b.toNat))))))))

/-- R126: RUNNING after more bytes. -/
def crcRun (r : Nat) (bs : List Byte) : Nat := bs.foldl crcByte r

/-- R75: the CRC-32C of bytes: initial value and final XOR 0xFFFF_FFFF. -/
def crc32c (bs : List Byte) : Nat := crcRun 0xFFFFFFFF bs ^^^ 0xFFFFFFFF

end Sys2Proof.Machine
end

