-- ==== Sys2Proof/Machine/PartsControl.lean ====
section
/-! DEFINITION. The parts of the state that belong to the control path: the local clock, the Gangway and its sessions,
the settings objects and their copies, the MRAM and the firmware, start-up, tallies and the wake. Every field names the
rule that gives it, its width and its reset value. -/

namespace Sys2Proof.Machine

/-- CLOCK_STATE of R335. -/
inductive ClockState where
  | free | locked | slewing | holdover | recovery | test
  deriving DecidableEq, Repr

/-- One domain, TD0 or TD1 (R336, R337, R364). -/
structure Domain where
  tracking   : Nat := 0          -- R364 STATE; 2 bits; reset 0 (0 NONE, 1 ACQUIRING, 2 TRACKING)
  port       : Nat := 0          -- R336 PORT; 1 bit; reset 0
  lost       : Bool := false     -- R337 LOST; 1 bit; reset 0
  gmChanged  : Bool := false     -- R337 GM_CHANGED; 1 bit; reset 0
  gmId       : BitVec 64 := 0    -- R364 GM_ID; 64 bits; reset 0
  steps      : Nat := 0          -- R364 STEPS_REMOVED; 8 bits; reset 0
  d          : Nat := 0          -- R336 D, in 2^-32 ns; 96 bits; reset 0
  dIncr      : Nat := 0          -- R336 the rate at which D advances per timebase cycle, u8.32; reset 0
  syncs      : Nat := 0          -- R336 Sync messages at a steady interval so far; 5 bits; reset 0
  lastSync   : Nat := 0          -- R336, R337 timebase cycle of the last valid Sync; reset 0
  syncInt    : Nat := 0          -- R337 Sync interval, ns; reset 0
  lastAnn    : Nat := 0          -- R337 timebase cycle of the last Announce; reset 0
  annInt     : Nat := 0          -- R337 Announce interval, ns; reset 0
  ann        : List (Nat × Nat × Nat) := []  -- R336 (port, stepsRemoved, timebase cycle) of the last Announce per line port; reset none
  gmKnown    : Bool := false     -- R337 a grandmasterIdentity has been heard; reset no
  pendingTwo : Option (Nat × Nat × Nat) := none  -- R336 two-step Sync awaiting its Follow_Up: (sequenceId, sourcePort, timebase cycle of its ingress); reset none
  deriving DecidableEq, Repr

/-- One TRIG output (R346). -/
structure Trig where
  level   : Bool := false              -- R346 pin TRIGk; 1 bit; reset low
  fallAt  : Nat := 0                   -- R346 local ns of the falling edge of the pulse in progress; 64 bits; reset 0
  lastEdge : Option Int := none        -- R346 edge time of the last rising edge, ns; reset none
  cfg     : List Word := []            -- R346 TriggerConfig words in force for edges; reset empty (the Reset words)
  next    : List (Nat × List Word) := []  -- R346 new configurations and the local ns from which each applies, oldest first; reset none
  deriving DecidableEq, Repr

/-- One capture (R348). -/
structure Capture where
  ns   : Nat      -- R348 capture time, ns
  frac : Nat      -- R348 fraction, 2^-32 ns
  edge : Nat      -- R348 0 rising, 1 falling
  deriving DecidableEq, Repr

/-- The time unit (R332 to R348). -/
structure TimeUnit where
  cyc        : Nat := 0                -- R332 timebase cycles so far (400 MHz); reset 0
  releaseCyc : Nat := 0                -- R516 timebase cycle of the last reset release; reset 0
  clk        : Nat := 0                -- R332, R333 local time NS and FRAC as one number of 2^-32 ns; 96 bits, in carry format SEC of 48 bits; reset 0
  incr       : Nat := 10737418240      -- R332 INCR, u8.32; 40 bits; reset 0x0000_0002_8000_0000
  carryFmt   : Bool := true            -- R364 FORMAT; 1 bit; reset 1 (carry)
  toNormal   : Bool := false           -- R342, R341 the next carry ends carry format; reset no
  lockAtCarry : Bool := false          -- R342, R341 the next carry makes the clock LOCKED; reset no
  state      : ClockState := .free     -- R335 CLOCK_STATE; 3 bits; reset 0 FREE
  selected   : Nat := 0                -- R364 SELECTED; 1 bit; reset 0
  takenCyc   : Nat := 0                -- R342 timebase cycle at which a domain was taken in the acquisition; reset 0
  pendSec    : Nat := 0                -- R334 SEC at which the change to normal format became pending; 48 bits; reset 0
  switched   : Bool := false           -- R364 SWITCHED; 1 bit; reset 0
  fault      : Bool := false           -- R364 TIME_FAULT; 1 bit; reset 0
  overflow   : Bool := false           -- R364 CAPTURE_OVERFLOW; 1 bit; reset 0
  domains    : List Domain := [{}, {}] -- R336 TD0 and TD1; reset NONE
  switchTo   : Option (Nat × Nat) := none  -- R339 target domain and switch instant S (ns of the target's time); reset none
  delta      : Int := 0                -- R339 the difference measured at S, ns; s64; reset 0
  slewS      : Nat := 0                -- R339 S of the slew in progress; 64 bits; reset 0
  acquireOn  : Bool := false           -- R342, R522 ACQUIRE_TIMEOUT_MS is counting; reset no
  acquireAt  : Nat := 0                -- R522 timebase cycle at which the timeout began; reset 0
  dark       : Bool := false           -- R341 a time fault has ended active scan; reset no
  trigs      : List Trig := [{}, {}, {}, {}]   -- R346 TRIG0 to TRIG3; reset low
  evt        : List (List Capture) := [[], [], [], []]  -- R348 EVT0 to EVT3 FIFOs of 16; reset empty
  te         : List (List Capture) := List.replicate 16 []  -- R348 TE FIFOs of PL0 to PL15; reset empty
  evtLost    : List Nat := [0, 0, 0, 0]        -- R348 LOST per EVT input; reset 0
  teLost     : List Nat := List.replicate 16 0  -- R348 LOST per TE input; reset 0
  linkDelay  : List (List Int) := [[], []]     -- R344 the last 8 link-delay results per line port, 2^-32 ns; reset none
  pdelay     : List (Option (Nat × Nat)) := [none, none]  -- R344 outstanding Pdelay_Req per line port: (sequenceId, t1 in 2^-32 ns); reset none
  pdelayAt   : List Nat := [0, 0]      -- R344 timebase cycle of the last Pdelay_Req per line port; reset 0
  pdelaySeq  : List Nat := [0, 0]      -- R344 next Pdelay_Req sequenceId per line port; 16 bits; reset 0
  twoStep    : List (Nat × Nat × Nat × Nat × Nat) := []  -- R345 forwarded two-step Syncs: (sequenceId, sourcePort, domain, correction in 2^-32 ns, local ns of the Sync); reset none
  freeCount  : Nat := 0                -- MODEL'S OWN: how many free values have been taken so far; reset 0
  deriving DecidableEq, Repr

/-- A command that passed step 5, as the front end keeps it (R410). -/
structure Kept where
  seq    : Nat                         -- R410 SEQ; 8 bits
  length : Nat                         -- R410 LENGTH; 16 bits
  crc    : Word                        -- R410 trailer CRC; 32 bits
  reply  : Option (List Byte)          -- R410 the reply sent; none while the command waits for the pilot
  deriving DecidableEq, Repr

/-- An event packet queued and not yet acknowledged (R416, R417). -/
structure EventPkt where
  seq    : Nat                         -- R417 SEQ; 8 bits
  cls    : Nat                         -- R416 high byte of its OPCODE, which is its berth
  bytes  : List Byte                   -- R395, R396 the packet
  sentAt : Nat                         -- R417 timebase cycle at which it was last sent
  deriving DecidableEq, Repr

/-- One session slot (R406 to R411, R417 to R419). -/
structure Session where
  paired      : Bool := false          -- R424 PAIRED; 1 bit; reset from the pairing record
  tokenHi     : Nat := 0               -- R406 TOKEN[63:32]; 32 bits; reset from the pairing record
  serial      : Nat := 0               -- R406 TOKEN[31:4]; 28 bits; reset from the pairing record
  label       : List Byte := []        -- R424 LABEL; 16 bytes; reset from the pairing record
  mask        : Nat := 0               -- R419 NOTIFY_MASK; 16 bits; reset the value given at pairing
  fresh       : Bool := true           -- R409 SEQ_FRESH; 1 bit; reset 1
  lastSeq     : Nat := 0               -- R409 LAST_SEQ; 8 bits; reset 0
  kept        : List Kept := []        -- R410 the last 8 commands that passed step 5, newest first; reset none
  outstanding : List Nat := []         -- R411 tags of outstanding deferred commands, at most 32; reset none
  evIp        : Nat := 0               -- R424 EVENT_ADDR; 32 bits; reset 0
  evPort      : Nat := 0               -- R424 EVENT_PORT; 16 bits; reset 0
  evSeq       : Nat := 0               -- R424 EVENT_SEQ; 8 bits; reset 0
  evSent      : Bool := false          -- R417 an event has been sent since pairing or start; reset no
  unacked     : List EventPkt := []    -- R417 unacknowledged events, oldest first, at most 64; reset none
  lost        : Tab Nat := []          -- R418 LOST count per event berth; 16 bits each; reset 0
  lostTotal   : Nat := 0               -- R424 LOST_EVENTS; 32 bits; reset 0
  deriving DecidableEq, Repr

/-- A command waiting in its command berth (R405). -/
structure Waiting where
  opcode   : Nat
  slot     : Option Nat                -- its session, or none for a TOKEN 0 command
  key      : Bool                      -- R414 debounced key state at arrival
  sealOpen : Bool                      -- R414 debounced seal state at arrival
  packet   : Packet
  deriving DecidableEq, Repr

/-- The Gangway (R395 to R426). -/
structure Gangway where
  key         : Bool := false          -- R423 KEY, debounced; 1 bit; reset by measurement (DESIGN CHOICE not turned)
  sealOpen    : Bool := false          -- R423 SEAL_OPEN, debounced; 1 bit; reset by measurement (DESIGN CHOICE closed)
  sealBreak   : Bool := false          -- R423 SEAL_BREAK; 1 bit; reset 0
  sealEarly   : List (Nat × Bool) := []  -- R415 debounced seal changes before the end of start-up: (NS, open), oldest first; reset none
  sealPending : Bool := false          -- R423 SEAL_RECORD_PENDING; 1 bit; reset 0
  sessions    : List Session := List.replicate 16 {}  -- R406 slots 0 to 15
  waiting     : List Waiting := []     -- R405 commands in B2048 and B2049, in order of arrival; reset empty
  unauthAt    : List Nat := []         -- R404 timebase cycles of the session-less replies of the last second; reset none
  spiReplies  : List (List Byte) := [] -- R401 replies of the SPI outbound queue; reset empty
  irqN        : Bool := true           -- R402 pin GW_IRQ_N; 1 bit; reset driven high (R526)
  miso        : List Byte := []        -- R400 what GW_MISO carried in the last transaction; reset empty (high impedance)
  deriving DecidableEq, Repr

/-- The settings objects (R21 to R24, R31, R437). -/
structure Settings where
  work     : Tab (List Word) := []     -- R437 working copies, by object ID; a missing object holds its Reset words
  cut      : Tab (List Word) := []     -- R31 the values sampled at the last scene cut; a missing object holds its Reset words
  latchBl  : List Word := []           -- R469 BacklightConfig as fixed at the last commit latch; reset empty (Reset words)
  round    : Tab (List Word) := []     -- R31 PowerConfig, ThermalConfig and NtcTable in force, taken at the end of a round; missing: Reset words
  tickMem  : List Word := []           -- R392 MemoryConfig fields in force from the last field tick; reset empty (Reset words)
  startMem : List Word := []           -- R392 MemoryConfig masks sampled at start; reset empty (Reset words)
  deriving DecidableEq, Repr

/-- A fixed record of the factory or security area: two copies, each usable with its serial and content, or not (R429, R430). -/
structure FixedRec where
  a : Option (Nat × List Byte) := none   -- R430 copy A; manufactured unwritten
  b : Option (Nat × List Byte) := none   -- R430 copy B; manufactured unwritten
  deriving DecidableEq, Repr

/-- What an MRAM write in progress is (R428, R430, R438). -/
inductive WriteStep where
  | record (kind gen obj part : Nat) (payload : List Byte)           -- R432 one journal record of the transaction
  | fixed (which : Nat) (content : List Byte) (copyB : Bool)     -- R430 one copy of a fixed record
  | page                                                         -- R431 the header of a newly opened page, both copies
  | release (page : Nat)                                         -- R436 release a compacted page
  deriving DecidableEq, Repr

/-- Why a transaction is written, and what its end does. -/
inductive WriteFor where
  | store (slot : Nat) (tag : Nat) (parts : Nat)
  | erase (slot : Nat) (tag : Nat)
  | factory (slot : Nat) (tag : Nat)
  | fasciaMark | fasciaClose
  | compaction (unit : Bool)
  | migration
  | activationDiscard
  | confirm
  | boot                               -- R446, R449 the boot record of the running device
  | trialClear                         -- R450 the trial cleared before the restart
  | rom                                -- R450, R453 the boot record written by the ROM
  | recovered                          -- R456 the boot record after a recovery
  | sealing                            -- R415 the seal-break record
  | pairing (k : Nat) (e : Session)    -- R407, R408 the pairing record of slot k, and the session that it makes
  | rest                               -- R441, R525 the rest of a record whose transaction is given up
  deriving DecidableEq, Repr

/-- One transaction or fixed-record update, queued or being written (R428, R433). -/
structure Txn where
  purpose : WriteFor
  begun   : Bool := false              -- R440 it has started, the window having been judged
  wrote   : Bool := false              -- R439 a record of it has been written
  gone    : Option Nat := none         -- R449 the generation whose DISCARD a STORE begins with
  txn     : Nat := 0                   -- R432 TXN; 32 bits; 0 while it has not started and where it writes no journal record
  steps   : List WriteStep             -- records still to write, in order
  deriving DecidableEq, Repr

/-- Slot states of R458. -/
inductive SlotState where
  | empty | loaded | valid | invalid | running | trial | fallback
  deriving DecidableEq, Repr

/-- One page of the settings journal (R431, R432). -/
structure Page where
  number : Nat                         -- R431 its place in the ring, 0 to 255
  header : List Byte                   -- R431 two copies of the 16-byte header, as far as they are written
  body   : List Byte                   -- R432 the bytes after the header
  deriving DecidableEq, Repr

/-- One firmware slot (R427, R443). -/
structure Slot where
  bytes : List (Nat × Byte) := []      -- R427 image bytes written, by offset; a byte never written is a free value
  state : SlotState := .empty          -- R458 SLOT_STATE; 3 bits; manufactured EMPTY
  deriving DecidableEq, Repr

/-- What survives every reset: the MRAM (R427). -/
structure Mram where
  slotA     : Slot := {}               -- R427 SLOT-A, 8 MiB
  slotB     : Slot := {}               -- R427 SLOT-B, 8 MiB
  pages     : List Page := []          -- R431 journal pages that are not erased, in the order of opening; manufactured none
  counter   : FixedRec := {}           -- R442 security counter
  boot      : FixedRec := {}           -- R442 boot record
  pairings  : List FixedRec := List.replicate 16 {}  -- R442 pairing records
  sealRec   : FixedRec := {}           -- R442 seal-break record
  mac       : FixedRec := {}           -- R427 MAC address
  calib     : FixedRec := {}           -- R427 PanelCalib
  recovery  : FixedRec := {}           -- R427 recovery record
  passes    : Nat := 0                 -- R436 JOURNAL_PASSES; 32 bits; manufactured 0
  deriving DecidableEq, Repr

/-- The trial of R446 to R450. -/
inductive TrialPhase where
  | none | booting | migrating | ready | trial | handback
  deriving DecidableEq, Repr

/-- Stored settings and firmware (R427 to R458): what is not in the MRAM itself. -/
structure Nvm where
  queue       : List Txn := []         -- R428 transactions queued; the head is written once it has begun; reset none
  tokens      : Nat := 8               -- R439 TOKENS; 4 bits; reset 8
  dirtyLost   : Bool := false          -- R457 DIRTY_LOST; 1 bit; reset 0
  recordLost  : Bool := false          -- R457 RECORD_LOST; 1 bit; reset 0
  txnDiscarded : Bool := false         -- R457 TXN_DISCARDED; 1 bit; reset 0
  lastTxn     : Nat := 0               -- R457 LAST_TXN; 32 bits; reset from the journal
  nextTxn     : Nat := 0               -- R432 the next transaction serial; 32 bits; reset from the journal
  pilot       : Nat := 0               -- R458 ACTIVE_PILOT; 1 bit; reset 0
  runSlot     : Nat := 0               -- R442 slot the active pilot runs; 1 bit; reset from the boot record
  bootSlot    : Option Nat := none     -- R520 slot being checked or booted at start; reset none
  bootTried   : List Nat := []         -- R520 slots that failed their check in this start; reset none
  interpreting : Bool := false         -- R32, R522 the active pilot interprets commands; reset no
  phase       : TrialPhase := .none    -- R458 PHASE; 3 bits; reset 0
  liveTrial   : Bool := false          -- R446, R450 the trial was activated live; otherwise it is a trial boot; reset no
  trialTag    : Option (Nat × Nat) := none  -- R446 (slot, TAG) of the activation command; reset none
  confirmByHost : Bool := false        -- R446 CONFIRM_BY_HOST; reset 0
  hostConfirmed : Bool := false        -- R448 ACTION 1 received; reset no
  migrated    : Bool := true           -- R448 migration has succeeded or was not needed; reset yes
  trialSince  : Nat := 0               -- R448 timebase cycle at which the trial began to interpret; reset 0
  deadline    : Option Nat := none     -- R446, R450 timebase cycle of the health deadline; reset none
  handover    : Option Nat := none     -- R446 tick h at which the old image stopped; reset none
  handback    : Option Nat := none     -- R449 RESULT of the handback in progress; reset none
  handbackAt  : Option Nat := none     -- R449 tick at which the new image stopped; reset none
  oldSessions : List Session := []     -- R447, R449 session state as at handover; reset none
  oldWork     : Tab (List Word) := []  -- R449 working copies of the old image; reset none
  reload      : Option (Tab (List Word) × Tab (List Word)) := none  -- R449, R451 working copies that objects take at the next scene cut, with those at the time of resumption; reset none
  actionTags  : List (Nat × Nat × Nat) := []  -- R446 (slot, TAG, action) of ACTION 1 and 2 commands that complete at the next tick; reset none
  takeover    : Bool := false          -- R451 the other pilot boots the running slot after a watchdog expiry; reset no
  migrationFailed : Bool := false      -- R458 MIGRATION_FAILED; 1 bit; reset 0
  fallback    : Bool := false          -- R458 FALLBACK; 1 bit; reset 0
  recoveryDenied : Bool := false       -- R458 RECOVERY_DENIED; 1 bit; reset 0
  bootCause   : Nat := 0               -- R458 BOOT_CAUSE; 3 bits; reset 0
  verify      : Option (Nat × Nat) := none  -- R444 (slot, TAG) of the IMAGE_VERIFY that runs; reset none
  scan        : Option (Nat × Nat) := none  -- R536 (slot, TAG) of the MRAM_SCAN that runs; reset none
  discardNext : Option Nat := none     -- R449 generation that the next STORE discards; reset none
  held        : Option (Waiting × List Byte) := none  -- R407, R408 a PAIR or UNPAIR whose record is being written, and its reply's fields; reset none
  counterAt   : Nat := 0               -- R442 the higher SECURITY_VERSION of the two slots at start; 32 bits; reset at release
  recoverDue  : Nat := 0               -- R456 timebase cycle at which the restart after a recovery falls due; reset 0
  pageOpen    : Bool := false          -- R434 a journal page has been opened since the start; reset no
  deriving DecidableEq, Repr

/-- How far the device has come since reset (R516, R520, R453, R485, R525). -/
inductive Phase where
  | unpowered        -- R526 supplies removed
  | held             -- R516 held in reset
  | rom              -- R520 step 1
  | bridge           -- R520 steps 2 to 4
  | pilotBoot        -- R520 step 5
  | running          -- R522 from the end of start-up
  | recovery         -- R453
  | sramFault        -- R524
  | shuttingDown     -- R485 from ts
  | halted           -- R485 after the last enable is low
  | restarting       -- R525
  deriving DecidableEq, Repr

/-- Start-up, reset and ROM recovery (R453 to R456, R516 to R525, R535). -/
structure Startup where
  phase       : Phase := .held         -- R516, R520; reset held
  tPilot      : Nat := 0               -- R535 T_PILOT; 16 bits; reset 0
  tDram       : Nat := 0               -- R535 T_DRAM; 16 bits; reset 0
  tRails      : Nat := 0               -- R535 T_RAILS; 16 bits; reset 0
  tTime       : Nat := 0               -- R535 T_TIME; 16 bits; reset 0
  tLinks      : Nat := 0               -- R535 T_LINKS; 16 bits; reset 0
  tFirst      : Nat := 0               -- R535 T_FIRST; 16 bits; reset 0
  source      : Nat := 0               -- R535 RESET_SOURCE; 2 bits; set at reset
  repaired    : Bool := false          -- R535 SRAM_REPAIRED; 1 bit; reset 0
  sramFault   : Bool := false          -- R535 SRAM_FAULT; 1 bit; reset 0
  recoverLow  : Bool := false          -- R453 RECOVER_N was low at reset release; 1 bit
  sampled     : Bool := false          -- R520 step 3 has ended; reset no
  recover     : Bool := false          -- R453 P2 held when presence was sampled: the ROM is to enter recovery; reset no
  dramDone    : Bool := false          -- R520 step 6 has ended; reset no
  linksBegun  : Bool := false          -- R523 step 9 has begun, or steps 8 to 10 do not run; reset no
  linkSteps   : Bool := false          -- R520 steps 8 to 10 run in this start; reset no
  restartAt   : Nat := 0               -- R525 timebase cycle at which the restart began, then that at which it entered reset; reset 0
  restartDue  : Option Nat := none     -- R525 timebase cycle at which a restart is to begin; reset none
  restartTag  : Option (Nat × Nat) := none  -- R525 (slot, TAG) of a DEVICE_RESTART that waits for the transaction in progress; reset none
  restartFor  : Nat := 0               -- R458 BOOT_CAUSE of the start that follows a restart of R525; 3 bits; reset 0
  roundDone   : Bool := false          -- R524 the first housekeeping round has ended; reset no
  rstate      : Nat := 0               -- R455 RSTATE; 3 bits; reset 0
  recSlot     : Option (Nat × Nat) := none  -- R455, R456 (slot, size) under verification; reset none
  tftp        : Option (Nat × Nat × Nat × Nat × Nat) := none  -- R454 transfer: (client IP, client port, slot, block size, next block); reset none
  tftpLast    : Bool := false          -- R454 the last block awaits verification; reset no
  tftpTid     : Nat := 0               -- R454 UDP port from which the ROM answers the transfer; 16 bits; reset 0
  tftpOut     : List Byte := []        -- R454 the last TFTP packet sent; reset empty
  deriving DecidableEq, Repr

/-- One wake record (R510). -/
structure WakeRec where
  type    : Nat                        -- R510 TYPE; 16 bits
  len     : Nat                        -- R510 LEN in 16-byte units
  seq     : Nat                        -- R510 SEQ; 32 bits
  ns      : Nat                        -- R510 NS; 64 bits
  payload : List Byte                  -- R511
  deriving DecidableEq, Repr

/-- The wake (R510 to R515). -/
structure Wake where
  ring     : List WakeRec := []        -- R512 records in the ring, oldest first; 4 MiB; reset empty
  exported : Nat := 0                  -- R512 how many of the oldest records of the ring have been exported; reset 0
  seq      : Nat := 0                  -- R515 NEXT_SEQ; 32 bits; reset 0
  dropped  : Nat := 0                  -- R510 records dropped since the last LOST record; reset 0
  unit     : Nat := 0                  -- R514 export serial UNIT; 32 bits; reset 0
  pins     : List Byte := []           -- R513 bytes of the last record sent over the wake pins; reset empty
  pinsAt   : Nat := 0                  -- R513 timebase cycle at which its first rising edge of WAKE_CLK came; reset 0
  tallyExp : Option (Nat × Nat) := none  -- R514 (slot, TAG) of the TALLY_EXPORT that waits for a tick or runs; reset none
  unitOut  : Option Nat := none        -- R514 SEQ of the last record of the wake unit whose datagrams are not all admitted; reset none
  tallyUnit : Option (Nat × Nat) := none -- R514 (field ID, UNIT) of the tally export being compressed; reset none
  exportMode : Nat := 0                  -- R512 EXPORT in force, taken at a record boundary; 2 bits; reset 0
  collector : Nat × Nat := (0, 0)      -- R515 COLLECTOR_IP and COLLECTOR_PORT in force; reset 0
  deriving DecidableEq, Repr

/-- Tallies and the snapshot of the last field tick (R508, R38). -/
structure Observe where
  tallies   : Tab Nat := []            -- R508 tallies by ID, 64 bits each; a missing one is 0
  snapTally : Tab Nat := []            -- R508 the tallies at the last field tick
  snapField : Nat := 0                 -- R508 field ID of the snapshot; 64 bits; reset 0
  snap      : Tab (List Word) := []    -- R38 and the other status objects: their words at the last field tick; missing: as computed at start
  deriving DecidableEq, Repr

end Sys2Proof.Machine
end

