-- ==== Sys2Proof/Machine/Zstd.lean ====
section
/-! DEFINITION. The decompressor: the Zstandard format of RFC 8878 within the subset of R133, with the outcomes of R137 in
the order of R138, and XXH64. Total functions: every loop runs on fuel that its input bounds. -/

namespace Sys2Proof.Machine.Zstd

/-! ## Outcomes (R137) -/

def NONE : Nat := 0
def ILLEGAL_CODE : Nat := 1
def DISTANCE : Nat := 2
def LENGTH_OVERRUN : Nat := 3
def FRAME_HEADER : Nat := 4
def CHECKSUM : Nat := 5
def TRUNCATED : Nat := 6
def UNDERSIZE : Nat := 7

/-- What a job leaves (R137): its code, ERR_OFFSET, the bytes written in whole blocks, and how many are valid output. -/
structure Result where
  code      : Nat
  errOffset : Nat
  out       : List Byte
  committed : Nat
  deriving DecidableEq, Repr

/-- What a section reports: a value, or the code found. -/
abbrev Got (α : Type) := Except Nat α

/-! ## Bits -/

/-- The bits of a byte, least significant first. -/
def bitsLow (b : Byte) : List Bool := (List.range 8).map (fun i => b.getLsbD i)

/-- The bits of bytes in forward order, least significant first. -/
def forward (bs : List Byte) : List Bool := bs.flatMap bitsLow

/-- The bits of a bitstream that is read from its end: the highest set bit of the last byte is the padding bit. None when
the stream is empty or its last byte is 0. -/
def backward (bs : List Byte) : Option (List Bool) :=
  match bs.getLast? with
  | none => none
  | some b =>
    if b = 0 then none
    else some ((((forward bs).reverse).dropWhile (fun x => !x)).drop 1)

/-- A number from bits, the first most significant. -/
def highFirst (l : List Bool) : Nat := l.foldl (fun a b => 2 * a + b2n b) 0

/-- A number from bits, the first least significant. -/
def lowFirst : List Bool → Nat
  | [] => 0
  | b :: r => b2n b + 2 * lowFirst r

/-- A backward bitstream being read: what is left, and how many bits have been read beyond its beginning. -/
structure Stream where
  left : List Bool
  past : Nat
  deriving DecidableEq, Repr

/-- `n` bits without taking them; bits beyond the beginning are 0. -/
def Stream.peek (s : Stream) (n : Nat) : Nat :=
  let l := s.left.take n
  highFirst l * 2 ^ (n - l.length)

/-- `n` bits taken. -/
def Stream.skip (s : Stream) (n : Nat) : Stream :=
  { left := s.left.drop n, past := s.past + (n - s.left.length) }

/-- The stream has been consumed exactly. -/
def Stream.exact (s : Stream) : Bool := s.left.isEmpty && s.past == 0

/-! ## FSE tables -/

/-- A cell of an FSE decoding table. -/
structure Cell where
  sym  : Nat
  bits : Nat
  base : Nat
  deriving DecidableEq, Repr

/-- An FSE decoding table: its accuracy log and its cells. -/
structure Fse where
  log   : Nat
  cells : List Cell
  deriving DecidableEq, Repr

/-- The floor of the binary logarithm. -/
def lg (n : Nat) : Nat := Nat.log2 n

/-- The 2-bit repeat flags after a probability of 0: how many more zeros, and the bits after them. -/
def zeroRuns : Nat → List Bool → Nat × List Bool
  | 0, l => (0, l)
  | f + 1, l =>
    let n := lowFirst (l.take 2)
    if n = 3 then let (m, r) := zeroRuns f (l.drop 2); (3 + m, r) else (n, l.drop 2)

/-- The normalised counts of a table description: (counts, bits used up). `-1` stands for "less than 1". Bits that are
not there are TRUNCATED, anything the format forbids ILLEGAL_CODE. -/
def counts : Nat → Nat → Nat → List Int → List Bool → Got (List Int × List Bool)
  | 0, _, _, _, _ => .error ILLEGAL_CODE
  | f + 1, maxSym, remaining, acc, l =>
    if remaining = 0 then .ok (acc, l)
    else if maxSym < acc.length then .error ILLEGAL_CODE
    else
      let n := lg (remaining + 1) + 1
      if l.length < n - 1 then .error TRUNCATED else
      let val := lowFirst (l.take n)
      let low := 2 ^ (n - 1) - 1
      let threshold := 2 ^ n - 1 - (remaining + 1)
      let (v, used) :=
        if val &&& low < threshold then (val &&& low, n - 1)
        else if low < val then (val - threshold, n) else (val, n)
      if l.length < used then .error TRUNCATED else
      let p : Int := (v : Int) - 1
      if remaining < p.natAbs then .error ILLEGAL_CODE
      else
        let l := l.drop used
        if p = 0 then
          let (z, r) := zeroRuns (maxSym + 2) l
          counts f maxSym remaining (acc ++ [0] ++ List.replicate z 0) r
        else counts f maxSym (remaining - p.natAbs) (acc ++ [p]) l

/-- The next free position of the spread. -/
def nextPos : Nat → Nat → Nat → Nat → Nat
  | 0, _, _, p => p
  | f + 1, size, high, p =>
    let q := (p + (size / 2 + size / 8 + 3)) % size
    if high ≤ q then nextPos f size high q else q

/-- The symbols of a table, spread (RFC 8878, 4.1.1): table so far, position, symbols still to place. -/
def spread (size high : Nat) : List Nat → List Nat → Nat → List Nat × Nat
  | [], t, p => (t, p)
  | s :: r, t, p => spread size high r (t.set p s) (nextPos size size high p)

/-- The cells of a spread table: each occurrence of a symbol takes the next state of that symbol. -/
def cellsOf (log : Nat) : List Nat → List Nat → List Cell
  | [], _ => []
  | s :: r, next =>
    let x := nth next s 0
    let b := log - lg x
    { sym := s, bits := b, base := x * 2 ^ b - 2 ^ log } :: cellsOf log r (next.set s (x + 1))

/-- A decoding table from normalised counts; none when the spread does not close. -/
def build (log : Nat) (norm : List Int) : Option Fse :=
  let size := 2 ^ log
  let lows := (List.range norm.length).filter (fun i => nth norm i 0 == -1)
  let high := size - lows.length
  let t := (List.replicate high 0) ++ lows.reverse
  let syms := (List.range norm.length).flatMap (fun i => List.replicate (nth norm i 0).toNat i)
  let (t, p) := spread size high syms t 0
  if p ≠ 0 ∧ high ≠ 0 then none
  else some { log := log, cells := cellsOf log t (norm.map (fun c => c.natAbs)) }

/-- A table description at the beginning of bytes: the table and the bytes used, or why there is none. -/
def describe (maxLog maxSym : Nat) (bs : List Byte) : Got (Fse × Nat) :=
  let l := forward bs
  if l.length < 4 then .error TRUNCATED else
  let log := lowFirst (l.take 4) + 5
  if maxLog < log then .error ILLEGAL_CODE
  else
    match counts (maxSym + 3) maxSym (2 ^ log) [] (l.drop 4) with
    | .error e => .error e
    | .ok (norm, r) =>
      if maxSym + 1 < norm.length then .error ILLEGAL_CODE
      else match build log norm with
        | some t => .ok (t, cdiv (l.length - r.length) 8)
        | none => .error ILLEGAL_CODE

/-- The table of one symbol. -/
def single (s : Nat) : Fse := { log := 0, cells := [{ sym := s, bits := 0, base := 0 }] }

/-- The cell of a state. -/
def Fse.cell (t : Fse) (state : Nat) : Cell := nth t.cells state { sym := 0, bits := 0, base := 0 }

/-! ## Huffman -/

/-- A Huffman table: its number of bits, and for each value of that many bits the symbol and its length. -/
structure Huff where
  log   : Nat
  cells : List (Nat × Nat)
  deriving DecidableEq, Repr

/-- The weights of an FSE-compressed description: two states in turn, until a state's update reads past the stream. -/
def weightLoop (t : Fse) : Nat → Nat → Nat → Stream → List Nat → Option (List Nat)
  | 0, _, _, _, _ => none
  | f + 1, a, b, s, acc =>
    let c := t.cell a
    let acc := acc ++ [c.sym]
    let a2 := c.base + s.peek c.bits
    let s2 := s.skip c.bits
    if 0 < s2.past then some (acc ++ [(t.cell b).sym])
    else if 255 < acc.length then none
    else weightLoop t f b a2 s2 acc

/-- The weights of a Huffman tree description, and the bytes used: TRUNCATED when its own bytes end inside it. -/
def weights (bs : List Byte) : Got (List Nat × Nat) :=
  match bs with
  | [] => .error TRUNCATED
  | h :: r =>
    if 128 ≤ h.toNat then
      let n := h.toNat - 127
      let l := r.take (cdiv n 2)
      if l.length < cdiv n 2 then .error TRUNCATED
      else .ok ((l.flatMap (fun b => [b.toNat / 16, b.toNat % 16])).take n, 1 + cdiv n 2)
    else
      let l := r.take h.toNat
      match describe 6 255 l with
      | .error e => .error (if e = TRUNCATED ∧ h.toNat ≤ l.length then ILLEGAL_CODE else e)
      | .ok (t, used) =>
        if l.length < h.toNat then .error TRUNCATED
        else match backward (l.drop used) with
          | none => .error ILLEGAL_CODE
          | some bits =>
            let s : Stream := { left := bits, past := 0 }
            let a := s.peek t.log
            let s := s.skip t.log
            let b := s.peek t.log
            let s := s.skip t.log
            if 0 < s.past then .error ILLEGAL_CODE
            else match weightLoop t 257 a b s [] with
              | some w => .ok (w, 1 + h.toNat)
              | none => .error ILLEGAL_CODE

/-- A Huffman table from the weights of all symbols but the last. -/
def huffOf (ws : List Nat) : Option Huff :=
  let sum := sumN (ws.map (fun w => if w = 0 then 0 else 2 ^ (w - 1)))
  if sum = 0 ∨ ws.any (fun w => decide (12 < w)) ∨ 255 < ws.length then none
  else
    let log := lg sum + 1
    let rest := 2 ^ log - sum
    if 11 < log ∨ 2 ^ lg rest ≠ rest then none
    else
      let ws := ws ++ [lg rest + 1]
      if ¬ ws.contains 1 then none
      else some { log := log, cells :=
        (List.range 13).flatMap (fun w => if w = 0 then [] else
          (List.range ws.length).flatMap (fun s =>
            if nth ws s 0 = w then List.replicate (2 ^ (w - 1)) (s, log + 1 - w) else [])) }

/-- `n` symbols of a Huffman stream, then its exact end. -/
def huffRun (h : Huff) : Nat → Stream → List Byte → Option (List Byte)
  | 0, s, acc => if s.exact then some acc.reverse else none
  | n + 1, s, acc =>
    let c := nth h.cells (s.peek h.log) (0, 0)
    huffRun h n (s.skip c.2) (byte c.1 :: acc)

/-- One Huffman stream of `n` symbols. -/
def huffStream (h : Huff) (n : Nat) (bs : List Byte) : Option (List Byte) :=
  match backward bs with
  | none => none
  | some bits => huffRun h n { left := bits, past := 0 } []

/-! ## What a frame carries from block to block -/

/-- The entropy tables and repeat offsets of a frame (RFC 8878). -/
structure Tables where
  huff : Option Huff
  ll   : Option Fse
  off  : Option Fse
  ml   : Option Fse
  reps : Nat × Nat × Nat
  deriving DecidableEq, Repr

/-- The tables at the beginning of a frame. -/
def Tables.start : Tables := { huff := none, ll := none, off := none, ml := none, reps := (1, 4, 8) }

/-! ## Literals section -/

/-- A section that needs `need` bytes of a block of which `room` belong to it and `have'` are in the input. -/
def reach (need room have' : Nat) : Option Nat :=
  if room < need then some ILLEGAL_CODE else if have' < need then some TRUNCATED else none

/-- The four Huffman streams of a literals section. -/
def fourStreams (h : Huff) (regen : Nat) (bs : List Byte) : Option (List Byte) :=
  let n := cdiv regen 4
  let a := num bs 0 2; let b := num bs 2 2; let c := num bs 4 2
  if bs.length < 6 + a + b + c ∨ regen < 3 * n then none
  else
    let r := bs.drop 6
    match huffStream h n (r.take a), huffStream h n ((r.drop a).take b), huffStream h n ((r.drop (a + b)).take c),
      huffStream h (regen - 3 * n) (r.drop (a + b + c)) with
    | some w, some x, some y, some z => some (w ++ x ++ y ++ z)
    | _, _, _, _ => none

/-- R138: what the fields at the head of the Huffman streams of a literals section already show to be impossible: four streams
for too few literals, no room for the jump table, a stream without a byte, or streams beyond the section. `size` bytes of the
section lie from its streams on, of which the input holds `bs`. -/
def streamsBad (single : Bool) (regen size : Nat) (bs : List Byte) : Bool :=
  if single then size == 0
  else
    let a := num bs 0 2; let b := num bs 2 2; let c := num bs 4 2
    decide (regen < 3 * cdiv regen 4) || decide (size < 6) ||
    (decide (6 ≤ bs.length) && (a == 0 || b == 0 || c == 0 || decide (size ≤ 6 + a + b + c)))

/-- The literals section of a block whose content is `bs`, of which `size` bytes belong to the block: literals, Huffman
table, bytes used. -/
def literals (tb : Tables) (bs : List Byte) (size : Nat) : Got (List Byte × Option Huff × Nat) :=
  match reach 1 size bs.length with
  | some e => .error e
  | none =>
    let h := num bs 0 1
    let type := h % 4
    let form := h / 4 % 4
    if type < 2 then
      let hl := if form % 2 = 0 then 1 else if form = 1 then 2 else 3
      match reach hl size bs.length with
      | some e => .error e
      | none =>
        let n := num bs 0 hl / (if hl = 1 then 8 else 16)
        let body := if type = 0 then n else 1
        if size < hl + body then .error ILLEGAL_CODE
        else if 131072 < n then .error LENGTH_OVERRUN
        else
          match reach (hl + body) size bs.length with
          | some e => .error e
          | none =>
            let lit := if type = 0 then (bs.drop hl).take n else List.replicate n (nth bs hl 0)
            .ok (lit, tb.huff, hl + body)
    else
      let hl := if form < 2 then 3 else form + 2
      let w := if form < 2 then 10 else if form = 2 then 14 else 18
      match reach hl size bs.length with
      | some e => .error e
      | none =>
        let v := num bs 0 hl / 16
        let regen := v % 2 ^ w
        let comp := v / 2 ^ w
        let body := (bs.drop hl).take comp
        let cut := decide (bs.length < hl + comp)
        let tree : Got (Huff × Nat) :=
          if type = 2 then
            match weights body with
            | .ok (ws, used) => match huffOf ws with | some t => .ok (t, used) | none => .error ILLEGAL_CODE
            | .error e => .error e
          else match tb.huff with | some t => .ok (t, 0) | none => .error ILLEGAL_CODE
        -- R138: what the section's own fields decide comes first, in the order of the table
        let bad : Bool := match tree with
          | .error e => e == ILLEGAL_CODE || !cut || (form != 0 && streamsBad false regen comp [])
          | .ok (_, used) => streamsBad (form == 0) regen (comp - used) (body.drop used)
        if size < hl + comp ∨ bad then .error ILLEGAL_CODE
        else if 131072 < regen then .error LENGTH_OVERRUN
        else if cut then .error TRUNCATED
        else
          match tree with
          | .error _ => .error ILLEGAL_CODE
          | .ok (t, used) =>
            let lit := if form = 0 then huffStream t regen (body.drop used) else fourStreams t regen (body.drop used)
            match lit with
            | some l => .ok (l, some t, hl + comp)
            | none => .error ILLEGAL_CODE

/-! ## Sequences section -/

/-- Literal length codes: (baseline, extra bits). -/
def llCodes : List (Nat × Nat) :=
  (List.range 16).map (fun i => (i, 0)) ++
  [(16, 1), (18, 1), (20, 1), (22, 1), (24, 2), (28, 2), (32, 3), (40, 3), (48, 4), (64, 6)] ++
  (List.range 10).map (fun i => (2 ^ (7 + i), 7 + i))

/-- Match length codes: (baseline, extra bits). -/
def mlCodes : List (Nat × Nat) :=
  (List.range 32).map (fun i => (i + 3, 0)) ++
  [(35, 1), (37, 1), (39, 1), (41, 1), (43, 2), (47, 2), (51, 3), (59, 3), (67, 4), (83, 4), (99, 5)] ++
  (List.range 10).map (fun i => (2 ^ (7 + i) + 3, 7 + i))

/-- The predefined literal length table. -/
def llDefault : Option Fse :=
  build 6 [4, 3, 2, 2, 2, 2, 2, 2, 2, 2, 2, 2, 2, 1, 1, 1, 2, 2, 2, 2, 2, 2, 2, 2, 2, 3, 2, 1, 1, 1, 1, 1, -1, -1, -1, -1]

/-- The predefined match length table. -/
def mlDefault : Option Fse :=
  build 6 ([1, 4, 3, 2, 2, 2, 2, 2, 2, 1, 1, 1, 1, 1, 1, 1, 1, 1, 1, 1, 1, 1, 1, 1, 1, 1] ++
    [1, 1, 1, 1, 1, 1, 1, 1, 1, 1, 1, 1, 1, 1, 1, 1, 1, 1, 1, 1, -1, -1, -1, -1, -1, -1, -1])

/-- The predefined offset table. -/
def offDefault : Option Fse :=
  build 5 [1, 1, 1, 1, 1, 1, 2, 2, 2, 1, 1, 1, 1, 1, 1, 1, 1, 1, 1, 1, 1, 1, 1, 1, -1, -1, -1, -1, -1]

/-- A table by its compression mode: the table and the bytes used. -/
def tableOf (mode maxLog maxSym : Nat) (dflt was : Option Fse) (bs : List Byte) : Got (Fse × Nat) :=
  let known (t : Option Fse) : Got (Fse × Nat) := match t with | some t => .ok (t, 0) | none => .error ILLEGAL_CODE
  match mode with
  | 0 => known dflt
  | 1 => match bs with
    | b :: _ => if b.toNat ≤ maxSym then .ok (single b.toNat, 1) else .error ILLEGAL_CODE
    | [] => .error TRUNCATED
  | 2 => describe maxLog maxSym bs
  | _ => known was

/-- A match offset after repeat-offset resolution, and the repeat offsets after it. -/
def offsetOf (reps : Nat × Nat × Nat) (value ll : Nat) : Nat × (Nat × Nat × Nat) :=
  let (a, b, c) := reps
  if 3 < value then (value - 3, (value - 3, a, b))
  else
    match (if ll = 0 then value + 1 else value) with
    | 1 => (a, (a, b, c))
    | 2 => (b, (b, a, c))
    | 3 => (c, (c, a, b))
    | _ => (a - 1, (a - 1, a, b))

/-- A match copied: the output, newest byte first, with `n` more bytes from `d` back. -/
def copyMatch (d : Nat) : Nat → List Byte → List Byte
  | 0, out => out
  | n + 1, out => copyMatch d n (nth out (d - 1) 0 :: out)

/-- The bounds that a block's sequences run in. -/
structure Bounds where
  window : Nat                         -- Window_Size
  before : Nat                         -- output before the block
  limit  : Nat                         -- R135: what the output must not pass

/-- The sequences of a block in execution order (R138): the output newest first, literals left, repeat offsets, stream. -/
def runSeqs (bd : Bounds) (tl tf tm : Fse) :
    Nat → Nat → Nat → Nat → Stream → List Byte → List Byte → (Nat × Nat × Nat) →
    Got (List Byte × List Byte × (Nat × Nat × Nat) × Stream)
  | 0, _, _, _, s, out, lits, reps => .ok (out, lits, reps, s)
  | n + 1, sl, so, sm, s, out, lits, reps =>
    let co := tf.cell so
    let cm := tm.cell sm
    let cl := tl.cell sl
    let ov := 2 ^ co.sym + s.peek co.sym
    let s := s.skip co.sym
    let em := nth mlCodes cm.sym (0, 0)
    let ml := em.1 + s.peek em.2
    let s := s.skip em.2
    let el := nth llCodes cl.sym (0, 0)
    let ll := el.1 + s.peek el.2
    let s := s.skip el.2
    let (d, reps) := offsetOf reps ov ll
    if d = 0 ∨ out.length + ll < d ∨ bd.window < d then .error DISTANCE
    else if lits.length < ll ∨ 131072 < out.length + ll + ml - bd.before ∨ bd.limit < out.length + ll + ml then
      .error LENGTH_OVERRUN
    else
      let out := copyMatch d ml ((lits.take ll).reverse ++ out)
      let (sl, s) := if n = 0 then (sl, s) else (cl.base + s.peek cl.bits, s.skip cl.bits)
      let (sm, s) := if n = 0 then (sm, s) else (cm.base + s.peek cm.bits, s.skip cm.bits)
      let (so, s) := if n = 0 then (so, s) else (co.base + s.peek co.bits, s.skip co.bits)
      runSeqs bd tl tf tm n sl so sm s out (lits.drop ll) reps

/-- The number of sequences: (number, header bytes before the modes). -/
def seqCount (bs : List Byte) : Nat × Nat :=
  let a := num bs 0 1
  if a < 128 then (a, 1) else if a < 255 then ((a - 128) * 256 + num bs 1 1, 2) else (num bs 1 2 + 0x7F00, 3)

/-- R136: what the check pass has read of a compressed block before its sequences: its literals, its tables, the states
and the bitstream, and the number of sequences. -/
structure Prep where
  lits   : List Byte
  huff   : Option Huff
  n      : Nat
  tl     : Fse
  tf     : Fse
  tm     : Fse
  sl     : Nat
  so     : Nat
  sm     : Nat
  stream : Stream

/-- R133, R138: the literals section and the sequences section header of a compressed block: `bs` is what the input holds
from its first byte on, `size` its Block_Size. -/
def prepare (tb : Tables) (bs : List Byte) (size : Nat) : Got Prep := do
  let bs := bs.take size
  let (lits, huff, used) ← literals tb bs size
  let r := bs.drop used
  let room := size - used
  if let some e := reach 1 room r.length then throw e
  let hl := (seqCount r).2
  if num r 0 1 = 0 then
    if room ≠ 1 then throw ILLEGAL_CODE
    let t := single 0
    pure { lits := lits, huff := huff, n := 0, tl := t, tf := t, tm := t, sl := 0, so := 0, sm := 0, stream := { left := [], past := 0 } }
  else
    if let some e := reach hl room r.length then throw e
    if let some e := reach (hl + 1) room r.length then throw e
    let n := (seqCount r).1
    let modes := num r hl 1
    let ml := modes / 64; let mf := modes / 16 % 4; let mm := modes / 4 % 4
    -- R138: a reserved bit and a Repeat mode without a table are decided by the modes alone
    if modes % 4 ≠ 0 ∨ (ml = 3 ∧ tb.ll.isNone) ∨ (mf = 3 ∧ tb.off.isNone) ∨ (mm = 3 ∧ tb.ml.isNone) then throw ILLEGAL_CODE
    let cut := decide (r.length < room)
    let own (e : Nat) : Nat := if e = TRUNCATED ∧ ¬ cut then ILLEGAL_CODE else e
    let r := r.drop (hl + 1)
    match tableOf ml 9 35 llDefault tb.ll r with
    | .error e => throw (own e)
    | .ok (tl, a) =>
      let r := r.drop a
      match tableOf mf 8 31 offDefault tb.off r with
      | .error e => throw (own e)
      | .ok (tf, b) =>
        let r := r.drop b
        match tableOf mm 9 52 mlDefault tb.ml r with
        | .error e => throw (own e)
        | .ok (tm, c) =>
          if cut then throw TRUNCATED
          match backward (r.drop c) with
          | none => throw ILLEGAL_CODE
          | some bits =>
            let s : Stream := { left := bits, past := 0 }
            let sl := s.peek tl.log
            let s := s.skip tl.log
            let so := s.peek tf.log
            let s := s.skip tf.log
            let sm := s.peek tm.log
            let s := s.skip tm.log
            pure { lits := lits, huff := huff, n := n, tl := tl, tf := tf, tm := tm, sl := sl, so := so, sm := sm, stream := s }

/-- The content of a compressed block: the output, newest first, and the tables after it. -/
def block (bd : Bounds) (tb : Tables) (bs : List Byte) (size : Nat) (out : List Byte) : Got (List Byte × Tables) := do
  let p ← prepare tb bs size
  let finish (out lits : List Byte) (tb : Tables) : Got (List Byte × Tables) :=
    if 131072 < out.length + lits.length - bd.before ∨ bd.limit < out.length + lits.length then throw LENGTH_OVERRUN
    else pure (lits.reverse ++ out, tb)
  if p.n = 0 then finish out p.lits { tb with huff := p.huff }
  else
    let (out, lits, reps, s) ← runSeqs bd p.tl p.tf p.tm p.n p.sl p.so p.sm p.stream out p.lits tb.reps
    if !s.exact then throw ILLEGAL_CODE
    finish out lits { huff := p.huff, ll := some p.tl, off := some p.tf, ml := some p.tm, reps := reps }

/-! ## Frames -/

/-- A frame's header: window, declared content size, checksum flag, header bytes. -/
structure Header where
  window : Nat
  fcs    : Option Nat
  check  : Bool
  bytes  : Nat
  deriving DecidableEq, Repr

/-- R133, R135: the frame header at the beginning of bytes that start with the magic. -/
def header (bs : List Byte) (limit : Nat) (exact : Bool) : Got Header := do
  if bs.length < 5 then throw TRUNCATED
  let d := num bs 4 1
  if bit d 3 then throw FRAME_HEADER
  let one := bit d 5
  let check := bit d 2
  let dl := nth [0, 1, 2, 4] (d % 4) 0
  let fl := nth [if one then 1 else 0, 2, 4, 8] (d / 64) 0
  let wl := if one then 0 else 1
  if bs.length < 5 + wl then throw TRUNCATED
  let wd := num bs 5 1
  let base := 2 ^ (10 + wd / 8)
  let window := base + base / 8 * (wd % 8)
  if !one && decide (8388608 < window) then throw FRAME_HEADER
  if bs.length < 5 + wl + dl then throw TRUNCATED
  if num bs (5 + wl) dl ≠ 0 then throw FRAME_HEADER
  if bs.length < 5 + wl + dl + fl then throw TRUNCATED
  let f := num bs (5 + wl + dl) fl + (if fl = 2 then 256 else 0)
  if one && decide (8388608 < f) then throw FRAME_HEADER
  if fl ≠ 0 ∧ (limit < f ∨ (exact ∧ f ≠ limit)) then throw FRAME_HEADER
  pure { window := if one then f else window, fcs := if fl = 0 then none else some f, check := check, bytes := 5 + wl + dl + fl }

/-- R138: the blocks of a frame from offset `pos` of the input: the outcome, or the output newest first and the offset
after the last block. -/
def blocks (inp : List Byte) (window limit : Nat) : Nat → Nat → List Byte → Tables → (Nat × Nat × List Byte) ⊕ (List Byte × Nat)
  | 0, pos, out, _ => .inl (TRUNCATED, pos, out)
  | f + 1, pos, out, tb =>
    let r := inp.drop pos
    if r.length < 3 then .inl (TRUNCATED, inp.length, out)
    else
      let h := num r 0 3
      let type := h / 2 % 4
      let size := h / 8
      let last := h % 2 == 1
      if type = 3 then .inl (ILLEGAL_CODE, pos, out)
      else if min window 131072 < size then .inl (LENGTH_OVERRUN, pos, out)
      else if type < 2 ∧ limit < out.length + size then .inl (LENGTH_OVERRUN, pos, out)
      else
        let body := r.drop 3
        let need := if type = 1 then 1 else size
        if type < 2 ∧ body.length < need then .inl (TRUNCATED, inp.length, out)
        else
          let res : Got (List Byte × Tables) :=
            if type = 0 then .ok ((body.take size).reverse ++ out, tb)
            else if type = 1 then .ok (List.replicate size (nth body 0 0) ++ out, tb)
            else block { window := window, before := out.length, limit := limit } tb body size out
          match res with
          | .error e => .inl (e, if e = TRUNCATED then inp.length else pos, out)
          | .ok (out2, tb2) =>
            if last then .inr (out2, pos + 3 + need) else blocks inp window limit f (pos + 3 + need) out2 tb2

/-! ## XXH64 -/

/-- A value modulo 2^64. -/
def m64 (x : Nat) : Nat := x % 2 ^ 64

def P1 : Nat := 0x9E3779B185EBCA87
def P2 : Nat := 0xC2B2AE3D27D4EB4F
def P3 : Nat := 0x165667B19E3779F9
def P4 : Nat := 0x85EBCA77C2B2AE63
def P5 : Nat := 0x27D4EB2F165667C5

/-- A 64-bit rotation to the left. -/
def rotl (x n : Nat) : Nat := m64 (x * 2 ^ n) + x / 2 ^ (64 - n)

/-- One accumulator round. -/
def round (acc v : Nat) : Nat := m64 (rotl (m64 (acc + v * P2)) 31 * P1)

/-- An accumulator merged into the hash. -/
def merge (h v : Nat) : Nat := m64 ((h ^^^ round 0 v) * P1 + P4)

/-- The whole 32-byte stripes. -/
def stripes : Nat → List Byte → (Nat × Nat × Nat × Nat) → (Nat × Nat × Nat × Nat) × List Byte
  | 0, bs, v => (v, bs)
  | n + 1, bs, (a, b, c, d) =>
    stripes n (bs.drop 32) (round a (num bs 0 8), round b (num bs 8 8), round c (num bs 16 8), round d (num bs 24 8))

/-- The bytes after the last stripe. -/
def tail64 : Nat → List Byte → Nat → Nat
  | 0, _, h => h
  | f + 1, bs, h =>
    if 8 ≤ bs.length then tail64 f (bs.drop 8) (m64 (rotl (h ^^^ round 0 (num bs 0 8)) 27 * P1 + P4))
    else if 4 ≤ bs.length then tail64 f (bs.drop 4) (m64 (rotl (h ^^^ m64 (num bs 0 4 * P1)) 23 * P2 + P3))
    else match bs with
      | b :: r => tail64 f r (m64 (rotl (h ^^^ m64 (b.toNat * P5)) 11 * P1))
      | [] => h

/-- The final mix. -/
def avalanche (h : Nat) : Nat :=
  let h := m64 ((h ^^^ (h / 2 ^ 33)) * P2)
  let h := m64 ((h ^^^ (h / 2 ^ 29)) * P3)
  h ^^^ (h / 2 ^ 32)

/-- R137: XXH64 with seed 0. -/
def xxh64 (bs : List Byte) : Nat :=
  let n := bs.length / 32
  let (h, r) :=
    if n = 0 then (P5, bs)
    else
      let ((a, b, c, d), r) := stripes n bs (m64 (P1 + P2), P2, 0, m64 (2 ^ 64 - P1))
      (merge (merge (merge (merge (m64 (rotl a 1 + rotl b 7 + rotl c 12 + rotl d 18)) a) b) c) d, r)
  avalanche (tail64 32 r (m64 (h + bs.length)))

/-- A skippable magic number. -/
def skippable (m : Nat) : Bool := decide (0x184D2A50 ≤ m) && decide (m ≤ 0x184D2A5F)

/-! ## Contexts (R140, R142) -/

/-- R142: the XXH64 state after bytes: four accumulators, the count in the 32-byte input buffer, the total length. -/
def xxhState (bs : List Byte) : (Nat × Nat × Nat × Nat) × Nat × Nat :=
  ((stripes (bs.length / 32) bs (m64 (P1 + P2), P2, 0, m64 (2 ^ 64 - P1))).1, bs.length % 32, bs.length)

/-- R142: what the codec context of a suspended decompression job holds. -/
structure Context where
  window   : Nat                       -- frame state: Window_Size
  fcs      : Option Nat                -- frame state: Frame_Content_Size
  check    : Bool                      -- frame state: Content_Checksum_flag
  outCount : Nat                       -- frame state: output count
  inPos    : Nat                       -- frame state: input position, of the block's header
  last     : Bool                      -- frame state: Last_Block seen
  blockPos : Nat                       -- block state: output bytes of the block written
  seqIndex : Nat                       -- block state: sequence index
  litLeft  : Nat                       -- block state: literals of the current sequence not yet written
  matchLeft : Nat                      -- block state: bytes of the current match not yet written
  distance : Nat                       -- block state: the current match's distance
  reps     : Nat × Nat × Nat           -- block state: repeat offsets
  tables   : Tables                    -- entropy state: Huffman and FSE tables
  states   : Nat × Nat × Nat           -- entropy state: FSE states of literal lengths, offsets, match lengths
  bitPos   : Nat                       -- entropy state: bits of the sequence bitstream not yet read
  lits     : List Byte                 -- literal save area: decoded literals not yet consumed
  xxh      : (Nat × Nat × Nat × Nat) × Nat × Nat   -- XXH64 state
  deriving DecidableEq, Repr

/-- R140, R142: where in a block's sequences the write pass stands when it has written `k` more bytes: (sequence index,
literals of the sequence left, match bytes left, distance, repeat offsets, states, bits left, literals not consumed). -/
def standAt (tl tf tm : Fse) : Nat → Nat → Nat → Nat → Nat → Nat → Stream → List Byte → (Nat × Nat × Nat) →
    Nat × Nat × Nat × Nat × (Nat × Nat × Nat) × (Nat × Nat × Nat) × Nat × List Byte
  | 0, i, k, sl, so, sm, s, lits, reps => (i, lits.length - k, 0, 0, reps, (sl, so, sm), s.left.length, lits.drop k)
  | n + 1, i, k, sl, so, sm, s, lits, reps =>
    let co := tf.cell so; let cm := tm.cell sm; let cl := tl.cell sl
    let ov := 2 ^ co.sym + s.peek co.sym
    let s := s.skip co.sym
    let em := nth mlCodes cm.sym (0, 0)
    let ml := em.1 + s.peek em.2
    let s := s.skip em.2
    let el := nth llCodes cl.sym (0, 0)
    let ll := el.1 + s.peek el.2
    let s := s.skip el.2
    let r := offsetOf reps ov ll
    if k < ll + ml then
      (i, ll - k, ml - (k - ll), r.1, r.2, (sl, so, sm), s.left.length, lits.drop (min k ll))
    else
      let (sl, s) := if n = 0 then (sl, s) else (cl.base + s.peek cl.bits, s.skip cl.bits)
      let (sm, s) := if n = 0 then (sm, s) else (cm.base + s.peek cm.bits, s.skip cm.bits)
      let (so, s) := if n = 0 then (so, s) else (co.base + s.peek co.bits, s.skip co.bits)
      standAt tl tf tm n (i + 1) (k - (ll + ml)) sl so sm s (lits.drop ll) r.2

/-- R142: the context of a frame when `k` bytes of its output have been written, from the block at offset `pos` on. -/
def contextIn (inp : List Byte) (h : Header) (k : Nat) : Nat → Nat → List Byte → Tables → Option Context
  | 0, _, _, _ => none
  | f + 1, pos, out, tb =>
    let r := inp.drop pos
    let w := num r 0 3
    let type := w / 2 % 4; let size := w / 8; let last := w % 2 == 1
    let body := r.drop 3
    let need := if type = 1 then 1 else size
    let res : Got (List Byte × Tables) :=
      if type = 0 then .ok ((body.take size).reverse ++ out, tb)
      else if type = 1 then .ok (List.replicate size (nth body 0 0) ++ out, tb)
      else block { window := h.window, before := out.length, limit := 2 ^ 64 } tb body size out
    match res with
    | .error _ => none
    | .ok (out2, tb2) =>
      if out2.length ≤ k ∧ ¬ last then contextIn inp h k f (pos + 3 + need) out2 tb2
      else
        let at' := k - out.length
        let base : Context :=
          { window := h.window, fcs := h.fcs, check := h.check, outCount := k, inPos := pos, last := last, blockPos := at',
            seqIndex := 0, litLeft := 0, matchLeft := 0, distance := 0, reps := tb.reps, tables := tb, states := (0, 0, 0),
            bitPos := 0, lits := [], xxh := xxhState ((out2.drop (out2.length - k)).reverse) }
        if type < 2 then some base
        else match prepare tb body size with
          | .error _ => none
          | .ok p =>
            let (i, ll, ml, d, reps, states, bits, lits) := standAt p.tl p.tf p.tm p.n 0 at' p.sl p.so p.sm p.stream p.lits tb.reps
            let tables : Tables := if p.n = 0 then { tb with huff := p.huff } else
              { huff := p.huff, ll := some p.tl, off := some p.tf, ml := some p.tm, reps := reps }
            some { base with seqIndex := i, litLeft := ll, matchLeft := ml, distance := d, reps := reps, tables := tables,
                             states := states, bitPos := bits, lits := lits }

/-- R142: the context of a job whose write pass has written `k` bytes. -/
def contextAt (inp : List Byte) (k limit : Nat) (exact : Bool) : Nat → Nat → Option Context
  | 0, _ => none
  | f + 1, pos =>
    let r := inp.drop pos
    if num r 0 4 = 0xFD2FB528 then
      match header r limit exact with
      | .ok h => contextIn inp h k (inp.length + 1) (pos + h.bytes) [] Tables.start
      | .error _ => none
    else if skippable (num r 0 4) then contextAt inp k limit exact f (pos + 8 + num r 4 4) else none

/-- R142: the context of a library segment job of which `k` bytes have been written. -/
def context (inp : List Byte) (k limit : Nat) (exact : Bool) : Option Context := contextAt inp k limit exact (inp.length + 1) 0

/-! ## A job (R134 to R138) -/

/-- What may follow the frame (R134). -/
def after (inp out : List Byte) : Nat → Nat → Result
  | 0, _ => { code := NONE, errOffset := 0, out := out, committed := out.length }
  | f + 1, pos =>
    let r := inp.drop pos
    if r.length = 0 then { code := NONE, errOffset := 0, out := out, committed := out.length }
    else if r.length < 4 ∨ ¬ skippable (num r 0 4) then
      { code := FRAME_HEADER, errOffset := pos, out := out, committed := out.length }
    else if r.length < 8 ∨ r.length < 8 + num r 4 4 then
      { code := TRUNCATED, errOffset := inp.length, out := out, committed := out.length }
    else after inp out f (pos + 8 + num r 4 4)

/-- R135 to R137: the frame at offset `pos`. -/
def frame (inp : List Byte) (pos limit : Nat) (exact : Bool) : Result :=
  match header (inp.drop pos) limit exact with
  | .error e => { code := e, errOffset := if e = TRUNCATED then inp.length else pos, out := [], committed := 0 }
  | .ok h =>
    let lim := match h.fcs with | some f => min f limit | none => limit
    match blocks inp h.window lim (inp.length + 1) (pos + h.bytes) [] Tables.start with
    | .inl (e, off, out) => { code := e, errOffset := off, out := out.reverse, committed := out.length }
    | .inr (rev, p) =>
      let out := rev.reverse
      let short := match h.fcs with | some f => decide (out.length < f) | none => false
      if short then { code := LENGTH_OVERRUN, errOffset := p, out := out, committed := out.length }
      else if h.check ∧ inp.length < p + 4 then
        { code := TRUNCATED, errOffset := inp.length, out := out, committed := out.length }
      else if h.check ∧ num inp p 4 ≠ xxh64 out % 2 ^ 32 then { code := CHECKSUM, errOffset := p, out := out, committed := 0 }
      else
        let q := if h.check then p + 4 else p
        if exact ∧ h.fcs = none ∧ out.length < limit then { code := UNDERSIZE, errOffset := q, out := out, committed := 0 }
        else after inp out (inp.length + 1) q

/-- R134: skippable frames, then the frame. -/
def find (inp : List Byte) (limit : Nat) (exact : Bool) : Nat → Nat → Result
  | 0, _ => { code := TRUNCATED, errOffset := inp.length, out := [], committed := 0 }
  | f + 1, pos =>
    let r := inp.drop pos
    if r.length < 4 then { code := TRUNCATED, errOffset := inp.length, out := [], committed := 0 }
    else if num r 0 4 = 0xFD2FB528 then frame inp pos limit exact
    else if skippable (num r 0 4) then
      if r.length < 8 ∨ r.length < 8 + num r 4 4 then { code := TRUNCATED, errOffset := inp.length, out := [], committed := 0 }
      else find inp limit exact f (pos + 8 + num r 4 4)
    else { code := FRAME_HEADER, errOffset := pos, out := [], committed := 0 }

/-- R134 to R138: a decompression job over its whole input. -/
def decode (inp : List Byte) (limit : Nat) (exact : Bool) : Result := find inp limit exact (inp.length + 1) 0

/-- R147: what the shadow decompressor makes of a compressed candidate after the history of a frame, under the tables in force:
the history with the block, and the tables after it; none when it reports an error. -/
def shadow (tb : Tables) (hist cand : List Byte) (window : Nat) : Option (List Byte × Tables) :=
  if min window 131072 < cand.length then none
  else match block { window := window, before := hist.length, limit := 2 ^ 64 } tb cand cand.length hist.reverse with
    | .ok (rev, tb2) => some (rev.reverse, tb2)
    | .error _ => none

end Sys2Proof.Machine.Zstd
end

