-- ==== Sys2Proof/Machine/PartsData.lean ====
section
/-! DEFINITION. The parts of the state that belong to the data path: ingest and moorings, the codec engine, the plan, the
optics, synthesis, Skim and scan-out. Every field names the rule that gives it, its width and its reset value. -/

namespace Sys2Proof.Machine

/-- Where the bytes of a received chunk are held (R101, R103). -/
inductive Loc where
  | quay | spill | store
  deriving DecidableEq, Repr

/-- Where the stored tiles of a coat lie (R165, R389). -/
structure Placement where
  chan  : Nat := 0                     -- R165 S_j; 4 bits
  pres  : Nat := 0                     -- R165 the channels present when the coat was declared, as a mask; 16 bits
  moved : Tab Nat := []                -- R389 tiles re-placed: the channel, by 2 * (row * 65536 + column) + relief
  deriving DecidableEq, Repr

/-- Where a buffer striped in 4 KiB units lies (R165, R389). -/
structure Stripe where
  chans : List Nat := []               -- R165 channels present when the buffer was allocated, ascending
  moved : Tab Nat := []                -- R389 units re-placed: the channel, by unit
  deriving DecidableEq, Repr

/-- A chunk marked received (R117), until its frame is applied or abandoned. -/
structure Chunk where
  seq     : Nat                        -- R74 CHUNK_SEQ; 32 bits
  frame   : Nat                        -- R74 SCENE_FRAME_ID; 32 bits
  type    : Nat                        -- R77 TYPE; 8 bits
  session : Nat                        -- R74 SESSION; 32 bits
  payload : List Byte                  -- R77 payload after the 32-byte header
  bytes   : List Byte                  -- R359 the chunk exactly as received, kept by a lead; empty otherwise
  length  : Nat                        -- R74 LENGTH
  refused : Bool                       -- R95 received and refused
  loc     : Loc                        -- R101, R103 where it is held
  order   : Nat                        -- R103 arrival order
  place   : Placement                  -- R165 where the tiles of an accepted COAT_DECL lie
  deriving DecidableEq, Repr

/-- What has become of a tile of a pending frame (R85, R87, R102). -/
inductive TileState where
  | gathering
  | queued
  | running (lane : Nat)
  | staged (data : List Byte) (chan : Nat)
  | refused
  deriving DecidableEq, Repr

/-- A tile of a pending frame (R85). -/
structure Tile where
  frame      : Nat
  coat       : Nat
  relief     : Bool
  x          : Nat
  y          : Nat
  coding     : Nat
  fragCount  : Nat
  streamSize : Nat
  frags      : List (Nat × Nat × Nat)  -- R85 (FRAG_INDEX, CHUNK_SEQ, FRAG_OFFSET) of the fragments received
  seq        : Nat                     -- R85 the highest CHUNK_SEQ among its fragments
  state      : TileState
  order      : Nat                     -- R131 order in which it completed
  deriving DecidableEq, Repr

/-- The FRAME_COMMIT of a pending frame (R91). -/
structure Commit where
  seq     : Nat
  first   : Nat
  count   : Nat
  capture : Nat
  deriving DecidableEq, Repr

/-- A pending frame (R117, R122, R123). -/
structure PFrame where
  id     : Nat
  commit : Option Commit
  cuts   : Nat                         -- R122 frame-tick scene cuts since the commit arrived
  deriving DecidableEq, Repr

/-- A missing sequence number and its reports (R120). -/
structure Miss where
  seq   : Nat
  due   : Nat                          -- R120 local ns at which the next report is due
  tries : Nat                          -- R120 reports made
  deriving DecidableEq, Repr

/-- A coat of the coat table (R63 to R71, R82). -/
structure Coat where
  width   : Nat                        -- R82 WIDTH_TILES; 16 bits
  height  : Nat                        -- R82 HEIGHT_TILES; 16 bits
  originX : Int                        -- R82 ORIGIN_X; s24.8
  originY : Int                        -- R82 ORIGIN_Y; s24.8
  baseZ   : Int                        -- R82 BASE_Z; s24.8
  pitchX  : Nat                        -- R82 PITCH_X; u16.16
  pitchY  : Nat                        -- R82 PITCH_Y; u16.16
  relief  : Nat                        -- R82 RELIEF_SCALE; u8.24
  phaseX  : Nat                        -- R82 PHASE_X; 16 bits
  phaseY  : Nat                        -- R82 PHASE_Y; 16 bits
  init    : Word                       -- R82 INIT_TEXEL; 32 bits
  place   : Placement                  -- R165, R389 where its stored tiles lie
  seq     : Nat                        -- R86 CHUNK_SEQ of the COAT_DECL
  tiles   : Tab (List Byte)               -- R66 colour tiles replaced, by row * WIDTH_TILES + column; others hold INIT_TEXEL
  rtiles  : Tab (List Byte)                -- R66 relief tiles replaced, by row * ceil(WIDTH_TILES / 2) + column; others hold 0
  gen     : Nat := 0                   -- R214 generation of the storage of tiles not replaced: SESSION and CHUNK_SEQ of the COAT_DECL
  gens    : Tab Nat := []              -- R214 generations of tiles replaced since, by 2 * (row * 65536 + column) + relief
  deriving DecidableEq, Repr

/-- The scene of a mooring (R60). -/
structure Scene where
  session : Nat := 0                   -- R60 session value of the applied scene; 32 bits; reset 0
  offX    : Int := 0                   -- R79 OFFSET_X; s24.8; reset 0
  offY    : Int := 0                   -- R79 OFFSET_Y; s24.8; reset 0
  offZ    : Int := 0                   -- R79 OFFSET_Z; s24.8; reset 0
  bg      : Nat × Nat × Nat := (0, 0, 0)  -- R79 BG_R, BG_G, BG_B; 8 bits each; reset 0
  ret     : Nat := 0                   -- R79 RETURN_PORT; 16 bits; reset 0
  shared  : Bool := false              -- R79 GROUP_SHARED; 1 bit; reset 0
  fanMask : Nat := 0xFF                -- R80, R90 FAN_MASK; 8 bits; reset 0xFF
  coats   : Tab Coat := []             -- R60 coat table, at most 64; reset empty
  deriving DecidableEq, Repr

/-- One mooring (R110 to R123). Its configuration is the settings object 0x1400 + n. -/
structure Mooring where
  state       : Nat := 0               -- R114 STATE; 3 bits; reset 0 DISABLED
  session     : Nat := 0               -- R114 SESSION; 32 bits; reset 0
  base        : Nat := 0               -- R114 BASE_SEQ; 32 bits; reset 0
  high        : Nat := 0               -- R114 HIGH_SEQ; 32 bits; reset 0
  floor       : Nat := 0               -- R116 FRAME_FLOOR; 32 bits; reset 0
  applied     : Nat := 0               -- R114 APPLIED_FRAME; 32 bits; reset 0
  appliedField : Nat := 0              -- R114 APPLIED_FIELD; 64 bits; reset 0
  concealedAtCut : Nat := 0            -- R114 CONCEALED_AT_CUT; 16 bits; reset 0
  sessionChanged : Bool := false       -- R114 SESSION_CHANGED; 1 bit; reset 0
  concealed   : Bool := false          -- R114 CONCEALED; 1 bit; reset 0
  abandoned   : Bool := false          -- R114 ABANDONED; 1 bit; reset 0
  resync      : Bool := false          -- R114 SEQ_RESYNC; 1 bit; reset 0
  aheadRun    : Nat := 0               -- R118 consecutive ahead chunks; 9 bits; reset 0
  srcIp       : Nat := 0               -- R94 source address of the SCENE_OPEN's datagram; 32 bits; reset 0
  nackPort    : Nat := 0               -- R94 RETURN_PORT of the session's SCENE_OPEN; 16 bits; reset 0
  nackSerial  : Nat := 0               -- R94 NACK serial; 32 bits; reset 0
  openShared  : List Nat := []         -- R349 frames of the accepted SCENE_OPENs that set GROUP_SHARED and are not yet applied; reset none
  startOpen   : Option (Nat × Nat) := none  -- R79 (frame, CHUNK_SEQ) of the SCENE_OPEN that started the session, until its frame is applied or abandoned; reset none
  chunks      : List Chunk := []       -- R101 received chunks of pending frames, in sequence order; reset none
  tiles       : List Tile := []        -- R85 tiles of pending frames; reset none
  frames      : List PFrame := []      -- R117 pending frames; at most 7; reset none
  received    : List Nat := []         -- R117 sequence numbers from BASE on marked received; reset none
  missing     : List Miss := []        -- R120 missing sequence numbers with their retry clocks; reset none
  lastMark    : Nat := 0               -- R120 local ns at which a chunk was last marked received; 64 bits; reset 0
  highOpen    : Bool := false          -- R120 the chunk at HIGH has been received and is no FRAME_COMMIT; reset no
  tailDone    : Bool := false          -- R120 the tail probe of this pause has been made; reset no
  nackAt      : List Nat := []         -- R121 local ns of the NACKs of the last 1 ms; reset none
  close       : Bool := false          -- R112 the device's own SCENE_CLOSE is due at the next frame-tick cut; reset no
  resetCmd    : List (Nat × Nat) := []  -- R112 MOORING_RESETs accepted and not completed: (TOKEN_LO, TAG); reset none
  resetBegun  : Nat := 0               -- R112 how many of them, from the first, have taken step 1; reset 0
  groupCommit : Option (Nat × Nat) := none  -- R42, R357 newest frame the lead has committed, and the epoch of that commit; reset none
  sentCommit  : Option Nat := none     -- R356 as lead, the last frame committed; reset none
  scene       : Scene := {}            -- R60 the applied scene
  lane        : Nat := 0               -- R131, R167 decompression lane of plan in force; 3 bits; reset 0
  laneSet     : Bool := false          -- R131 a plan has assigned the mooring a lane; reset no
  deriving DecidableEq, Repr

/-- A datagram in the Quay whose chunks are not all checked (R100, R101). -/
structure QuayEntry where
  d      : Datagram
  offset : Nat                         -- R73 next byte to parse
  port   : Nat                         -- R113 SCENE_PORT in force when it was admitted
  deriving DecidableEq, Repr

/-- The Quay, the berths and the CRC units (R100 to R108, R125, R126). -/
structure Ingest where
  quay     : List QuayEntry := []      -- R100 datagrams with unchecked chunks, oldest first; 8 MiB; reset empty
  peak     : Nat := 0                  -- R115 peak occupancy since the last read, bytes; reset 0
  served   : List Nat := List.replicate 4 1023  -- R109 mooring whose receive berth was served last, per PRIORITY; reset 1023
  order    : Nat := 0                  -- R103 arrival counter of chunks; reset 0
  pace     : Nat × Nat := (0, 0)       -- R57, R156 codec output and Quay spill in a field period: (field, bytes); reset 0
  moorings : Tab Mooring := []         -- R110 M0 to M1023; a missing one is at its reset value
  crc      : List (Nat × Nat) := List.replicate 16 (0xFFFFFFFF, 0)  -- R126 RUNNING and COUNT of CU0 to CU15; 32 bits each; RUNNING resets to 0xFFFF_FFFF
  txq      : Tab (List Frame) := []    -- R106 transmit berths B2064 to B2071: frames waiting to be admitted at a line port
  txw      : Tab (List Frame) := []    -- R108 frames whose producers wait for room in a transmit berth; reset none
  portq      : List (Nat × Frame × Option (Nat × Int)) := []  -- R108, R344 frames of the device for one line port, waiting to be admitted there, with their stamp; reset none
  deriving DecidableEq, Repr

/-- A decompression job (R130). -/
inductive DJob where
  | tile (mooring frame coat : Nat) (relief : Bool) (x y : Nat) (input : List Byte) (raw : Nat)
  | segment (mooring : Nat)
  deriving DecidableEq, Repr

/-- What a compression job is for (R130, R149). -/
inductive CFor where
  | trial
  | forward (rank dstIp mooring : Nat)
  | wake (records last unit ip port : Nat)  -- R514: records of the unit, SEQ of its last one, UNIT, collector at its start
  | tally (field unit ip port : Nat)
  | library
  deriving DecidableEq, Repr

/-- R141, R142: what the codec context of a suspended compression job holds beside what the job itself holds. -/
structure CContext where
  taken    : Nat                       -- block state: block position, input bytes of the block encoded, a multiple of 4,096
  seqIndex : Nat                       -- block state: sequence index
  litLeft  : Nat                       -- block state: literals of the current sequence not yet encoded
  matchLeft : Nat                      -- block state: bytes of the current match not yet encoded
  distance : Nat                       -- block state: the current match's distance
  reps     : Nat × Nat × Nat           -- block state: repeat offsets
  entropy  : List Byte                 -- entropy state: 2,048 bytes
  part     : List Byte                 -- literal save area: the partly encoded block
  acc      : BitVec 64                 -- bit accumulator
  accBits  : Nat                       -- its count of valid bits; 7 bits
  xxh      : (Nat × Nat × Nat × Nat) × Nat × Nat   -- XXH64 state
  deriving DecidableEq, Repr

/-- A compression job (R145, R146). -/
structure CJob where
  purpose : CFor
  rest    : List Byte                  -- input not yet encoded
  out     : List Byte := []            -- frame bytes emitted so far
  total   : Nat                        -- Frame_Content_Size
  blocks  : Nat := 0                   -- blocks emitted
  hash    : List Byte := []            -- input already encoded (history and content checksum)
  begun   : Bool := false              -- R150 its frame has begun
  level   : Nat := 0                   -- COMP_LEVEL at the frame's start (R150)
  wlog    : Nat := 0                   -- COMP_WINDOW_LOG at the frame's start (R150)
  key     : Nat := 0                   -- R143 which of the free values its candidates are, fixed at the frame's start
  crc     : Nat × Nat := (0xFFFFFFFF, 0)  -- R142 RUNNING and COUNT of CU14 for the job
  enc     : Zstd.Tables := Zstd.Tables.start  -- R147 the repeat offsets and entropy tables that the compressor holds between blocks
  suspended : Bool := false            -- R141 it is suspended, its context in that of the lane
  deriving DecidableEq, Repr

/-- The library read of a mooring, or the decoding of a REPAIR stream for it (R359), and its codec context (R128, R140, R142). -/
structure LibRead where
  segment  : List Byte                 -- R130 the segment
  size     : Nat                       -- R130 its content size
  output   : List Byte                 -- R142 history ring: valid output of the job, as decoded
  written  : Nat                       -- R142 output count: bytes written to the window
  released : Nat                       -- R130 bytes released to the consumer
  code     : Nat                       -- R137 outcome once the job has ended
  errOffset : Nat                      -- R137 ERR_OFFSET
  committed : Nat                      -- R137 OUT_COMMITTED
  started  : Bool                      -- R131 a lane has taken the job
  suspended : Bool                     -- R140
  done     : Bool                      -- R137 the job has ended
  order    : Nat                       -- R131 arrival order at the lane
  crc      : Nat × Nat                 -- R128 saved RUNNING and COUNT
  repair   : Bool                      -- R359 the segment is the stream of a REPAIR message
  saved    : Option Zstd.Context       -- R142 the context while the job is suspended
  part     : List Byte                 -- R99 bytes of a chunk not yet complete
  deriving DecidableEq, Repr

/-- The codec engine (R129 to R151). -/
structure Codec where
  lanes     : List (Option DJob) := List.replicate 8 none   -- R129 jobs running on D0 to D7; reset idle
  clanes    : List (List CJob) := [[], []]  -- R141, R149 jobs of C0 and C1, the head running; reset none
  cctx      : List (Option CContext) := [none, none]  -- R142 the codec contexts of C0 and C1; reset none
  cwait     : List (List CJob) := [[], []]  -- R108 jobs whose producers wait for room in B2056, B2057; reset none
  libs      : Tab LibRead := []        -- R142 library reads and contexts by mooring; reset none
  repairs   : List (Nat × Nat × List Byte) := []  -- R359, R130 REPAIR streams that wait for their mooring's lane: (arrival order, mooring, stream); reset none
  dOut      : List Nat := List.replicate 8 0   -- R151 output bytes of each lane in the current field; reset 0
  dOutPrev  : List Nat := List.replicate 8 0   -- R151 D0_OUT to D7_OUT, bytes of the previous field; reset 0
  cIn       : List Nat := [0, 0]       -- R151 input bytes of C0 and C1 in the current field; reset 0
  cInPrev   : List Nat := [0, 0]       -- R151 C0_IN and C1_IN, bytes of the previous field; reset 0
  lastCode  : Nat := 0                 -- R151 LAST_CODE; 3 bits; reset 0
  lastKind  : Nat := 0                 -- R151 LAST_KIND; 3 bits; reset 0
  lastMooring : Nat := 0               -- R151 LAST_MOORING; 10 bits; reset 0
  lastErr   : Nat := 0                 -- R151 LAST_ERR_OFFSET; 32 bits; reset 0
  libOut    : List (List Byte) := []   -- R180 library content compressed by BG5, as frames; reset none
  deriving DecidableEq, Repr

/-- How a tile is handled in a field (R172). -/
inductive Handling where
  | rendered | stored | replayed
  deriving DecidableEq, Repr

/-- One tile of a plan (R152, R157, R163, R169). -/
structure TilePlan where
  sector   : Nat
  row      : Nat                       -- tile row of the sector
  col      : Nat                       -- tile column of the sector
  coats    : List (Nat × Nat)          -- R70, R157 coats that reach the tile, in order: (mooring, coat)
  znear    : Option Int                -- R169 ZNEAR, mm
  vis      : Nat                       -- R169 VIS
  step     : Nat                       -- R168 L0 to L4
  handling : Handling                  -- R172
  pos      : Nat                       -- R234 rendering position
  fans     : Nat                       -- R206 the fans of SOURCE 0 that its subpixels belong to, as a mask; 8 bits
  gang     : Nat                       -- R163
  rho      : Nat                       -- R160 RHO, u1.15
  nmiss    : Nat                       -- R164
  nmax     : Nat                       -- R157
  cost     : Nat                       -- R157
  deriving DecidableEq, Repr

/-- Cost coefficients and power model (R158, R161). -/
structure Coefs where
  aRay  : Nat := 256                   -- R189 A_RAY; u16.16; reset 256
  aSamp : Nat := 1024                  -- R189 A_SAMP; u16.16; reset 1,024
  aRef  : Nat := 256                   -- R189 A_REF; u16.16; reset 256
  aMiss : Nat := 524288                -- R189 A_MISS; u16.16; reset 524,288
  eClk  : Nat := 1100                  -- R189 E_CLK; 16 bits; reset 1,100
  eByte : Nat := 40                    -- R189 E_BYTE; 16 bits; reset 40
  pFix  : Nat := 18000                 -- R189 P_FIX; 16 bits; reset 18,000
  deriving DecidableEq, Repr

/-- A plan and the snapshot it is built from (R152, R214). -/
structure Plan where
  field    : Nat := 0                  -- R152 field n; 64 bits
  built    : Bool := false             -- R162 a plan with tiles was built (a raster mode was in force)
  complete : Bool := false             -- R43, R162 the plan was complete before its tick
  mode     : Nat := 0                  -- panel mode of the field; 8 bits
  effMode  : Nat := 0                  -- R176 effective service mode; 3 bits
  collapseM : Nat := 50                -- R188 SWIFT_COLLAPSE_M as sampled; 16 bits
  limit    : Nat := 48                 -- R484 power limit, W
  tiles    : List TilePlan := []       -- R152 tiles, in the order of assignment
  overPlan : Bool := false             -- R171 OVER_PLAN
  pPred    : Nat := 0                  -- R161 P_PRED, mW
  dramPred : Nat := 0                  -- R166 predicted bytes of the field
  chanPred : List Nat := []            -- R166 predicted bytes of the field on DC0 to DC15
  scenes   : Tab Scene := []           -- R214 scenes of the moorings that contribute
  optics   : Tab (List Word) := []     -- R207 PanelOptics, angle tables and FanConfig sampled; missing: Reset words
  corr     : Option (Nat × Nat × List Nat) := none  -- R203 correction map in use: W_TILES, H_TILES and values (16 bits each)
  look     : Tab (List Word) := []     -- R267, R31 ScanoutConfig, the gamma tables and the lantern's objects sampled; missing: Reset words
  preload  : List (List (Nat × Nat × Bool × Nat × Nat)) := []  -- R152, R164 preload list of G0 to G15: stored tiles as (mooring, coat, relief, column, row)
  lanes    : Tab Nat := []             -- R167 decompression lane per mooring
  shares   : List Nat := []            -- R167 codec SRAM share of D0 to D7, C0 and C1, KiB
  fifo     : Tab Nat := []             -- R167 plane FIFO share, bytes, by 2 * sector + plane
  slice    : Nat := 7                  -- R182 class holding the background slice; 7 none
  cal      : List (Nat × Nat) := []    -- R391 calibrations carried: (channels, ns)
  dropped  : List Nat := []            -- R186 sectors whose field is dropped
  shown    : Bool := false             -- R284, R341 the field is scanned
  deriving DecidableEq, Repr

/-- A request for a blanking window or a dropped field (R185 to R187). -/
inductive TestKind where
  | linkTest (port mode pattern injectLog injectLanes duration : Nat)
  | memCal (channels mode : Nat)
  | selfTest (sectors : Nat)
  deriving DecidableEq, Repr

/-- A waiting request of R185 to R187. -/
structure TestReq where
  kind     : TestKind
  slot     : Nat
  tag      : Nat
  accepted : Nat                       -- timebase cycle of acceptance
  acceptNs : Nat                       -- local ns of acceptance
  drop     : Option Nat                -- R186 the dropped field, once fixed
  deriving DecidableEq, Repr

/-- What a gang measured in a field (R242). -/
structure GangCount where
  rays   : Nat := 0                    -- R242 TRW_RAYS of the field
  samples : Nat := 0                   -- R242 TRW_SAMPLES
  refines : Nat := 0                   -- R242 TRW_REFINES
  covered : Nat := 0                   -- R242 TRW_COVERED
  groutN : Nat := 0                    -- R242 TRW_GROUT_NEIGHBOUR
  groutB : Nat := 0                    -- R242 TRW_GROUT_BACKGROUND
  miss   : Nat := 0                    -- R242 TRW_MISS_LINES
  clocks : Nat := 0                    -- R242 TRW_CLOCKS
  replayed : Nat := 0                  -- R242 TRW_TILES_REPLAYED
  skipped : Nat := 0                   -- R242 TRW_TILES_SKIPPED
  ecc    : Nat := 0                    -- R242 TRW_ECC_LINE
  deriving DecidableEq, Repr

/-- What a rendered tile measured in a field (R160). -/
structure TileMeas where
  field   : Nat
  sector  : Nat
  row     : Nat
  col     : Nat
  samples : Nat                        -- R160 actual samples
  nmax    : Nat                        -- R160 nmax of that field's plan
  count   : Nat                        -- R160 coats reaching the tile
  deriving DecidableEq, Repr

/-- The Harbourmaster (R152 to R190). -/
structure Harbour where
  effMode   : Nat := 0                 -- R176 effective service mode; 3 bits; reset the requested mode's Reset value 0
  reqMode   : Nat := 0                 -- R176 requested mode as sampled; 3 bits; reset 0
  profile   : Nat := 0                 -- R48 profile in force; 1 bit; reset 0
  demoted   : Bool := false            -- R189 DEMOTED; 1 bit; reset 0
  modeWrite : Bool := false            -- R176, R177 a host has written SERVICE_MODE since the last frame-tick cut; reset no
  lateMode  : Option Nat := none       -- R176 a mode sampled at the cut of a late plan; reset none
  next      : Plan := {}               -- R152 the plan being built
  cur       : Plan := {}               -- R152 the plan in force
  prev      : Plan := {}               -- R214 the plan of field n - 1, still rendering or scanned
  coefs     : Coefs := {}              -- R158, R161
  planLate  : Bool := false            -- R38 PLAN_LATE; 1 bit; reset 0
  lateNow   : Bool := false            -- R511 plan n ran late; reset no
  overPlan  : Bool := false            -- R189 OVER_PLAN; 1 bit; reset 0
  escalation : Bool := false           -- R189 ESCALATION; 1 bit; reset 0
  demotion  : Bool := false            -- R189 DEMOTION; 1 bit; reset 0
  latencyOver : Bool := false          -- R189 LATENCY_OVER; 1 bit; reset 0
  restored  : Bool := false            -- R189 RESTORED; 1 bit; reset 0
  bgPromoted : Bool := false           -- R189 BG_PROMOTED; 1 bit; reset 0
  latency   : Nat := 0                 -- R189 LATENCY; 32 bits; reset 0
  captures  : List (Nat × Nat) := []   -- R178 measurements in progress: (CAPTURE_TIME, field of the applying cut); reset none
  escalated : Nat := 0                 -- R189 tiles raised in the current field; 16 bits; reset 0
  escalatedPrev : Nat := 0             -- R189 ESCALATED; 16 bits; reset 0
  loadAct   : Nat := 0                 -- R189 LOAD_ACT; 16 bits; reset 0
  underruns : List Nat := [0, 0, 0]    -- R177 underrun counts of the light field, overlay 0 and overlay 1; reset 0
  fieldUnder : List Bool := [false, false, false]  -- R177 a plane has underrun in the current field; reset no
  cleanFrames : Nat := 0               -- R177 consecutive frames without an underrun; 16 bits; reset 0
  frameClean : Bool := true            -- R177 the current frame has had no underrun; reset yes
  demoteDue : Bool := false            -- R177 a demotion step is due; reset no
  bgDone    : List Nat := [0, 0, 0, 0, 0, 0]  -- R181 local ns at which each class last completed a unit; reset at start
  schedule  : Tab Nat := []            -- R179 per library mooring, the frame for which the schedule's segment was read last; reset none
  bgStop    : Option Nat := none       -- R184 local ns at which Lantern stopped the ages; reset none
  promoted  : List Bool := List.replicate 6 false  -- R190 PROMOTED; 6 bits; reset 0
  slice     : Nat := 7                 -- R190 SLICE_CLASS; 3 bits; reset 7
  requests  : List TestReq := []       -- R187 requests waiting, at most 8; reset none
  window     : Nat × List Nat := (0, [])  -- R185 the field of the last blanking window, and per port the ns from its start up to which it is given out; reset none
  dropLast  : Tab Nat := []            -- R186 local ns of the last dropped field per port; reset none
  rho       : List TileMeas := []      -- R160 measurements of the last fields; reset none
  cold      : Bool := false            -- R240 the next plan is the first after Lantern: every gang cache is empty; reset no
  tickCyc   : Nat := 0                 -- R173 timebase cycle of the last field tick; reset 0
  counts    : List GangCount := List.replicate 16 {}  -- R242 the field being rendered
  counts1   : List GangCount := List.replicate 16 {}  -- R242 field n - 1
  counts2   : List GangCount := List.replicate 16 {}  -- R159, R243 field n - 2
  counts2Field : Nat := 0              -- R243 the field counts2 describes; reset 0
  lastCut   : Option Nat := none       -- R40 the field whose scene cut was taken last; reset none
  energy    : Option (Nat × Nat × Nat × Nat × Nat) := none  -- R161 the last round: trowel, DRAM and total power in mW, its gang clocks and its DRAM bytes; reset none
  roundBytes : Nat := 0                -- R161 DRAM bytes since the end of the last round; reset 0
  bgPace    : Nat × List Nat := (0, [])  -- R181 what background units have taken on each channel in a field period, bytes: (field, DC0 to DC15); reset 0
  slicePace : Nat × Nat := (0, 0)      -- R183 what the slice has given in a field period, bytes: (field, bytes); reset 0
  otherPace : Nat × Nat := (0, 0)      -- R57, R156 bytes of the class of 5.6 GB/s in a field period: (field, bytes); reset 0
  roundClocks : Nat := 0               -- R161 TRW_CLOCKS at the end of the last round; 64 bits; reset 0
  deriving DecidableEq, Repr

/-- The correction map and its commit (R200 to R209, R213). -/
structure Optics where
  staging   : List (Nat × Byte) := []  -- R201 staging bytes written, by offset; a byte not written is a free value
  swaps     : Nat := 0                 -- R201 commits that have taken effect: each leaves the staging bytes undefined; reset 0
  map       : Option (Nat × Nat × List Nat) := none  -- R203 active map: W_TILES, H_TILES, values; reset none
  state     : Nat := 0                 -- R213 CORR_STATE; 2 bits; reset 0 NONE
  commit    : Option (Nat × Nat × Nat × List Word) := none  -- R202, R209 commit in progress: (slot, TAG, SIZE, HASH at acceptance); reset none
  lost      : List Nat := []           -- R202, R385 64-byte units of the staging bytes that the check of the commit read as uncorrectable; reset none
  passed    : Option Int := none       -- R203, R209 local ns at which the commit passed, while it awaits its cut; reset none
  checkFailed : Bool := false          -- R213 CORR_CHECK_FAILED; 1 bit; reset 0
  field     : Nat := 0                 -- R213 CORR_FIELD; 64 bits; reset 0
  deriving DecidableEq, Repr

/-- A line of a gang's coat cache (R238). -/
structure LineTag where
  mooring : Nat
  coat    : Nat
  relief  : Bool
  col     : Nat
  row     : Nat
  line    : Nat
  gen     : Nat                        -- R238, R214 storage generation
  deriving DecidableEq, Repr

/-- One trowel gang (R236 to R242). -/
structure Gang where
  queue    : List (Nat × Nat) := []    -- R163, R45 tiles not yet started, as (field, position in that plan's tile list), in order
  running  : List (Nat × Nat × Nat) := []  -- R236, R241 tiles in progress, at most two: (field, position, timebase cycle of the start)
  done     : List Nat := []            -- R173 completed tiles of field n, as positions
  skipped  : List Nat := []            -- R174 skipped tiles of field n
  cache    : List LineTag := []        -- R238 resident lines; reset empty
  todo     : List (Nat × Nat × Bool × Nat × Nat) := []  -- R238 stored tiles of the preload list still to fill, in order; reset none
  bad      : List (Nat × LineTag) := []  -- R239 lines taken as zeros in a field: (field, line); reset none
  left     : List (Nat × LineTag) := []  -- R238 lines that have left the cache while a tile was in progress: (timebase cycle, line); reset none
  lastEnd  : Nat := 0                  -- R242 timebase cycle at which the gang last completed a tile; reset 0
  deriving DecidableEq, Repr

/-- A slot of a band ring: one tile row (R44, R53). -/
structure RingSlot where
  field : Nat := 0
  row   : Nat := 0
  tiles : Tab (List Nat) := []         -- R232 finished tiles by tile column: 128 x 32 words of 32 bits
  deriving DecidableEq, Repr

/-- A replay copy (R172, R208, R235). -/
structure ReplayCopy where
  frame  : Nat                         -- R172 frame ID it was written in
  k      : Nat                         -- R234 K it was written under
  pos    : Nat                         -- storing position
  field  : Nat                         -- R235 field that wrote it
  wrote  : Nat                         -- R235 local ns at which its last word was written
  late   : Bool                        -- R172 its storing field ran on a late plan
  optics : Tab (List Word)             -- R208 optics it was written with
  corr   : Option (Nat × Nat × List Nat)
  words  : List Nat                    -- R233 band-ring words
  deriving DecidableEq, Repr

/-- The trowels, band rings and replay store (R214 to R243). -/
structure Synth where
  gangs   : List Gang := List.replicate 16 {}   -- G0 to G15
  rings   : List (List RingSlot) := List.replicate 16 (List.replicate 4 {})  -- R44 16 rings of four slots; 32 MiB
  replay  : List ((Nat × Nat × Nat) × ReplayCopy) := []  -- R172 replay store by (sector, row, col); reset empty
  deriving DecidableEq, Repr

/-- A write of a surface that scan-out may still show or not (R257). -/
structure PastWrite where
  began   : Int                        -- R257 local ns at which it began
  ended   : Option Int                 -- R257 local ns at which its last unit was written; none while it goes on
  visible : Option Int                 -- R254 local ns at which it became visible; none before
  units   : List Nat                   -- R253 the 64-byte units that it writes, in the order of writing
  before  : List (Nat × Byte)          -- R257 the surface's bytes before it
  deriving DecidableEq, Repr

/-- A surface (R244, R245). -/
structure Surface where
  format   : Nat                       -- R244 0 RGBA8, 1 A8, 2 L1
  width    : Nat                       -- R244 W
  height   : Nat                       -- R244 H
  clearing : Bool                      -- R245 its clearing has not completed
  bytes    : List (Nat × Byte)         -- R245 bytes that are not zero, by offset
  stripe   : Stripe := {}              -- R165, R389 where its 4 KiB units lie
  older    : List PastWrite := []      -- R257 writes that scan-out may still show or not, oldest first; reset none
  deriving DecidableEq, Repr

/-- A piece of Skim work (R258). -/
inductive Piece where
  | list (id sector first count slot tag : Nat)
  | clear (surface slot tag : Nat)
  deriving DecidableEq, Repr

/-- Skim (R244 to R262). -/
structure Skim where
  surfaces : Tab Surface := []         -- R244 S0 to S1023; reset none
  lists    : Tab (List (Nat × Byte)) := []  -- R247 256 lists of 4,096 entries of 32 bytes: bytes that are not zero; reset zero
  queue    : List Piece := []          -- R258 pieces queued or running, in order of acceptance; at most 16; reset none
  running  : Bool := false             -- R262 RUNNING; 1 bit; reset 0
  index    : Nat := 0                  -- R262 RUN_INDEX; 12 bits; reset 0
  began    : Int := 0                  -- R257 local ns at which the entry in progress began; reset 0
  begunCyc : Nat := 0                  -- R259 timebase cycle at which the entry or clearing in progress began; reset 0
  stopping : Bool := false             -- R261 the running list stops after its current entry; reset no
  dropping : Bool := false             -- R245, R261 the surfaces of that entry are lost with its end; reset no
  waiting  : Option (Nat × Int) := none  -- R255 the bollard in wait: (tide row, local ns at which its writes became visible); reset none
  released : Bool := false             -- R255 the tide mark of the wait has passed; reset no
  stamp    : List (Nat × Nat) := List.replicate 16 (0, 0)  -- R256 per sector the last tide mark passed: (field, line); reset 0
  bytesNow : Nat := 0                  -- R262 bytes counted in the current field; reset 0
  bytesPrev : Nat := 0                 -- R262 BYTES_PREV; 32 bits; reset 0
  eccSeen  : Bool := false             -- R262 ECC_SEEN; 1 bit; reset 0
  waitMissed : Bool := false           -- R262 WAIT_MISSED; 1 bit; reset 0
  changed  : Nat := 0                  -- R255 how many pieces of the queue were accepted before the last hard change began; reset 0
  deriving DecidableEq, Repr

/-- An overlay commit (R273 to R277). -/
structure OvCommit where
  surface : Nat                        -- 0xFFFF: none
  offX    : Int
  offY    : Int
  stamp   : Nat
  order   : Nat                        -- order of reception
  target  : Nat                        -- R273 target field
  slot    : Nat
  tag     : Nat
  deriving DecidableEq, Repr

/-- One overlay plane (R268, R273, R296). -/
structure OvPlane where
  surface : Nat := 0xFFFF              -- R296 OV_SURFACE; 16 bits; reset 0xFFFF
  tag     : Nat := 0                   -- R296 OV_TAG; 8 bits; reset 0
  offX    : Int := 0                   -- R296 OV_OFF_X; s32; reset 0
  offY    : Int := 0                   -- R296 OV_OFF_Y; s32; reset 0
  field   : Nat := 0                   -- R296 OV_FIELD; 64 bits; reset 0
  pending : List OvCommit := []        -- R275 accepted commits not yet in force; reset none
  lastFetch : Nat := 0                 -- R276 fetch bytes of the latest accepted commit; reset 0
  deriving DecidableEq, Repr

/-- A change of panel mode or of Lantern (R283, R284, R291, R292). -/
inductive Change where
  | hard (mode : Nat) (n : Nat)        -- R284 sampled at the cut of field n
  | lanternEntry (n : Nat)             -- R291
  | lanternExit (mode : Nat) (n : Nat) -- R292
  deriving DecidableEq, Repr

/-- One sector of scan-out (R278 to R281, R286, R297). -/
structure SectorScan where
  lfOff     : Bool := false            -- R278 light-field plane off for the rest of the field; reset on
  ovOff     : List Bool := [false, false]  -- R279 overlay planes off for the rest of the field; reset on
  underLf   : Bool := false            -- R297 UNDERRUN_LF; 1 bit; reset 0
  underOv   : List Bool := [false, false]  -- R297 UNDERRUN_OV0, UNDERRUN_OV1; 1 bit each; reset 0
  teMissing : Bool := false            -- R297 TE_MISSING; 1 bit; reset 0
  teValid   : Bool := false            -- R297 TE_VALID; 1 bit; reset 0
  tePhase   : Int := 0                 -- R297 TE_PHASE; s32; reset 0
  teField   : Option Nat := none       -- R286 the field whose first edge has been taken; reset none
  teJudged  : Option Nat := none       -- R286 the field whose TE window was the last to end; reset none
  lastLine  : Nat := 0                 -- R297 LAST_UNDERRUN_LINE; 12 bits; reset 0
  counted   : List Bool := [false, false, false]  -- R280 planes tallied in this field; reset no
  ovBad     : List (List Nat) := [[], []]  -- R385 per plane, the 64-byte units of its surface that the FIFO holds as zeros; reset none
  fifoRows  : List Nat := [0, 0]       -- R281 per plane, the sector lines whose overlay data is in the FIFO: lines below this; reset 0
  vsync     : Bool := false            -- R299 vertical sync of the sector's stream, active high; reset low
  codes     : List Nat := []           -- R272 codes of the last line sent, R, G, B per pixel; 10 bits each; reset none sent
  deriving DecidableEq, Repr

/-- Scan-out (R263 to R297). -/
structure Scanout where
  mode      : Nat := 0                 -- R296 MODE_IN_FORCE; 8 bits; reset 0x00
  lantern   : Bool := false            -- R296 LANTERN_ACTIVE; 1 bit; reset 0
  change    : Option Change := none    -- R296 CHANGE_RUNNING: the change sampled and not yet ended; reset none
  changeT0  : Option Nat := none       -- R284 local ns of t0, once past; reset none
  trained   : Bool := false            -- R284 every port of the new mode has ended its training; reset no
  firstTick : Option Nat := none       -- R284 tick m, once fixed; reset none
  visible   : Option Nat := none       -- R284 field m + K, from which zones may be lit; reset none
  cfgCmds   : List (Nat × Nat × Nat) := []  -- R293 SCANOUT_CONFIGURE commands not completed: (slot, TAG, KIND); reset none
  latchField : Option Nat := none      -- R273 the field whose commit latch was the last; reset none
  planes    : List OvPlane := [{}, {}] -- R267 overlay planes
  commitOrder : Nat := 0               -- R275 order of reception of commits; reset 0
  withdrawn : Bool := false            -- R296 PLANE_WITHDRAWN; 1 bit; reset 0
  paceLimit : Bool := false            -- R296 PACE_LIMIT; 1 bit; reset 0
  slack     : Nat := 65535             -- R281, R296 SLACK; 16 bits; reset 65,535
  phi       : Int := 0                 -- R296 PHI; s32; reset 0
  phiNext   : List (Int × Nat) := []   -- R287, R351 values of φ to come, each with the field from which it applies, ascending; reset none
  sectors   : List SectorScan := List.replicate 16 {}  -- S0 to S15
  field     : Nat := 0                 -- R36 field ID of the last tick; 64 bits; reset 0
  ticked    : Bool := false            -- R36 a tick has been raised at the present rate; reset no
  rate      : Nat := 240               -- R35 field rate R; reset 240
  k         : Nat := 1                 -- R36 K; reset 1
  notBefore : Nat := 0                 -- R37 local ns: the next tick lies strictly after it; reset 0
  line      : Option (Nat × Nat) := none  -- R537 the last line begun: (field, line); reset none
  scanned   : Option Nat := none       -- R278, R279 the field whose line 0 has come; reset none
  tide      : Option (Nat × Nat) := none  -- R46 the last tide mark taken: (field, k); reset none
  zones     : List Bool := List.replicate 16 false   -- R464 pins BL_ZONE0 to BL_ZONE15; reset low
  sched     : List (Nat × Nat × Nat × Nat × Nat) := []  -- R468 schedule: (zone, field, rise ns, fall ns, group code); reset empty
  zoneFall  : List (Nat × Nat) := []   -- R466 lit zones and their fall instants: (zone, fall ns); reset none
  blGrp     : Nat := 0                 -- R465 pins BL_GRP0 to BL_GRP3; 4 bits; reset low
  deriving DecidableEq, Repr

end Sys2Proof.Machine
end

