-- ==== Sys2Proof/Machine/PartsUnits.lean ====
section
/-! DEFINITION. The parts of the state that belong to the panel links, the backbone lanes, the bridge, the display group,
the dynamic memory, power and thermal management and the fascia. Every field names the rule that gives it, its width and
its reset value. -/

namespace Sys2Proof.Machine

/-- The phases of a training (R303). -/
inductive TrainPhase where
  | hpd | caps | laneEq | cds
  deriving DecidableEq, Repr

/-- A training in progress (R303). -/
structure Training where
  phase    : TrainPhase
  start    : Nat                       -- R321 timebase cycle at which the training started
  pstart   : Nat                       -- R303 timebase cycle at which the phase started
  cfg      : List Word                 -- R320 PanelLinkConfig as sampled at the start of the training
  caps     : Option SinkCaps := none   -- R303 the sink's capability, once read; reset none
  status   : Option LaneStatus := none -- R303 the lane status read last in the phase; reset none
  polled   : Nat := 0                  -- R303 timebase cycle of that read; reset 0
  rate     : Nat                       -- R303 link rate wanted: 1 UHBR10, 2 UHBR13.5, 3 UHBR20
  lanes    : Nat                       -- R298 lane count wanted
  first    : Bool                      -- R305 the first training that a hard change or Lantern transition started for the port
  deriving DecidableEq, Repr

/-- A panel lane test (R310 to R313). -/
structure LaneTest where
  slot      : Nat
  tag       : Nat
  mode      : Nat                      -- R310 0 FAR_END, 1 LOOPBACK
  pattern   : Nat                      -- R310
  gens      : List Nat                 -- R310 the lanes' generators as the pattern starts
  injectLog : Nat                      -- R311
  lanes     : Nat                      -- R311 INJECT_LANES
  rate      : Nat                      -- R312
  duration  : Nat                      -- R311 DURATION_US
  back      : Nat                      -- R312, R313 the state the port returns to
  field     : Nat                      -- R313 dropped field; 0 under R312
  irq       : Bool                     -- R308 an IRQ_HPD waits for the end of the test's work window
  deriving DecidableEq, Repr

/-- One panel port (R300 to R313). -/
structure Port where
  state      : Nat := 0                -- R321 STATE; 3 bits; reset 0
  cause      : Nat := 0                -- R321 ABSENT_CAUSE; 3 bits; reset 0
  hpd        : Bool := false           -- R321 HPD; 1 bit; no reset value given (log entry 4)
  absentEvent : Bool := false          -- R321 ABSENT_EVENT; 1 bit; reset 0
  retrained  : Bool := false           -- R321 RETRAINED; 1 bit; reset 0
  presets    : List Nat := [0, 0, 0, 0]  -- R321 PRESETS; 4 bits per logical lane; reset 0
  trainUs    : Nat := 0                -- R321 TRAIN_US; 32 bits; reset 0
  sinkErr    : Nat := 0                -- R321 SINK_ERR; 16 bits; reset 0
  trainings  : Nat := 0                -- R321 TRAININGS; 16 bits; reset 0
  activeField : Nat := 0               -- R321 ACTIVE_FIELD; 64 bits; reset 0
  training   : Option Training := none -- R303 the training in progress; reset none
  spread     : Bool := false           -- R298, R320 the link is spread down by 0.5 %; reset no
  wiring     : List (Nat × Bool) := [(0, false), (1, false), (2, false), (3, false)]  -- R320 per logical lane, its physical lane and whether that is inverted; reset straight
  sinkPattern : Option Nat := none     -- R310 the link quality pattern the device has set in the sink; reset none
  noReply    : Nat := 0                -- R304 no-replies of the AUX transaction in progress; 2 bits; reset 0
  defers     : Nat := 0                -- R304 AUX_DEFERs of the transaction in progress; 3 bits; reset 0
  auxFails   : Nat := 0                -- R307 consecutive failed AUX reads in service; 2 bits; reset 0
  newPresets : Option (List Nat) := none  -- R307 presets to apply at the start of the next blanking window; reset none
  cmds       : List (Nat × Nat) := []  -- R306 LINK_RETRAIN commands not completed: (slot, TAG); reset none
  test       : Option LaneTest := none -- R310 the test that runs; reset none
  planFrom   : Option Nat := none      -- R305, R284 first field whose plan includes the sector's tiles; none until fixed; reset none
  litFrom    : Nat := 0                -- R305, R284 first field whose schedule may light the sector's zones; 64 bits; reset 0
  rejoining  : Bool := false           -- R305 ACTIVE and waiting for tick m; reset no
  deriving DecidableEq, Repr

/-- A backbone test (R319). -/
structure BbTest where
  slot     : Nat
  tag      : Nat
  pattern  : Nat                       -- R319 0 PRBS31, 1 PRBS9
  gen      : Nat                       -- R319 the generator as the test starts
  dir      : Nat                       -- R319 DIRECTION
  duration : Nat                       -- R319 DURATION_MS
  deriving DecidableEq, Repr

/-- One backbone port (R314 to R319). -/
structure Backbone where
  link      : Nat := 0                 -- R322 LINK; 2 bits; reset 0
  txLpi     : Bool := false            -- R322 TX_LPI; 1 bit; reset 0
  rxLpi     : Bool := false            -- R322 RX_LPI; 1 bit; reset 0
  rxOff     : Bool := false            -- R316 the receiver's front end is powered down; reset no
  frozen    : Bool := false            -- R322 ADAPT_FROZEN; 1 bit; reset 0
  downEvent : Bool := false            -- R322 LINK_DOWN_EVENT; 1 bit; reset 0
  prbsErr   : Nat := 0                 -- R322 PRBS_ERR; 32 bits; reset 0
  blockErr  : Nat := 0                 -- R322 BLOCK_ERR; 32 bits; reset 0
  fecCorr   : Nat := 0                 -- R322 FEC_CORR; 32 bits; reset 0
  fecUncorr : Nat := 0                 -- R322 FEC_UNCORR; 32 bits; reset 0
  dataBlocks : Nat := 0                -- R318 data blocks counted while frozen; 9 bits; reset 0
  test      : Option BbTest := none    -- R319 the test that runs; reset none
  emptyAt   : Nat := 0                 -- R316 timebase cycle since which every egress queue of the port has been empty; reset 0
  txWakeAt  : Nat := 0                 -- R316, R317 timebase cycle at which a wake of the transmit direction ends; reset 0
  deriving DecidableEq, Repr

/-- A frame queued at a line port (R327, R345). -/
structure QFrame where
  f       : Frame
  stamp   : Option (Nat × Int)         -- R345 a Sync in transit: (ingress stamp, ingress meanLinkDelay), R344 a Pdelay_Resp: (t2, 0); 2^-32 ns
  own     : Bool                       -- R345 originated by the device
  ready   : Nat := 0                   -- R327 timebase cycle at which BBI has carried it to the bridge; 0 for a frame in transit
  deriving DecidableEq, Repr

/-- The gate control of a line port (R331). -/
structure Gates where
  cur     : List Word := []            -- R331 GateControl words in force; reset empty (the Reset words)
  next    : Option (Nat × List Word) := none  -- R331 replacement list and the local ns of the cycle start at which it takes effect; reset none
  entry   : Nat := 0                   -- R331 entry in force at the last change; 7 bits; reset 0
  deriving DecidableEq, Repr

/-- The bridge (R323 to R331). -/
structure Bridge where
  mac      : BitVec 48 := 0            -- R364 MAC_LO, MAC_HI, in force since the start; 48 bits; reset 0 until the first start
  learned  : List (BitVec 48 × Nat × Nat) := []  -- R325 (address, port, timebase cycle last seen), at most 4,096; reset empty
  arp      : List (Nat × BitVec 48 × Nat) := []  -- R329 (IPv4 address, MAC, timebase cycle), at most 64; reset empty
  egress   : List (List (List QFrame)) := List.replicate 2 (List.replicate 8 [])  -- R330 eight queues per line port; 110,592 bytes per port; reset empty
  bbi      : List (List Nat) := [[], []]  -- R327 frames waiting for BBI per line port: the timebase cycle at which each has passed; at most 2; reset empty
  bbiFree  : Nat := 0                  -- R327 timebase cycle at which BBI has passed everything admitted toward the device; reset 0
  bbiOut   : Nat := 0                  -- R327 timebase cycle at which BBI has passed everything that the device has sent; reset 0
  gates    : List Gates := [{}, {}]    -- R331 gate control of BB0 and BB1
  sent     : List (Option Frame) := [none, none]  -- R330 the last frame that left each line port; reset none
  busyUntil : List Nat := [0, 0]       -- R330 timebase cycle at which the last frame has left; reset 0
  groups   : List Nat := []            -- R328 groups last reported; reset none
  deriving DecidableEq, Repr

/-- What a live rank's heartbeat last said of a mooring (R351, R356). -/
structure RankReady where
  rank    : Nat
  mooring : Nat
  valid   : Bool
  frame   : Nat
  deriving DecidableEq, Repr

/-- The display group (R349 to R359). -/
structure Group where
  lead        : Bool := false          -- R364 ROLE; 1 bit; reset 0
  joined      : Bool := false          -- R364 JOINED; 1 bit; reset 0
  leadChanged : Bool := false          -- R364 LEAD_CHANGED; 1 bit; reset 0
  demoted     : Bool := false          -- R364 DEMOTED_SELF; 1 bit; reset 0
  mismatch    : Bool := false          -- R364 MODE_MISMATCH; 1 bit; reset 0
  leadRank    : Option Nat := none     -- R364 LEAD_RANK; 3 bits; reset 0 (no lead)
  epoch       : Nat := 0               -- R364 EPOCH; 32 bits; reset 0
  newest      : Option Nat := none     -- R354 newest epoch seen; 32 bits; reset none
  listened    : Nat := 0               -- R353 frame ticks listened; 4 bits; reset 0
  miss        : List Nat := List.replicate 8 8   -- R352 MISS per rank; 4 bits; reset 8 (nobody heard; log entry 77)
  heard       : List Bool := List.replicate 8 false  -- R352 a heartbeat has arrived since the last frame tick; reset no
  wrongMode   : List Bool := List.replicate 8 false  -- R352 the rank's last heartbeat had another field rate or K; reset no
  ready       : List RankReady := []   -- R356 readiness of other ranks; reset none
  address     : List Nat := List.replicate 8 0   -- R359 source address of each rank's last message; 32 bits; reset 0
  sentReady   : List (Nat × Bool × Nat) := []    -- R351 readiness as last sent: (mooring, valid, frame); reset none
  extraAt     : Nat := 0               -- R351 timebase cycle of the last extra heartbeat; reset 0
  repairSent  : List (Nat × Nat) := [] -- R359 REPAIR messages of the last millisecond: (mooring, timebase cycle); reset none
  repairJobs  : List (Nat × Nat × Nat × List Byte) := []  -- R359 REPAIR messages to compress: (rank, destination address, mooring, chunks); reset none
  deriving DecidableEq, Repr

/-- An entry of a Breakwater table (R381). -/
structure BwEntry where
  group : Nat                          -- R381 row >> 6
  req   : Nat                          -- R380 requester
  count : Nat                          -- R381
  deriving DecidableEq, Repr

/-- A cap of R382. -/
structure BwCap where
  bank    : Nat
  req     : Nat
  windows : Nat                        -- R382 windows still to come after the current one
  deriving DecidableEq, Repr

/-- Why a channel gathers training data (R375). -/
inductive SweepFor where
  | unit                               -- R372 a BG2 unit
  | request                            -- R391 a calibration request
  | retrain                            -- R374 step 3
  deriving DecidableEq, Repr

/-- A re-centre or a full sweep of a channel (R371, R372). -/
structure Sweep where
  why  : SweepFor
  full : Bool
  deriving DecidableEq, Repr

/-- A frequency change (R374, R375). -/
inductive FreqChange where
  | held (target : Nat)                -- R375
  | wanted (target : Nat)              -- R374 waits for its queue to empty
  | switching (target : Nat)           -- R374 step 2
  | retraining (target : Nat)          -- R374 step 3
  deriving DecidableEq, Repr

/-- One DRAM channel (R365 to R394). -/
structure Channel where
  state    : Nat := 0                  -- R394 STATE; 2 bits; no reset value given: 0 ABSENT until trained
  cause    : Nat := 0                  -- R394 CAUSE; 3 bits; reset 0
  fails    : Bool := false             -- R388 failed in service, absent from the next scene cut; reset no
  density  : Nat := 0                  -- R366 density found, as in R393; 2 bits; 0 until trained
  owed     : Int := 0                  -- R394 OWED; s4; reset 0
  target   : Nat := 0                  -- R376 next bank of the round robin; 5 bits; reset 0 (log entry 4)
  mr4      : Nat := 0                  -- R394 MR4_RATE; 3 bits; 0 until trained
  mr4Miss  : Nat := 0                  -- R388 consecutive MR4 reads without response; reset 0
  setH     : List Nat := [0, 0, 0, 0]  -- R394 SET_H; 7 bits each; 0 until trained
  setL     : List Nat := [0, 0, 0, 0]  -- R394 SET_L; 7 bits each; 0 until trained
  eyeMin   : Nat := 0                  -- R394 EYE_MIN; 7 bits; 0 until trained
  corrected : Nat := 0                 -- R394 CORRECTED; 32 bits; reset 0
  uncorr   : Nat := 0                  -- R394 UNCORRECTABLE; 32 bits; reset 0
  badLines : List (Nat × Nat) := []    -- R388 distinct lines with uncorrectable errors: (line, timebase cycle); reset none
  fsp      : Nat := 1                  -- R373 0 FSP_H, 1 FSP_L; reset 1: in force until the FSP_H sweep of start-up has completed
  rfmNeed  : Bool := false             -- R370 MR27: refresh management is needed; no until trained
  lastReq  : Nat := 0                  -- R383 timebase cycle from which its queue has been empty; reset 0
  change   : Option FreqChange := none -- R374 the frequency change in progress or held; reset none
  sweep    : Option Sweep := none      -- R375 what gathers training data; reset none
  sweepNext : Option Sweep := none     -- R375 a sweep that waits for a frequency change; reset none
  banks    : List (List BwEntry) := List.replicate 32 []  -- R381 tables of four entries, per bank (and rank); reset empty
  caps     : List BwCap := []          -- R382 caps in force; reset none
  acts     : List (Nat × Nat × Nat) := []  -- R382 activations in the current window: (bank, requester, count); reset none
  rfm      : Nat := 0                  -- R382 RFM commands issued; reset 0
  deriving DecidableEq, Repr

/-- The memory controller (R365 to R394). -/
structure Dram where
  channels   : List Channel := List.replicate 16 {}  -- DC0 to DC15
  density    : Nat := 0                -- R366 density at which every channel is used, found at training; 2 bits; 0 until trained
  bwWindow   : Nat := 0                -- R381 number of the 16,000 ns window whose tables stand; reset 0
  mismatch   : Bool := false           -- R393 DENSITY_MISMATCH; 1 bit; reset 0
  limited    : Bool := false           -- R393 MODE_LIMITED; 1 bit; reset 0
  refused    : Bool := false           -- R393 MODE_REFUSED; 1 bit; reset 0
  failed     : Bool := false           -- R393 CHANNEL_FAILED; 1 bit; reset 0
  breakwater : Bool := false           -- R393 BREAKWATER; 1 bit; reset 0
  scrubCh    : Nat := 0                -- R386 channel of the next scrub unit; 4 bits; reset 0
  scrubMib   : Nat := 0                -- R386 data MiB of the next scrub unit; 12 bits; reset 0
  passes     : Nat := 0                -- R393 SCRUB_PASSES; 16 bits; reset 0
  recalNext  : Nat := 0                -- R372 channel of the next BG2 unit; 4 bits; reset 0
  cal        : Option (Nat × Nat × Nat × Nat × Nat × Nat) := none  -- R391 calibration that runs: (slot, TAG, field, channels still running, passed, failed); reset none
  replay     : Stripe := {}            -- R165 where the replay store lies; reset none, placed at start
  lists      : Stripe := {}            -- R165, R247 where the Skim lists lie; reset none, placed at start
  maps       : Stripe := {}            -- R165, R201 where a correction map buffer lies; reset none, placed at start
  target     : Nat := 0                -- R384, R375 set-point wanted by the device: 0 FSP_H, 1 FSP_L; reset 0
  selfRefresh : Bool := false          -- R384 channels go to self-refresh once at FSP_L; reset no
  deriving DecidableEq, Repr

/-- A PMBus transaction sent to the core regulator (R472). -/
structure PmTxn where
  addr : Nat                           -- R472 AVS_ADDR; 7 bits
  cmd  : Nat                           -- R472 command code; 8 bits
  data : Option Nat                    -- R472 the word written; none for a read
  pec  : Bool                          -- R472 it carries PEC
  deriving DecidableEq, Repr

/-- One panel rail (R459 to R463). -/
structure Rail where
  enable   : Bool := false             -- R459 pin PANEL_ENr; 1 bit; reset low (R526)
  pg       : Bool := false             -- R459 pin PANEL_PGr as last seen; 1 bit; reset low
  fault    : Bool := false             -- R491 bit r of RAIL_FAULT_MASK; 1 bit; reset 0
  attempts : Nat := 0                  -- R463 consecutive attempts to raise it that faulted; 2 bits; reset 0
  overCur  : Nat := 0                  -- R463 consecutive rounds above ILIMIT; reset 0
  deriving DecidableEq, Repr

/-- A running rail sequence (R460, R461). -/
structure RailSeq where
  up      : Bool                       -- R460 up or R461 down
  rest    : List Nat                   -- rails still to take, in order
  wait    : Option Nat                 -- R460 the rail enabled and waiting for its power-good
  since   : Nat                        -- timebase cycle from which the running wait is counted
  whole   : Bool                       -- the device's sequence; otherwise one of a rail fault (R463)
  rails   : List Nat := []             -- R463 the rails of a fault's sequence, to be raised again
  deriving DecidableEq, Repr

/-- Power, backlight brightness, thermal management and housekeeping (R459 to R492). -/
structure Power where
  rails     : List Rail := List.replicate 8 {}  -- PANEL_EN0 to PANEL_EN7
  seqs      : List RailSeq := []       -- R460, R461, R463 sequences that run; reset none
  railSeq   : Nat := 0                 -- R491 RAIL_SEQ; 2 bits; reset 0
  retry     : List (Nat × List Nat) := []  -- R463 rails to raise again: (timebase cycle at which their down sequence completed, rails); reset none
  railFault : Bool := false            -- R491 RAIL_FAULT; 1 bit; reset 0
  codes     : List (Nat × Bool) := List.replicate 64 (0, false)  -- R492 code and VALID per channel; 12 + 1 bits; reset 0
  nodes     : List Int := List.replicate 12 0  -- R480 T of N0 to N11, s16.8 degrees; 24 bits each; no reset value given (set in the first round)
  nodesSet  : Bool := false            -- R481 the nodes have been set in the first round; reset no
  diodes    : List (Option Int) := [none, none, none, none]  -- R491 DIODE0 to DIODE3, s8.8; none while invalid; reset invalid
  diodeVal  : List Int := [0, 0, 0, 0] -- R491 latest readings of the diodes; s8.8; no reset value given (log entry 4)
  ntcs      : List (Option Int) := [none, none, none, none]  -- R491 NTC_BOARD, NTC_FASCIA, NTC_BL, NTC_AMB; none while invalid; reset invalid
  ntcVal    : List Int := [0, 0, 0, 0] -- R491 latest readings of the NTCs; s8.8; no reset value given (log entry 4)
  plThermal : Nat := 48                -- R491 PL_THERMAL; 6 bits; reset 48
  hot       : Nat := 0                 -- R483 consecutive rounds at or above 105; reset 0
  cool      : Nat := 0                 -- R483 consecutive rounds at or below 100; reset 0
  forced    : Bool := false            -- R491 FORCED_FLOOR; 1 bit; reset 0
  blStep    : Nat := 0                 -- R491 BL_STEP; 3 bits; reset 0
  blHot     : Nat := 0                 -- R471 consecutive rounds at or above BL_T_STEP; reset 0
  blCool    : Nat := 0                 -- R471 consecutive rounds at or below BL_T_STEP - BL_T_HYST; reset 0
  bright    : Int := 0                 -- R491 BRIGHT; 10 bits; reset 0
  ilimOut   : Nat := 0                 -- R491 ILIM_OUT; 10 bits; reset 0
  vcore     : Nat := 750               -- R491 VCORE_MV; 10 bits; reset 750 (R530)
  margin    : Nat := 0                 -- R491 MARGIN; 16 bits; no reset value given (log entry 4)
  avsWrite  : Option Nat := none       -- R473 timebase cycle of the last VOUT_COMMAND; reset none
  avsAbove  : Nat := 0                 -- R473 consecutive rounds above the high threshold; reset 0
  avsOff    : Nat := 0                 -- R474 consecutive rounds with READ_VOUT more than 20 mV away; reset 0
  avsFail   : Bool := false            -- R474 the fault condition lasts; reset no
  avsFault  : Bool := false            -- R491 AVS_FAULT; 1 bit; reset 0
  supplyBad : List Nat := List.replicate 12 0  -- R476 consecutive rounds outside 6 %; reset 0
  supplyWarn : Bool := false           -- R491 SUPPLY_WARN; 1 bit; reset 0
  sensorFault : Bool := false          -- R491 SENSOR_FAULT; 1 bit; reset 0
  totalMw   : Nat := 0                 -- R491 TOTAL_MW; 16 bits; no reset value given (log entry 4)
  thermN    : Bool := true             -- R485 pin THERM_N; 1 bit; reset high (R526)
  converting : Bool := false           -- R475 a round is converting; reset no
  roundNs   : Nat := 0                 -- R347 local ns at which the running round started; 64 bits; reset 0
  avsCode   : Option Nat := none       -- R472 the last code written with VOUT_COMMAND; 16 bits; reset none
  avsDue    : Option Nat := none       -- R473 timebase cycle from which the write of a new set-point is allowed, while it waits; reset none
  avsOwed   : Bool := false            -- R474 a VOUT_COMMAND that failed is still to be written; reset no
  voutExp   : Option Nat := none       -- R472 -N of the regulator's VOUT_MODE, 8 to 16; reset none (not read)
  pmSent    : List PmTxn := []         -- R472, R474 the PMBus transactions since the last round began to end, oldest first; reset none
  deriving DecidableEq, Repr

/-- A host image slot of the fascia (R502). -/
structure FasciaSlot where
  image : Option (List Byte) := none   -- R502 the image; 20 bytes; reset empty
  high  : Option Nat := none           -- R502 HIGH_SEQ; 32 bits; reset none
  slot  : Nat := 0                     -- session of the FASCIA_IMAGE that filled it
  tag   : Nat := 0                     -- its TAG while the command is outstanding; 0 once it has completed
  deriving DecidableEq, Repr

/-- How far an update of the fascia is (R496, R498, R499). -/
inductive FasciaStage where
  | mark                               -- R498 step 1: the opening transaction is being written
  | frames                             -- R496
  | closing                            -- R498 the end frame is complete, the closing transaction waits or is being written
  deriving DecidableEq, Repr

/-- An update of the fascia (R496 to R500). -/
structure FasciaUpdate where
  image    : List Byte                 -- R496 I; 20 bytes
  stage    : FasciaStage
  source   : Nat                       -- R506 SOURCE; 2 bits
  seq      : Nat                       -- R506 DRAWN_SEQ; 32 bits
  done     : Option (Nat × Nat × Nat)  -- R503 host image to complete: (priority, slot, TAG)
  band     : Nat                       -- R497 latched band; 3 bits
  reset    : Nat                       -- R497 latched T_RESET; 16 bits
  prep     : Nat                       -- R497 latched T_PREP; 16 bits
  select   : Nat                       -- R497 latched T_SELECT; 16 bits
  evol     : Nat                       -- R497 latched T_EVOL; 16 bits
  commons  : Nat                       -- R497 latched COMMONS; 3 bits
  segments : Nat                       -- R497 latched SEGMENTS; 6 bits
  range    : Int × Int                 -- R497, R499 TMIN and TMAX7 as latched, s8.8
  frame    : Nat                       -- R494 frame index
  shown    : Bool                      -- R498 its first frame has been shifted
  boundary : Nat                       -- R495, R498 the whole millisecond of its present frame, or that of its COMMIT before the first
  frameCyc : Nat                       -- R495 timebase cycle at which its present frame started
  phase    : Nat                       -- R506 PHASE of its present frame: 0 reset, 1 preparation, 2 selection, 3 evolution, 4 end; 5 after the end frame
  left     : Nat                       -- frames left in the phase, the present one included
  abort    : Bool                      -- R499 the update is being cut short
  resetLeft : Bool                     -- R499 the reset phase of the abort is still to come
  restore  : Bool                      -- R500 a restore of LAST_IMAGE
  deriving DecidableEq, Repr

/-- The fascia port (R493 to R506). -/
structure Fascia where
  inProgress : Bool := false           -- R506 IN_PROGRESS; 1 bit; reset 0 (stored value at start)
  last       : List Byte := List.replicate 20 0  -- R506 LAST_IMAGE; 20 bytes; reset 0 (stored value at start)
  slots      : List FasciaSlot := List.replicate 4 {}  -- R502 slots 0 to 3; reset empty
  update     : Option FasciaUpdate := none  -- R498 the update that runs; reset none
  restoreDue : Bool := false           -- R500 the first update is a restore; reset from FasciaLast
  aborted    : Bool := false           -- R506 ABORTED; 1 bit; reset 0
  restored   : Bool := false           -- R506 RESTORED; 1 bit; reset 0
  bits       : List Nat := []          -- R494 the 89 bits of the last frame shifted; reset none
  foe        : Bool := false           -- R493, R495 FOE is raised by the update that runs; 1 bit; reset low
  deriving DecidableEq, Repr

end Sys2Proof.Machine
end

