-- ==== Sys2Proof/Machine/State.lean ====
section
/-! DEFINITION. The state of the block, the reasons a step can stop, the canonical form of its byte buffers and the state
after reset. -/

namespace Sys2Proof.Machine

/-- Why a step stops with a fault. -/
inductive Fault where
  /-- Raised by no meaning: the manual gives every row an effect, and an event whose condition does not hold changes
  nothing but the time (log entry 3). Safe: it never occurs. -/
  | none
  deriving DecidableEq, Repr

/-- Why a step is refused. -/
inductive Refusal where
  /-- Raised by the arms of Dispatch for a row that has no meaning yet. Safe: the step stops. -/
  | notModelled (mnemonic : String)
  deriving DecidableEq, Repr

/-- The state of the block: everything the manual gives it, and the queue of commands that wait (R1 to R537). -/
structure State where
  time     : TimeUnit := {}            -- R332 to R348
  gw       : Gangway := {}             -- R395 to R426
  cfg      : Settings := {}            -- R21 to R31
  mram     : Mram := {}                -- R427 to R436
  nvm      : Nvm := {}                 -- R437 to R458
  start    : Startup := {}             -- R516 to R525, R453 to R456
  wake     : Wake := {}                -- R510 to R515
  obs      : Observe := {}             -- R507 to R509
  ingest   : Ingest := {}              -- R100 to R128
  codec    : Codec := {}               -- R129 to R151
  harbour  : Harbour := {}             -- R152 to R190
  optics   : Optics := {}              -- R191 to R213
  synth    : Synth := {}               -- R214 to R243
  skim     : Skim := {}                -- R244 to R262
  scan     : Scanout := {}             -- R263 to R297
  ports    : List Port := List.replicate 16 {}      -- R298 to R313
  bb       : List Backbone := List.replicate 2 {}   -- R314 to R319
  bridge   : Bridge := {}              -- R323 to R331
  group    : Group := {}               -- R349 to R359
  dram     : Dram := {}                -- R365 to R394
  power    : Power := {}               -- R459 to R492
  fascia   : Fascia := {}              -- R493 to R506
  pending  : List Instr := []          -- the commands that wait, first in, first out; reset empty
  deriving DecidableEq, Repr

/-- The canonical form of a byte buffer: addresses strictly rising, and no entry equal to what an unlisted address
reads as, where that is a fixed byte (R245, R247; staging and slots have none: R201, R427). -/
abbrev Memory.wf (dflt : Option Byte) (m : List Host.Cell) : Prop :=
  m.Pairwise (fun a b => a.1 < b.1) ∧ ∀ c ∈ m, dflt ≠ some c.2

/-- The canonical form of every byte buffer of the state: surfaces, Skim lists, the two correction map buffers and the
two firmware slots (R245, R247, R201, R427). -/
def State.buffersWf (s : State) : Prop :=
  (∀ p ∈ s.skim.surfaces, Memory.wf (some 0) p.2.bytes ∧ ∀ w ∈ p.2.older, Memory.wf (some 0) w.before) ∧
  (∀ p ∈ s.skim.lists, Memory.wf (some 0) p.2) ∧
  Memory.wf none s.optics.staging ∧
  Memory.wf none s.mram.slotA.bytes ∧ Memory.wf none s.mram.slotB.bytes

/-- The machine in reset (R516, R518, R526): every field at the value its declaration names. The first event that moves
it is RESET_RELEASE. -/
def State.reset : State := {}

end Sys2Proof.Machine
end

