-- ==== Sys2Proof/Machine/Objects.lean ====
section
/-! DEFINITION. The settings objects: their words, what of each word a host may write and what STORE keeps, their Reset
values (R21 to R24), and the names of their fields. -/

namespace Sys2Proof.Machine

/-- One word of a settings object's field map (R21, R22). -/
structure WordDef where
  reset  : Nat                         -- Reset value
  rw     : Nat                         -- bits of RW and RWS fields; the others are reserved or RO
  stored : Nat                         -- bits of RWS fields

/-- A word whose writable bits are all RWS. -/
def rws (reset mask : Nat) : WordDef := { reset := reset, rw := mask, stored := mask }

/-- Whether 65,472 × E(i / 1,024) is at least y - 1/2 (R270), decided exactly: E is linear up to 0.0031308, and above it
((y - 1/2) / 65,472 + 0.055) / 1.055 is compared with x^(5/12) through their twelfth powers. -/
def gammaAtLeast (i y : Nat) : Bool :=
  if y = 0 then true
  else if i ≤ 3 then
    -- i / 1024 is at most 0.0031308 for i up to 3: 65472 × 12.92 × i / 1024 against y - 1/2
    decide ((2 * y - 1) * 102400 ≤ 2 * 65472 * 1292 * i)
  else
    -- ((2 y - 1) + 0.11 × 65472) / (2 × 1.055 × 65472), over 1000
    let a := 1000 * (2 * y - 1) + 110 * 65472
    let b := 2110 * 65472
    decide (a ^ 12 * 1024 ^ 5 ≤ i ^ 5 * b ^ 12)

/-- The largest y for which `gammaAtLeast` holds, found bit by bit. -/
def gammaSearch (i : Nat) : Nat → Nat → Nat
  | 0, y => y
  | k + 1, y => gammaSearch i k (if gammaAtLeast i (y + 2 ^ k) then y + 2 ^ k else y)

/-- R270: the Reset value of entry `i` of GammaR, GammaG and GammaB. -/
def gammaReset (i : Nat) : Nat := gammaSearch i 16 0

/-- R490: the Reset values of NtcTable: (CODE, degrees). -/
def ntcReset : List (Nat × Int) :=
  [(3937, -40), (3814, -30), (3628, -20), (3368, -10), (3038, 0), (2654, 10), (2249, 20), (1854, 30), (1497, 40),
   (1191, 50), (941, 60), (741, 70), (584, 80), (462, 90), (368, 100), (295, 110), (215, 125)]

/-- R505: the Reset values of FasciaWaveform: (TMAX, T_RESET, T_PREP, T_SELECT, T_EVOL). -/
def waveReset : List (Int × Nat × Nat × Nat × Nat) :=
  [(-10, 400, 300, 120, 600), (0, 250, 200, 80, 400), (10, 150, 120, 50, 250), (20, 100, 80, 30, 160),
   (30, 80, 60, 20, 120), (40, 60, 50, 15, 100), (50, 50, 40, 12, 80), (60, 40, 30, 10, 60)]

/-- A whole word. -/
def fullMask : Nat := 0xFFFFFFFF

/-- The words of MooringConfig (R111). -/
def mooringWords : List WordDef :=
  [rws (2 * 4 + 1 * 16 + 4 * 256 + 2048 + 3 * 4096) 0xFFFF, rws (400 + 1000 * 65536) fullMask, rws 0 fullMask,
   rws (16 * 256 + 8 * 65536) 0xFFFF3F]

/-- The words of FasciaWaveform (R505). -/
def waveWords : List WordDef :=
  rws (wrap (-20 * 256) 16) 0xFFFF ::
  waveReset.flatMap (fun e => [rws (wrap (e.1 * 256) 16 + e.2.1 * 65536) fullMask,
    rws (e.2.2.1 + e.2.2.2.1 * 65536) fullMask, rws e.2.2.2.2 0xFFFF])

/-- R21, R22: the field map of a settings object as words, by its ID; none where no settings object has the ID. -/
def objWords (id : Nat) : Option (List WordDef) :=
  if 0x1400 ≤ id ∧ id < 0x1800 then some mooringWords                                   -- R111 MooringConfig
  else if 0x1900 ≤ id ∧ id < 0x1910 then some [rws 0 0x7FF, rws 64 0xFFFF]              -- R320 PanelLinkConfig
  else if id = 0x1910 ∨ id = 0x1911 then some [rws 3 0xFF, rws 20 0xFFFF]               -- R322 BackboneLaneConfig
  else if id = 0x1A10 ∨ id = 0x1A11 then                                                -- R361 GateControl
    some ([rws 0 0xFF, rws 1000000 fullMask, rws 0 fullMask, rws 0 fullMask] ++ List.replicate 64 (rws 0 fullMask))
  else if 0x1B10 ≤ id ∧ id < 0x1B14 then                                                -- R362 TriggerConfig
    some [rws 65536 0xFFFF0003, rws 0 fullMask, rws 1000 fullMask, rws 0 fullMask, rws 0 fullMask, rws 0 fullMask]
  else match id with
    | 0x1000 => some [rws (47602 + 3 * 65536) 0x3FFFF, rws 50 0xFFFF]                   -- R422 GangwayConfig
    | 0x1100 => some (rws (47600 + 5 * 65536) 0x7FFFF :: List.replicate 8 (rws 0 fullMask))  -- R113 IngestConfig
    | 0x1200 => some [rws (3 + 20 * 16) 0x1FF]                                          -- R150 CodecConfig
    | 0x1300 => some [rws (3 * 256) 0x77F, rws (1024 + 50 * 65536) fullMask, rws 20 0xFF]  -- R188 ServiceConfig
    | 0x1800 => some (rws 0x100 0x3FF :: rws 0 fullMask :: List.replicate 16 (rws 0 0xFFFFFF))  -- R293 ScanoutConfig
    | 0x1801 | 0x1802 | 0x1803 =>                                                       -- R294 GammaR, GammaG, GammaB
      some ((List.range 512).map (fun w => rws (gammaReset (2 * w) + gammaReset (2 * w + 1) * 65536) fullMask)
        ++ [rws 65472 0xFFFF])
    | 0x1804 => some ([rws 0 0x3F, rws 0 0x7FF0FFF, rws 0 0xFF03FF] ++ List.replicate 8 (rws 0 fullMask))  -- R295
    | 0x1805 => some (List.replicate 24576 (rws 0 fullMask))                            -- R295 LanternImage
    | 0x1820 => some [rws 0 fullMask, rws 0 fullMask, rws 0x2000 fullMask, rws 0x2000 fullMask, rws 0 fullMask,
        rws 0 fullMask, rws 65536 fullMask, rws 0 1]                                    -- R210 PanelOptics
    | 0x1821 => some (List.replicate 128 (rws 0 fullMask))                              -- R211 PanelViewAngles
    | 0x1822 => some (List.replicate 4 (rws 0 fullMask))                                -- R211 PanelFieldAngles
    | 0x1823 => some (List.replicate 12 (rws 0 fullMask))                               -- R211 PanelCalib
    | 0x1824 => some (rws 1 0xF :: List.replicate 16 (rws 0 fullMask) ++
        rws 0xC 0xFFFFFF0F :: List.replicate 7 (rws 0 0xFFFFFF0F))                      -- R212 FanConfig
    | 0x1A00 => some [rws 0 fullMask, rws (16 + 256 + 0x100000) 0xFFFFFF3F, rws 0 fullMask, rws (6 + 6 * 8 + 64 + 128) 0xFF,
        rws 0xFAC688 0xFFFFFF]                                                          -- R360 BridgeConfig
    | 0x1A01 => some (rws 2 0xFFFFFFFE :: List.replicate 126 (rws 0 fullMask) ++ [rws 0 0x7FFFFFFF])  -- R361 VlanTable
    | 0x1B00 => some [rws 256 0x1FFFF, rws 2000 0xFFFF, rws 0 fullMask, rws 0 fullMask, rws 0 0x1FF]  -- R362 TimeConfig
    | 0x1C00 => some [rws (16 + 256 + 47601 * 65536) 0xFFFFFF1F, rws 0 fullMask, rws 250 0xFFFF]      -- R363 GroupConfig
    | 0x1D00 => some [rws 0x111111 0xFFFFFF, rws 0x222222 0xFFFFFF, rws 0x444444 0xFFFFFF, rws 0x888888 0xFFFFFF,
        rws (3 + 48 * 256 + 8 * 65536 + 4 * 0x1000000) 0xFFFFF03, rws (100 + 20 * 65536) fullMask]    -- R392 MemoryConfig
    | 0x1E00 => some (rws (50 * 256) 0xFFFF :: (List.range 8).flatMap (fun _ =>
        [rws 0 0x3FFFFF, rws (0xFFF * 65536) 0xFFFFFFF]))                               -- R487 RailProfile
    | 0x1E10 => some (rws (40 * 256 + 0xF00000) 0xFFFFFF ::
        (List.range 16).flatMap (fun z => [rws (2 ^ z) 0xFFFF, rws (2047 * 65536) 0x7FF07FF]) ++
        (List.range 8).map (fun k => rws (512 * k + 1023 * 65536) 0x3FF0FFF) ++
        [rws (4 + 1023 * 65536) 0x3FF07FF, rws (80 + 5 * 256) 0xFFFF])                  -- R488 BacklightConfig
    | 0x1E20 => some [rws (48 + 64 + 0x40 * 256) 0x7FFF, rws 800 0x3FF]                 -- R489 PowerConfig
    | 0x1E30 => some [rws 10000 fullMask, rws 2000 fullMask, rws 500000 fullMask, rws 300 fullMask]   -- R489 ThermalConfig
    | 0x1E31 => some (ntcReset.map (fun e => rws (e.1 + wrap (e.2 * 256) 16 * 65536) 0xFFFF0FFF))     -- R490 NtcTable
    | 0x1F00 => some (rws (2 + 40 * 16) 0x3FFF :: List.replicate 20 (rws 0 fullMask))   -- R504 FasciaConfig
    | 0x1F01 => some waveWords                                                          -- R505 FasciaWaveform
    | 0x1F02 => some ({ reset := 0, rw := 0, stored := 1 } ::
        List.replicate 5 { reset := 0, rw := 0, stored := fullMask })                   -- R506 FasciaLast
    | 0x1F80 => some [rws (0x7F + 3 * 256) 0x1FFF, { reset := 0, rw := fullMask, stored := 0 },
        { reset := 0, rw := 0xFFFF, stored := 0 }]                                      -- R515 WakeConfig
    | _ => none

/-- The IDs of every settings object, ascending. -/
def objIds : List Nat :=
  [0x1000, 0x1100, 0x1200, 0x1300] ++ (List.range 1024).map (0x1400 + ·) ++
  [0x1800, 0x1801, 0x1802, 0x1803, 0x1804, 0x1805, 0x1820, 0x1821, 0x1822, 0x1823, 0x1824] ++
  (List.range 16).map (0x1900 + ·) ++ [0x1910, 0x1911, 0x1A00, 0x1A01, 0x1A10, 0x1A11, 0x1B00] ++
  (List.range 4).map (0x1B10 + ·) ++ [0x1C00, 0x1D00, 0x1E00, 0x1E10, 0x1E20, 0x1E30, 0x1E31, 0x1F00, 0x1F01, 0x1F02, 0x1F80]

/-- R191, R320, R363, R422, R487, R488, R489, R505: the protected objects, whose STORE needs P1. -/
def protectedObj (id : Nat) : Bool :=
  (decide (0x1900 ≤ id ∧ id < 0x1910)) ||
  [0x1000, 0x1820, 0x1821, 0x1822, 0x1C00, 0x1E00, 0x1E10, 0x1E30, 0x1F01].contains id

/-- R23: the Reset words of an object. -/
def resetWords (id : Nat) : List Word := ((objWords id).getD []).map (fun w => BitVec.ofNat 32 w.reset)

/-- R24, R22: whether a word sets a bit that no host may write. -/
def badBits : List WordDef → List Word → Bool
  | d :: ds, w :: ws => decide (w.toNat &&& d.rw ≠ w.toNat) || badBits ds ws
  | _, _ => false

/-! ## Fields by name -/

/-- Where a field lies: object ID, word index, lowest bit and width (R21). -/
structure Fld where
  obj  : Nat
  word : Nat
  lo   : Nat
  w    : Nat

/-- The value of a field in the words of an object. -/
def fieldOf (ws : List Word) (word lo w : Nat) : Nat := bits (nth ws word 0).toNat lo w

/-- The value of a field in the words of its object. -/
def Fld.of (f : Fld) (ws : List Word) : Nat := fieldOf ws f.word f.lo f.w

/-- The words of a settings object in a table; a missing object holds its Reset words. -/
def objIn (t : Tab (List Word)) (id : Nat) : List Word :=
  match Tab.get? t id with
  | some ws => ws
  | none => resetWords id

/-- The working copy of an object (R437). -/
def State.obj (s : State) (id : Nat) : List Word := objIn s.cfg.work id

/-- A field of a working copy. -/
def State.get (s : State) (f : Fld) : Nat := fieldOf (s.obj f.obj) f.word f.lo f.w

/-- A field of the `i`th instance of an object. -/
def State.getI (s : State) (f : Fld) (i : Nat) : Nat := fieldOf (s.obj (f.obj + i)) f.word f.lo f.w

/-- A field as sampled at the last scene cut (R31). -/
def State.cutv (s : State) (f : Fld) : Nat := fieldOf (objIn s.cfg.cut f.obj) f.word f.lo f.w

/-- A field of the `i`th instance of an object as sampled at the last scene cut (R31). -/
def State.cutI (s : State) (f : Fld) (i : Nat) : Nat := fieldOf (objIn s.cfg.cut (f.obj + i)) f.word f.lo f.w

/-- A field of PowerConfig, ThermalConfig or NtcTable in force since the end of a round (R31). -/
def State.roundv (s : State) (f : Fld) : Nat := fieldOf (objIn s.cfg.round f.obj) f.word f.lo f.w

/-- A field of BacklightConfig as fixed at the last commit latch (R469). -/
def State.latchv (s : State) (f : Fld) : Nat :=
  fieldOf (if s.cfg.latchBl = [] then resetWords 0x1E10 else s.cfg.latchBl) f.word f.lo f.w

/-- A field of MemoryConfig in force since the last field tick (R392). -/
def State.memv (s : State) (f : Fld) : Nat :=
  fieldOf (if s.cfg.tickMem = [] then resetWords 0x1D00 else s.cfg.tickMem) f.word f.lo f.w

namespace F

-- R422 GangwayConfig
def GANGWAY_PORT : Fld := ⟨0x1000, 0, 0, 16⟩
def UDP_EN : Fld := ⟨0x1000, 0, 16, 1⟩
def SPI_EN : Fld := ⟨0x1000, 0, 17, 1⟩
def EVENT_RESEND_MS : Fld := ⟨0x1000, 1, 0, 16⟩
-- R113 IngestConfig
def SCENE_PORT : Fld := ⟨0x1100, 0, 0, 16⟩
def NACK_TC : Fld := ⟨0x1100, 0, 16, 3⟩
def MCAST_GROUP (k : Nat) : Fld := ⟨0x1100, 1 + k, 0, 32⟩
-- R150 CodecConfig
def COMP_LEVEL : Fld := ⟨0x1200, 0, 0, 4⟩
def COMP_WINDOW_LOG : Fld := ⟨0x1200, 0, 4, 5⟩
-- R188 ServiceConfig
def SERVICE_MODE : Fld := ⟨0x1300, 0, 0, 3⟩
def PROFILE : Fld := ⟨0x1300, 0, 3, 1⟩
def MIN_STEP : Fld := ⟨0x1300, 0, 4, 3⟩
def SMOOTH_SHIFT : Fld := ⟨0x1300, 0, 8, 3⟩
def RESTORE_FRAMES : Fld := ⟨0x1300, 1, 0, 16⟩
def SWIFT_COLLAPSE_M : Fld := ⟨0x1300, 1, 16, 16⟩
def LATE_MARGIN : Fld := ⟨0x1300, 2, 0, 8⟩
-- R111 MooringConfig, instance n
def M_ENABLE : Fld := ⟨0x1400, 0, 0, 1⟩
def M_LIBRARY : Fld := ⟨0x1400, 0, 1, 1⟩
def M_PRIORITY : Fld := ⟨0x1400, 0, 2, 2⟩
def M_CONCEAL_TICKS : Fld := ⟨0x1400, 0, 4, 4⟩
def M_PENDING_MAX : Fld := ⟨0x1400, 0, 8, 3⟩
def M_NACK_EN : Fld := ⟨0x1400, 0, 11, 1⟩
def M_NACK_TRIES : Fld := ⟨0x1400, 0, 12, 4⟩
def M_NACK_DELAY : Fld := ⟨0x1400, 1, 0, 16⟩
def M_NACK_INTERVAL : Fld := ⟨0x1400, 1, 16, 16⟩
def M_SOURCE_ADDR : Fld := ⟨0x1400, 2, 0, 32⟩
def M_SOURCE_PREFIX : Fld := ⟨0x1400, 3, 0, 6⟩
def M_RX_RESERVE : Fld := ⟨0x1400, 3, 8, 8⟩
def M_TILE_RESERVE : Fld := ⟨0x1400, 3, 16, 8⟩
-- R293 ScanoutConfig
def PANEL_MODE : Fld := ⟨0x1800, 0, 0, 8⟩
def PANEL_PACED : Fld := ⟨0x1800, 0, 9, 1⟩
def TE_DELAY : Fld := ⟨0x1800, 1, 0, 32⟩
-- R295 LanternConfig
def LN_ENABLE : Fld := ⟨0x1804, 0, 0, 1⟩
def LN_IN_SERVICE : Fld := ⟨0x1804, 0, 1, 1⟩
def LN_SECTOR : Fld := ⟨0x1804, 0, 2, 4⟩
def LN_X0 : Fld := ⟨0x1804, 1, 0, 12⟩
def LN_Y0 : Fld := ⟨0x1804, 1, 16, 11⟩
def LN_W_M1 : Fld := ⟨0x1804, 2, 0, 10⟩
def LN_H_M1 : Fld := ⟨0x1804, 2, 16, 8⟩
-- R320 PanelLinkConfig, instance p
def INIT_PRESET : Fld := ⟨0x1900, 0, 0, 4⟩
def PRESET_LOCK : Fld := ⟨0x1900, 0, 10, 1⟩
def LANE_REVERSE : Fld := ⟨0x1900, 0, 4, 1⟩
def POLARITY : Fld := ⟨0x1900, 0, 5, 4⟩
def SSC_EN : Fld := ⟨0x1900, 0, 9, 1⟩
def ERR_LIMIT : Fld := ⟨0x1900, 1, 0, 16⟩
-- R322 BackboneLaneConfig, instance b
def BB_ENABLE : Fld := ⟨0x1910, 0, 0, 1⟩
def BB_RATE : Fld := ⟨0x1910, 0, 1, 1⟩
def BB_FEC : Fld := ⟨0x1910, 0, 2, 2⟩
def BB_EEE_TX : Fld := ⟨0x1910, 0, 4, 1⟩
def BB_EEE_RX : Fld := ⟨0x1910, 0, 5, 1⟩
def BB_LPI_ENTRY : Fld := ⟨0x1910, 1, 0, 16⟩
-- R360 BridgeConfig
def DEV_IP : Fld := ⟨0x1A00, 0, 0, 32⟩
def PREFIX_LEN : Fld := ⟨0x1A00, 1, 0, 6⟩
def DEV_VID : Fld := ⟨0x1A00, 1, 8, 12⟩
def PVID : Fld := ⟨0x1A00, 1, 20, 12⟩
def GATEWAY : Fld := ⟨0x1A00, 2, 0, 32⟩
def CMD_TC : Fld := ⟨0x1A00, 3, 0, 3⟩
def GROUP_TC : Fld := ⟨0x1A00, 3, 3, 3⟩
def CUT_THROUGH : Fld := ⟨0x1A00, 3, 6, 1⟩
def LEARN : Fld := ⟨0x1A00, 3, 7, 1⟩
def PCP_MAP (p : Nat) : Fld := ⟨0x1A00, 4, 3 * p, 3⟩
def VLAN_MEMBER (vid : Nat) : Fld := ⟨0x1A01, vid / 32, vid % 32, 1⟩
-- R362 TimeConfig
def DOMAIN0 : Fld := ⟨0x1B00, 0, 0, 8⟩
def DOMAIN1 : Fld := ⟨0x1B00, 0, 8, 8⟩
def PREFERRED : Fld := ⟨0x1B00, 0, 16, 1⟩
def ACQUIRE_TIMEOUT_MS : Fld := ⟨0x1B00, 1, 0, 16⟩
def INGRESS_LAT (b : Nat) : Fld := ⟨0x1B00, 2 + b, 0, 16⟩
def EGRESS_LAT (b : Nat) : Fld := ⟨0x1B00, 2 + b, 16, 16⟩
def EVT_EN : Fld := ⟨0x1B00, 4, 0, 4⟩
def EVT_FALLING : Fld := ⟨0x1B00, 4, 4, 4⟩
def CAPTURE_EVENTS : Fld := ⟨0x1B00, 4, 8, 1⟩
-- R363 GroupConfig
def GROUP_EN : Fld := ⟨0x1C00, 0, 0, 1⟩
def RANK : Fld := ⟨0x1C00, 0, 1, 3⟩
def REPAIR_EN : Fld := ⟨0x1C00, 0, 4, 1⟩
def GROUP_ID : Fld := ⟨0x1C00, 0, 8, 8⟩
def GROUP_PORT : Fld := ⟨0x1C00, 0, 16, 16⟩
def GROUP_MCAST : Fld := ⟨0x1C00, 1, 0, 32⟩
def COMMIT_GUARD : Fld := ⟨0x1C00, 2, 0, 16⟩
-- R392 MemoryConfig
def PD_EN : Fld := ⟨0x1D00, 4, 0, 1⟩
def SR_EN : Fld := ⟨0x1D00, 4, 1, 1⟩
def PD_IDLE_NS : Fld := ⟨0x1D00, 5, 0, 16⟩
def SR_IDLE_US : Fld := ⟨0x1D00, 5, 16, 16⟩
def BW_TRIGGER : Fld := ⟨0x1D00, 4, 8, 8⟩
def BW_CAP : Fld := ⟨0x1D00, 4, 16, 8⟩
def BW_HOLD : Fld := ⟨0x1D00, 4, 24, 4⟩
-- R487 RailProfile
def RAILS_USED : Fld := ⟨0x1E00, 0, 0, 8⟩
def PG_TIMEOUT_MS : Fld := ⟨0x1E00, 0, 8, 8⟩
def RAIL_SECTORS (r : Nat) : Fld := ⟨0x1E00, 1 + 2 * r, 0, 16⟩
def UP_POS (r : Nat) : Fld := ⟨0x1E00, 1 + 2 * r, 16, 3⟩
def DOWN_POS (r : Nat) : Fld := ⟨0x1E00, 1 + 2 * r, 19, 3⟩
def UP_DELAY_MS (r : Nat) : Fld := ⟨0x1E00, 2 + 2 * r, 0, 8⟩
def DOWN_DELAY_MS (r : Nat) : Fld := ⟨0x1E00, 2 + 2 * r, 8, 8⟩
def ILIMIT (r : Nat) : Fld := ⟨0x1E00, 2 + 2 * r, 16, 12⟩
-- R488 BacklightConfig
def SETTLE : Fld := ⟨0x1E10, 0, 0, 8⟩
def DUTY : Fld := ⟨0x1E10, 0, 8, 12⟩
def LANTERN_GROUPS : Fld := ⟨0x1E10, 0, 20, 4⟩
def ZONE_SECTORS (z : Nat) : Fld := ⟨0x1E10, 1 + 2 * z, 0, 16⟩
def FIRST_LINE (z : Nat) : Fld := ⟨0x1E10, 2 + 2 * z, 0, 11⟩
def LAST_LINE (z : Nat) : Fld := ⟨0x1E10, 2 + 2 * z, 16, 11⟩
def POINT_ALS (k : Nat) : Fld := ⟨0x1E10, 33 + k, 0, 12⟩
def POINT_ILIM (k : Nat) : Fld := ⟨0x1E10, 33 + k, 16, 10⟩
def RAMP : Fld := ⟨0x1E10, 41, 0, 10⟩
def ALS_EN : Fld := ⟨0x1E10, 41, 10, 1⟩
def MANUAL_ILIM : Fld := ⟨0x1E10, 41, 16, 10⟩
def BL_T_STEP : Fld := ⟨0x1E10, 42, 0, 8⟩
def BL_T_HYST : Fld := ⟨0x1E10, 42, 8, 8⟩
-- R489 PowerConfig, ThermalConfig; R490 NtcTable
def POWER_CAP : Fld := ⟨0x1E20, 0, 0, 6⟩
def AVS_EN : Fld := ⟨0x1E20, 0, 6, 1⟩
def PEC_EN : Fld := ⟨0x1E20, 0, 7, 1⟩
def AVS_ADDR : Fld := ⟨0x1E20, 0, 8, 7⟩
def FIXED_MV : Fld := ⟨0x1E20, 1, 0, 10⟩
def G_LC : Fld := ⟨0x1E30, 0, 0, 32⟩
def G_CR : Fld := ⟨0x1E30, 1, 0, 32⟩
def C_CASE : Fld := ⟨0x1E30, 2, 0, 32⟩
def G_BOARD : Fld := ⟨0x1E30, 3, 0, 32⟩
def NTC_CODE (k : Nat) : Fld := ⟨0x1E31, k, 0, 12⟩
def NTC_TEMP (k : Nat) : Fld := ⟨0x1E31, k, 16, 16⟩
-- R504 FasciaConfig, R505 FasciaWaveform
def FA_ENABLE : Fld := ⟨0x1F00, 0, 0, 1⟩
def COMMONS : Fld := ⟨0x1F00, 0, 1, 3⟩
def SEGMENTS : Fld := ⟨0x1F00, 0, 4, 6⟩
def STATUS_EN : Fld := ⟨0x1F00, 0, 10, 4⟩
def TMIN : Fld := ⟨0x1F01, 0, 0, 16⟩
def TMAX (k : Nat) : Fld := ⟨0x1F01, 1 + 3 * k, 0, 16⟩
def T_RESET (k : Nat) : Fld := ⟨0x1F01, 1 + 3 * k, 16, 16⟩
def T_PREP (k : Nat) : Fld := ⟨0x1F01, 2 + 3 * k, 0, 16⟩
def T_SELECT (k : Nat) : Fld := ⟨0x1F01, 2 + 3 * k, 16, 16⟩
def T_EVOL (k : Nat) : Fld := ⟨0x1F01, 3 + 3 * k, 0, 16⟩
-- R515 WakeConfig
def CLASS_MASK : Fld := ⟨0x1F80, 0, 0, 8⟩
def LOG_LEVEL : Fld := ⟨0x1F80, 0, 8, 3⟩
def EXPORT_SEL : Fld := ⟨0x1F80, 0, 11, 2⟩
def COLLECTOR_IP : Fld := ⟨0x1F80, 1, 0, 32⟩
def COLLECTOR_PORT : Fld := ⟨0x1F80, 2, 0, 16⟩

end F

/-- The working copy of an object replaced. -/
def State.setObj (s : State) (id : Nat) (ws : List Word) : State :=
  { s with cfg := { s.cfg with work := Tab.put s.cfg.work id ws } }

/-- A signed field of a working copy. -/
def State.getS (s : State) (f : Fld) : Int := signed (s.get f) f.w

end Sys2Proof.Machine
end

