-- ==== Sys2Proof/Machine/Flags.lean ====
section
/-! DEFINITION. What the block records about itself: the tallies (R508, R509), the wake records (R510 to R512), and free
values. -/

namespace Sys2Proof.Machine

/-! ## Tallies (R509). A name with units: this ID is the total, and this ID + 1 + i is unit i. -/

namespace T

def LSF_DGRAM_BAD : Nat := 0x3000
def LSF_FRAMING : Nat := 0x3001
def LSF_CRC_FAIL : Nat := 0x3002
def LSF_VERSION : Nat := 0x3003
def LSF_TYPE : Nat := 0x3004
def LSF_HEADER : Nat := 0x3005
def LSF_SESSION : Nat := 0x3006
def LSF_PAYLOAD : Nat := 0x3007
def LSF_COAT_NO_STORAGE : Nat := 0x3008
def LSF_RETIRE_NONE : Nat := 0x3009
def ING_PORT : Nat := 0x300A
def ING_QUAY_DROP : Nat := 0x300B
def ING_DISABLED : Nat := 0x300C
def ING_SOURCE : Nat := 0x300D
def ING_LIBRARY_BACKBONE : Nat := 0x300E
def ING_STALE : Nat := 0x300F
def ING_AHEAD : Nat := 0x3010
def ING_DUPLICATE : Nat := 0x3011
def ING_SEQ_RESYNC : Nat := 0x3012
def ING_PENDING_FULL : Nat := 0x3013
def ING_BERTH_FULL : Nat := 0x3014
def ING_CMD_FULL : Nat := 0x3015
def ING_CONCEALED : Nat := 0x3016
def ING_ABANDONED : Nat := 0x3017
def ING_NACK_SENT : Nat := 0x3018
def CODEC_ILLEGAL_CODE : Nat := 0x3040
def CODEC_DISTANCE : Nat := 0x3041
def CODEC_LENGTH_OVERRUN : Nat := 0x3042
def CODEC_FRAME_HEADER : Nat := 0x3043
def CODEC_CHECKSUM : Nat := 0x3044
def CODEC_TRUNCATED : Nat := 0x3045
def CODEC_UNDERSIZE : Nat := 0x3046
def CODEC_VERIFY_FAILED : Nat := 0x3047
def HM_PLAN_LATE : Nat := 0x3060
def HM_OVER_PLAN : Nat := 0x3061
def HM_ESCALATED : Nat := 0x3062
def HM_REPLAY_MISSING : Nat := 0x3063
def HM_DEMOTION : Nat := 0x3064
def HM_DEMOTION_FLOOR : Nat := 0x3065
def HM_LATENCY_OVER : Nat := 0x3066
def HM_BG_PROMOTED : Nat := 0x3067
def HM_FIELD_DROPPED : Nat := 0x3068
def HM_TEST_BUSY : Nat := 0x3069
def SKIM_ENTRIES : Nat := 0x3080
def SKIM_BYTES : Nat := 0x3081
def SKIM_ECC_LINE : Nat := 0x3082
def SKIM_WAIT_MISSED : Nat := 0x3083
def SCN_COMMIT_SUPERSEDED : Nat := 0x3090
def SCN_UNDERRUN_LF : Nat := 0x3091
def SCN_UNDERRUN_OV0 : Nat := 0x3092
def SCN_UNDERRUN_OV1 : Nat := 0x3093
def SCN_MODE_SOFT : Nat := 0x3094
def SCN_MODE_HARD : Nat := 0x3095
def SCN_TE_MISSING : Nat := 0x3096
def SCN_PACE_LIMIT : Nat := 0x3097
def TRW_RAYS : Nat := 0x3100
def TRW_SAMPLES : Nat := 0x3111
def TRW_REFINES : Nat := 0x3122
def TRW_COVERED : Nat := 0x3133
def TRW_GROUT_NEIGHBOUR : Nat := 0x3144
def TRW_GROUT_BACKGROUND : Nat := 0x3155
def TRW_MISS_LINES : Nat := 0x3166
def TRW_CLOCKS : Nat := 0x3177
def TRW_TILES_REPLAYED : Nat := 0x3188
def TRW_TILES_SKIPPED : Nat := 0x3199
def TRW_ECC_LINE : Nat := 0x31AA
def LNK_RETRAIN : Nat := 0x3200
def LNK_AUX_FAIL : Nat := 0x3211
def LNK_ABSENT : Nat := 0x3222
def LNK_TRAIN_OK : Nat := 0x3233
def LNK_TEST_RUN : Nat := 0x3244
def BB_DOWN : Nat := 0x3260
def BB_ADAPT_FREEZE : Nat := 0x3263
def BRG_DISCARD : Nat := 0x3280
def BRG_VLAN_DROP : Nat := 0x3281
def BRG_STOMPED : Nat := 0x3282
def BRG_EGRESS_DROP : Nat := 0x3283
def BRG_BBI_DROP : Nat := 0x3284
def TIME_SWITCH : Nat := 0x3285
def TIME_FAULT : Nat := 0x3286
def TIME_FU_UNMATCHED : Nat := 0x3287
def TIME_CAPTURE_LOST : Nat := 0x3288
def TIME_SWITCH_HELD : Nat := 0x3289
def GRP_BAD : Nat := 0x328A
def GRP_RANK_CONFLICT : Nat := 0x328B
def GRP_MODE_MISMATCH : Nat := 0x328C
def GRP_LEAD_TAKEN : Nat := 0x328D
def GRP_DEMOTED : Nat := 0x328E
def GRP_STALE_EPOCH : Nat := 0x328F
def GRP_COMMIT_LATE : Nat := 0x3290
def GRP_REPAIR_SENT : Nat := 0x3291
def MEM_FREQ_HELD : Nat := 0x32C0
def MEM_REFRESH_FORCED : Nat := 0x32C1
def MEM_BREAKWATER : Nat := 0x32C2
def MEM_RFM : Nat := 0x32C3
def MEM_CORRECTED : Nat := 0x32C4
def MEM_UNCORRECTABLE : Nat := 0x32C5
def MEM_CHANNEL_FAILED : Nat := 0x32C6
def GW_FRAMING : Nat := 0x32E0
def GW_CRC_FAIL : Nat := 0x32E1
def GW_NOT_PAIRED : Nat := 0x32E2
def GW_PRESENCE_DENIED : Nat := 0x32E3
def GW_UNAUTH_DROP : Nat := 0x32E4
def GW_REPLAY : Nat := 0x32E5
def GW_STALE : Nat := 0x32E6
def GW_SEAL_BREAK : Nat := 0x32E7
def GW_EVENT_RESENT : Nat := 0x32E8
def GW_EVENT_LOST : Nat := 0x32E9
def NVM_ONE_COPY : Nat := 0x3300
def NVM_RECORD_LOST : Nat := 0x3301
def FW_CONFIRMED : Nat := 0x3302
def FW_FALLBACK : Nat := 0x3303
def FW_TRIAL_BOOT : Nat := 0x3304
def FW_PILOT_RESTART : Nat := 0x3305
def PWR_RAIL_FAULT : Nat := 0x3310
def PWR_AVS_FAULT : Nat := 0x3311
def PWR_SUPPLY_WARN : Nat := 0x3312
def PWR_STEP_DOWN : Nat := 0x3313
def PWR_STEP_UP : Nat := 0x3314
def FAS_UPDATE : Nat := 0x3320
def FAS_ABORT : Nat := 0x3321
def FAS_RESTORE : Nat := 0x3322
def FAS_SUPERSEDED : Nat := 0x3323
def WAKE_DROPPED : Nat := 0x3330
def WAKE_EXPORTED : Nat := 0x3331
def TALLY_EXPORTED : Nat := 0x3332
def ING_QUAY_DROP_MOORING : Nat := 0x3400

end T

/-- R508: a tally raised by `k`; 64 bits, saturating. -/
def State.tallyBy (s : State) (id k : Nat) : State :=
  { s with obs := { s.obs with tallies := Tab.put s.obs.tallies id (satN (Tab.getD s.obs.tallies id 0 + k) 64) } }

/-- R508: a tally raised by 1. -/
def State.tally (s : State) (id : Nat) : State := s.tallyBy id 1

/-- R509: the total and the unit of a tally with units raised by `k`. -/
def State.tallyUnit (s : State) (id unit k : Nat) : State := (s.tallyBy id k).tallyBy (id + 1 + unit) k

/-! ## Free values -/

/-- The state after one more free value has been taken; the value is a constant of Config at `freeCount`. -/
def State.took (s : State) : State := { s with time := { s.time with freeCount := s.time.freeCount + 1 } }

/-- R332, R334: local time NS. -/
def State.ns (s : State) : Nat := s.time.clk / 2 ^ 32

/-! ## Wake records (R510 to R512) -/

/-- R512: the 16-byte units of a record. -/
def WakeRec.units (r : WakeRec) : Nat := r.len

/-- R512: the units the records of a list take. -/
def wakeUnits (l : List WakeRec) : Nat := sumN (l.map WakeRec.units)

/-- R512: the units of the ring. -/
def ringUnits : Nat := 262144

/-- R512: whether export is active: over the pins, or over UDP with a collector. -/
def State.exporting (s : State) : Bool :=
  s.wake.exportMode == 1 || (s.wake.exportMode == 2 && s.wake.collector.1 != 0)

/-- R512, R31: at a record boundary EXPORT and the collector come into force. -/
def State.wakeBoundary (s : State) : State :=
  { s with wake := { s.wake with exportMode := s.get F.EXPORT_SEL,
                                 collector := (s.get F.COLLECTOR_IP, s.get F.COLLECTOR_PORT) } }

/-- R512: the oldest records removed until `need` units fit. With export active only exported records go; the result
is none when the ring has no room. `n` bounds the removals. -/
def wakeRoom (active : Bool) (need : Nat) : Nat → List WakeRec → Nat → Option (List WakeRec × Nat)
  | 0, ring, ex => if wakeUnits ring + need ≤ ringUnits then some (ring, ex) else none
  | n + 1, ring, ex =>
    if wakeUnits ring + need ≤ ringUnits then some (ring, ex)
    else if active && ex == 0 then none
    else match ring with
      | [] => none
      | _ :: r => wakeRoom active need n r (ex - 1)

/-- R510: one record put into the ring with the next SEQ. -/
def wakePut (w : Wake) (ns type : Nat) (payload : List Byte) : Wake :=
  { w with ring := w.ring ++ [{ type := type, len := (16 + payload.length + 15) / 16, seq := w.seq, ns := ns, payload := payload }],
           seq := (w.seq + 1) % 2 ^ 32 }

/-- R510: the record types whose class bit is set in CLASS_MASK are written. -/
def State.wakeOn (s : State) (type : Nat) : Bool := bit (s.get F.CLASS_MASK) (type / 256)

/-- R510, R512: a record of the given type and payload is written, or dropped and counted; a LOST record precedes the
next one written. A record of a class that is not recorded does not arise. -/
def State.wakeRec (s0 : State) (type : Nat) (payload : List Byte) : State :=
  let s := s0.wakeBoundary
  if ¬ s.wakeOn type then s else
  let len := (16 + payload.length + 15) / 16
  let lost : Nat := if s.wake.dropped = 0 then 0 else 2
  match wakeRoom s.exporting (len + lost) s.wake.ring.length s.wake.ring s.wake.exported with
  | none =>
    { s with wake := { s.wake with dropped := s.wake.dropped + 1, seq := (s.wake.seq + 1) % 2 ^ 32 } }.tally T.WAKE_DROPPED
  | some (ring, ex) =>
    let w := { s.wake with ring := ring, exported := ex }
    let w := if s.wake.dropped = 0 then w
             else { wakePut w s.ns 0x00FF (le 4 s.wake.dropped) with dropped := 0 }
    { s with wake := wakePut w s.ns type payload }

end Sys2Proof.Machine
end

