-- ==== Sys2Proof/Machine/Clock.lean ====
section
/-! DEFINITION. How time passes: the timebase and the local clock (R332 to R339), the instants of ticks, cuts and lines
(R35 to R40, R537). -/

namespace Sys2Proof.Machine

/-! ## Durations in cycles of the 400 MHz timebase -/

/-- Cycles of a number of microseconds. -/
def usCyc (n : Nat) : Nat := 400 * n

/-- Cycles of a number of milliseconds. -/
def msCyc (n : Nat) : Nat := 400000 * n

/-- Whole microseconds between two timebase cycles. -/
def usBetween (a b : Nat) : Nat := (b - a) / 400

/-- R535: whole milliseconds since the last reset release, saturated at 65,535. -/
def State.msSinceReset (s : State) : Nat := satN ((s.time.cyc - s.time.releaseCyc) / 400000) 16

/-! ## The local clock -/

/-- A domain of the time unit. -/
def TimeUnit.domain (tm : TimeUnit) (k : Nat) : Domain := nth tm.domains k {}

/-- R336: D of a domain in whole nanoseconds. -/
def Domain.ns (d : Domain) : Nat := d.d / 2 ^ 32

/-- R339: how much of Δ is left at D. -/
def slewLeft (delta : Int) (dns s : Nat) : Int :=
  let m : Int := max 0 ((delta.natAbs : Int) - fdiv ((dns : Int) - s) 100000)
  if delta < 0 then -m else m

/-- R339: (NS, FRAC) while slewing, as one number: NS = D_NS + the remaining difference, FRAC that of D. -/
def slewClk (d : Nat) (delta : Int) (s : Nat) : Nat :=
  let dns : Nat := d / 2 ^ 32
  wrap ((dns : Int) + slewLeft delta dns s) 64 * 2 ^ 32 + d % 2 ^ 32

/-- The device is powered and out of reset. -/
def State.alive (s : State) : Bool :=
  match s.start.phase with
  | .unpowered | .held => false
  | _ => true

/-- R332, R333: where (NS, FRAC), as one number, wraps: at 64 bits of NS in normal format, and in carry format at 48 bits
of SEC. -/
def TimeUnit.span (tm : TimeUnit) : Nat := if tm.carryFmt then 2 ^ 48 * 1000000000 * 2 ^ 32 else 2 ^ 96

/-- R332: a rate within 500 ppm of the nominal 2.5 ns. -/
def incrOf (x : Int) : Nat := (sat x (10737418240 - 5368709) (10737418240 + 5368709)).toNat

/-- R332, R338: the INCR at which L runs for the next `n` cycles. The servo changes that of a clock LOCKED to a tracking domain whose
Sync interval is 125 ms or shorter, where L would leave D by more than 250 ns (log entry 130). `d` is the domain after those
cycles. -/
def TimeUnit.steered (tm : TimeUnit) (d : Domain) (n : Nat) : Nat :=
  let free : Int := tm.clk + n * tm.incr
  let w : Int := 250 * 2 ^ 32
  if tm.state ≠ .locked ∨ d.tracking ≠ 2 ∨ d.syncInt = 0 ∨ 125000000 < d.syncInt then tm.incr
  else if free < d.d - w then incrOf (-(fdiv (tm.clk - (d.d - w)) n))
  else if d.d + w < free then incrOf (fdiv (d.d + w - tm.clk) n)
  else tm.incr

/-- R332, R336, R339: the state `t` cycles of the timebase from the start. Time never runs back. In reset and without
power only the count of cycles goes on. -/
def State.advance (s : State) (t : Cyc) : State :=
  if t ≤ s.time.cyc then s
  else if ¬ s.alive then { s with time := { s.time with cyc := t } }
  else
    let n := t - s.time.cyc
    let doms := s.time.domains.map (fun d => { d with d := (d.d + n * d.dIncr) % 2 ^ 96 })
    let dom := nth doms s.time.selected {}
    let incr := s.time.steered dom n
    let clk := if s.time.state = .slewing then slewClk dom.d s.time.delta s.time.slewS
               else (s.time.clk + n * incr) % s.time.span
    { s with time := { s.time with cyc := t, domains := doms, clk := clk, incr := incr } }

/-- R335, R341, R37: ticks are raised: a clock state with ticks, command interpretation or not, and no stop in force. -/
def State.ticksOn (s : State) : Bool :=
  (match s.start.phase with | .running | .pilotBoot | .bridge | .restarting => true | _ => false) &&
  (match s.time.state with
   | .free => !s.time.carryFmt
   | .locked | .slewing | .holdover | .test => true
   | .recovery => false)

/-! ## Ticks (R35) -/

/-- R35: T(n) = ceil(n × 1,000,000,000 / R) + φ. -/
def tickNs (n rate : Nat) (phi : Int) : Int := -(fdiv (-((n : Int) * 1000000000)) rate) + phi

/-- R35: the largest n whose T(n) is at or before a local time. -/
def tickAt (ns : Int) (rate : Nat) (phi : Int) : Nat := (fdiv ((ns - phi) * rate) 1000000000).toNat

/-- R287, R35: φ of tick n: the newest value that applies from a field up to n. -/
def phiAt (phi : Int) (next : List (Int × Nat)) (n : Nat) : Int :=
  next.foldl (fun v e => if e.2 ≤ n then e.1 else v) phi

/-- R35, R287: the largest n whose T(n) is at or before a local time, each φ counting from its own field on. -/
def tickIn (ns : Int) (rate : Nat) (phi : Int) : List (Int × Nat) → Nat
  | [] => tickAt ns rate phi
  | e :: r =>
    if tickNs e.2 rate e.1 ≤ ns then max e.2 (tickIn ns rate e.1 r) else min (tickAt ns rate phi) (e.2 - 1)

/-- R35: n of the tick that is due at the present local time. -/
def State.dueTick (s : State) : Nat := tickIn s.ns s.scan.rate s.scan.phi s.scan.phiNext

/-- R35: T(n) under the rate and the phase in force. -/
def State.tickNs (s : State) (n : Nat) : Int := Machine.tickNs n s.scan.rate (phiAt s.scan.phi s.scan.phiNext n)

/-- R40: n of the scene cut that is due: 800,000 ns before its tick. -/
def State.dueCut (s : State) : Nat := tickIn ((s.ns : Int) + 800000) s.scan.rate s.scan.phi s.scan.phiNext

/-- R40: local ns of the scene cut of field n. -/
def State.cutNs (s : State) (n : Nat) : Int := s.tickNs n - 800000

/-- R36: tick n is a frame tick. -/
def State.frameTick (s : State) (n : Nat) : Bool := n % s.scan.k == 0

/-! ## Lines (R537) -/

/-- R537: 2,088 × n' + d of the line that has begun last at a local time. -/
def linePos (ns : Int) (rate : Nat) (phi : Int) : Nat := (fdiv ((ns - phi) * (2088 * rate)) 1000000000).toNat

/-- R537: (field, line) of a position 2,088 × n' + d. -/
def lineOf (q : Nat) : Nat × Nat :=
  let n := q / 2088
  let d := q % 2088
  if 136 ≤ d then (n, d - 136) else (n - 1, d + 1952)

/-- R537: the position of a line of a field. -/
def posOf (field line : Nat) : Nat :=
  if line < 1952 then 2088 * field + line + 136 else 2088 * (field + 1) + line - 1952

/-- R537: LT of a line of a field, a line number of 2,088 or more counting on in the next field. -/
def State.lineNs (s : State) (field line : Nat) : Int :=
  let q := posOf (field + line / 2088) (line % 2088)
  phiAt s.scan.phi s.scan.phiNext (q / 2088) - fdiv (-((q : Int) * 1000000000)) (2088 * s.scan.rate)

/-- R537, R287: the position of the line that has begun last at a local time. -/
def linePosIn (ns : Int) (rate : Nat) (phi : Int) : List (Int × Nat) → Nat
  | [] => linePos ns rate phi
  | e :: r =>
    if tickNs e.2 rate e.1 ≤ ns then max (2088 * e.2) (linePosIn ns rate e.1 r)
    else min (linePos ns rate phi) (2088 * e.2 - 1)

/-- R537: (field, line) at the present local time. -/
def State.lineNow (s : State) : Nat × Nat := lineOf (linePosIn s.ns s.scan.rate s.scan.phi s.scan.phiNext)

/-- R9, R8: the instant of a line of a field has come. -/
def State.lineReached (s : State) (field line : Nat) : Bool := decide (s.lineNs field line ≤ s.ns)

end Sys2Proof.Machine
end

