-- ==== Sys2Proof/Machine/Operands.lean ====
section
/-! DEFINITION. The operand forms of commands: packets (R395 to R398), status codes (R421), who sent a command, what a
command card says (R25 to R27, R403), and Ethernet, IPv4 and UDP forms of what the device sends. -/

namespace Sys2Proof.Machine

/-! ## Status codes (R421) -/

namespace Status

def OK : Nat := 0x00
def ACCEPTED : Nat := 0x01
def BAD_OPCODE : Nat := 0x10
def BAD_LENGTH : Nat := 0x11
def BAD_PARAM : Nat := 0x12
def BAD_STATE : Nat := 0x13
def BUSY : Nat := 0x14
def PRESENCE_REQUIRED : Nat := 0x20
def NOT_PAIRED : Nat := 0x21
def STALE_SEQUENCE : Nat := 0x22
def TEMP_WINDOW : Nat := 0x30
def ROLLBACK_REFUSED : Nat := 0x31
def MIGRATION_FAILED : Nat := 0x32
def CHECK_FAILED : Nat := 0x40
def NO_RESOURCE : Nat := 0x41

end Status

/-! ## Packets -/

/-- R395, R396: the bytes of a command before its trailer. -/
def commandBytes (opcode : Nat) (p : Packet) : List Byte :=
  [p.magic, p.version] ++ le 2 opcode ++ [p.tag, p.seq] ++ le 2 p.length.toNat ++ le 8 p.token.toNat ++ p.payload

/-- R397: the CRC-32C a command's trailer must hold. -/
def commandCrc (opcode : Nat) (p : Packet) : Nat := crc32c (commandBytes opcode p)

/-- R397: a packet closed by its trailer. -/
def closePacket (bs : List Byte) : List Byte := bs ++ le 4 (crc32c bs)

/-- R395, R396, R397: a reply packet. -/
def replyPacket (opcode tag seq status tokenLo : Nat) (payload : List Byte) : List Byte :=
  let body := padTo 4 payload
  closePacket ([0xC7, 0x11] ++ le 2 opcode ++ [byte tag, byte seq] ++ le 2 (20 + body.length) ++
    [byte status, 0] ++ le 2 0 ++ le 4 tokenLo ++ body)

/-- R395, R396, R397: an event packet. -/
def eventPacket (opcode tag seq status lost tokenLo : Nat) (payload : List Byte) : List Byte :=
  let body := padTo 4 payload
  closePacket ([0xC7, 0x21] ++ le 2 opcode ++ [byte tag, byte seq] ++ le 2 (20 + body.length) ++
    [byte status, 0] ++ le 2 lost ++ le 4 tokenLo ++ body)

/-! ## Cards -/

/-- Who sent a command that passed step 5 (R403), as the later steps see it. -/
structure Caller where
  slot     : Option Nat                -- session slot; none for a TOKEN 0 command
  owner    : Nat                       -- TOKEN_LO of the session: who receives final events
  tag      : Nat
  seq      : Nat
  token    : Nat
  spi      : Bool
  srcIp    : Nat
  srcPort  : Nat
  key      : Bool                      -- R414 debounced key state at arrival
  sealOpen : Bool                      -- R414 debounced seal state at arrival

/-- R412, R413: the presence class that holds. -/
def presenceOf (key sealOpen : Bool) : Nat := if key then (if sealOpen then 2 else 1) else 0

/-- A command card (R25): what steps 7 to 10 of R403 check, and what the command does. -/
structure Card where
  opcode   : Nat
  deferred : Bool
  lenOk    : List Byte → Bool                          -- step 7
  presence : State → Caller → List Byte → Nat := fun _ _ _ => 0   -- step 8
  params   : State → Caller → List Byte → Bool         -- step 9
  judge    : State → Caller → List Byte → Nat := fun _ _ _ => 0   -- step 10: the status that refuses, or OK
  refused  : Nat → State → Caller → List Byte → State := fun _ s _ _ => s  -- what a refusal of step 10 leaves besides its reply
  why      : Nat → State → Caller → List Byte → List Byte := fun _ _ _ _ => []  -- fields of a reply that refuses (R398)
  held     : Bool := false                             -- R407, R408: the reply waits for an MRAM record
  ack      : State → Caller → List Byte → List Byte := fun _ _ _ => []   -- what the ACCEPTED reply carries
  run      : State → Caller → List Byte → State × Nat × List Byte -- the effect, the reply's status and payload

/-- An immediate command that changes the state and whose reply carries no fields. -/
def done (s : State) : State × Nat × List Byte := (s, Status.OK, [])

/-! ## Frames of the device -/

/-- The one's complement sum of 16-bit words in network order. -/
def onesSum : List Byte → Nat
  | a :: b :: r => a.toNat * 256 + b.toNat + onesSum r
  | [a] => a.toNat * 256
  | [] => 0

/-- The Internet checksum of bytes. -/
def inetSum (bs : List Byte) : Nat :=
  let s := onesSum bs
  let s := s % 65536 + s / 65536
  let s := s % 65536 + s / 65536
  65535 - (s % 65536)

/-- An IPv4 packet without options (RFC 791), of one datagram without fragments. -/
def ipv4 (src dst proto ttl : Nat) (body : List Byte) : List Byte :=
  let h (c : Nat) : List Byte := [0x45, 0] ++ be 2 (20 + body.length) ++ be 2 0 ++ be 2 0 ++
    [byte ttl, byte proto] ++ be 2 c ++ be 4 src ++ be 4 dst
  h (inetSum (h 0)) ++ body

/-- A UDP datagram in an IPv4 packet (RFC 768). -/
def udpPacket (src dst sport dport : Nat) (data : List Byte) : List Byte :=
  let len := 8 + data.length
  let pseudo := be 4 src ++ be 4 dst ++ [0, 17] ++ be 2 len
  let body (c : Nat) : List Byte := be 2 sport ++ be 2 dport ++ be 2 len ++ be 2 c ++ data
  let c := inetSum (pseudo ++ body 0)
  ipv4 src dst 17 64 (body (if c = 0 then 65535 else c))

/-- R323: the length of a tagged frame from its destination address to its FCS. -/
def frameLen (payload : List Byte) : Nat := max 64 (22 + payload.length)

/-- RFC 1112: the Ethernet address of an IPv4 multicast group. -/
def mcastMac (ip : Nat) : BitVec 48 := BitVec.ofNat 48 (0x01005E000000 + ip % 2 ^ 23)

/-- An IPv4 address lies in 224.0.0.0/4. -/
def isMcast (ip : Nat) : Bool := ip / 2 ^ 28 == 14

/-- An address lies within a prefix. -/
def inPrefix (a b len : Nat) : Bool := a / 2 ^ (32 - len) == b / 2 ^ (32 - len)

end Sys2Proof.Machine
end

