-- ==== Sys2Proof/Machine/Ops.lean ====
section
/-! DEFINITION. Operations shared by every family: reading and changing parts of the state by number, fixed MRAM records
(R429), the temperature window (R440), the berths (R106 to R108), what the device sends (R327, R329), events and final
events (R416 to R419). -/

namespace Sys2Proof.Machine

/-! ## Parts by number -/

/-- Mooring Mn. -/
def State.moor (s : State) (n : Nat) : Mooring := Tab.getD s.ingest.moorings n {}

/-- Mooring Mn replaced. -/
def State.setMoor (s : State) (n : Nat) (m : Mooring) : State :=
  { s with ingest := { s.ingest with moorings := Tab.put s.ingest.moorings n m } }

/-- Mooring Mn changed. -/
def State.modMoor (s : State) (n : Nat) (f : Mooring → Mooring) : State := s.setMoor n (f (s.moor n))

/-- The moorings that are not at their reset value, with their numbers, ascending. -/
def State.moors (s : State) : List (Nat × Mooring) := s.ingest.moorings

/-- Panel port PLp. -/
def State.port (s : State) (p : Nat) : Port := nth s.ports p {}

/-- Panel port PLp changed. -/
def State.modPort (s : State) (p : Nat) (f : Port → Port) : State := { s with ports := modAt s.ports p f }

/-- Backbone port BBb. -/
def State.bbp (s : State) (b : Nat) : Backbone := nth s.bb b {}

/-- Backbone port BBb changed. -/
def State.modBb (s : State) (b : Nat) (f : Backbone → Backbone) : State := { s with bb := modAt s.bb b f }

/-- DRAM channel DCc. -/
def State.chan (s : State) (c : Nat) : Channel := nth s.dram.channels c {}

/-- DRAM channel DCc changed. -/
def State.modChan (s : State) (c : Nat) (f : Channel → Channel) : State :=
  { s with dram := { s.dram with channels := modAt s.dram.channels c f } }

/-- Session slot k. -/
def State.sess (s : State) (k : Nat) : Session := nth s.gw.sessions k {}

/-- Session slot k changed. -/
def State.modSess (s : State) (k : Nat) (f : Session → Session) : State :=
  { s with gw := { s.gw with sessions := modAt s.gw.sessions k f } }

/-- Sector s of scan-out. -/
def State.sector (s : State) (k : Nat) : SectorScan := nth s.scan.sectors k {}

/-- Sector s of scan-out changed. -/
def State.modSector (s : State) (k : Nat) (f : SectorScan → SectorScan) : State :=
  { s with scan := { s.scan with sectors := modAt s.scan.sectors k f } }

/-- A domain changed. -/
def State.modDomain (s : State) (k : Nat) (f : Domain → Domain) : State :=
  { s with time := { s.time with domains := modAt s.time.domains k f } }

/-- A channel is present: trained, and not failed before the last scene cut (R370, R388). -/
def Channel.present (c : Channel) : Bool := c.state != 0

/-- R388: a channel serves requests. -/
def Channel.serves (c : Channel) : Bool := c.present && !c.fails

/-- R372: a channel serves requests and gathers no training data. -/
def Channel.free (c : Channel) : Bool := c.serves && c.sweep.isNone

/-- The present channels (R387, R388). -/
def State.present (s : State) : List Nat := idxs 16 (fun c => (s.chan c).present)

/-- R390, R58: how many channels are present. -/
def State.presentCount (s : State) : Nat := s.present.length

/-- R165, R389: the channel on which a unit of a striped buffer lies. -/
def Stripe.chan (f : Stripe) (u : Nat) : Nat := (Tab.get? f.moved u).getD (nth f.chans (u % max 1 f.chans.length) 16)

/-- R172: the first 4 KiB unit of a tile's place in the replay store; the place has four. -/
def replayUnit (sector row col : Nat) : Nat := ((sector * 64 + row) * 32 + col) * 4

/-- R172: how many of the four units of a tile's copy lie on a channel. -/
def State.copyUnits (s : State) (sector row col c : Nat) : Nat :=
  ((List.range 4).filter (fun i => s.dram.replay.chan (replayUnit sector row col + i) == c)).length

/-- R386, R372: the present channel that follows one, ascending; the second part tells that the order has wrapped. -/
def State.nextChan (s : State) (ch : Nat) : Nat × Bool :=
  match s.present.find? (fun c => decide (ch < c)) with
  | some c => (c, false)
  | none => (s.present.headD 0, true)

/-- R383: a request arrives for a channel: its queue is not empty now, and it leaves a low-power state, but not the
self-refresh of Lantern (R384). On leaving self-refresh OWED is 0 (R379). -/
def State.request (s : State) (ch : Nat) : State :=
  s.modChan ch (fun c =>
    let c := { c with lastReq := s.time.cyc }
    if s.dram.selfRefresh then c
    else if c.state = 3 then { c with state := 1, owed := 0 }
    else if c.state = 2 then { c with state := 1 }
    else c)

/-- R383: SLACK reported: a channel whose state it no longer allows leaves it, but not the self-refresh of Lantern. -/
def State.slackWakes (s : State) : State :=
  let f (c : Channel) : Channel :=
    if c.state = 3 ∧ s.scan.slack < 15 ∧ ¬ s.dram.selfRefresh then { c with state := 1, owed := 0 }
    else if c.state = 2 ∧ s.scan.slack < 3 then { c with state := 1 }
    else c
  { s with dram := { s.dram with channels := s.dram.channels.map f } }

/-- R386: the channel and the data MiB of the next scrub unit, and whether the pass has ended with channels that have become
absent. -/
def State.scrubTarget (s : State) : Nat × Nat × Bool :=
  if (s.chan s.dram.scrubCh).present then (s.dram.scrubCh, s.dram.scrubMib, false)
  else ((s.nextChan s.dram.scrubCh).1, 0, (s.nextChan s.dram.scrubCh).2)

/-- R372: the channel of the next BG2 unit. -/
def State.recalTarget (s : State) : Nat :=
  if (s.chan s.dram.recalNext).present then s.dram.recalNext else (s.nextChan s.dram.recalNext).1

/-! ## Fixed records (R429) and the temperature window (R440) -/

/-- R429: what a fixed record of two copies holds: its serial and content, and whether one copy was unusable. -/
def FixedRec.read (r : FixedRec) : Option (Nat × List Byte) × Bool :=
  match r.a, r.b with
  | some a, some b =>
    if a.1 = b.1 then (if a.2 = b.2 then (some a, false) else (none, false))
    else (some (if newer32 a.1 b.1 then a else b), false)
  | some a, none => (some a, true)
  | none, some b => (some b, true)
  | none, none => (none, false)

/-- R429: the content of a fixed record, or a default. -/
def FixedRec.val (r : FixedRec) (dflt : List Byte) : List Byte :=
  match r.read.1 with | some a => a.2 | none => dflt

/-- R482: HOTTEST of N0 to N7, s16.8 degrees. -/
def State.hottest (s : State) : Int := (s.power.nodes.take 8).foldl max (nth s.power.nodes 0 0)

/-- R482: COLDEST of N0 to N7, s16.8 degrees. -/
def State.coldest (s : State) : Int := (s.power.nodes.take 8).foldl min (nth s.power.nodes 0 0)

/-- R440: the MRAM may be written. -/
def State.inWindow (s : State) : Bool := decide (-25 * 256 ≤ s.coldest) && decide (s.hottest ≤ 100 * 256)

/-- R323, R364: the device's MAC address in force. -/
def State.macAddr (s : State) : BitVec 48 := s.bridge.mac

/-- R427: the MAC address of the factory area; 0 while its record is unusable. -/
def State.macStored (s : State) : BitVec 48 := BitVec.ofNat 48 (beVal (s.mram.mac.val (zeros 6)))

/-- R427, R454: what the recovery record holds: RECOVERY_IP and the word of RATE and FEC; when it is unusable,
169.254.96.16 and the Reset values of BackboneLaneConfig. -/
def State.recoveryRec (s : State) : Nat × Nat :=
  match s.mram.recovery.read.1 with
  | some c => (num c.2 0 4, num c.2 4 4)
  | none => (0xA9FE6010, 0x0101)

/-! ## Berths (R106 to R108) -/

/-- R106: the number of descriptors in the receive berth of a mooring: chunks not yet resolved, which are the fragments
of the tiles that still gather. -/
def Mooring.rxUsed (m : Mooring) : Nat :=
  sumN ((m.tiles.filter (fun t => t.state == .gathering)).map (fun t => t.frags.length))

/-- R106: the number of descriptors in the tile berth of a mooring: complete tiles that wait for a lane. -/
def Mooring.tileUsed (m : Mooring) : Nat := (m.tiles.filter (fun t => t.state == .queued)).length

/-- R107: the sum of RX_RESERVE and TILE_RESERVE over all moorings, in the configuration a table of objects holds. -/
def reserveSum (work : Tab (List Word)) : Nat :=
  (1024 * 24 : Nat) + sumN (work.map (fun e =>
    if 0x1400 ≤ e.1 ∧ e.1 < 0x1800 then fieldOf e.2 3 8 8 + fieldOf e.2 3 16 8 else 24))
    - 24 * work.length

/-- R107: what a berth draws from the shared pool. -/
def drawn (used reserve : Nat) : Nat := used - reserve

/-- R417, R106: the events of a session in one event berth. -/
def Session.berthUsed (e : Session) (h : Nat) : Nat := (e.unacked.filter (fun x => x.cls == h)).length

/-- R107: the descriptors of the shared pool in use. -/
def State.poolUsed (s : State) : Nat :=
  sumN (s.moors.map (fun p =>
    drawn p.2.rxUsed (s.cutI F.M_RX_RESERVE p.1) + drawn p.2.tileUsed (s.cutI F.M_TILE_RESERVE p.1))) +
  drawn ((s.gw.waiting.filter (fun w => match w.packet.via with | .udp .. => true | .spi _ => false)).length) 512 +
  drawn ((s.gw.waiting.filter (fun w => match w.packet.via with | .udp .. => false | .spi _ => true)).length) 512 +
  sumN (s.codec.clanes.map (fun l => drawn (l.length - 1) 256)) +
  sumN (s.ingest.txq.map (fun q => drawn q.2.length 256)) +
  sumN (s.gw.sessions.map (fun e => e.unacked.length))

/-- R107: free descriptors of the shared pool. -/
def State.poolFree (s : State) : Nat := 65536 - 4096 - reserveSum s.cfg.cut - s.poolUsed

/-- R107, R108: a berth that holds `used` descriptors with a reserve takes one more: within its reserve, or from the
shared pool up to 4,096 descriptors in the berth. -/
def State.berthTakes (s : State) (used reserve : Nat) : Bool :=
  decide (used < reserve) || (decide (used < 4096) && decide (0 < s.poolFree))

/-! ## Sending (R327, R329) -/

/-- R327: the bytes queued at a line port. -/
def State.queuedBytes (s : State) (b : Nat) : Nat :=
  sumN ((nth s.bridge.egress b []).map (fun q => sumN (q.map (fun x => x.f.length))))

/-- R330: the traffic class of a frame. -/
def State.classOf (s : State) (pcp : Nat) : Nat := s.get (F.PCP_MAP (pcp % 8))

/-- R325: the PCP of a frame; an untagged one has 0. -/
def prio (f : Frame) : Nat := if f.tags = 0 then 0 else f.pcp

/-- R327: a line port admits a frame. -/
def State.admits (s : State) (b : Nat) (f : Frame) : Bool :=
  decide (s.queuedBytes b + f.length ≤ 36864 + 9216 * s.classOf (prio f))

/-- R330: a frame put into the egress queue of its class. -/
def State.enqueue (s : State) (b : Nat) (q : QFrame) : State :=
  let put (classes : List (List QFrame)) := modAt classes (s.classOf (prio q.f)) (fun l => l ++ [q])
  { s with bridge := { s.bridge with egress := modAt s.bridge.egress b put } }

/-- R315: a line port is UP. -/
def State.bbUp (s : State) (b : Nat) : Bool := (s.bbp b).link == 1

/-- R325: where a destination was learned. -/
def State.learnedPort (s : State) (mac : BitVec 48) : Option Nat :=
  (s.bridge.learned.find? (fun e => e.1 == mac)).map (fun e => e.2.1)

/-- R329: the ports by which a frame of the device leaves: where its destination was learned, otherwise both UP ports. -/
def State.outPorts (s : State) (f : Frame) : List Nat :=
  match s.learnedPort f.dst with
  | some b => if s.bbUp b then [b] else idxs 2 (fun b => s.bbUp b)
  | none => idxs 2 (fun b => s.bbUp b)

/-- R329: the next hop of an IPv4 destination: itself within the prefix, otherwise GATEWAY. -/
def State.nextHop (s : State) (dst : Nat) : Nat :=
  if inPrefix dst (s.get F.DEV_IP) (s.get F.PREFIX_LEN) then dst else s.get F.GATEWAY

/-- R329: the MAC address the ARP cache holds for an IPv4 address. -/
def State.arpOf (s : State) (ip : Nat) : Option (BitVec 48) :=
  (s.bridge.arp.find? (fun e => e.1 == ip)).map (fun e => e.2.1)

/-- A frame of the device (R329). -/
def State.ownFrame (s : State) (dst : BitVec 48) (pcp etherType : Nat) (payload : List Byte) : Frame :=
  { dst := dst, src := s.macAddr, tags := 1, pcp := pcp, vid := s.get F.DEV_VID, etherType := BitVec.ofNat 16 etherType,
    length := frameLen payload, fcsOk := true, payload := payload }

/-- RFC 826: an ARP message for IPv4 over Ethernet. -/
def arpBytes (op : Nat) (smac : BitVec 48) (sip : Nat) (tmac : BitVec 48) (tip : Nat) : List Byte :=
  be 2 1 ++ be 2 0x0800 ++ [6, 4] ++ be 2 op ++ be 6 smac.toNat ++ be 4 sip ++ be 6 tmac.toNat ++ be 4 tip

/-- R329: a frame whose next hop was not resolved when it was formed, with the address the ARP cache now holds. The
destination 0 stands for it: bytes 16 to 19 of the packet are its IPv4 destination. -/
def State.resolved (s : State) (f : Frame) : Frame :=
  if f.dst = 0 then
    match s.arpOf (s.nextHop (beVal ((f.payload.drop 16).take 4))) with
    | some m => { f with dst := m }
    | none => f
  else f

/-- R327: the cycle at which BBI, at 40 Gb/s, has carried a frame of the device to the bridge. PTP frames do not pass through BBI. -/
def State.bbiCarries (s : State) (f : Frame) : Nat :=
  if f.etherType.toNat = 0x88F7 then 0 else max s.bridge.bbiOut s.time.cyc + cdiv (f.length * 8) 100

/-- R327: a frame of the device enters the queues of the ports it leaves by, which send it when BBI has carried it. -/
def State.viaBbi (s : State) (out : List Nat) (f : Frame) (stamp : Option (Nat × Int)) : State :=
  let til := s.bbiCarries f
  let s := { s with bridge := { s.bridge with bbiOut := max s.bridge.bbiOut til } }
  out.foldl (fun s b => s.enqueue b { f := f, stamp := stamp, own := true, ready := til }) s

/-- R108, R327: the frames of the transmit berths that the line ports accept: a berth's head waits while a
port it leaves by does not accept it, while its next hop is not resolved, or while no port is UP. -/
def State.pumpBerth (s : State) (berth : Nat) : List Frame → State
  | [] => { s with ingest := { s.ingest with txq := Tab.del s.ingest.txq berth } }
  | f :: r =>
    let f := s.resolved f
    let out := s.outPorts f
    if f.dst ≠ 0 ∧ out ≠ [] ∧ out.all (fun b => s.admits b f) then
      State.pumpBerth (s.viaBbi out f none) berth r
    else { s with ingest := { s.ingest with txq := Tab.put s.ingest.txq berth (f :: r) } }

/-- R107, R108: the frames that wait for room in a transmit berth enter it, in order, as far as it takes them. -/
def State.fillBerth (s : State) (berth : Nat) : List Frame → State
  | [] => { s with ingest := { s.ingest with txw := Tab.del s.ingest.txw berth } }
  | f :: r =>
    let q := Tab.getD s.ingest.txq berth []
    if s.berthTakes q.length 256 then
      State.fillBerth (s.pumpBerth berth (q ++ [f])) berth r
    else { s with ingest := { s.ingest with txw := Tab.put s.ingest.txw berth (f :: r) } }

/-- R108: the frames that leave by one line port only, admitted as far as that port admits them. -/
def State.pumpPorts (s : State) : List (Nat × Frame × Option (Nat × Int)) → State
  | [] => s
  | (b, f, stamp) :: r =>
    let f := s.resolved f
    if f.dst ≠ 0 ∧ s.bbUp b ∧ s.admits b f then (s.viaBbi [b] f stamp).pumpPorts r
    else { s with ingest := { s.ingest with portq := s.ingest.portq ++ [(b, f, stamp)] } }.pumpPorts r

/-- A transmit berth: what it holds goes to the ports, and what waits for it enters it (R108). -/
def State.pumpOne (s : State) (berth : Nat) : State :=
  let s := s.pumpBerth berth (Tab.getD s.ingest.txq berth [])
  s.fillBerth berth (Tab.getD s.ingest.txw berth [])

/-- Every transmit berth, in ascending order, then what leaves by one port only (R108). -/
def State.pump (s : State) : State :=
  let s := (List.range 8).foldl (fun s k => s.pumpOne (2064 + k)) s
  State.pumpPorts { s with ingest := { s.ingest with portq := [] } } s.ingest.portq

/-- R106, R108, R329: a frame of the device for a transmit berth, which it enters as soon as the berth takes it, sent on as
far as the ports accept it. -/
def State.send (s : State) (berth : Nat) (f : Frame) : State :=
  State.pump { s with ingest := { s.ingest with txw := Tab.put s.ingest.txw berth (Tab.getD s.ingest.txw berth [] ++ [f]) } }

/-- R344: a frame of the device that leaves by one line port, with the stamp that its turnaround counts from. -/
def State.sendStamped (s : State) (b : Nat) (f : Frame) (stamp : Option (Nat × Int)) : State :=
  State.pump { s with ingest := { s.ingest with portq := s.ingest.portq ++ [(b, f, stamp)] } }

/-- R328, R344: a frame of the device that leaves by one line port. -/
def State.sendPort (s : State) (b : Nat) (f : Frame) : State := s.sendStamped b f none

/-- R106, R329: a frame of the device that no transmit berth of R106 carries (ARP, ICMP): it waits for the ports it leaves
by, for both while neither is UP. -/
def State.sendOwn (s : State) (f : Frame) : State :=
  let out := s.outPorts f
  (if out = [] then [0, 1] else out).foldl (fun s b => s.sendPort b f) s

/-- R329: an ARP request for a next hop. -/
def State.askArp (s : State) (ip : Nat) : State :=
  s.sendOwn (s.ownFrame (BitVec.ofNat 48 0xFFFFFFFFFFFF) (s.get F.CMD_TC) 0x0806
    (arpBytes 1 s.macAddr (s.get F.DEV_IP) 0 ip))

/-- R126: the state of a CRC unit set. -/
def State.setCrc (s : State) (u running count : Nat) : State :=
  { s with ingest := { s.ingest with crc := modAt s.ingest.crc u (fun _ => (running, count)) } }

/-- R127: the bytes of a chunk, or of its beginning, that a CRC unit processes. -/
def checkedPart (bs : List Byte) : List Byte := bs.take 0x1C ++ bs.drop 0x20

/-- R125, R127: the bytes of a message over which its CRC runs: a chunk or group message as in R75, any other up to the
CRC that ends it. -/
def crcPart (berth : Nat) (data : List Byte) : List Byte :=
  if berth = 2064 ∨ berth = 2067 ∨ berth = 2068 then checkedPart data else data.take (data.length - 4)

/-- R125: CU12 serves the transmit berths of even number, CU13 those of odd number (log entry 115). -/
def State.txCrc (s : State) (berth : Nat) (data : List Byte) : State :=
  let p := crcPart berth data
  s.setCrc (12 + berth % 2) (crcRun 0xFFFFFFFF p) p.length

/-- R329: a UDP datagram of the device. With DEV_IP 0 it originates none; a destination outside the prefix with no
gateway has no route. -/
def State.sendUdp (s : State) (berth tc dstIp sport dport : Nat) (data : List Byte) : State :=
  let ip := s.get F.DEV_IP
  if ip = 0 ∨ dstIp = 0 then s else
  let pkt := udpPacket ip dstIp sport dport data
  let s := s.txCrc berth data
  if isMcast dstIp then s.send berth (s.ownFrame (mcastMac dstIp) tc 0x0800 pkt)
  else
    let hop := s.nextHop dstIp
    if hop = 0 then s
    else match s.arpOf hop with
      | some m => s.send berth (s.ownFrame m tc 0x0800 pkt)
      | none => (s.send berth (s.ownFrame 0 tc 0x0800 pkt)).askArp hop

/-! ## Events (R416 to R419) -/

/-- R406: TOKEN_LO of a session: the pairing serial and the slot. -/
def Session.tokenLo (e : Session) (k : Nat) : Nat := (e.serial * 16 + k) % 2 ^ 32

/-- R402, R526: GW_IRQ_N follows the SPI outbound queue from the end of start-up while SPI_EN is 1; while it is 0 it is high, and
GW_MISO at high impedance (R401). -/
def State.irq (s : State) : State :=
  let held := !s.gw.spiReplies.isEmpty || !(s.sess 15).unacked.isEmpty
  let served : Bool := match s.start.phase with | .running | .restarting => true | _ => false
  let on := s.get F.SPI_EN == 1 && served
  { s with gw := { s.gw with irqN := !(held && on), miso := if on then s.gw.miso else [] } }

/-- R416, R417, R418: an event queued for a session slot: built, numbered, sent once over UDP, or dropped and counted. -/
def State.queueEvent (s : State) (k opcode tag status : Nat) (payload : List Byte) : State :=
  let e := s.sess k
  let h := opcode / 256
  if ¬ e.paired then s
  else if 64 ≤ e.unacked.length ∨ ¬ s.berthTakes (e.berthUsed h) 0 then
    (s.modSess k (fun e => { e with lost := Tab.put e.lost h (satN (Tab.getD e.lost h 0 + 1) 16),
                                    lostTotal := satN (e.lostTotal + 1) 32 })).tally T.GW_EVENT_LOST
  else
    let bs := eventPacket opcode tag e.evSeq status (Tab.getD e.lost h 0) (e.tokenLo k) payload
    let ev : EventPkt := { seq := e.evSeq, cls := h, bytes := bs, sentAt := s.time.cyc }
    let s := s.modSess k (fun e => { e with unacked := e.unacked ++ [ev], evSeq := (e.evSeq + 1) % 256,
                                            evSent := true, lost := Tab.put e.lost h 0 })
    if k = 15 then s.irq
    else if s.get F.UDP_EN = 1 then s.sendUdp 2069 (s.get F.CMD_TC) e.evIp (s.get F.GANGWAY_PORT) e.evPort bs
    else s

/-- R411, R408: the final event of a deferred command of the session whose TOKEN_LO is `owner`. A session that no
longer holds the tag outstanding gets none. -/
def State.finalEvent (s : State) (owner tag opcode status : Nat) (payload : List Byte) : State :=
  let k := owner % 16
  let e := s.sess k
  if e.paired ∧ e.tokenLo k = owner ∧ e.outstanding.contains tag then
    (s.modSess k (fun e => { e with outstanding := e.outstanding.filter (· != tag) })).queueEvent k opcode tag status payload
  else s

/-- R256, R419: an event of a session tied to a command that stays outstanding. -/
def State.sideEvent (s : State) (owner tag opcode : Nat) (payload : List Byte) : State :=
  let k := owner % 16
  let e := s.sess k
  if e.paired ∧ e.tokenLo k = owner then s.queueEvent k opcode tag Status.OK payload else s

/-- R419: a notification queued for every session whose NOTIFY_MASK has the class bit set. -/
def State.notify (s : State) (opcode : Nat) (payload : List Byte) : State :=
  (List.range 16).foldl (fun s k =>
    if bit (s.sess k).mask (opcode / 256) then s.queueEvent k opcode 0 Status.OK payload else s) s

/-- R412, R423: PRESENCE. -/
def State.presence (s : State) : Nat := presenceOf s.gw.key s.gw.sealOpen

/-- Every step ends in a next state: the outcome of a meaning. -/
def nextOf (s : State) : Host.Outcome State Fault Refusal := .next s

end Sys2Proof.Machine
end

