-- ==== Sys2Proof/Machine/Journal.lean ====
section
/-! DEFINITION. The settings journal as bytes: records and their copies (R432, R433), decoding (R434), committed
transactions, generations and stored values (R433, R435), dirty parts (R437), and the header of a firmware slot (R443). -/

namespace Sys2Proof.Machine

/-! ## Records -/

/-- R432: one copy of a journal record. -/
def recordCopy (kind gen txn obj part : Nat) (payload : List Byte) : List Byte :=
  let b := le 2 0x4352 ++ [byte kind, byte gen] ++ le 4 txn ++ le 2 obj ++ [byte part, 0] ++ le 2 payload.length ++
    le 2 0 ++ payload
  b ++ le 4 (crc32c b)

/-- R432: a journal record: copy A followed at once by copy B. -/
def recordBytes (kind gen txn obj part : Nat) (payload : List Byte) : List Byte :=
  recordCopy kind gen txn obj part payload ++ recordCopy kind gen txn obj part payload

/-- A record found in the journal (R434). -/
structure JRec where
  kind    : Nat                        -- 1 PART, 2 COMMIT, 3 DISCARD
  gen     : Nat
  txn     : Nat
  obj     : Nat
  part    : Nat
  payload : List Byte
  usable  : Bool                       -- R429
  single  : Bool                       -- R429: only one copy was usable
  size    : Nat                        -- bytes it occupies
  deriving DecidableEq, Repr

/-- R434: the copy that passes at the beginning of bytes, with its length. -/
def copyAt (bs : List Byte) : Option (JRec × Nat) :=
  let size := num bs 0x0C 2
  let kind := num bs 2 1
  if num bs 0 2 = 0x4352 ∧ 4 ≤ size ∧ size ≤ 1024 ∧ size % 4 = 0 ∧ size + 20 ≤ bs.length ∧
     num bs (0x10 + size) 4 = crc32c (bs.take (0x10 + size)) ∧ 1 ≤ kind ∧ kind ≤ 3 then
    some ({ kind := kind, gen := num bs 3 1, txn := num bs 4 4, obj := num bs 8 2, part := num bs 0x0A 1,
            payload := slice bs 0x10 size, usable := true, single := true, size := size + 20 }, size + 20)
  else none

/-- R434: the records of a page, its bytes after the header decoded copy by copy. -/
def decodePage : Nat → List Byte → List JRec
  | 0, _ => []
  | n + 1, bs =>
    match copyAt bs with
    | none => if bs.length ≤ 4 then [] else decodePage n (bs.drop 4)
    | some (r, len) =>
      let rest := bs.drop len
      match copyAt rest with
      | some (q, len2) =>
        if slice bs 2 14 = slice rest 2 14 then
          { r with usable := decide (r.payload = q.payload), single := false, size := len + len2 } :: decodePage n (rest.drop len2)
        else r :: decodePage n rest
      | none => r :: decodePage n rest

/-- R434: copies of a page that do not pass, as MRAM_SCAN counts them (R536): the partners missing beside single copies
and the unusable records. -/
def failedCopies (l : List JRec) : Nat := (l.filter (fun r => r.single || !r.usable)).length

/-- R431: one copy of a page header. -/
def headerCopy (serial : Nat) : List Byte :=
  let b := le 2 0x5047 ++ zeros 2 ++ le 4 serial ++ zeros 4
  b ++ le 4 (crc32c b)

/-- R431: a page header: copy A followed at once by copy B. -/
def headerBytes (serial : Nat) : List Byte := headerCopy serial ++ headerCopy serial

/-- R429, R431: a copy of a page header: MAGIC and CRC are correct. -/
def pageHeaderOk (bs : List Byte) : Bool :=
  bs.length == 16 && num bs 0 2 == 0x5047 && num bs 12 4 == crc32c (bs.take 12)

/-- R429, R431: the PAGE_SERIAL of a page whose header is usable. -/
def Page.serial (p : Page) : Option Nat :=
  let a := p.header.take 16; let b := (p.header.drop 16).take 16
  let x := num a 4 4; let y := num b 4 4
  match pageHeaderOk a, pageHeaderOk b with
  | true, true => if x = y then (if a = b then some x else none) else some (if newer32 x y then x else y)
  | true, false => some x
  | false, true => some y
  | false, false => none

/-- R431: the pages in use, in PAGE_SERIAL order, each with its serial. -/
def usedPages (m : Mram) : List (Nat × Page) :=
  sortBy (fun a b => newer32 b.1 a.1) (m.pages.filterMap (fun p => p.serial.map (fun x => (x, p))))

/-- R434: the records of the journal, pages in PAGE_SERIAL order. -/
def journal (m : Mram) : List JRec := (usedPages m).flatMap (fun p => decodePage 1024 p.2.body)

/-! ## Transactions and generations (R433, R435) -/

/-- R433: the transactions with a usable COMMIT after all of their records. -/
def committedIn : List JRec → List Nat
  | [] => []
  | r :: rest =>
    let l := committedIn rest
    if r.kind = 2 ∧ r.usable ∧ ¬ (rest.any (fun q => q.txn == r.txn && q.kind != 2)) then r.txn :: l else l

/-- R433: a record is committed. -/
def isCommitted (c : List Nat) (r : JRec) : Bool := c.contains r.txn

/-- R433: the DISCARDs that are committed: (DISCARD_GEN, TXN). -/
def discards (js : List JRec) : List (Nat × Nat) :=
  let c := committedIn js
  (js.filter (fun r => r.kind == 3 && r.usable && isCommitted c r)).map (fun r => (num r.payload 0 1, r.txn))

/-- R433: a record is dead: of a discarded generation and older than the DISCARD. -/
def isDead (ds : List (Nat × Nat)) (r : JRec) : Bool := ds.any (fun d => d.1 == r.gen && newer32 d.2 r.txn)

/-- R435: the PART records from which values of a generation come. -/
def candidates (js : List JRec) (g : Nat) : List JRec :=
  let c := committedIn js
  let ds := discards js
  js.filter (fun r => r.kind == 1 && r.usable && r.gen == g && isCommitted c r && !isDead ds r)

/-- R435: the newest of the candidates of a part. -/
def newestPart (l : List JRec) (obj part : Nat) : Option JRec :=
  (l.filter (fun r => r.obj == obj && r.part == part)).foldl
    (fun m r => match m with | none => some r | some q => if newer32 r.txn q.txn || r.txn == q.txn then some r else some q) none

/-- R435, R436: the live records of a generation: the newest candidate of each part. -/
def liveRecs (js : List JRec) (g : Nat) : List JRec :=
  let l := candidates js g
  l.filter (fun r => newestPart l r.obj r.part == some r)

/-- R435: the generations that hold live records. -/
def liveGens (js : List JRec) : List Nat := ((List.range 256).filter (fun g => !(candidates js g).isEmpty))

/-- R432: KiB of records, rounded up. -/
def recKib (l : List JRec) : Nat := cdiv (sumN (l.map (fun r => r.size))) 1024

/-- The COMMIT FLAGS of a transaction (R433). -/
def commitFlags (js : List JRec) (txn : Nat) : Nat :=
  match js.find? (fun r => r.kind == 2 && r.txn == txn && r.usable) with
  | some r => num r.payload 4 4
  | none => 0

/-- R435: the newest TXN of the committed transactions of a generation, not counting compaction. -/
def newestTxn (js : List JRec) (g : Nat) : Option Nat :=
  let c := (committedIn js).filter (fun t => !bit (commitFlags js t) 1 &&
    js.any (fun r => r.txn == t && r.gen == g && r.kind != 2))
  c.foldl (fun m t => match m with | none => some t | some q => if newer32 t q then some t else some q) none

/-! ## Stored values and dirty parts (R433, R437) -/

/-- R22, R433: the words of an object with stored bytes of one part laid over them: only RWS bits are taken. -/
def overlayPart (defs : List WordDef) (ws : List Word) (part : Nat) (payload : List Byte) : List Word :=
  let stored := toWords (payload.length / 4) payload
  ((List.range ws.length).map (fun i =>
    let w := nth ws i 0
    if 256 * part ≤ i ∧ i < 256 * part + stored.length then
      let d := nth defs i { reset := 0, rw := 0, stored := 0 }
      let v := nth stored (i - 256 * part) 0
      BitVec.ofNat 32 ((v.toNat &&& d.stored) ||| (w.toNat &&& (fullMask ^^^ d.stored)))
    else w))

/-- R435: the stored value of an object in a generation: its Reset words with every stored part laid over them. -/
def storedObj (js : List JRec) (g id : Nat) : List Word :=
  let defs := (objWords id).getD []
  let l := (candidates js g).filter (fun r => r.obj == id)
  (List.range (cdiv defs.length 256)).foldl (fun ws p =>
    match newestPart l id p with
    | some r => overlayPart defs ws p r.payload
    | none => ws) (resetWords id)

/-- R435: the objects of which a generation stores a part, with their stored values. -/
def storedAll (js : List JRec) (g : Nat) : Tab (List Word) :=
  let l := candidates js g
  (objIds.filter (fun id => l.any (fun r => r.obj == id))).map (fun id => (id, storedObj js g id))

/-- R433: the bytes of part `p` of an object. -/
def partBytes (ws : List Word) (p : Nat) : List Byte := (ofWords ws).drop (1024 * p) |>.take 1024

/-- The words as STORE compares them: only RWS bits (R437). -/
def rwsBits (id : Nat) (ws : List Word) : List Nat :=
  (List.zip ws ((objWords id).getD [])).map (fun e => e.1.toNat &&& e.2.stored)

/-- R437: the dirty parts of an object: where the RWS bits of the working copy differ from the stored value. -/
def dirtyParts (id : Nat) (work stored : List Word) : List Nat :=
  let a := rwsBits id work
  let b := rwsBits id stored
  (List.range (cdiv a.length 256)).filter (fun p => (a.drop (256 * p)).take 256 != (b.drop (256 * p)).take 256)

/-- R442: the boot record's content: RUN_SLOT, TRIAL_SLOT (2 none), TRIAL_BOOTS. -/
def bootBytes (run trial boots : Nat) : List Byte := [byte run, byte trial, byte boots]

/-- R442: what the boot record holds, or none when it is unusable. -/
def State.bootRec (s : State) : Option (Nat × Nat × Nat) :=
  s.mram.boot.read.1.map (fun c => (num c.2 0 1, num c.2 1 1, num c.2 2 1))

/-! ## Firmware slots (R443) -/

/-- A firmware slot by its number: 0 SLOT-A, 1 SLOT-B. -/
def State.slot (s : State) (k : Nat) : Slot := if k = 0 then s.mram.slotA else s.mram.slotB

/-- A firmware slot changed. -/
def State.modSlot (s : State) (k : Nat) (f : Slot → Slot) : State :=
  if k = 0 then { s with mram := { s.mram with slotA := f s.mram.slotA } }
  else { s with mram := { s.mram with slotB := f s.mram.slotB } }

/-- R427: bytes of a slot; a byte nothing has written is a free value. -/
def State.slotBytes (s : State) (k off n : Nat) : List Byte := Memory.readAll (s.slot k).bytes (Config.slotByte k) off n

/-- R443: a little-endian field of a slot's header. -/
def State.slotNum (s : State) (k off n : Nat) : Nat := leVal (s.slotBytes k off n)

/-- R443: IMAGE_SIZE. -/
def State.imageSize (s : State) (k : Nat) : Nat := s.slotNum k 0x008 4
/-- R443: FW_VERSION. -/
def State.fwVersion (s : State) (k : Nat) : Nat := s.slotNum k 0x00C 4
/-- R443: SECURITY_VERSION. -/
def State.secVersion (s : State) (k : Nat) : Nat := s.slotNum k 0x010 4
/-- R443: WRITE_GEN. -/
def State.writeGen (s : State) (k : Nat) : Nat := s.slotNum k 0x014 1
/-- R443: the generations an image can migrate from. -/
def State.readGens (s : State) (k : Nat) : List Nat :=
  (List.range (min (s.slotNum k 0x015 1) 4)).map (fun i => s.slotNum k (0x016 + i) 1)

/-- R437, R443: the generation of the running image. -/
def State.runGen (s : State) : Nat := s.writeGen s.nvm.runSlot

/-- R442: the security counter; an unusable record is taken as the higher SECURITY_VERSION of the two slots at start. -/
def State.secCounter (s : State) : Nat :=
  match s.mram.counter.read.1 with
  | some c => num c.2 0 4
  | none => s.nvm.counterAt

/-- R437: the stored value of an object for the running image. PanelCalib has its factory record (R191, R438). -/
def State.stored (s : State) (id : Nat) : List Word :=
  if id = 0x1823 then
    match s.mram.calib.read.1 with
    | some c => toWords 12 c.2
    | none => resetWords id
  else storedObj (journal s.mram) s.runGen id

/-- R437: the dirty parts of every object: (object, part). -/
def State.dirty (s : State) : List (Nat × Nat) :=
  let js := journal s.mram
  let g := s.runGen
  let st := storedAll js g
  let ids := objIds.filter (fun id => id != 0x1F02 && ((Tab.get? s.cfg.work id).isSome || (Tab.get? st id).isSome || id == 0x1823))
  ids.flatMap (fun id =>
    (dirtyParts id (s.obj id) (if id = 0x1823 then s.stored id else objIn st id)).map (fun p => (id, p)))

/-- R437: a part is dirty. -/
def State.isDirty (s : State) : Bool := !s.dirty.isEmpty

/-- R457: a protected object is dirty. -/
def State.dirtyProtected (s : State) : Bool := s.dirty.any (fun e => protectedObj e.1)

/-- R457: PanelCalib is dirty. -/
def State.calibDirty (s : State) : Bool := s.dirty.any (fun e => e.1 == 0x1823)

/-- R431: the bytes a journal page offers after its header. -/
def pageRoom : Nat := 4096 - 32

/-- R457: free journal space in bytes: pages not in use, and the rest of the head page. -/
def State.journalFree (s : State) : Nat :=
  let used := usedPages s.mram
  (256 - used.length) * pageRoom +
  (match used.getLast? with | some p => if s.nvm.pageOpen then pageRoom - p.2.body.length else 0 | none => 0)

/-! ## Where records go (R431, R432, R434) -/

/-- R432: the bytes a step puts into the journal. -/
def WriteStep.size : WriteStep → Nat
  | .record _ _ _ _ p => 2 * (p.length + 20)
  | _ => 0

/-- R431: the first page of the ring after the newest that is not in use. -/
def nextPage (used : List (Nat × Page)) : Option Nat :=
  let last := match used.getLast? with | some p => p.2.number | none => 255
  ((List.range 256).map (fun i => (last + 1 + i) % 256)).find? (fun n => !used.any (fun p => p.2.number == n))

/-- R431: the page and the serial that a newly opened page takes. -/
def State.pageToOpen (s : State) : Option (Nat × Nat) :=
  let used := usedPages s.mram
  let serial := match used.getLast? with | some p => (p.1 + 1) % 2 ^ 32 | none => 1
  (nextPage used).map (fun n => (n, serial))

/-- R432, R434: a record of some bytes needs a page opened for it first: a record lies within one page, and none is placed
in a page of an earlier start. -/
def State.needsPage (s : State) (n : Nat) : Bool :=
  n != 0 && s.pageToOpen.isSome &&
  !(s.nvm.pageOpen && (match (usedPages s.mram).getLast? with
    | some p => decide (p.2.body.length + n ≤ pageRoom)
    | none => false))

end Sys2Proof.Machine
end

