-- ==== Sys2Proof/Machine/Modes.lean ====
section
/-! DEFINITION. The panel modes (R263), their arrangement (R264), and which sectors, ports and present channels they
concern (R282, R290, R390). -/

namespace Sys2Proof.Machine

/-- One row of the table of R263. -/
structure Mode where
  id      : Nat
  cols    : Nat
  rows    : Nat
  k       : Nat
  rate    : Nat
  link    : Nat                        -- 1 UHBR10, 2 UHBR13.5, 3 UHBR20
  deriving DecidableEq, Repr

/-- R263: the raster modes. -/
def modes : List Mode :=
  [⟨0x01, 4, 4, 4, 240, 3⟩, ⟨0x02, 4, 4, 2, 240, 3⟩, ⟨0x03, 4, 4, 1, 120, 2⟩, ⟨0x04, 8, 2, 4, 240, 3⟩,
   ⟨0x05, 16, 1, 4, 240, 3⟩, ⟨0x06, 2, 2, 4, 240, 3⟩, ⟨0x07, 4, 4, 4, 180, 3⟩, ⟨0x08, 4, 4, 2, 180, 3⟩,
   ⟨0x09, 4, 4, 1, 120, 1⟩, ⟨0x0A, 4, 4, 2, 120, 2⟩, ⟨0x0B, 8, 2, 2, 240, 3⟩] ++
  [⟨0x0C, 8, 2, 4, 180, 3⟩, ⟨0x0D, 16, 1, 2, 240, 3⟩, ⟨0x0E, 16, 1, 4, 180, 3⟩, ⟨0x0F, 2, 2, 2, 240, 3⟩,
   ⟨0x10, 2, 2, 1, 120, 1⟩, ⟨0x11, 4, 2, 4, 240, 3⟩, ⟨0x12, 4, 2, 2, 240, 3⟩, ⟨0x13, 3, 1, 4, 240, 3⟩,
   ⟨0x14, 2, 1, 4, 240, 3⟩, ⟨0x15, 1, 1, 4, 240, 3⟩, ⟨0x16, 1, 1, 1, 120, 1⟩]

/-- R263: PANEL_MODE 0x00: no mode; ticks at 240 Hz with K = 1. -/
def mode0 : Mode := ⟨0, 0, 0, 1, 240, 0⟩

/-- R263: the mode with an ID; none where the table lists none. PANEL_MODE 0x00 is valid. -/
def modeOf? (id : Nat) : Option Mode := if id = 0 then some mode0 else modes.find? (fun m => m.id == id)

/-- The mode with an ID. -/
def modeOf (id : Nat) : Mode := (modeOf? id).getD mode0

/-- R263: the sector count of a mode. -/
def Mode.sectors (m : Mode) : Nat := m.cols * m.rows

/-- R282: two modes have the same sector arrangement, link rate and field rate. -/
def softPair (a b : Nat) : Bool :=
  let x := modeOf a; let y := modeOf b
  a != 0 && b != 0 && x.cols == y.cols && x.rows == y.rows && x.link == y.link && x.rate == y.rate

/-- R390: a raster mode is allowed with a number of present channels. -/
def modeAllowed (id present : Nat) : Bool :=
  id == 0 || decide (max 4 (cdiv (12 * (modeOf id).sectors * (modeOf id).rate) 3840) ≤ present)

/-- The mode in force. -/
def State.mode (s : State) : Mode := modeOf s.scan.mode

/-- R263, R290: the ports that the panel mode in force uses, the lantern port alone in Lantern. -/
def State.usedPorts (s : State) : List Nat :=
  if s.scan.lantern then [s.cutv F.LN_SECTOR] else List.range s.mode.sectors

/-- R288: a lantern window is configured: ENABLE is 1 and SECTOR is below the sector count of the mode in force. -/
def State.lanternConfigured (s : State) : Bool :=
  s.get F.LN_ENABLE == 1 && decide (s.get F.LN_SECTOR < s.mode.sectors)

/-- R176: the requested or the effective service mode is Lantern. -/
def State.lanternWanted (s : State) : Bool := s.get F.SERVICE_MODE == 3 || s.harbour.effMode == 3

/-- R459: rail r is used. -/
def State.railUsed (s : State) (r : Nat) : Bool := bit (s.get F.RAILS_USED) r

/-- R459: a sector's rails are up. A sector that no used rail feeds has its rails up whenever the rail sequence is
complete. -/
def State.railsUp (s : State) (sec : Nat) : Bool :=
  let feed := idxs 8 (fun r => s.railUsed r && bit (s.get (F.RAIL_SECTORS r)) sec)
  if feed = [] then s.power.railSeq == 2
  else feed.all (fun r => let x := nth s.power.rails r {}; x.enable && x.pg && !x.fault)

/-- R349: mooring n is group-shared. -/
def State.groupShared (s : State) (n : Nat) : Bool :=
  let m := s.moor n
  s.get F.GROUP_EN == 1 && m.state == 2 && m.scene.shared

/-- R349: the group-shared moorings, ascending. -/
def State.sharedMoors (s : State) : List Nat := (s.moors.map (·.1)).filter (fun n => s.groupShared n)

/-- R352: a rank is live to the device. -/
def State.rankLive (s : State) (r : Nat) : Bool :=
  r == s.get F.RANK || (decide (nth s.group.miss r 8 < 8) && !(nth s.group.wrongMode r false))

end Sys2Proof.Machine
end

