-- ==== Sys2Proof/Machine/Passage.lean ====
section
/-! DEFINITION. What happens between commands because time passes: a restart that is due begins (R525), and the rails'
sequences that it and others start (R460, R461). `State.at` is the first thing every meaning does. -/

namespace Sys2Proof.Machine

/-- R460: the used rails in ascending UP_POS order. -/
def State.railsUpOrder (s : State) (among : List Nat) : List Nat :=
  sortBy (fun a b => decide (s.get (F.UP_POS a) < s.get (F.UP_POS b))) (among.filter (fun r => s.railUsed r))

/-- R461: the used rails in ascending DOWN_POS order. -/
def State.railsDownOrder (s : State) (among : List Nat) : List Nat :=
  sortBy (fun a b => decide (s.get (F.DOWN_POS a) < s.get (F.DOWN_POS b))) (among.filter (fun r => s.railUsed r))

/-- R491: RAIL_SEQ after the device's sequence has nothing left to do. -/
def seqEnd (up : Bool) : Nat := if up then 2 else 0

/-- R460, R461: the device's rail sequence started, in place of any sequence that runs. With no used rail it is complete
at once. -/
def State.startSeq (s : State) (up : Bool) : State :=
  let rest := if up then s.railsUpOrder (List.range 8) else s.railsDownOrder (List.range 8)
  if rest = [] then { s with power := { s.power with seqs := [], retry := [], railSeq := seqEnd up } }
  else { s with power := { s.power with
    seqs := [{ up := up, rest := rest, wait := none, since := s.time.cyc, whole := true }], retry := [], railSeq := if up then 1 else 3 } }

/-- R463: a sequence over some rails, beside any other. -/
def State.startPartSeq (s : State) (up : Bool) (rails : List Nat) : State :=
  let rest := if up then s.railsUpOrder rails else s.railsDownOrder rails
  if rest = [] then s
  else { s with power := { s.power with
    seqs := s.power.seqs ++ [{ up := up, rest := rest, wait := none, since := s.time.cyc, whole := false, rails := rails }] } }

/-- R466, R485, R525: every zone, BL_ILIM and BL_GRP low, and the schedule with them. -/
def State.zonesLow (s : State) : State :=
  { s with scan := { s.scan with zones := List.replicate 16 false, zoneFall := [], sched := [], blGrp := 0 },
           power := { s.power with ilimOut := 0, bright := 0 } }

/-- R284, R341: every backlight zone turned off, and nothing scheduled. -/
def State.zonesOff (s : State) : State :=
  { s with scan := { s.scan with zones := List.replicate 16 false, zoneFall := [], sched := [] } }

/-- R485, R525: the links stop video: every training, test and stream ends. -/
def State.linksStop (s : State) : State :=
  { s with ports := s.ports.map (fun p => { p with state := 0, training := none, test := none, rejoining := false }) }

/-- R428 to R431: what is still to be written of the record in progress of a transaction: both copies of a fixed record, the
header of a page that a journal record needs, or the step itself. -/
def State.recordLeft (s : State) (x : Txn) : List WriteStep :=
  match x.steps with
  | .fixed w c false :: _ => [.fixed w c false, .fixed w c true]
  | st :: _ => if s.needsPage st.size then [.page] else [st]
  | [] => []

/-- R441, R485, R525: only the MRAM record in progress goes on. -/
def State.oneRecord (s : State) : State :=
  let q := match s.nvm.queue with
    | x :: _ => if x.begun then [{ x with purpose := .rest, steps := s.recordLeft x }] else []
    | [] => []
  { s with nvm := { s.nvm with queue := q } }

/-- R525: the restart begins. No command is interpreted and no panel change begins any more. -/
def State.beginRestart (s : State) : State :=
  let s := { s with start := { s.start with phase := .restarting, restartAt := s.time.cyc, restartDue := none },
                    nvm := { s.nvm with interpreting := false, takeover := false, held := none },
                    scan := { s.scan with change := none, changeT0 := none } }
  (s.zonesLow.linksStop.oneRecord).startSeq false

/-- The state at cycle `t`: time has passed, and a restart that fell due on the way has begun (R525). -/
def State.at (s : State) (t : Cyc) : State :=
  match s.start.restartDue with
  | some r => if r ≤ t then (s.advance r).beginRestart.advance t else s.advance t
  | none => s.advance t

/-- Whether the device serves: its firmware runs, or the restart has begun and the reset has not (R522, R525). -/
def State.serving (s : State) : Bool :=
  match s.start.phase with | .running | .restarting => true | _ => false

end Sys2Proof.Machine
end

