-- ==== Sys2Proof/Machine/Status.lean ====
section
/-! DEFINITION. The status objects: the words each reports, computed from the state (R38, R114, R115, R151, R189, R190,
R213, R243, R262, R296, R297, R321, R322, R364, R393, R394, R423, R424, R457, R458, R491, R492, R506, R515, R535), and
the snapshot of the field tick. -/

namespace Sys2Proof.Machine

/-- A word packed from (value, lowest bit, width). -/
def pk (l : List (Nat × Nat × Nat)) : Word := BitVec.ofNat 32 (sumN (l.map (fun e => (e.1 % 2 ^ e.2.2) * 2 ^ e.2.1)))

/-- A whole word. -/
def w32 (v : Nat) : Word := BitVec.ofNat 32 v

/-- The two words of a 64-bit value. -/
def w64 (v : Nat) : List Word := [w32 (v % 2 ^ 32), w32 (v / 2 ^ 32)]

/-- Half-words packed two to a word. -/
def halves : List Nat → List Word
  | a :: b :: r => pk [(a, 0, 16), (b, 16, 16)] :: halves r
  | [a] => [pk [(a, 0, 16)]]
  | [] => []

/-- R335: CLOCK_STATE as a number. -/
def ClockState.code : ClockState → Nat
  | .free => 0 | .locked => 1 | .slewing => 2 | .holdover => 3 | .recovery => 4 | .test => 5

/-- R38: FieldStatus. -/
def State.fieldStatus (s : State) : List Word :=
  w64 s.scan.field ++
  [pk [(s.scan.rate, 0, 16), (s.scan.field % s.scan.k, 16, 2), (s.scan.k, 18, 3)],
   pk [(s.scan.mode, 0, 8), (if s.scan.lantern then 3 else s.harbour.effMode, 8, 3), (s.harbour.profile, 11, 1),
       (s.harbour.cur.limit, 16, 8)],
   pk [(b2n s.harbour.planLate, 0, 1)]]

/-- R415: the content of the seal-break record: count, NS and the last state seen (1 open). -/
def State.sealRecord (s : State) : Nat × Nat × Bool :=
  match s.mram.sealRec.read.1 with
  | some c => (num c.2 0 4, num c.2 4 8, num c.2 12 1 == 1)
  | none => (0, 0, false)

/-- R406: a pairing record: paired, token random part, serial, mask, label. -/
def pairBytes (paired : Bool) (hi serial mask : Nat) (label : List Byte) : List Byte :=
  [byte (b2n paired)] ++ le 4 hi ++ le 4 serial ++ le 2 mask ++ slice label 0 16

/-- R406, R423: the serial of the most recent pairing, the highest that any pairing record holds. -/
def State.pairSerial (s : State) : Nat :=
  (s.mram.pairings.map (fun r => num (r.val []) 5 4)).foldl max 0

/-- R423: GangwayStatus. -/
def State.gangwayStatus (s : State) : List Word :=
  [pk [(b2n s.gw.key, 0, 1), (b2n s.gw.sealOpen, 1, 1), (s.presence, 2, 2), (b2n s.gw.sealBreak, 4, 1),
       (b2n s.gw.sealPending, 5, 1)],
   pk [(maskOf (s.gw.sessions.map (·.paired)), 0, 16)], w32 s.sealRecord.1, pk [(s.pairSerial, 0, 28)]]

/-- R424: SessionStatus of slot k. -/
def State.sessionStatus (s : State) (k : Nat) : List Word :=
  let e := s.sess k
  [pk [(b2n e.paired, 0, 1), (b2n (k == 15), 1, 1), (b2n e.fresh, 2, 1), (e.lastSeq, 8, 8), (e.outstanding.length, 16, 6)],
   pk [(if e.paired then e.serial else 0, 0, 28)], w32 e.evIp,
   pk [(e.evPort, 0, 16), (e.evSeq, 16, 8), (e.unacked.length, 24, 7)], w32 e.lostTotal, pk [(e.mask, 0, 16)]]

/-- R104: the bytes the Quay holds: datagrams whose chunks are not all checked, and chunks not moved on. -/
def State.quayUsed (s : State) : Nat :=
  sumN (s.ingest.quay.map (fun q => q.d.ipLen - q.offset)) +
  sumN (s.moors.map (fun p => sumN ((p.2.chunks.filter (fun c => c.loc == .quay)).map (·.length))))

/-- R103: the bytes of the spill pool. -/
def spillPool : Nat := 256 * 1024 * 1024

/-- R103, R359: the bytes the spill pool holds: the chunks moved there, and those that a lead keeps. -/
def State.spillUsed (s : State) : Nat :=
  sumN (s.moors.map (fun p => sumN ((p.2.chunks.filter (fun c => c.loc == .spill || c.bytes != [])).map (·.length))))

/-- R71: the coat records of a mooring: its coats, and the accepted COAT_DECLs of its pending frames. -/
def Mooring.records (m : Mooring) : Nat :=
  m.scene.coats.length + (m.chunks.filter (fun c => c.type == 3 && !c.refused)).length

/-- R71: coat records in use. -/
def State.coatRecords (s : State) : Nat := sumN (s.moors.map (fun p => p.2.records))

/-- R115: IngestStatus. Occupancy, peak and spill use are rounded up to whole units (log entry 113). -/
def State.ingestStatus (s : State) : List Word :=
  [pk [(satN (cdiv s.quayUsed 1024) 16, 0, 16), (satN (cdiv s.ingest.peak 1024) 16, 16, 16)],
   pk [(satN (cdiv s.spillUsed (1024 * 1024)) 9, 0, 9), (satN s.poolFree 16, 16, 16)],
   pk [(s.coatRecords, 0, 13)]]

/-- R114: MooringStatus of Mn. -/
def mooringStatus (m : Mooring) : List Word :=
  [pk [(m.state, 0, 3), (m.frames.length, 3, 3), (m.scene.coats.length, 6, 7)], w32 m.session, w32 m.base, w32 m.high,
   w32 m.applied] ++ w64 m.appliedField ++
  [pk [(satN m.concealedAtCut 16, 0, 16)],
   pk [(b2n m.sessionChanged, 0, 1), (b2n m.concealed, 1, 1), (b2n m.abandoned, 2, 1), (b2n m.resync, 3, 1)]]

/-- R142, R151: suspended contexts. -/
def State.suspendedContexts (s : State) : Nat :=
  (s.codec.libs.filter (fun p => p.2.suspended)).length +
  sumN (s.codec.clanes.map (fun l => (l.filter (·.suspended)).length))

/-- R151: a compression lane runs a job: one that its destination does not hold up. -/
def laneRuns (l : List CJob) : Bool := match l with | j :: _ => !j.suspended | [] => false

/-- R151: CodecStatus. KiB are whole ones, rounded down (log entry 122). -/
def State.codecStatus (s : State) : List Word :=
  [pk [(maskOf (s.codec.lanes.map (·.isSome)), 0, 8), (maskOf (s.codec.clanes.map laneRuns), 8, 2)]] ++
  halves (s.codec.dOutPrev.map (fun b => satN (b / 1024) 16)) ++
  halves (s.codec.cInPrev.map (fun b => satN (b / 1024) 16)) ++
  [pk [(s.suspendedContexts, 0, 11)],
   pk [(s.codec.lastCode, 0, 3), (s.codec.lastKind, 3, 3), (s.codec.lastMooring, 6, 10)], w32 s.codec.lastErr]

/-! ## Ceilings (R57, R58, R156) -/

/-- R57, R58, R156: a ceiling, given in tenths of GB/s, as bytes of a field with `present` channels. -/
def ceiling (tenths rate present : Nat) : Nat := tenths * 100000000 * present / (16 * rate)

/-- R156, R58: the ceiling of one channel, bytes of a field with `present` channels; it scales as the others do (log entry
123). -/
def chanCeiling (rate present : Nat) : Nat := 11250000000 * present / (16 * rate)

/-- R57: more bytes of a class fit its ceiling in the running field period. `pace` is what the class has had: (field,
bytes). -/
def State.paceRoom (s : State) (pace : Nat × Nat) (tenths bytes : Nat) : Bool :=
  decide ((if pace.1 = s.dueTick then pace.2 else 0) + bytes ≤ ceiling tenths s.scan.rate s.presentCount)

/-- R57: bytes of a class counted in the running field period. -/
def State.paceTake (s : State) (pace : Nat × Nat) (bytes : Nat) : Nat × Nat :=
  (s.dueTick, (if pace.1 = s.dueTick then pace.2 else 0) + bytes)

/-- R161: DRAM bytes of the running round counted. -/
def State.dramMoved (s : State) (bytes : Nat) : State :=
  { s with harbour := { s.harbour with roundBytes := s.harbour.roundBytes + bytes } }

/-- R57, R166: codec output and Quay spill, within 32.0 GB/s. -/
def State.ingestRoom (s : State) (bytes : Nat) : Bool := s.paceRoom s.ingest.pace 320 bytes

/-- R57, R161: bytes of codec output or Quay spill written. -/
def State.ingestWrote (s : State) (bytes : Nat) : State :=
  ({ s with ingest := { s.ingest with pace := s.paceTake s.ingest.pace bytes } } : State).dramMoved bytes

/-- R57, R181: compression, wake drain and patrol scrub, within 5.6 GB/s. -/
def State.otherRoom (s : State) (bytes : Nat) : Bool := s.paceRoom s.harbour.otherPace 56 bytes

/-- R57, R161: bytes of the class of 5.6 GB/s moved. -/
def State.otherMoved (s : State) (bytes : Nat) : State :=
  ({ s with harbour := { s.harbour with otherPace := s.paceTake s.harbour.otherPace bytes } } : State).dramMoved bytes

/-- R154: CLK_FIELD. -/
def clkField (rate : Nat) : Nat := 1200000000 / rate

/-- R154: G_BUDGET. -/
def gBudget (rate : Nat) : Nat := 4 * clkField rate / 5

/-- R152: the tiles of a plan at a step. -/
def Plan.atStep (p : Plan) (k : Nat) : Nat := (p.tiles.filter (fun t => t.step == k)).length

/-- R163: the load of a gang under a plan. -/
def Plan.load (p : Plan) (g : Nat) : Nat := sumN ((p.tiles.filter (fun t => t.gang == g)).map (·.cost))

/-- The largest of numbers. -/
def maxN (l : List Nat) : Nat := l.foldl max 0

/-- R189: PlanStatus. -/
def State.planStatus (s : State) : List Word :=
  let h := s.harbour
  let p := h.cur
  let rate := s.scan.rate
  w64 p.field ++
  [pk [(p.effMode, 0, 3), (b2n h.demoted, 3, 1)], pk [(p.atStep 0, 0, 16), (p.atStep 1, 16, 16)],
   pk [(p.atStep 2, 0, 16), (p.atStep 3, 16, 16)], pk [(p.atStep 4, 0, 16), (h.escalatedPrev, 16, 16)],
   pk [(satN (maxN ((List.range 16).map p.load) * 1000 / gBudget rate) 16, 0, 16), (h.loadAct, 16, 16)],
   pk [(satN p.pPred 16, 0, 16), (satN (p.dramPred * rate / 100000000) 16, 16, 16)], w32 h.latency,
   pk [(b2n h.overPlan, 0, 1), (b2n h.escalation, 1, 1), (b2n h.demotion, 2, 1), (b2n h.latencyOver, 3, 1),
       (b2n h.restored, 4, 1), (b2n h.bgPromoted, 5, 1)],
   w32 h.coefs.aRay, w32 h.coefs.aSamp, w32 h.coefs.aRef, w32 h.coefs.aMiss,
   pk [(h.coefs.eClk, 0, 16), (h.coefs.eByte, 16, 16)], pk [(h.coefs.pFix, 0, 16)]]

/-- R181, R184: the age of a background class, ms of local time; in Lantern those of BG1, BG2, BG4 and BG5 stand still. A setting
of local time leaves it as it is (log entry 150). -/
def State.age (s : State) (j : Nat) : Nat :=
  let now := match s.harbour.bgStop with
    | some c => if j = 0 ∨ j = 3 then s.ns else c
    | none => s.ns
  satN ((now - nth s.harbour.bgDone j 0) / 1000000) 16

/-- R183: what the slice of the field has given so far, bytes. -/
def State.sliceHad (s : State) : Nat := if s.harbour.slicePace.1 = s.harbour.cur.field then s.harbour.slicePace.2 else 0

/-- R183: bytes that the slice of the field has given. -/
def State.sliceTaken (s : State) (bytes : Nat) : State :=
  { s with harbour := { s.harbour with slicePace := (s.harbour.cur.field, s.sliceHad + bytes) } }

/-- R181: what background units have taken on a channel in the field, bytes. -/
def State.bgHad (s : State) (ch : Nat) : Nat :=
  if s.harbour.bgPace.1 = s.harbour.cur.field then nth s.harbour.bgPace.2 ch 0 else 0

/-- R391: the bytes by which calibrations in the field reduce a channel's plannable bytes. -/
def Plan.calCut (p : Plan) (rate present c : Nat) : Nat :=
  sumN ((p.cal.filter (fun e => bit e.1 c)).map (fun e => chanCeiling rate present * e.2 * rate / 1000000000))

/-- R181: what the plan in force leaves of a channel in the field, bytes. -/
def State.chanLeft (s : State) (ch : Nat) : Nat :=
  let p := s.harbour.cur
  let pr := s.presentCount
  chanCeiling s.scan.rate pr - p.calCut s.scan.rate pr ch - nth p.chanPred ch 0

/-- R181, R182, R183: a unit of a background class that takes so many bytes of a channel: in the slice of the field, which carries
one, or from what the plan leaves of the channel; none where neither has room for it. -/
def State.bgUnit (s : State) (j ch bytes : Nat) : Option State :=
  if s.harbour.cur.slice = j ∧ s.sliceHad = 0 then some (s.sliceTaken bytes)
  else if s.bgHad ch + bytes ≤ s.chanLeft ch then
    let l := (List.range 16).map s.bgHad
    some { s with harbour := { s.harbour with bgPace := (s.harbour.cur.field, modAt l ch (· + bytes)) } }
  else none

/-- R181: a background class has completed a unit. -/
def State.bgDid (s : State) (j : Nat) : State :=
  { s with harbour := { s.harbour with bgDone := modAt s.harbour.bgDone j (fun _ => s.ns) } }

/-- R181, R182: a class that is not promoted lets another run first in a resource that both use: one that is promoted, or
that is older. -/
def State.bgYields (s : State) (j i : Nat) : Bool :=
  !(nth s.harbour.promoted j false) && (nth s.harbour.promoted i false || decide (s.age j < s.age i))

/-- R190: BackgroundStatus. -/
def State.backgroundStatus (s : State) : List Word :=
  halves ((List.range 6).map s.age) ++
  [pk [(maskOf s.harbour.promoted, 0, 6), (s.harbour.slice, 8, 3),
       (s.harbour.requests.length, 16, 4)]]

/-- R242: a sum over gangs. -/
def gangSum (l : List GangCount) (f : GangCount → Nat) : Nat := sumN (l.map f)

/-- R243: SynthesisStatus. -/
def State.synthesisStatus (s : State) : List Word :=
  let l := s.harbour.counts2
  w64 s.harbour.counts2Field ++ [w32 (satN (gangSum l (·.rays)) 32)] ++ w64 (gangSum l (·.samples)) ++
  [w32 (satN (gangSum l (·.refines)) 32), w32 (satN (gangSum l (·.covered)) 32), w32 (satN (gangSum l (·.groutN)) 32),
   w32 (satN (gangSum l (·.groutB)) 32), w32 (satN (gangSum l (·.miss)) 32),
   pk [(satN (gangSum l (·.replayed)) 16, 0, 16), (satN (gangSum l (·.skipped)) 16, 16, 16)],
   pk [(satN (gangSum l (·.ecc)) 16, 0, 16)]]

/-- R244: the bytes of a pixel of a format. -/
def bytesPerPixel (format : Nat) : Nat := if format = 0 then 4 else 1

/-- R244, R245: bytes of a row: L1 and A8 pixels pack as the format says. -/
def rowBytes (format width : Nat) : Nat := if format = 2 then cdiv width 8 else width * bytesPerPixel format

/-- R244: the stride of a surface: its row padded to 64 bytes. -/
def strideOf (format width : Nat) : Nat := 64 * cdiv (rowBytes format width) 64

/-- R244, R245: the bytes of a surface's rows. -/
def surfaceBytes (format width height : Nat) : Nat := strideOf format width * height

/-- R245: the bytes of the pool that a surface takes: its rows, rounded up to 4 KiB. -/
def Surface.size (f : Surface) : Nat := 4096 * cdiv (surfaceBytes f.format f.width f.height) 4096

/-- R244: the surface pool in use, bytes. -/
def State.surfacePool (s : State) : Nat := sumN (s.skim.surfaces.map (fun p => p.2.size))

/-- R262: SkimStatus. -/
def State.skimStatus (s : State) : List Word :=
  let run := match s.skim.queue with
    | .list id .. :: _ => if s.skim.running then id else 0
    | _ => 0
  [pk [(s.skim.queue.length, 0, 5), (b2n s.skim.running, 5, 1), (run, 8, 8), (s.skim.index, 16, 12)],
   pk [(s.skim.surfaces.length, 0, 11), (cdiv s.surfacePool (1024 * 1024), 16, 12)], w32 s.skim.bytesPrev,
   pk [(b2n s.skim.eccSeen, 0, 1), (b2n s.skim.waitMissed, 1, 1)]]

/-- R296: the words of one plane. -/
def planeStatus (p : OvPlane) : List Word :=
  [pk [(p.surface, 0, 16), (p.tag, 16, 16)], w32 (wrap p.offX 32), w32 (wrap p.offY 32)] ++ w64 p.field

/-- R296: ScanoutStatus. -/
def State.scanoutStatus (s : State) : List Word :=
  [pk [(s.scan.mode, 0, 8), (b2n s.scan.change.isSome, 8, 1), (b2n s.scan.lantern, 9, 1), (b2n s.scan.withdrawn, 10, 1),
       (b2n s.scan.paceLimit, 11, 1)], pk [(s.scan.slack, 0, 16)], w32 (wrap s.scan.phi 32)] ++
  s.scan.planes.flatMap planeStatus

/-- R297: SectorStatus of sector k. -/
def State.sectorStatus (s : State) (k : Nat) : List Word :=
  let e := s.sector k
  [pk [(b2n (s.usedPorts.contains k && (s.port k).state != 1), 0, 1), (b2n e.teValid, 1, 1), (b2n e.underLf, 2, 1),
       (b2n (nth e.underOv 0 false), 3, 1), (b2n (nth e.underOv 1 false), 4, 1), (b2n e.teMissing, 5, 1)],
   w32 (wrap e.tePhase 32), pk [(e.lastLine, 0, 12)]]

/-- R213: OpticsStatus. -/
def State.opticsStatus (s : State) : List Word :=
  let o := s.optics
  let (w, h) := match o.map with | some m => if o.state = 0 then (0, 0) else (m.1, m.2.1) | none => (0, 0)
  [pk [(o.state, 0, 2), (b2n o.commit.isSome, 2, 1), (b2n o.checkFailed, 3, 1)]] ++ w64 o.field ++ [pk [(w, 0, 16), (h, 16, 16)]]

/-- R321: PanelLinkStatus. -/
def portStatus (p : Port) : List Word :=
  [pk [(p.state, 0, 3), (p.cause, 3, 3), (b2n p.hpd, 6, 1), (b2n p.absentEvent, 7, 1), (b2n p.retrained, 8, 1)],
   pk [(nth p.presets 0 0, 0, 4), (nth p.presets 1 0, 4, 4), (nth p.presets 2 0, 8, 4), (nth p.presets 3 0, 12, 4)],
   w32 p.trainUs, pk [(p.sinkErr, 0, 16), (p.trainings, 16, 16)]] ++ w64 p.activeField

/-- R322: BackboneLaneStatus. -/
def backboneStatus (b : Backbone) : List Word :=
  [pk [(b.link, 0, 2), (b2n b.txLpi, 2, 1), (b2n b.rxLpi, 3, 1), (b2n b.frozen, 4, 1), (b2n b.downEvent, 5, 1)],
   w32 b.prbsErr, w32 b.blockErr, w32 b.fecCorr, w32 b.fecUncorr]

/-- R364: BridgeStatus; the MAC's byte 0 is the first on the wire. -/
def State.bridgeStatus (s : State) : List Word :=
  let m := be 6 s.macAddr.toNat
  [w32 (num m 0 4), pk [(num m 4 2, 0, 16)], pk [(s.bridge.learned.length, 0, 13)]]

/-- R332, R364: INCR's deviation from nominal, parts per 10^9. -/
def ratePpb (incr : Nat) : Int := fdiv (((incr : Int) - 10737418240) * 1000000000) 10737418240

/-- R339, R364: what is left of the slew. -/
def State.slewRemain (s : State) : Int :=
  if s.time.state = .slewing then slewLeft s.time.delta (s.time.domain s.time.selected).ns s.time.slewS else 0

/-- R364: TimeStatus. -/
def State.timeStatus (s : State) : List Word :=
  [pk [(s.time.state.code, 0, 3), (b2n s.time.carryFmt, 3, 1), (s.time.selected, 4, 1), (b2n s.time.switched, 5, 1),
       (b2n s.time.fault, 6, 1), (b2n s.time.overflow, 7, 1)]] ++ w64 s.ns ++
  [w32 (wrap (ratePpb s.time.incr) 32), w32 (wrap s.slewRemain 32)]

/-- R344: meanLinkDelay of a line port, 2^-32 ns. -/
def State.linkDelay (s : State) (b : Nat) : Int :=
  let l := nth s.time.linkDelay b []
  if l = [] then 0 else fdiv (l.foldl (· + ·) 0) l.length

/-- R364: DomainStatus of TDk. -/
def State.domainStatus (s : State) (k : Nat) : List Word :=
  let d := s.time.domain k
  let off := wrap ((d.ns : Int) - s.ns) 64
  [pk [(d.tracking, 0, 2), (d.port, 2, 1), (b2n d.lost, 3, 1), (b2n d.gmChanged, 4, 1), (d.steps, 8, 8)]] ++
  w64 (if d.tracking = 0 then 0 else off) ++
  [w32 (d.gmId.toNat % 2 ^ 32), w32 (d.gmId.toNat / 2 ^ 32), w32 (wrap (asr (s.linkDelay d.port) 32) 32)]

/-- R364: GroupStatus. -/
def State.groupStatus (s : State) : List Word :=
  let g := s.group
  [pk [(b2n g.lead, 0, 1), (b2n g.joined, 1, 1), (b2n g.leadChanged, 2, 1), (b2n g.demoted, 3, 1), (b2n g.mismatch, 4, 1),
       (g.leadRank.getD 0, 5, 3), (if s.get F.GROUP_EN = 1 then maskOf ((List.range 8).map s.rankLive) else 0, 8, 8)],
   w32 g.epoch, pk [(s.sharedMoors.length, 0, 6)]]

/-- R366: the smallest density among the channels that were present at training; 0 with none. -/
def State.density (s : State) : Nat := s.dram.density

/-- R367: the data capacity of a channel of a density, MiB. -/
def dataMib (density : Nat) : Nat := if density = 0 then 0 else 992 * 2 ^ (density - 1)

/-- R393: MemoryStatus. -/
def State.memoryStatus (s : State) : List Word :=
  let d := s.dram
  [pk [(maskOf ((List.range 16).map (fun c => (s.chan c).present)), 0, 16),
       (b2n (!s.start.dramDone || s.present.any (fun c => (s.chan c).fsp == 1)), 16, 1), (b2n d.limited, 17, 1), (b2n d.refused, 18, 1),
       (b2n d.failed, 19, 1), (b2n d.breakwater, 20, 1), (b2n d.mismatch, 21, 1)],
   pk [(s.presentCount, 0, 5), (s.density, 5, 2)], w32 (s.presentCount * dataMib s.density), pk [(satN d.passes 16, 0, 16)]]

/-- Four 7-bit set-points, one to a byte (R394). -/
def setPoints (l : List Nat) : Word := pk [(nth l 0 0, 0, 7), (nth l 1 0, 8, 7), (nth l 2 0, 16, 7), (nth l 3 0, 24, 7)]

/-- R394: ChannelStatus. -/
def channelStatus (c : Channel) : List Word :=
  [pk [(c.state, 0, 2), (c.cause, 2, 3), (b2n !c.caps.isEmpty, 5, 1), (wrap c.owed 4, 8, 4), (c.mr4, 12, 3)],
   setPoints c.setH, setPoints c.setL, pk [(c.eyeMin, 0, 7)], w32 c.corrected, w32 c.uncorr]

/-- R458: SLOT_STATE as a number. -/
def SlotState.code : SlotState → Nat
  | .empty => 0 | .loaded => 1 | .valid => 2 | .invalid => 3 | .running => 4 | .trial => 5 | .fallback => 6

/-- R458: PHASE as a number; the time from READY to the takeover counts as migrating. -/
def TrialPhase.code : TrialPhase → Nat
  | .none => 0 | .booting => 1 | .migrating => 2 | .ready => 2 | .trial => 3 | .handback => 4

/-- R457: NvmStatus. -/
def State.nvmStatus (s : State) : List Word :=
  let js := journal s.mram
  let g := s.runGen
  let other := (liveGens js).filter (· != g)
  [pk [(b2n s.isDirty, 0, 1), (b2n s.dirtyProtected, 1, 1), (b2n s.calibDirty, 2, 1), (b2n (s.nvm.queue.any (·.begun)), 3, 1),
       (b2n s.inWindow, 4, 1), (s.nvm.tokens, 8, 4), (b2n s.nvm.dirtyLost, 16, 1), (b2n s.nvm.recordLost, 17, 1),
       (b2n s.nvm.txnDiscarded, 18, 1)],
   w32 s.nvm.lastTxn, pk [(recKib (liveRecs js g), 0, 16), (s.journalFree / 1024, 16, 16)],
   pk [(sumN (other.map (fun o => recKib (liveRecs js o))), 0, 16)], w32 s.mram.passes]

/-- R458: a slot is VALID or better. -/
def SlotState.good : SlotState → Bool
  | .valid | .running | .trial | .fallback => true
  | _ => false

/-- R458: FirmwareStatus. -/
def State.firmwareStatus (s : State) : List Word :=
  let v (k : Nat) (f : Nat → Nat) : Word := w32 (if (s.slot k).state.good then f k else 0)
  let trial := if s.mram.slotA.state = .trial then s.writeGen 0 else if s.mram.slotB.state = .trial then s.writeGen 1 else 0
  let boots := match s.bootRec with | some b => b.2.2 | none => 0
  [pk [(s.nvm.pilot, 0, 1), (s.mram.slotA.state.code, 1, 3), (s.mram.slotB.state.code, 4, 3), (s.nvm.phase.code, 7, 3),
       (boots, 10, 2), (s.nvm.bootCause, 12, 3), (b2n s.nvm.migrationFailed, 15, 1), (b2n s.nvm.fallback, 16, 1),
       (b2n s.nvm.recoveryDenied, 17, 1)],
   w32 s.secCounter, v 0 s.fwVersion, v 0 s.secVersion, v 1 s.fwVersion, v 1 s.secVersion,
   pk [(s.runGen, 0, 8), (trial, 8, 8),
       (match s.nvm.deadline with | some d => satN ((d - s.time.cyc) / 400000000) 16 | none => 0, 16, 16)]]

/-- An s16.8 temperature as s8.8 bits (R491). -/
def t16 (t : Int) : Nat := wrap (sat t (-32768) 32767) 16

/-- R491: ThermalStatus. -/
def State.thermalStatus (s : State) : List Word :=
  let p := s.power
  [pk [(t16 s.hottest, 0, 16), (t16 s.coldest, 16, 16)]] ++ halves ((p.nodes.take 12).map t16) ++
  halves (p.diodeVal.map t16) ++ halves (p.ntcVal.map t16) ++
  [pk [(maskOf (p.diodes.map (·.isSome)), 0, 4), (maskOf (p.ntcs.map (·.isSome)), 4, 4)]]

/-- R491: PowerStatus. -/
def State.powerStatus (s : State) : List Word :=
  let p := s.power
  [pk [(p.plThermal, 0, 6), (b2n p.forced, 6, 1), (p.blStep, 7, 3), (b2n p.railFault, 10, 1), (b2n p.avsFault, 11, 1),
       (b2n p.supplyWarn, 12, 1), (b2n p.sensorFault, 13, 1)],
   pk [(satN p.totalMw 16, 0, 16)], pk [(p.vcore, 0, 10), (satN p.margin 16, 16, 16)],
   pk [(p.ilimOut, 0, 10), (p.bright.toNat, 16, 10)],
   pk [(maskOf (p.rails.map (fun r => r.enable && r.pg)), 0, 8), (maskOf (p.rails.map (·.fault)), 8, 8), (p.railSeq, 16, 2)],
   pk [(maskOf s.scan.zones, 0, 16)]]

/-- R492: HousekeepingStatus. -/
def State.housekeepingStatus (s : State) : List Word :=
  halves (s.power.codes.map (fun c => c.1 % 4096 + b2n c.2 * 4096))

/-- R501: the conditions C0 to C3. -/
def State.fasciaConds (s : State) : List Bool :=
  [s.power.rails.any (·.fault),
   s.usedPorts.any (fun p => (s.port p).state == 1),
   (match s.time.state with | .free | .holdover | .recovery => true | _ => false),
   decide (s.power.plThermal < 48)]

/-- R497: the band of a fascia temperature under the waveform settings; none out of range. -/
def State.fasciaBand (s : State) : Option Nat :=
  match nth s.power.ntcs 1 none with
  | none => none
  | some temp =>
    if temp < s.getS F.TMIN then none
    else (idxs 8 (fun k => decide (temp < s.getS (F.TMAX k)))).head?

/-- R504: a status mask, as an image of 20 bytes. -/
def State.statusMask (s : State) (j : Nat) : List Byte := slice (ofWords ((s.obj 0x1F00).drop (1 + 5 * j))) 0 20

/-- R501: the device-status image, while a condition contributes to it. -/
def State.statusImage (s : State) : Option (List Byte) :=
  match idxs 4 (fun j => nth s.fasciaConds j false && bit (s.get F.STATUS_EN) j) with
  | [] => none
  | l => some ((l.map s.statusMask).foldl (fun a b => List.zipWith (· ||| ·) a b) (zeros 20))

/-- R503: the target: its image, its source, and the slot of a host image. -/
def State.fasciaTarget (s : State) : Option (List Byte × Nat × Option Nat) :=
  match s.statusImage with
  | some i => some (i, 1, none)
  | none =>
    (idxs 4 (fun k => (nth s.fascia.slots k {}).image.isSome)).head?.bind (fun k =>
      (nth s.fascia.slots k {}).image.map (fun i => (i, 2, some k)))

/-- R500, R503: an update is due: a restore, or a target that differs from LAST_IMAGE, with ENABLE 1. -/
def State.fasciaDue (s : State) : Bool :=
  s.get F.FA_ENABLE == 1 && (s.fascia.restoreDue ||
    (match s.fasciaTarget with | some x => x.1 != s.fascia.last | none => false))

/-- R498: an update may start: the temperature is in range and the MRAM may be written. -/
def State.fasciaMay (s : State) : Bool := s.fasciaBand.isSome && s.inWindow

/-- R506: FasciaStatus. -/
def State.fasciaStatus (s : State) : List Word :=
  let f := s.fascia
  let (st, ph, band, src, sq) := match f.update with
    | some u => (if u.abort then 2 else 1, min u.phase 3, u.band, u.source, u.seq)
    | none => (if s.fasciaDue && !s.fasciaMay then 3 else 0, 0, 0, 0, 0)
  [pk [(st, 0, 2), (ph, 2, 2), (band, 4, 3), (src, 7, 2), (maskOf s.fasciaConds, 9, 4), (b2n f.aborted, 13, 1),
       (b2n f.restored, 14, 1), (maskOf (f.slots.map (·.image.isSome)), 15, 4)], w32 sq]

/-- R506: FasciaLast as settings object words. -/
def Fascia.lastWords (f : Fascia) : List Word := pk [(b2n f.inProgress, 0, 1)] :: toWords 5 f.last

/-- R515: WakeStatus. -/
def State.wakeStatus (s : State) : List Word :=
  [pk [(satN (wakeUnits (s.wake.ring.drop s.wake.exported)) 19, 0, 19), (b2n s.exporting, 19, 1)], w32 s.wake.seq]

/-- R535: StartupStatus. -/
def State.startupStatus (s : State) : List Word :=
  let u := s.start
  halves [u.tPilot, u.tDram, u.tRails, u.tTime, u.tLinks, u.tFirst] ++
  [pk [(u.source, 0, 2), (b2n u.repaired, 2, 1), (b2n u.sramFault, 3, 1)]]

/-- The IDs of the status objects other than MooringStatus (R10). -/
def statusIds : List Nat :=
  [0x2000, 0x2010] ++ (List.range 16).map (0x2020 + ·) ++ [0x2100, 0x2200, 0x2300, 0x2301, 0x2800, 0x2900, 0x2A00] ++
  (List.range 16).map (0x2A10 + ·) ++ [0x2A40] ++ (List.range 16).map (0x2B00 + ·) ++ [0x2B10, 0x2B11, 0x2C00, 0x2D00,
  0x2D01, 0x2D02, 0x2E00, 0x2F00] ++ (List.range 16).map (0x2F10 + ·) ++ [0x2F80, 0x2F81, 0x2F90, 0x2F91, 0x2F92, 0x2FA0,
  0x2FB0, 0x2FC0]

/-- The words of a status object as the state gives them now; none where no status object has the ID. -/
def State.statusNow (s : State) (id : Nat) : Option (List Word) :=
  if 0x2020 ≤ id ∧ id < 0x2030 then some (s.sessionStatus (id - 0x2020))
  else if 0x2400 ≤ id ∧ id < 0x2800 then some (mooringStatus (s.moor (id - 0x2400)))
  else if 0x2A10 ≤ id ∧ id < 0x2A20 then some (s.sectorStatus (id - 0x2A10))
  else if 0x2B00 ≤ id ∧ id < 0x2B10 then some (portStatus (s.port (id - 0x2B00)))
  else if id = 0x2B10 ∨ id = 0x2B11 then some (backboneStatus (s.bbp (id - 0x2B10)))
  else if id = 0x2D01 ∨ id = 0x2D02 then some (s.domainStatus (id - 0x2D01))
  else if 0x2F10 ≤ id ∧ id < 0x2F20 then some (channelStatus (s.chan (id - 0x2F10)))
  else match id with
    | 0x2000 => some s.fieldStatus
    | 0x2010 => some s.gangwayStatus
    | 0x2100 => some s.ingestStatus
    | 0x2200 => some s.codecStatus
    | 0x2300 => some s.planStatus
    | 0x2301 => some s.backgroundStatus
    | 0x2800 => some s.synthesisStatus
    | 0x2900 => some s.skimStatus
    | 0x2A00 => some s.scanoutStatus
    | 0x2A40 => some s.opticsStatus
    | 0x2C00 => some s.bridgeStatus
    | 0x2D00 => some s.timeStatus
    | 0x2E00 => some s.groupStatus
    | 0x2F00 => some s.memoryStatus
    | 0x2F80 => some s.nvmStatus
    | 0x2F81 => some s.firmwareStatus
    | 0x2F90 => some s.thermalStatus
    | 0x2F91 => some s.powerStatus
    | 0x2F92 => some s.housekeepingStatus
    | 0x2FA0 => some s.fasciaStatus
    | 0x2FB0 => some s.wakeStatus
    | 0x2FC0 => some s.startupStatus
    | _ => none

/-- R38: the snapshot of every status object, taken at a field tick, with ServiceConfig and FasciaLast, which PLAN_QUERY
and FASCIA_QUERY report from it. A mooring at its reset value is left out. -/
def State.snapshot (s : State) : Tab (List Word) :=
  let all := statusIds.map (fun id => (id, (s.statusNow id).getD [])) ++
    s.moors.map (fun p => (0x2400 + p.1, mooringStatus p.2)) ++ [(0x1300, s.obj 0x1300), (0x1F02, s.fascia.lastWords)]
  all.foldl (fun t e => Tab.put t e.1 e.2) []

/-- R38: the words of a status object in the latest snapshot; before the first tick since start, as they are now. -/
def State.statusAt (s : State) (id : Nat) : Option (List Word) :=
  match Tab.get? s.obs.snap id with
  | some ws => some ws
  | none => if 0x2400 ≤ id ∧ id < 0x2800 ∧ s.obs.snap ≠ [] then some (mooringStatus {}) else s.statusNow id

/-- ServiceConfig or FasciaLast as of the latest snapshot; before the first, as it is now. -/
def State.settingAt (s : State) (id : Nat) : List Word :=
  (Tab.get? s.obs.snap id).getD (if id = 0x1F02 then s.fascia.lastWords else s.obj id)

/-- The bytes of a status object in the latest snapshot. -/
def State.statusBytes (s : State) (id : Nat) : List Byte := ofWords ((s.statusAt id).getD [])

end Sys2Proof.Machine
end

