-- ==== Sys2Proof/Machine/Intake.lean ====
section
/-! DEFINITION. What the Quay does with a datagram delivered to BBI: its class (R100) and its admission (R104, R105). -/

namespace Sys2Proof.Machine

/-- The classes of R100. -/
inductive Traffic where
  | scene | command | group | other
  deriving DecidableEq, Repr

/-- R100: an address of scene traffic. -/
def State.sceneAddr (s : State) (ip : Nat) : Bool :=
  ip == s.get F.DEV_IP || (List.range 8).any (fun k => s.cutv (F.MCAST_GROUP k) != 0 && ip == s.cutv (F.MCAST_GROUP k))

/-- R100: the class of a datagram by destination port and address. -/
def State.traffic (s : State) (dstIp dstPort : Nat) : Traffic :=
  if dstPort = s.cutv F.SCENE_PORT ∧ s.sceneAddr dstIp then .scene
  else if dstPort = s.get F.GANGWAY_PORT ∧ dstIp = s.get F.DEV_IP then .command
  else if dstPort = s.get F.GROUP_PORT ∧ (dstIp = s.get F.DEV_IP ∨ (s.get F.GROUP_MCAST ≠ 0 ∧ dstIp = s.get F.GROUP_MCAST)) then .group
  else .other

/-- R104: the MOORING field of a datagram's first chunk, read before any check; bytes that are not there read as 0 (log
entry 114). -/
def firstMooring (payload : List Byte) : Nat := num payload 6 2

/-- R104: the threshold of a class of datagram, bytes. -/
def State.quayLimit (s : State) (c : Traffic) (payload : List Byte) : Nat :=
  match c with
  | .scene =>
    let m := firstMooring payload
    let prio := if 1023 < m then 3 else s.cutI F.M_PRIORITY m
    (7936 - 256 * prio) * 1024
  | _ => 8192 * 1024

/-- R104: the Quay admits a datagram. -/
def State.quayTakes (s : State) (c : Traffic) (ipLen : Nat) (payload : List Byte) : Bool :=
  decide (s.quayUsed + ipLen ≤ s.quayLimit c payload)

/-- R105: a datagram dropped whole. -/
def State.quayDrop (s : State) (c : Traffic) (payload : List Byte) : State :=
  let s := s.tally T.ING_QUAY_DROP
  match c with
  | .scene => if firstMooring payload ≤ 1023 then s.tally (T.ING_QUAY_DROP_MOORING + firstMooring payload) else s
  | _ => s

/-- R115: the peak of the Quay's occupancy. -/
def State.quayPeak (s : State) : State :=
  { s with ingest := { s.ingest with peak := max s.ingest.peak s.quayUsed } }

/-- R100, R101, R104: a scene datagram admitted to the Quay or dropped; one that is admitted is then checked under R72. -/
def State.sceneAdmit (s : State) (d : Datagram) : State :=
  if ¬ s.quayTakes .scene d.ipLen d.payload then s.quayDrop .scene d.payload
  else if d.ipOptions ∨ d.fragment ∨ d.badChecksum ∨ 9166 < d.payload.length then s.tally T.LSF_DGRAM_BAD
  else
    let e : QuayEntry := { d := d, offset := 0, port := s.cutv F.SCENE_PORT }
    State.quayPeak { s with ingest := { s.ingest with quay := s.ingest.quay ++ [e] } }

end Sys2Proof.Machine
end

