-- ==== Sys2Proof/Machine/Scene.lean ====
section
/-! DEFINITION. The Lenqora Scene Format: chunks and their checks (R72 to R95), the sequence window (R116 to R119), tiles
(R85, R86), pending frames (R92, R117), their abandonment, and the application of a frame (R60, R79 to R90, R123). -/

namespace Sys2Proof.Machine

/-! ## Chunks (R73 to R78) -/

/-- The fields of a chunk header (R74). -/
structure Head where
  version : Nat
  type    : Nat
  length  : Nat
  moor    : Nat
  frame   : Nat
  seq     : Nat
  session : Nat
  clean   : Bool                       -- every reserved bit and byte is 0
  deriving DecidableEq, Repr

/-- R73: a chunk stands at the beginning of bytes. -/
def framed (bs : List Byte) : Bool :=
  decide (32 ≤ bs.length) && num bs 0 2 == 0x534C && decide (32 ≤ num bs 4 2) && num bs 4 2 % 4 == 0 &&
  decide (num bs 4 2 ≤ bs.length)

/-- R74: the header of a chunk. -/
def headOf (bs : List Byte) : Head :=
  { version := num bs 2 1, type := num bs 3 1, length := num bs 4 2, moor := num bs 6 2 % 1024, frame := num bs 8 4,
    seq := num bs 0x0C 4, session := num bs 0x10 4,
    clean := decide (num bs 6 2 < 1024) && decide (num bs 0x14 2 < 2) && num bs 0x16 2 == 0 && num bs 0x18 4 == 0 }

/-- R75: the CRC-32C of a chunk: its CRC field is left out. -/
def chunkCrc (bs : List Byte) : Nat := crc32c (bs.take 0x1C ++ bs.drop 0x20)

/-- R77: the type is assigned and a source sends it. -/
def typeOk (t : Nat) : Bool := (decide (1 ≤ t) && decide (t ≤ 9)) || t == 0x0F

/-- R83: colour or relief tile. -/
def isTile (t : Nat) : Bool := t == 4 || t == 5

/-- R84: the raw size of a tile. -/
def rawSize (relief : Bool) : Nat := if relief then 8192 else 16384

/-! ## Ranges (R64) -/

/-- A signed value lies within ± `lim` millimetres, in s24.8. -/
def within (v : Int) (lim : Nat) : Bool := decide (v.natAbs ≤ lim * 256)

/-- R64: an effective depth. -/
def depthOk (z : Int) : Bool := decide (-1000 * 256 ≤ z) && decide (z ≤ 8000000 * 256)

/-- R64, R68: ring phases of a coat. -/
def phaseOk (w h px py relief : Nat) : Bool :=
  decide (px < w) && decide (py < h) &&
  (relief == 0 || (px % 2 == 0 && py % 2 == 0 && (w % 2 == 0 || px == 0) && (h % 2 == 0 || py == 0)))

/-- R82, R64: a COAT_DECL payload, checked on its arrival. -/
def declOk (pl : List Byte) : Bool :=
  let w := num pl 2 2; let h := num pl 4 2; let px := num pl 0x14 4; let py := num pl 0x18 4
  pl.length == 40 && decide (num pl 0 1 ≤ 63) && num pl 1 1 == 0 && num pl 6 2 == 0 &&
  decide (1 ≤ w ∧ w ≤ 1024 ∧ 1 ≤ h ∧ h ≤ 256 ∧ w * h ≤ 65536) && within (snum pl 8 4) 2000000 && within (snum pl 0x0C 4) 2000000 &&
  px != 0 && py != 0 && decide (w * 64 * px ≤ 4000000 * 65536) && decide (h * 64 * py ≤ 4000000 * 65536) &&
  phaseOk w h (num pl 0x20 2) (num pl 0x22 2) (num pl 0x1C 4)

/-- R83, R84: a tile payload, as far as one fragment shows it. -/
def tileOk (relief : Bool) (pl : List Byte) : Bool :=
  let size := num pl 8 2; let frag := num pl 0x0A 2; let coding := num pl 1 1
  decide (num pl 0 1 ≤ 63) && decide (coding ≤ 1) && decide (1 ≤ num pl 7 1 ∧ num pl 7 1 ≤ 16) &&
  decide (num pl 6 1 < num pl 7 1) && decide (1 ≤ frag) && num pl 0x0E 2 == 0 && pl.length == 4 * cdiv (16 + frag) 4 &&
  (if coding = 0 then size == rawSize relief else decide (size ≤ rawSize relief + 32))

/-- R349: the moorings that count for the limit of group-shared moorings, other than mooring n. -/
def State.sharedCount (s : State) (n : Nat) : Nat :=
  (s.moors.filter (fun p => p.1 != n && ((p.2.state == 2 && p.2.scene.shared) || p.2.openShared != []))).length

/-- R79, R64, R349: a SCENE_OPEN payload. -/
def State.openOk (s : State) (n : Nat) (pl : List Byte) : Bool :=
  pl.length == 24 && decide (num pl 0 4 < 2) && within (snum pl 4 4) 1000000 && within (snum pl 8 4) 1000000 &&
  within (snum pl 0x0C 4) 10000 && num pl 0x13 1 == 0 && num pl 0x16 2 == 0 &&
  !(num pl 0 1 == 1 && s.get F.GROUP_EN == 1 && decide (32 ≤ s.sharedCount n))

/-- R91: a FRAME_COMMIT payload against the commit's own CHUNK_SEQ. -/
def commitOk (seq : Nat) (pl : List Byte) : Bool :=
  pl.length == 24 && decide (num pl 4 4 ≤ 262144) && seq == (num pl 0 4 + num pl 4 4) % 2 ^ 32 && num pl 0x10 8 == 0

/-- R95 step 6, R74: LENGTH, fields and reserved bytes of the payload. -/
def State.payloadOk (s : State) (n : Nat) (h : Head) (pl : List Byte) : Bool :=
  decide (pl.length + 32 ≤ 9164) &&
  match h.type with
  | 1 => s.openOk n pl
  | 2 => pl.length == 0
  | 3 => declOk pl
  | 4 => tileOk false pl
  | 5 => tileOk true pl
  | 6 => decide (1 ≤ num pl 0 1 ∧ num pl 0 1 ≤ 64) && num pl 1 3 == 0 && pl.length == 4 + 20 * num pl 0 1
  | 7 => pl.length == 4 && decide (num pl 0 1 ≤ 63) && num pl 1 3 == 0
  | 8 => pl.length == 4 && num pl 1 3 == 0
  | 9 => commitOk h.seq pl
  | _ => true

/-! ## Records (R98, R511) -/

/-- R98, R511: the CHUNK wake record. -/
def State.chunkRec (s : State) (n step frame seq : Nat) : State :=
  s.wakeRec 0x0101 (le 2 n ++ [byte step, 0] ++ le 4 frame ++ le 4 seq)

/-- R98: a chunk refused at step 6. -/
def State.refuseTally (s : State) (n frame seq : Nat) : State := (s.tally T.LSF_PAYLOAD).chunkRec n 6 frame seq

/-- R511: the FRAME wake record: outcome 0 applied, 1 concealed, 2 abandoned. -/
def State.frameRec (s : State) (n outcome frame concealed field : Nat) : State :=
  s.wakeRec 0x0102 (le 2 n ++ [byte outcome, 0] ++ le 4 frame ++ le 4 concealed ++ le 8 field)

/-! ## Pending frames -/

/-- The pending frame of a scene frame ID. -/
def Mooring.frame (m : Mooring) (f : Nat) : Option PFrame := m.frames.find? (fun x => x.id == f)

/-- R117: what a pending frame is ordered by: FIRST_SEQ once its commit has arrived, else its lowest received sequence,
as distances from BASE. -/
def Mooring.frameKey (m : Mooring) (x : PFrame) : Nat :=
  match x.commit with
  | some c => dist32 c.first m.base
  | none => ((m.chunks.filter (fun c => c.frame == x.id)).map (fun c => dist32 c.seq m.base)).foldl min (2 ^ 32)

/-- R117: the pending frames, oldest first. -/
def Mooring.ordered (m : Mooring) : List PFrame := sortBy (fun a b => decide (m.frameKey a < m.frameKey b)) m.frames

/-- R91, R92: a sequence lies in the range of a commit. -/
def Commit.has (c : Commit) (seq : Nat) : Bool := decide (dist32 seq c.first < c.count)

/-- R117: a sequence number has been received. -/
def Mooring.got (m : Mooring) (seq : Nat) : Bool := m.received.contains seq

/-- R92: a sequence lies in the range of a pending frame's commit. -/
def Mooring.claimed (m : Mooring) (seq : Nat) : Bool :=
  m.frames.any (fun x => match x.commit with | some c => c.has seq | none => false)

/-- BASE moved: sequences before it are no longer held as missing, nor as received unless a pending frame counts them
among its members (R92, R117, R120). -/
def Mooring.setBase (m : Mooring) (b : Nat) : Mooring :=
  { m with base := b, received := m.received.filter (fun x => !(newer32 b x) || m.claimed x),
           missing := m.missing.filter (fun x => !(newer32 b x.seq)) }

/-- A pending frame taken out, with its chunks and its tiles (R102, R132). -/
def Mooring.dropFrame (m : Mooring) (f : Nat) : Mooring :=
  { m with frames := m.frames.filter (fun x => x.id != f), chunks := m.chunks.filter (fun c => c.frame != f),
           tiles := m.tiles.filter (fun t => t.frame != f),
           openShared := m.openShared.filter (· != f),
           startOpen := match m.startOpen with | some o => if o.1 = f then none else some o | none => none }

/-- R119: BASE after the oldest pending frame has been abandoned. -/
def Mooring.baseAfter (m : Mooring) (x : PFrame) (cause : Option Nat) : Nat :=
  match x.commit with
  | some c => (c.seq + 1) % 2 ^ 32
  | none =>
    match minBy? (fun a b => decide (dist32 a m.base < dist32 b m.base)) (m.chunks.map (·.seq)) with
    | some q => q
    | none => match cause with | some q => q | none => (m.high + 1) % 2 ^ 32

/-- R120: the sequences of a pending frame, as distances from BASE: from FIRST_SEQ to its commit, else from its lowest to
its highest received sequence (log entry 109). -/
def Mooring.spanOf (m : Mooring) (x : PFrame) : Nat × Nat :=
  match x.commit with
  | some c => (dist32 c.first m.base, dist32 c.seq m.base)
  | none =>
    let l := (m.chunks.filter (fun c => c.frame == x.id)).map (fun c => dist32 c.seq m.base)
    (l.foldl min (2 ^ 32), maxN l)

/-- R120: sequences that belong to an abandoned frame are not missing. -/
def Mooring.dropMissing (m : Mooring) (span : Nat × Nat) : Mooring :=
  { m with missing := m.missing.filter (fun y =>
      !(decide (span.1 ≤ dist32 y.seq m.base) && decide (dist32 y.seq m.base ≤ span.2))) }

/-- R119, R120, R123: a pending frame abandoned; `cause` is the sequence of the chunk that caused it. -/
def State.abandonFrame (s : State) (n f field : Nat) (cause : Option Nat) : State :=
  let m := s.moor n
  match m.frame f with
  | none => s
  | some x =>
    let oldest := match m.ordered with | y :: _ => y.id == f | [] => false
    let m2 := (m.dropFrame f).dropMissing (m.spanOf x)
    let m2 := if oldest then m2.setBase (m2.baseAfter x cause) else m2
    ((s.setMoor n { m2 with abandoned := true }).tally T.ING_ABANDONED).frameRec n 2 f 0 field

/-- Every pending frame abandoned, oldest first. -/
def State.abandonAll (s : State) (n field : Nat) (cause : Option Nat) : State :=
  (s.moor n).ordered.foldl (fun s x => s.abandonFrame n x.id field cause) s

/-! ## Coat storage (R71, R165) -/

/-- R68: relief tiles along an axis of `n` colour tiles. -/
def reliefTiles (n : Nat) : Nat := cdiv n 2

/-- R71: bytes of a coat's colour and relief storage. -/
def coatBytes (w h relief : Nat) : Nat :=
  w * h * 16384 + (if relief = 0 then 0 else reliefTiles w * reliefTiles h * 8192)

/-- The channels of a mask, ascending. -/
def maskChans (m : Nat) : List Nat := idxs 16 (fun c => bit m c)

/-- R165: the present channel number of S_j. -/
def Placement.first (p : Placement) : Nat :=
  let l := maskChans p.pres
  ((idxs l.length (fun i => nth l i 16 == p.chan)).head?).getD 0

/-- R165: the channel on which a stored tile is placed when its coat is declared. -/
def Placement.base (p : Placement) (c r : Nat) : Nat :=
  let l := maskChans p.pres
  nth l ((p.first + c + 3 * r) % max 1 l.length) 0

/-- R389: the key of a tile that has been re-placed. -/
def tileKey (relief : Bool) (c r : Nat) : Nat := 2 * (r * 65536 + c) + b2n relief

/-- R165, R389: the channel on which a stored tile lies. -/
def Placement.tile (p : Placement) (relief : Bool) (c r : Nat) : Nat :=
  (Tab.get? p.moved (tileKey relief c r)).getD (p.base c r)

/-- R165: the tiles of a `w` × `h` grid that lie on the present channel number `k`, of `p`, when tile (0, 0) lies on
number `j`. -/
def tilesOn (p j w h k : Nat) : Nat :=
  sumN ((List.range h).map (fun r => w / p + b2n (decide ((k + p * (j + 3 * r + 1) - j - 3 * r) % p < w % p))))

/-- R389: the bytes of a re-placed tile, from its key. -/
def keyBytes (key : Nat) : Nat := if key % 2 = 0 then 16384 else 8192

/-- R165, R389: the storage that a coat takes on a channel. -/
def Placement.on (p : Placement) (w h relief chan : Nat) : Nat :=
  let l := maskChans p.pres
  let placed := match (idxs l.length (fun i => nth l i 16 == chan)).head? with
    | some k => tilesOn l.length p.first w h k * 16384 +
        (if relief = 0 then 0 else tilesOn l.length p.first (reliefTiles w) (reliefTiles h) k * 8192)
    | none => 0
  let bytes (f : Nat × Nat → Bool) : Nat := sumN ((p.moved.filter f).map (fun e => keyBytes e.1))
  placed + bytes (fun e => e.2 == chan) - bytes (fun e => p.base (e.1 / 2 % 65536) (e.1 / 131072) == chan)

/-- R71: the coats that hold storage: (placement, width, height, relief scale). -/
def Mooring.storage (m : Mooring) : List (Placement × Nat × Nat × Nat) :=
  m.scene.coats.map (fun e => (e.2.place, e.2.width, e.2.height, e.2.relief)) ++
  (m.chunks.filter (fun c => c.type == 3 && !c.refused)).map
    (fun c => (c.place, num c.payload 2 2, num c.payload 4 2, num c.payload 0x1C 4))

/-- R71: the coat storage in use, bytes. -/
def State.coatUse (s : State) : Nat :=
  sumN (s.moors.map (fun p => sumN (p.2.storage.map (fun e => coatBytes e.2.1 e.2.2.1 e.2.2.2))))

/-- R165: the coat storage that each present channel holds: (channel, bytes). -/
def State.chanUse (s : State) : List (Nat × Nat) :=
  let all := s.moors.flatMap (fun p => p.2.storage)
  s.present.map (fun c => (c, sumN (all.map (fun e => e.1.on e.2.1 e.2.2.1 e.2.2.2 c))))

/-- R165, R389: the channel with the least use, the lowest winning ties. -/
def leastUsed (use : List (Nat × Nat)) : Nat :=
  match minBy? (fun a b => decide (a.2 < b.2)) use with
  | some x => x.1
  | none => 0

/-- R165, R33: where the tiles of a coat declared now lie. No packet says so: what a host sends names moorings, coats, tiles and
surfaces, and the place comes from the storage in use. -/
def State.newPlace (s : State) : Placement := { chan := leastUsed s.chanUse, pres := maskOf ((List.range 16).map (fun c => s.present.contains c)) }

/-- R95 step 7, R71: a coat record and storage are to be had. -/
def State.coatRoom (s : State) (pl : List Byte) : Bool :=
  decide (s.coatRecords + 1 ≤ 4096) &&
  decide (s.coatUse + coatBytes (num pl 2 2) (num pl 4 2) (num pl 0x1C 4) ≤ Config.coatStorage s.presentCount s.density)

/-! ## Tiles (R85, R86) -/

/-- R86: what a tile resolves to. -/
inductive Resolve where
  | decl (w h relief : Nat) (place : Placement)
  | retired
  | none
  deriving DecidableEq, Repr

/-- R86: the latest COAT_DECL or COAT_RETIRE of a coat index with a lower CHUNK_SEQ in a pending frame. -/
def Mooring.latest (m : Mooring) (coat seq : Nat) : Option Chunk :=
  let l := m.chunks.filter (fun c => (c.type == 3 || c.type == 7) && !c.refused && num c.payload 0 1 == coat && newer32 seq c.seq)
  l.foldl (fun (a : Option Chunk) c => match a with | some b => if newer32 c.seq b.seq then some c else some b | none => some c) none

/-- R86: a sequence between the latest event of a coat, or BASE, and `seq` has not been received: an event nearer to `seq`
may yet arrive. -/
def Mooring.mayResolve (m : Mooring) (coat seq : Nat) : Bool :=
  let start := match m.latest coat seq with | some c => (c.seq + 1) % 2 ^ 32 | none => m.base
  !(newer32 start seq) && decide ((m.received.filter (fun q => decide (dist32 q start < dist32 seq start))).length < dist32 seq start)

/-- R86: the latest event for a coat index with a lower CHUNK_SEQ: in a pending frame, or the coat as applied in the
session. -/
def Mooring.resolve (m : Mooring) (coat seq : Nat) : Resolve :=
  match m.latest coat seq with
  | some c => if c.type = 3 then .decl (num c.payload 2 2) (num c.payload 4 2) (num c.payload 0x1C 4) c.place else .retired
  | none =>
    if m.scene.session = m.session then
      match Tab.get? m.scene.coats coat with
      | some x => .decl x.width x.height x.relief x.place
      | none => .none
    else .none

/-- R86, R69: the tile's position exists in the declaration. -/
def inDecl (w h relief : Nat) (t : Tile) : Bool :=
  if t.relief then relief != 0 && decide (t.x < reliefTiles w) && decide (t.y < reliefTiles h)
  else decide (t.x < w) && decide (t.y < h)

/-- R85: every fragment of the set has arrived. -/
def Tile.whole (t : Tile) : Bool := decide (t.frags.length = t.fragCount)

/-- A tile replaced in its mooring's list. -/
def Mooring.putTile (m : Mooring) (t : Tile) : Mooring :=
  let same (u : Tile) : Bool :=
    u.frame == t.frame && u.coat == t.coat && u.relief == t.relief && u.x == t.x && u.y == t.y
  if m.tiles.any same then { m with tiles := m.tiles.map (fun u => if same u then t else u) }
  else { m with tiles := m.tiles ++ [t] }

/-- The chunks of a tile's fragments changed. -/
def Mooring.onFrags (m : Mooring) (t : Tile) (f : Chunk → Chunk) : Mooring :=
  { m with chunks := m.chunks.map (fun c => if c.frame = t.frame ∧ t.frags.any (fun g => g.2.1 == c.seq) then f c else c) }

/-- R85, R92, R98: a tile refused for its frame; each fragment received is refused and counted once. -/
def State.refuseTile (s : State) (n : Nat) (t : Tile) : State :=
  let m := (s.moor n).onFrags t (fun c => { c with refused := true, loc := .store, payload := [] })
  let s := s.setMoor n (m.putTile { t with state := .refused })
  t.frags.foldl (fun s g => s.refuseTally n t.frame g.2.1) s

/-- R92: every member of a frame with a commit has been received. -/
def Mooring.membersIn (m : Mooring) (c : Commit) : Bool :=
  decide ((m.received.filter (fun q => c.has q)).length = c.count)

/-- R86: a whole tile against what it resolves to: `some true` it may be decompressed, `some false` it is refused, `none`
it waits for a declaration that may yet arrive. `committed` tells that its frame's commit has arrived. -/
def Mooring.tileVerdict (m : Mooring) (t : Tile) (committed : Bool) : Option Bool :=
  match m.resolve t.coat t.seq with
  | .decl w h r _ => if inDecl w h r t then some true else if m.mayResolve t.coat t.seq then none else some false
  | .retired => if m.mayResolve t.coat t.seq then none else some false
  | .none => if committed then some false else none

/-- R85, R86, R92, R108: a gathering tile judged: a whole one is refused, waits, or is queued in its tile berth while
that has room; one of a frame whose members are all received and which lacks fragments is refused. -/
def State.settleTile (s : State) (n : Nat) (t : Tile) : State :=
  if t.state ≠ .gathering then s else
  let m := s.moor n
  let commit := match m.frame t.frame with | some x => x.commit | none => none
  if ¬ t.whole then
    match commit with
    | some c => if m.membersIn c then s.refuseTile n t else s
    | none => s
  else match m.tileVerdict t commit.isSome with
    | some true =>
      if s.berthTakes m.tileUsed (s.cutI F.M_TILE_RESERVE n) then
        let s := { s with ingest := { s.ingest with order := s.ingest.order + 1 } }
        s.setMoor n (m.putTile { t with state := .queued, order := s.ingest.order })
      else s
    | some false => s.refuseTile n t
    | none => s

/-- Every gathering tile of a mooring judged, oldest first. -/
def State.settle (s : State) (n : Nat) : State :=
  (s.moor n).tiles.foldl (fun s t => s.settleTile n t) s

/-- R109: the moorings in the order in which their receive berths are served: by PRIORITY, 0 first, and round-robin within
one priority, on from the mooring served last. -/
def State.serviceOrder (s : State) : List Nat :=
  let prio (n : Nat) : Nat := s.cutI F.M_PRIORITY n
  let turn (n : Nat) : Nat := (n + 1023 - nth s.ingest.served (prio n) 1023) % 1024
  sortBy (fun a b => decide (prio a < prio b) || (prio a == prio b && decide (turn a < turn b))) (s.moors.map (·.1))

/-- R109: a mooring's receive berth served: its gathering tiles judged; one that gave up a descriptor was served last. -/
def State.serveBerth (s : State) (n : Nat) : State :=
  let u := s.settle n
  if (u.moor n).rxUsed = (s.moor n).rxUsed then u
  else { u with ingest := { u.ingest with served := modAt u.ingest.served (s.cutI F.M_PRIORITY n) (fun _ => n) } }

/-- R108, R109: every receive berth served: a tile berth may have got room. -/
def State.settleAll (s : State) : State := s.serviceOrder.foldl State.serveBerth s

/-- R85: the fragments of a tile agree among themselves, as far as they have arrived. -/
def fragsAgree (size count : Nat) (lens : List (Nat × Nat × Nat)) : Bool :=
  lens.all (fun a =>
    (a.1 != 0 || a.2.1 == 0) && decide (a.2.1 + a.2.2 ≤ size) && (a.1 + 1 != count || a.2.1 + a.2.2 == size) &&
    lens.all (fun b => b.1 != a.1 + 1 || b.2.1 == a.2.1 + a.2.2))

/-- R85: (FRAG_INDEX, FRAG_OFFSET, FRAG_SIZE) of the fragments of a tile. -/
def Mooring.fragSpans (m : Mooring) (t : Tile) : List (Nat × Nat × Nat) :=
  t.frags.map (fun g => (g.1, g.2.2,
    match m.chunks.find? (fun c => c.frame == t.frame && c.seq == g.2.1) with | some c => num c.payload 0x0A 2 | none => 0))

/-- R85: a fragment that has been received joins its tile. -/
def State.joinTile (s : State) (n frame seq : Nat) (relief : Bool) (pl : List Byte) : State :=
  let m := s.moor n
  let key (u : Tile) : Bool :=
    u.frame == frame && u.coat == num pl 0 1 && u.relief == relief && u.x == num pl 2 2 && u.y == num pl 4 2
  let g := (num pl 6 1, seq, num pl 0x0C 2)
  match m.tiles.find? key with
  | none =>
    let t : Tile :=
      { frame := frame, coat := num pl 0 1, relief := relief, x := num pl 2 2, y := num pl 4 2, coding := num pl 1 1,
        fragCount := num pl 7 1, streamSize := num pl 8 2, frags := [g], seq := seq, state := .gathering, order := 0 }
    let m := m.putTile t
    let s := s.setMoor n m
    if fragsAgree t.streamSize t.fragCount (m.fragSpans t) then s.settle n else s.refuseTile n t
  | some t =>
    let u := { t with frags := t.frags ++ [g], seq := if newer32 seq t.seq then seq else t.seq }
    let s2 := s.setMoor n (m.putTile u)
    if t.state = .refused then
      (s.setMoor n (m.onFrags { t with frags := [g] } (fun c => { c with refused := true, loc := .store, payload := [] }))).refuseTally
        n frame seq
    else if t.coding = num pl 1 1 ∧ t.fragCount = num pl 7 1 ∧ t.streamSize = num pl 8 2 ∧ ¬ t.frags.any (fun x => x.1 == g.1) ∧
        fragsAgree u.streamSize u.fragCount ((m.putTile u).fragSpans u) then s2.settle n
    else s2.refuseTile n u

/-! ## Refusing a received chunk (R81, R91, R92) -/

/-- R92, R97, R117: a received chunk refused later, when a frame's commit shows that it is none of its frame. A fragment's
tile is refused with it, whatever its other fragments (log entry 112); a FRAME_COMMIT no longer closes its frame. -/
def State.refuseChunk (s : State) (n : Nat) (c : Chunk) : State :=
  let m := s.moor n
  -- R98: it may have been refused since, with a tile of which it is a fragment
  if m.chunks.any (fun x => x.frame == c.frame && x.seq == c.seq && x.refused) then s
  else
    match m.tiles.find? (fun t => isTile c.type && t.frame == c.frame && t.state != .refused && t.frags.any (fun g => g.2.1 == c.seq)) with
    | some t => s.refuseTile n t
    | none =>
      let f (x : Chunk) : Chunk := if x.frame = c.frame ∧ x.seq = c.seq then { x with refused := true, loc := .store, payload := [] } else x
      let open' (x : PFrame) : PFrame :=
        if c.type = 9 ∧ x.id = c.frame ∧ (x.commit.map (·.seq)) = some c.seq then { x with commit := none, cuts := 0 } else x
      let m := { m with chunks := m.chunks.map f, frames := m.frames.map open',
                        openShared := if c.type = 1 ∧ num c.payload 0 1 = 1 then m.openShared.erase c.frame else m.openShared }
      (s.setMoor n m).refuseTally n c.frame c.seq

/-- A chunk of which only the sequence, the frame and the type are known. -/
def bareChunk (seq frame type : Nat) : Chunk :=
  { seq := seq, frame := frame, type := type, session := 0, payload := [], bytes := [], length := 0, refused := false,
    loc := .quay, order := 0, place := {} }

/-- R79, R81, R92: whether a received chunk does not belong to the frame that a commit closes. `closes` are the
sequences of the frame's SCENE_CLOSEs. -/
def outOfFrame (f : Nat) (c : Commit) (closes : List Nat) (x : Chunk) : Bool :=
  if x.frame = f then
    (!(c.has x.seq) && x.seq != c.seq) || (x.type == 1 && x.seq != c.first) || closes.any (fun q => newer32 x.seq q)
  else c.has x.seq

/-- The SCENE_CLOSEs of a frame that stand. -/
def Mooring.closes (m : Mooring) (f : Nat) : List Nat :=
  (m.chunks.filter (fun x => x.frame == f && x.type == 2 && !x.refused)).map (·.seq)

/-- R91, R92, R79, R118: the arrival of a commit that passes its checks. A FIRST_SEQ older than BASE abandons the frame under
R118, which moves BASE, also in the frame of the SCENE_OPEN that started the session (log entry 36). -/
def State.commitArrives (s : State) (n f seq : Nat) (pl : List Byte) : State :=
  let c : Commit := { seq := seq, first := num pl 0 4, count := num pl 4 4, capture := num pl 8 8 }
  let m := s.moor n
  let m := { m with frames := m.frames.map (fun x => if x.id = f then { x with commit := some c } else x) }
  let s := s.setMoor n m
  let started := match m.startOpen with | some o => o.1 == f && o.2 != c.first | none => false
  if newer32 m.base c.first then
    let s := s.abandonFrame n f s.scan.field (some seq)
    s.modMoor n (fun m => m.setBase ((seq + 1) % 2 ^ 32))
  else if started then
    -- the session stands, and BASE as its SCENE_OPEN set it
    (s.abandonFrame n f s.scan.field (some seq)).modMoor n (fun u =>
      { u with base := m.base, received := m.received,
               missing := m.missing.filter (fun y => !(c.has y.seq)) })
  else
    let closes := (m.closes f).filter c.has
    let out := m.chunks.filter (fun x => !x.refused && !(x.frame == f && x.seq == seq) && outOfFrame f c closes x)
    (out.foldl (fun s x => s.refuseChunk n x) s).settle n

/-! ## The window (R116 to R120) -/

/-- Sequences from `a` on, `n` of them. -/
def seqsFrom (a : Nat) : Nat → List Nat
  | 0 => []
  | n + 1 => a % 2 ^ 32 :: seqsFrom (a + 1) n

/-- R117 step 5, R120: a sequence of a chunk type marked received; HIGH follows, and what HIGH passes over becomes
missing. -/
def State.mark (s : State) (n seq type : Nat) : State :=
  let m := s.moor n
  let now := s.ns
  let due := now + 1000 * s.cutI F.M_NACK_DELAY n
  let from' := if newer32 m.base m.high then m.base else (m.high + 1) % 2 ^ 32
  let up := newer32 seq m.high || newer32 m.base m.high
  let fresh := if up then (seqsFrom from' (dist32 seq from')).filter (fun q => !(m.got q)) else []
  let old := m.missing.filter (fun x => x.seq != seq)
  let gone := fresh.filter (fun q => !(old.any (fun x => x.seq == q)))
  s.setMoor n { m with received := m.received ++ [seq], high := if up then seq else m.high,
                       missing := old ++ gone.map (fun q => { seq := q, due := due, tries := 0 }),
                       lastMark := now, tailDone := false, aheadRun := 0,
                       highOpen := if up ∨ seq = m.high then type != 9 else m.highOpen }

/-- Where a chunk comes from: the backbone, the content library, or a REPAIR message of the lead (R99, R359). -/
inductive Source where
  | backbone (srcIp : Nat) | library | repair
  deriving DecidableEq, Repr

/-- R49, R110: a library mooring: in LIBRARY, or CLOSED by an applied SCENE_CLOSE of its library content. -/
def State.libMoor (s : State) (n : Nat) : Bool :=
  (s.moor n).state == 4 || ((s.moor n).state == 3 && s.cutI F.M_LIBRARY n == 1)

/-- R110, R95 step 4: why a mooring does not accept a chunk. Library chunks skip step 4 (R99), but a mooring accepts only
what its state and its feed allow (R49, R110; log entry 110). -/
def State.accepts (s : State) (n : Nat) (h : Head) (src : Source) : Option Nat :=
  let m := s.moor n
  let session := if (h.type = 1 ∧ h.session ≠ 0 ∧ (m.state ≠ 3 ∨ h.session ≠ m.session)) ∨ (m.state = 2 ∧ h.session = m.session) then none
    else some T.LSF_SESSION
  match src with
  | .library =>
    if m.state = 0 then some T.ING_DISABLED
    else if m.state = 4 ∨ (s.libMoor n ∧ h.type = 1 ∧ h.session ≠ 0 ∧ h.session ≠ m.session) then none
    else some T.LSF_SESSION
  | _ =>
    if m.state = 0 then some T.ING_DISABLED
    else if s.libMoor n then some T.ING_LIBRARY_BACKBONE
    else match src with
      | .backbone ip => if inPrefix ip (s.cutI F.M_SOURCE_ADDR n) (s.cutI F.M_SOURCE_PREFIX n) then session else some T.ING_SOURCE
      | _ => session

/-- R80, R116, R94: a SCENE_OPEN with a new session value is accepted. NACKs go to its RETURN_PORT from then on (log entry
143). -/
def State.newSession (s : State) (n : Nat) (h : Head) (src : Source) (pl : List Byte) : State :=
  let s := s.abandonAll n s.scan.field (some h.seq)
  s.modMoor n (fun m =>
    { m with state := if s.libMoor n then 4 else 2, session := h.session, base := h.seq, high := h.seq,
             floor := wrap ((h.frame : Int) - 1) 32, received := [], missing := [], aheadRun := 0, sessionChanged := true,
             srcIp := match src with | .backbone ip => ip | _ => m.srcIp,
             nackPort := num pl 0x14 2, nackSerial := 0, groupCommit := none, sentCommit := none,
             startOpen := some (h.frame, h.seq), openShared := [] })

/-- R359: as a lead that repairs, the device keeps the chunks of group-shared moorings as received, in the spill pool. -/
def State.keepsChunk (s : State) (n : Nat) : Bool :=
  s.group.lead && s.get F.REPAIR_EN == 1 && s.groupShared n

/-- R95 steps 6 and 7 and the effects on arrival of a chunk that has been marked received and joined its frame. -/
def State.settleChunk (s : State) (n : Nat) (h : Head) (pl : List Byte) (fits : Bool) : State :=
  let m := s.moor n
  let commit := match m.frame h.frame with | some x => x.commit | none => none
  let odd := match commit with
    | some c => outOfFrame h.frame c ((m.closes h.frame).filter c.has) (bareChunk h.seq h.frame h.type)
    | none => false
  let foreign := m.frames.any (fun x => x.id != h.frame && (match x.commit with | some c => c.has h.seq | none => false))
  let second := h.type == 9 && commit.isSome
  let put (refused : Bool) (place : Placement) (s : State) : State := s.modMoor n (fun m =>
    { m with chunks := m.chunks.map (fun c => if c.frame = h.frame ∧ c.seq = h.seq then
        { c with refused := refused, place := place, loc := if refused ∨ ¬ isTile h.type then .store else c.loc,
                 payload := if refused then [] else c.payload } else c) })
  if !fits || odd || foreign || second then ((put true {} s).refuseTally n h.frame h.seq).settle n
  else if h.type = 3 then
    if s.coatRoom pl then (put false s.newPlace s).settle n
    else (((put true {} s).tally T.LSF_COAT_NO_STORAGE).chunkRec n 7 h.frame h.seq).settle n
  else
    let s := put false {} s
    match h.type with
    | 1 => if num pl 0 1 = 1 then (s.modMoor n (fun m => { m with openShared := m.openShared ++ [h.frame] })).settle n else s.settle n
    | 2 =>
      let late := if commit.isSome then m.chunks.filter (fun x => x.frame == h.frame && x.type != 9 && newer32 x.seq h.seq) else []
      (late.foldl (fun s x => s.refuseChunk n x) s).settle n
    | 4 => (s.joinTile n h.frame h.seq false pl).settle n
    | 5 => (s.joinTile n h.frame h.seq true pl).settle n
    | 9 => s.commitArrives n h.frame h.seq pl
    | _ => s.settle n

/-- R117 steps 3 to 5, R101, R108: a chunk within the window, and its receive berth. -/
def State.within (s : State) (n : Nat) (h : Head) (loc : Loc) (bs pl : List Byte) (fits : Bool) : State :=
  let m := s.moor n
  if m.got h.seq then s.tally T.ING_DUPLICATE
  else
    let full := (m.frame h.frame).isNone && decide (s.cutI F.M_PENDING_MAX n ≤ m.frames.length)
    let victim := m.ordered.find? (fun x => x.commit.isNone)
    if full && victim.isNone then s.tally T.ING_PENDING_FULL
    else
      let s : State := match full, victim with
        | true, some x => s.abandonFrame n x.id s.scan.field (some h.seq)
        | _, _ => s
      if ¬ s.berthTakes (s.moor n).rxUsed (s.cutI F.M_RX_RESERVE n) then s.tally T.ING_BERTH_FULL
      else
        let s := s.mark n h.seq h.type
        let s := { s with ingest := { s.ingest with order := s.ingest.order + 1 } }
        -- R57: what is kept is written into the spill pool, within the ingest ceiling (log entry 124)
        let keep : Bool := s.keepsChunk n && decide (s.spillUsed + bs.length ≤ spillPool) && s.ingestRoom bs.length
        let s := if keep then s.ingestWrote bs.length else s
        let kept := if keep then bs else []
        -- until it has passed steps 6 and 7 it takes no record (R71)
        let c : Chunk := { bareChunk h.seq h.frame h.type with
          session := h.session, payload := pl, bytes := kept, length := h.length, refused := true, loc := loc, order := s.ingest.order }
        let s := s.modMoor n (fun m =>
          { m with chunks := m.chunks ++ [c],
                   frames := if (m.frame h.frame).isSome then m.frames else m.frames ++ [{ id := h.frame, commit := none, cuts := 0 }] })
        s.settleChunk n h pl fits

/-- R117, R118: a chunk judged by the sequence window. A resynchronisation leaves HIGH as it was, before BASE, until a chunk of
the new window is received (R120; log entry 142). -/
def State.window (s : State) (n : Nat) (h : Head) (loc : Loc) (bs pl : List Byte) (fits : Bool) : State :=
  let m := s.moor n
  if newer32 m.base h.seq ∨ ¬ newer32 h.frame m.floor then s.tally T.ING_STALE
  else if 524288 ≤ dist32 h.seq m.base then
    if m.aheadRun + 1 < 256 then (s.modMoor n (fun m => { m with aheadRun := m.aheadRun + 1 })).tally T.ING_AHEAD
    else
      let s := s.abandonAll n s.scan.field (some h.seq)
      let s := (s.modMoor n (fun m =>
        { m with base := h.seq, received := [], missing := [], aheadRun := 0, highOpen := false, resync := true })).tally T.ING_SEQ_RESYNC
      if ¬ newer32 h.frame (s.moor n).floor then s.tally T.ING_STALE else s.within n h loc bs pl fits
  else s.within n h loc bs pl fits

/-- R95 steps 2 to 7 on one whole chunk; `check` is the check value of the CRC unit that processed it (R126, R127). A
SCENE_OPEN with a new session value that finds its receive berth full is not received: none of the effects of R80 takes
place (log entry 111). -/
def State.chunk (s : State) (src : Source) (loc : Loc) (check : Nat) (bs : List Byte) : State :=
  let h := headOf bs
  let pl := bs.drop 32
  if num bs 0x1C 4 ≠ check then (s.tally T.LSF_CRC_FAIL).chunkRec (num bs 6 2) 2 h.frame h.seq
  else if h.version ≠ 1 then s.tally T.LSF_VERSION
  else if ¬ typeOk h.type then s.tally T.LSF_TYPE
  else if ¬ h.clean then s.tally T.LSF_HEADER
  else
    let n := h.moor
    match s.accepts n h src with
    | some id => s.tally id
    | none =>
      let m := s.moor n
      let fits := s.payloadOk n h pl
      if h.type = 1 ∧ h.session ≠ m.session then
        if ¬ fits then s.refuseTally n h.frame h.seq
        else
          let s2 := s.newSession n h src pl
          if s2.berthTakes (s2.moor n).rxUsed (s2.cutI F.M_RX_RESERVE n) then s2.within n h loc bs pl true else s.tally T.ING_BERTH_FULL
      else s.window n h loc bs pl fits

/-! ## Completeness (R92, R122, R356) -/

/-- R92: every tile received of a frame has been decompressed or refused. -/
def Mooring.tilesDone (m : Mooring) (f : Nat) : Bool :=
  (m.tiles.filter (fun t => t.frame == f)).all (fun t => match t.state with | .staged .. | .refused => true | _ => false)

/-- R92, R122: the tiles of a frame that are whole are decompressed or refused, or wait for a declaration that may yet
arrive; those that lack fragments wait only for members not received. -/
def Mooring.wholeDone (m : Mooring) (f : Nat) : Bool :=
  (m.tiles.filter (fun t => t.frame == f && t.whole)).all (fun t => match t.state with
    | .staged .. | .refused => true
    | .gathering => (m.tileVerdict t true).isNone
    | _ => false)

/-- R42, R357: the lead's commit, received with the current epoch, counts for a frame of a group-shared mooring. -/
def State.groupMet (s : State) (n f : Nat) : Bool :=
  !(s.groupShared n) ||
  (match (s.moor n).groupCommit with | some g => g.2 == s.group.epoch && !(newer32 f g.1) | none => false)

/-- R92: a frame is complete but for R42. -/
def Mooring.readyFrame (m : Mooring) (x : PFrame) : Bool :=
  match x.commit with
  | some c => m.membersIn c && m.tilesDone x.id
  | none => false

/-- R122, R175: CONCEAL_TICKS, 0 for a library mooring and for every mooring in Swift. -/
def State.concealTicks (s : State) (n : Nat) : Nat :=
  if s.libMoor n ∨ s.harbour.effMode = 1 then 0 else s.cutI F.M_CONCEAL_TICKS n

/-- R122: a frame is conceal-due but for R42. -/
def State.dueFrame (s : State) (n : Nat) (x : PFrame) : Bool :=
  match x.commit with
  | some c => decide (s.concealTicks n < x.cuts) && !((s.moor n).membersIn c) && (s.moor n).wholeDone x.id
  | none => false

/-- R356: READY_FRAME of a group-shared mooring. -/
def State.readyOf (s : State) (n : Nat) : Option Nat :=
  let m := s.moor n
  let l := m.ordered.takeWhile (fun x => m.readyFrame x || s.dueFrame n x)
  (l.getLast?).map (·.id)

/-! ## Applying a frame (R60, R79 to R90) -/

/-- A coat from its COAT_DECL (R82). -/
def coatOf (c : Chunk) : Coat :=
  let pl := c.payload
  { width := num pl 2 2, height := num pl 4 2, originX := snum pl 8 4, originY := snum pl 0x0C 4, baseZ := snum pl 0x10 4,
    pitchX := num pl 0x14 4, pitchY := num pl 0x18 4, relief := num pl 0x1C 4, phaseX := num pl 0x20 2, phaseY := num pl 0x22 2,
    init := BitVec.ofNat 32 (num pl 0x24 4), place := c.place, seq := c.seq, tiles := [], rtiles := [],
    gen := c.session * 2 ^ 32 + c.seq }

/-- R88: one entry of a COAT_SHIFT applied, or ignored (none). -/
def shiftEntry (sc : Scene) (e : List Byte) : Option Scene :=
  match Tab.get? sc.coats (num e 0 1) with
  | none => none
  | some c =>
    let z := snum e 0x0C 4
    if num e 1 3 = 0 ∧ within (snum e 4 4) 2000000 ∧ within (snum e 8 4) 2000000 ∧ depthOk (z + sc.offZ) ∧
       phaseOk c.width c.height (num e 0x10 2) (num e 0x12 2) c.relief then
      let c := { c with originX := snum e 4 4, originY := snum e 8 4, baseZ := z, phaseX := num e 0x10 2, phaseY := num e 0x12 2 }
      some { sc with coats := Tab.put sc.coats (num e 0 1) c }
    else none

/-- R88: the entries of a COAT_SHIFT in order, and whether one of them was ignored. -/
def shiftAll (sc : Scene) (pl : List Byte) : Scene × Bool :=
  (List.range (num pl 0 1)).foldl (fun a i =>
    match shiftEntry a.1 (slice pl (4 + 20 * i) 20) with
    | some sc => (sc, a.2)
    | none => (a.1, true)) (sc, false)

/-- R86, R87, R102: a staged tile takes the place of the stored one. -/
def putStaged (sc : Scene) (t : Tile) (data : List Byte) : Option Scene :=
  match Tab.get? sc.coats t.coat with
  | none => none
  | some c =>
    if ¬ inDecl c.width c.height c.relief t then none
    else
      let c := if t.relief then { c with rtiles := Tab.put c.rtiles (t.y * reliefTiles c.width + t.x) data }
               else { c with tiles := Tab.put c.tiles (t.y * c.width + t.x) data }
      -- R214: the storage of the tile that it replaces is another generation
      let c := { c with gens := Tab.put c.gens (tileKey t.relief t.x t.y) (sc.session * 2 ^ 32 + t.seq) }
      some { sc with coats := Tab.put sc.coats t.coat c }

/-- What stands in a frame's application order (R60, R85): a chunk, or a tile at its highest sequence. -/
inductive Item where
  | chunk (c : Chunk)
  | tile (t : Tile)

/-- The CHUNK_SEQ at which an item is applied. -/
def Item.seq : Item → Nat
  | .chunk c => c.seq
  | .tile t => t.seq

/-- R60: the items of a frame in CHUNK_SEQ order. -/
def Mooring.items (m : Mooring) (f first : Nat) : List Item :=
  let cs := (m.chunks.filter (fun c => c.frame == f && !c.refused && !(isTile c.type))).map Item.chunk
  let ts := (m.tiles.filter (fun t => t.frame == f)).map Item.tile
  sortBy (fun a b => decide (dist32 a.seq first < dist32 b.seq first)) (cs ++ ts)

/-- R79, R80: a SCENE_OPEN at its frame's FIRST_SEQ applied. -/
def openScene (sc : Scene) (c : Chunk) : Scene :=
  let pl := c.payload
  { sc with session := c.session, offX := snum pl 4 4, offY := snum pl 8 4, offZ := snum pl 0x0C 4,
            bg := (num pl 0x10 1, num pl 0x11 1, num pl 0x12 1), ret := num pl 0x14 2, shared := num pl 0 1 == 1,
            fanMask := 0xFF, coats := [] }

/-- One item of a frame applied (R79 to R90). -/
def State.applyItem (s : State) (n first : Nat) (i : Item) : State :=
  let m := s.moor n
  match i with
  | .tile t =>
    match t.state with
    | .staged data _ =>
      match putStaged m.scene t data with
      | some sc => s.setMoor n { m with scene := sc }
      | none => t.frags.foldl (fun s g => s.refuseTally n t.frame g.2.1) s
    | _ => s
  | .chunk c =>
    let pl := c.payload
    match c.type with
    | 1 => if c.seq = first then s.setMoor n { m with scene := openScene m.scene c, nackPort := num pl 0x14 2 } else s
    | 3 =>
      if depthOk (snum pl 0x10 4 + m.scene.offZ) then
        s.setMoor n { m with scene := { m.scene with coats := Tab.put m.scene.coats (num pl 0 1) (coatOf c) } }
      else s.refuseTally n c.frame c.seq
    | 6 =>
      let r := shiftAll m.scene pl
      let s := s.setMoor n { m with scene := r.1 }
      -- R95 step 6, R98: an ignored entry is counted, once for its chunk
      if r.2 then s.refuseTally n c.frame c.seq else s
    | 7 =>
      if (Tab.get? m.scene.coats (num pl 0 1)).isSome then
        s.setMoor n { m with scene := { m.scene with coats := Tab.del m.scene.coats (num pl 0 1) } }
      else s.tally T.LSF_RETIRE_NONE
    | 8 => s.setMoor n { m with scene := { m.scene with fanMask := num pl 0 1 } }
    | _ => s

/-- R81: what an applied SCENE_CLOSE leaves of a scene: no coats, nothing contributed, no longer group-shared. -/
def closeScene (sc : Scene) : Scene := { sc with coats := [], shared := false }

/-- R60, R81, R122, R123: a pending frame with its commit applied in field `n'`; members not received are concealed. -/
def State.applyFrame (s : State) (n : Nat) (x : PFrame) (field : Nat) : State :=
  match x.commit with
  | none => s
  | some c =>
    let m := s.moor n
    let miss := c.count - (m.received.filter (fun q => c.has q)).length
    let s := s.tallyBy T.ING_CONCEALED miss
    let s := (m.tiles.filter (fun t => t.frame == x.id && t.state == .gathering)).foldl (fun s t => s.refuseTile n t) s
    let m := s.moor n
    let closing := !(m.closes x.id).isEmpty
    let s := (m.items x.id c.first).foldl (fun s i => s.applyItem n c.first i) s
    let s := s.modMoor n (fun m =>
      let m := (m.dropFrame x.id).setBase ((c.seq + 1) % 2 ^ 32)
      { m with applied := x.id, appliedField := field, floor := x.id, concealedAtCut := satN (m.concealedAtCut + miss) 16,
               concealed := m.concealed || decide (0 < miss),
               scene := if closing then closeScene m.scene else m.scene,
               state := if closing then 3 else m.state })
    let s := if c.capture = 0 then s
      else { s with harbour := { s.harbour with captures := s.harbour.captures ++ [(c.capture, field)] } }
    let s := s.frameRec n (if 0 < miss then 1 else 0) x.id miss field
    if closing then s.abandonAll n field none else s.settle n

/-- R123: the run over the pending frames of a mooring at a frame-tick cut, oldest first. -/
def State.runFrames (s : State) (n field : Nat) : Nat → State
  | 0 => s
  | k + 1 =>
    let m := s.moor n
    let can (x : PFrame) : Bool := (m.readyFrame x || s.dueFrame n x) && s.groupMet n x.id
    match m.ordered with
    | [] => s
    | x :: rest =>
      -- the first frame after it that has its commit
      let nextCan : Bool := match rest.find? (fun y => y.commit.isSome) with
        | some y => can y
        | none => false
      if can x then (s.applyFrame n x field).runFrames n field k
      else if x.commit.isNone && nextCan then ((s.abandonFrame n x.id field none).settle n).runFrames n field k
      else s

/-- R123: the run of a mooring at a frame-tick cut; CONCEALED_AT_CUT is that of the last cut that applied frames. -/
def State.runCut (s : State) (n field : Nat) : State :=
  let was := (s.moor n).concealedAtCut
  let s := (s.modMoor n (fun m => { m with concealedAtCut := 0 })).runFrames n field 8
  if (s.moor n).appliedField = field then s else s.modMoor n (fun m => { m with concealedAtCut := was })

/-- R122: one more frame-tick cut since the commits arrived. -/
def Mooring.countCut (m : Mooring) : Mooring :=
  { m with frames := m.frames.map (fun x => if x.commit.isSome then { x with cuts := x.cuts + 1 } else x) }

/-- R112: the device's own SCENE_CLOSE applied in a field. -/
def Mooring.ownClose (m : Mooring) (field : Nat) : Mooring :=
  { m with scene := closeScene m.scene, appliedField := field }

end Sys2Proof.Machine
end

