-- ==== Sys2Proof/Machine/Messages.lean ====
section
/-! DEFINITION. The messages the device forms: NACK chunks (R94), group messages (R350), export datagrams (R514). -/

namespace Sys2Proof.Machine

/-- R94, R127: a chunk of the device's, its CRC appended. -/
def ownChunk (type moor frame seq session : Nat) (payload : List Byte) : List Byte :=
  let head := le 2 0x534C ++ [1, byte type] ++ le 2 (32 + payload.length) ++ le 2 moor ++ le 4 frame ++ le 4 seq ++
    le 4 session ++ le 2 0 ++ le 2 0 ++ le 4 0
  head ++ le 4 (crc32c (head ++ payload)) ++ payload

/-- R94: a NACK chunk over ranges (first, count). -/
def nackChunk (moor frame seq session : Nat) (ranges : List (Nat × Nat)) : List Byte :=
  ownChunk 0x0A moor frame seq session (le 2 ranges.length ++ [0, 0] ++ ranges.flatMap (fun r => le 4 r.1 ++ le 4 r.2))

/-- R350: a group message, its CRC as R75 covers a chunk. -/
def State.groupMessage (s : State) (type : Nat) (payload : List Byte) : List Byte :=
  let head := le 2 0x4C47 ++ [1, byte type] ++ le 2 (32 + payload.length) ++
    [byte (s.get F.GROUP_ID), byte (s.get F.RANK)] ++ le 4 s.group.epoch ++ le 8 s.scan.field ++ le 8 0
  head ++ le 4 (crc32c (head ++ payload)) ++ payload

/-- R514: the fragments of an export unit's frame. -/
def fragments : Nat → List Byte → List (List Byte)
  | 0, _ => []
  | n + 1, bs => if bs = [] then [] else bs.take 1400 :: fragments n (bs.drop 1400)

/-- R514: the datagrams of an export unit, each with the CRC of everything before it at its end (log entry 144). -/
def exportDatagrams (kind unit : Nat) (frame : List Byte) : List (List Byte) :=
  let fs := fragments (frame.length + 1) frame
  (List.range fs.length).map (fun i =>
    let b := le 2 0x4B57 ++ [byte kind, byte i, byte fs.length, 0, 0, 0] ++ le 4 unit ++ le 4 frame.length ++
      padTo 4 (nth fs i [])
    b ++ le 4 (crc32c b))

/-- A transmit berth holds nothing, and nothing waits for it. -/
def State.berthEmpty (s : State) (berth : Nat) : Bool :=
  (Tab.getD s.ingest.txq berth []).isEmpty && (Tab.getD s.ingest.txw berth []).isEmpty

/-- R514: the records of a unit are exported: those up to the one with the unit's last SEQ, as far as the ring still holds them. -/
def Wake.release (w : Wake) (last : Nat) : Wake :=
  let n := match w.ring.findIdx? (fun r => r.seq == last) with | some i => i + 1 | none => 0
  { w with exported := max w.exported n, unitOut := none }

/-- R514: once a transmit berth has handed on the last datagram of a unit, the wake unit's records are released and the
tally export completes. -/
def State.exportsOut (s : State) : State :=
  let s := match s.wake.unitOut with
    | some last => if s.berthEmpty 2065 then { s with wake := s.wake.release last } else s
    | none => s
  match s.wake.tallyUnit, s.wake.tallyExp with
  | some (field, unit), some (owner, tag) =>
    if s.berthEmpty 2066 then
      ({ s with wake := { s.wake with tallyExp := none, tallyUnit := none } }.tally T.TALLY_EXPORTED).finalEvent owner tag 0x0E05
        Status.OK (le 8 field ++ le 4 unit ++ le 4 0)
    else s
  | _, _ => s

/-- R514: an export unit's datagrams sent. -/
def State.sendExport (s : State) (berth kind unit ip port : Nat) (frame : List Byte) : State :=
  (exportDatagrams kind unit frame).foldl (fun s d => s.sendUdp berth (s.get F.CMD_TC) ip (s.get F.GANGWAY_PORT) port d) s

/-- R359: a REPAIR message to a member. -/
def State.sendRepair (s : State) (ip moor : Nat) (stream : List Byte) : State :=
  let s := { s with group := { s.group with
    repairSent := s.group.repairSent.filter (fun (e : Nat × Nat) => decide (s.time.cyc < e.2 + msCyc 1)) ++ [(moor, s.time.cyc)] } }
  (s.sendUdp 2067 (s.get F.GROUP_TC) ip (s.get F.GROUP_PORT) (s.get F.GROUP_PORT)
    (s.groupMessage 4 (le 2 moor ++ le 2 stream.length ++ padTo 4 stream))).tally T.GRP_REPAIR_SENT

/-! ## Heartbeats (R351, R356) -/

/-- R356: the readiness of the group-shared moorings: (mooring, READY_VALID, READY_FRAME). -/
def State.readiness (s : State) : List (Nat × Bool × Nat) :=
  s.sharedMoors.map (fun n => (n, (s.readyOf n).isSome, (s.readyOf n).getD 0))

/-- R351: one entry of a heartbeat. COMMIT_VALID and COMMIT_FRAME are the lead's. -/
def State.heartbeatEntry (s : State) (e : Nat × Bool × Nat) : List Byte :=
  let c := if s.group.lead then (s.moor e.1).sentCommit else none
  le 2 e.1 ++ le 2 (b2n e.2.1 + 2 * b2n c.isSome) ++ le 4 e.2.2 ++ le 4 (c.getD 0)

/-- R351: the payload of a heartbeat. -/
def State.heartbeatBytes (s : State) : List Byte :=
  let r := s.readiness.take 32
  let sw := if s.group.lead then s.time.switchTo else none
  let nx := s.scan.phiNext.getLast?
  [byte (b2n s.group.lead), byte s.scan.k] ++ le 2 s.scan.rate ++
  [byte (match sw with | some x => x.1 | none => 0xFF), byte r.length, 0, 0] ++
  le 8 (match sw with | some x => x.2 | none => 0) ++ le 4 (wrap s.scan.phi 32) ++
  le 4 (match nx with | some x => wrap x.1 32 | none => 0) ++ le 8 (match nx with | some x => x.2 | none => 0) ++
  r.flatMap s.heartbeatEntry

/-- R350: a group message sent to GROUP_MCAST through B2068. -/
def State.sendGroup (s : State) (type : Nat) (payload : List Byte) : State :=
  s.sendUdp 2068 (s.get F.GROUP_TC) (s.get F.GROUP_MCAST) (s.get F.GROUP_PORT) (s.get F.GROUP_PORT) (s.groupMessage type payload)

/-- R351: a heartbeat sent. -/
def State.heartbeat (s : State) : State :=
  let r := s.readiness
  let s := s.sendGroup 1 s.heartbeatBytes
  { s with group := { s.group with sentReady := r } }

/-- R351: an extra heartbeat when the readiness has changed, at most one per millisecond. -/
def State.extraHeartbeat (s : State) : State :=
  if s.serving ∧ s.get F.GROUP_EN = 1 ∧ s.readiness ≠ s.group.sentReady ∧
     (s.group.extraAt = 0 ∨ s.group.extraAt + msCyc 1 ≤ s.time.cyc) then
    State.heartbeat { s with group := { s.group with extraAt := s.time.cyc } }
  else s

/-! ## Repair jobs (R359) -/

/-- R359: REPAIR messages of a mooring sent in the last millisecond or on their way through C0. -/
def State.repairLoad (s : State) (moor : Nat) : Nat :=
  (s.group.repairSent.filter (fun (e : Nat × Nat) => e.1 == moor && decide (s.time.cyc < e.2 + msCyc 1))).length +
  sumN ((s.codec.clanes ++ s.codec.cwait).map (fun l => (l.filter (fun j => match j.purpose with | .forward _ _ m => m == moor | _ => false)).length))

end Sys2Proof.Machine
end

