-- ==== Sys2Proof/Machine/Gangway.lean ====
section
/-! DEFINITION. The Gangway (R395 to R426): checking a command (R403 to R405), sequence numbers and retransmissions
(R409, R410), replies, the SPI transactions (R400 to R402), and the debounced inputs (R412, R415). -/

/-- Whether a packet came over SPI. -/
def Sys2Proof.Packet.spi (p : Sys2Proof.Packet) : Bool := match p.via with | .spi _ => true | .udp .. => false

namespace Sys2Proof.Machine

/-! ## Replies -/

/-- R399, R401: a reply sent to where its command came from. -/
def State.sendReply (s : State) (c : Caller) (bs : List Byte) : State :=
  if c.spi then State.irq { s with gw := { s.gw with spiReplies := s.gw.spiReplies ++ [bs] } }
  else s.sendUdp 2069 (s.get F.CMD_TC) c.srcIp (s.get F.GANGWAY_PORT) c.srcPort bs

/-- R410: the reply kept beside its command. -/
def keepReply (l : List Kept) (seq length : Nat) (crc : Word) (bs : List Byte) : List Kept :=
  match l with
  | [] => []
  | x :: r =>
    if x.seq = seq ∧ x.length = length ∧ x.crc = crc ∧ x.reply = none then { x with reply := some bs } :: r
    else x :: keepReply r seq length crc bs

/-- A reply built, kept for its session (R410) and sent. -/
def State.reply (s : State) (opcode : Nat) (p : Packet) (c : Caller) (status : Nat) (payload : List Byte) : State :=
  let bs := replyPacket opcode c.tag c.seq status (c.token % 2 ^ 32) payload
  let s := match c.slot with
    | some k => s.modSess k (fun e => { e with kept := keepReply e.kept p.seq.toNat p.length.toNat p.crc bs })
    | none => s
  s.sendReply c bs

/-- R404: fewer than 100 session-less replies in the last second. -/
def State.unauthRoom (s : State) : Bool :=
  decide ((s.gw.unauthAt.filter (fun x => s.time.cyc < x + 400000000)).length < 100)

/-- R404: a session-less reply counted. -/
def State.unauthCount (s : State) : State :=
  { s with gw := { s.gw with unauthAt := s.gw.unauthAt.filter (fun x => s.time.cyc < x + 400000000) ++ [s.time.cyc] } }

/-! ## Steps 6 to 10 (R403) -/

/-- R411: the tag a deferred command may carry. -/
def tagOk (e : Session) (tag : Nat) : Bool := tag != 0 && !e.outstanding.contains tag

/-- R403, steps 6 to 10 for an opcode with a card, or with none: the status that refuses the command, or OK. -/
def State.verdict (s : State) (card : Option Card) (c : Caller) (pl : List Byte) : Nat :=
  match card with
  | none => Status.BAD_OPCODE
  | some k =>
    if ¬ k.lenOk pl then Status.BAD_LENGTH
    else if presenceOf c.key c.sealOpen < k.presence s c pl then Status.PRESENCE_REQUIRED
    else if ¬ k.params s c pl then Status.BAD_PARAM
    else
      let e := match c.slot with | some n => s.sess n | none => {}
      if k.deferred ∧ ¬ tagOk e c.tag then Status.BAD_PARAM
      else if k.deferred ∧ 32 ≤ e.outstanding.length then Status.NO_RESOURCE
      else k.judge s c pl

/-- The state a command left, its reply sent under the settings that were in force before it (GANGWAY_CONFIGURE,
R422; R31). -/
def State.replyUnder (s : State) (before : Settings) (opcode : Nat) (p : Packet) (c : Caller) (status : Nat)
    (payload : List Byte) : State :=
  let after := s.cfg
  State.irq { ({ s with cfg := before } : State).reply opcode p c status payload with cfg := after }

/-- R403, R411: a command that has passed step 5 interpreted: refused, or answered and carried out. -/
def State.interpret (s : State) (card : Option Card) (opcode : Nat) (p : Packet) (c : Caller) : State :=
  let pl := p.payload
  let st := s.verdict card c pl
  match card with
  | none => s.reply opcode p c st []
  | some k =>
    if st ≠ Status.OK then
      let out := k.why st s c pl
      let s := if st = Status.PRESENCE_REQUIRED then s.tally T.GW_PRESENCE_DENIED else k.refused st s c pl
      s.reply opcode p c st out
    else if k.deferred then
      let s := match c.slot with
        | some n => s.modSess n (fun e => { e with outstanding := e.outstanding ++ [c.tag] })
        | none => s
      let s := s.reply opcode p c Status.ACCEPTED (k.ack s c pl)
      (k.run s c pl).1
    else if k.held then
      -- R407, R408: the reply follows the record
      let r := k.run s c pl
      let w : Waiting := { opcode := opcode, slot := c.slot, key := c.key, sealOpen := c.sealOpen, packet := p }
      { r.1 with nvm := { r.1.nvm with held := some (w, r.2.2) } }
    else
      let before := s.cfg
      let (s, status, out) := k.run s c pl
      s.replyUnder before opcode p c status out

/-- R404: a TOKEN 0 command beyond the limit is discarded; otherwise it is interpreted. -/
def State.interpretAny (s : State) (card : Option Card) (opcode : Nat) (p : Packet) (c : Caller) : State :=
  match c.slot with
  | some _ => s.interpret card opcode p c
  | none => if s.unauthRoom then s.unauthCount.interpret card opcode p c else s.tally T.GW_UNAUTH_DROP

/-! ## Steps 1 to 5 (R403) -/

/-- What the transport makes of a packet (R399, R401, R100, R104). -/
inductive Front where
  | silent                             -- no trace
  | scene | group | port | quay        -- R100, R104: not a command
  | framing                            -- step 1
  | pass
  deriving DecidableEq, Repr

/-- R400, R516: the SPI gangway takes transactions from reset release until a shutdown, except in ROM recovery and while
SPI_EN is 0. -/
def State.spiOn (s : State) : Bool :=
  s.get F.SPI_EN == 1 &&
  (match s.start.phase with | .rom | .bridge | .pilotBoot | .running | .restarting | .sramFault => true | _ => false)

/-- R526: GW_MISO is driven: from the end of start-up. Before it a READ or a STATUS finds the pin at high impedance, and takes
nothing from the queue (log entry 166). -/
def State.spiAnswers (s : State) : Bool := s.spiOn && s.serving

/-- R403 step 1 with what precedes it. -/
def State.front (s : State) (p : Packet) : Front :=
  match p.via with
  | .spi whole =>
    if ¬ s.spiOn then .silent
    else if ¬ whole ∨ p.count ≠ p.length.toNat then .framing
    else .pass
  | .udp _ _ dstIp dstPort opts frag bad =>
    if ¬ s.serving ∨ s.get F.DEV_IP = 0 then .silent
    else match s.traffic dstIp dstPort with
      | .scene => .scene
      | .group => .group
      | .other => .port
      | .command =>
        if s.get F.UDP_EN = 0 then .silent
        else if ¬ s.quayTakes .command (28 + p.count) [] then .quay
        else if opts ∨ frag ∨ bad ∨ 4608 < p.count ∨ p.count ≠ p.length.toNat then .framing
        else .pass

/-- R403 step 2: MAGIC, VERSION 1, KIND 0, reserved bits, LENGTH; LENGTH is that of the packet as received. -/
def headerOk (p : Packet) : Bool :=
  p.magic == 0xC7 && p.version == 0x01 && p.length.toNat % 4 == 0 && decide (20 ≤ p.length.toNat) &&
  decide (p.length.toNat ≤ 4608) && decide (p.payload.length + 20 = p.length.toNat)

/-- R406: the slot that a token names on a transport: its pairing holds exactly this token. -/
def State.slotOf (s : State) (token : Nat) (spi : Bool) : Option Nat :=
  let k := token % 16
  let e := s.sess k
  if e.paired ∧ (k == 15) = spi ∧ token / 2 ^ 32 = e.tokenHi ∧ token / 16 % 2 ^ 28 = e.serial then some k else none

/-- R403: the sender of a command, as the later steps see it. -/
def State.callerOf (s : State) (p : Packet) (slot : Option Nat) : Caller :=
  { slot := slot, owner := p.token.toNat % 2 ^ 32, tag := p.tag.toNat, seq := p.seq.toNat, token := p.token.toNat,
    spi := p.spi,
    srcIp := match p.via with | .udp a _ _ _ _ _ _ => a | .spi _ => 0,
    srcPort := match p.via with | .udp _ b _ _ _ _ _ => b | .spi _ => 0,
    key := s.gw.key, sealOpen := s.gw.sealOpen }

/-- R405, R106: the command berth of a transport. -/
def State.berthOf (s : State) (spi : Bool) : Nat := (s.gw.waiting.filter (fun w => w.packet.spi == spi)).length

/-- R108, R403: the command berth takes one more. -/
def State.berthRoom (s : State) (spi : Bool) : Bool := s.berthTakes (s.berthOf spi) 512

/-- R409, R410, R406: a command that passed step 5 recorded in its session. -/
def passFive (e : Session) (p : Packet) : Session :=
  let e := { e with fresh := false, lastSeq := p.seq.toNat,
                    kept := { seq := p.seq.toNat, length := p.length.toNat, crc := p.crc, reply := none } :: e.kept.take 7 }
  match p.via with
  | .udp a b _ _ _ _ _ => { e with evIp := a, evPort := b }
  | .spi _ => e

/-- R405: a command put into its berth. SPI commands that arrive in the same instant as UDP commands go before them. -/
def State.wait (s : State) (opcode : Nat) (p : Packet) (slot : Option Nat) : State :=
  let w : Waiting := { opcode := opcode, slot := slot, key := s.gw.key, sealOpen := s.gw.sealOpen, packet := p }
  let before := s.gw.waiting.takeWhile (fun x => !(p.spi && !x.packet.spi && x.packet.t == p.t))
  let after := s.gw.waiting.drop before.length
  { s with gw := { s.gw with waiting := before ++ [w] ++ after } }

/-- R405, R273: the opcode the front end itself carries out. -/
def overlayCommitOpcode : Nat := 0x0502

/-- R403, R405: a command that passed step 5 goes to the pilot, to its berth, or, for OVERLAY_COMMIT, to the front end. -/
def State.dispatch (s : State) (card : Option Card) (opcode : Nat) (p : Packet) (slot : Option Nat) : State :=
  if (s.nvm.interpreting ∧ s.nvm.held.isNone) ∨ (opcode = overlayCommitOpcode ∧ s.serving) then s.interpretAny card opcode p (s.callerOf p slot)
  else s.wait opcode p slot

/-- R410: what becomes of a command whose SEQ is not newer. -/
def State.notNewer (s : State) (opcode : Nat) (p : Packet) (k : Nat) : State :=
  let c := s.callerOf p (some k)
  match (s.sess k).kept.find? (fun x => x.seq == p.seq.toNat && x.length == p.length.toNat && x.crc == p.crc) with
  | some x =>
    match x.reply with
    | some bs => (s.tally T.GW_REPLAY).sendReply c bs
    | none => s
  | none =>
    (s.tally T.GW_STALE).sendReply c (replyPacket opcode c.tag c.seq Status.STALE_SEQUENCE (c.token % 2 ^ 32) [])

/-- R403 steps 4 and 5 for a packet that is whole: session, sequence, berth. -/
def State.take (s : State) (card : Option Card) (opcode : Nat) (p : Packet) : State :=
  let exempt := opcode = overlayCommitOpcode ∧ s.serving
  if p.token = 0 ∧ (opcode = 0x0101 ∨ opcode = 0x0105) then
    if s.berthRoom p.spi then s.dispatch card opcode p none else s.tally T.ING_CMD_FULL
  else match s.slotOf p.token.toNat p.spi with
    | none =>
      let s := s.tally T.GW_NOT_PAIRED
      if s.unauthRoom then
        s.unauthCount.sendReply (s.callerOf p none)
          (replyPacket opcode p.tag.toNat p.seq.toNat Status.NOT_PAIRED (p.token.toNat % 2 ^ 32) [])
      else s.tally T.GW_UNAUTH_DROP
    | some k =>
      let e := s.sess k
      if e.fresh ∨ newer8 p.seq.toNat e.lastSeq then
        if exempt ∨ s.berthRoom p.spi then
          (s.modSess k (fun e => passFive e p)).dispatch card opcode p (some k)
        else s.tally T.ING_CMD_FULL
      else s.notNewer opcode p k

/-- R401, R526: a transaction that is ignored leaves GW_MISO at high impedance; in recovery R455 has the pin. -/
def State.misoOff (s : State) : State :=
  if s.start.phase = .recovery then s else { s with gw := { s.gw with miso := [] } }

/-- R400: what GW_MISO carries during a WRITE of `n` packet bytes. -/
def State.misoWrite (s : State) (n : Nat) : State :=
  { s with gw := { s.gw with miso := List.replicate (n + 1) 0xFF } }

/-! ## Parameter checks shared by the cards (R398) -/

/-- R397: the payload is exactly `n` bytes. -/
def lenIs (n : Nat) (pl : List Byte) : Bool := pl.length == n

/-- R398: reserved bytes are 0. -/
def zeroAt (pl : List Byte) (off n : Nat) : Bool := num pl off n == 0

/-- R24, R22: words for an object set no bit that a host may not write. -/
def wordsOk (id : Nat) (ws : List Word) : Bool := !badBits ((objWords id).getD []) ws

/-- Words laid over those of an object from word `first` on. -/
def overlayWords (old : List Word) (first : Nat) (ws : List Word) : List Word :=
  old.take first ++ ws ++ old.drop (first + ws.length)

/-! ## SPI transactions -/

/-- R401: the outbound queue: replies first, then events in SEQ order. -/
def State.outbound (s : State) : List (List Byte) := s.gw.spiReplies ++ (s.sess 15).unacked.map (·.bytes)

/-- R417: the first `n` unacknowledged events of a session sent again over UDP, and the timer restarted. -/
def State.resend (s : State) (k : Nat) : State :=
  let e := s.sess k
  let now := s.time.cyc
  let l := e.unacked.take 16
  let s := l.foldl (fun s x =>
    ((if s.get F.UDP_EN = 1 then s.sendUdp 2069 (s.get F.CMD_TC) e.evIp (s.get F.GANGWAY_PORT) e.evPort x.bytes else s)).tally
      T.GW_EVENT_RESENT) s
  s.modSess k (fun e => { e with unacked := (e.unacked.take 16).map (fun x => { x with sentAt := now }) ++ e.unacked.drop 16 })

/-- R417: the oldest unacknowledged event of a UDP session has waited EVENT_RESEND_MS. -/
def execEventResend (t : Cyc) (slot : Nat) (s : State) : Host.Outcome State Fault Refusal :=
  let s := s.at t
  let e := s.sess slot
  match e.unacked with
  | x :: _ =>
    if s.serving ∧ slot < 15 ∧ e.paired ∧ s.get F.UDP_EN = 1 ∧ x.sentAt + msCyc (s.get F.EVENT_RESEND_MS) ≤ s.time.cyc then
      nextOf (s.resend slot)
    else nextOf s
  | [] => nextOf s

/-! ## Presence inputs (R412, R415) -/

/-- PRESENCE_EVENT (R412): the payload of its table. -/
def State.presenceBytes (s : State) : List Byte :=
  [byte (b2n s.gw.key), byte (b2n s.gw.sealOpen), byte s.presence, 0] ++ le 8 s.ns

/-- R412, R414: the debounced key state changes. -/
def execKeyDebounced (t : Cyc) (turned : Bool) (s : State) : Host.Outcome State Fault Refusal :=
  let s := s.at t
  if ¬ s.alive ∨ s.gw.key = turned then nextOf s
  else
    let s := { s with gw := { s.gw with key := turned } }
    nextOf (if s.serving then s.notify 0x01F0 s.presenceBytes else s)

/-! ## The session commands -/

/-- R406: the session a pairing makes. -/
def newSession (hi serial mask : Nat) (label : List Byte) (ip port : Nat) : Session :=
  { paired := true, tokenHi := hi, serial := serial, label := label, mask := mask, evIp := ip, evPort := port }

/-- R407: the slot a PAIR takes. -/
def State.pairSlot (s : State) (c : Caller) : Option Nat :=
  if c.spi then some 15 else (idxs 15 (fun k => !(s.sess k).paired)).head?

/-- UNPAIR, SESSION_QUERY: the slot the SLOT field names. -/
def slotArg (c : Caller) (pl : List Byte) : Nat := if num pl 0 1 = 0xFF then c.slot.getD 0 else num pl 0 1

/-- SLOT is 0 to 15 or 0xFF, and the reserved bytes are 0. -/
def slotArgOk (pl : List Byte) : Bool := (decide (num pl 0 1 ≤ 15) || num pl 0 1 == 0xFF) && zeroAt pl 1 3

/-- SESSION_QUERY (R424): from the latest snapshot. -/
def cardSessionQuery : Card where
  opcode := 0x0103
  deferred := false
  lenOk := lenIs 4
  params := fun _ _ pl => slotArgOk pl
  run := fun s c pl =>
    let k := slotArg c pl
    (s, Status.OK, s.statusBytes (0x2020 + k) ++ s.statusBytes 0x2010 ++ slice (s.sess k).label 0 16)

/-- R409: `a` is newer than or equal to none of the events sent: every ACK_SEQ is accepted. -/
def ackBad (e : Session) (a : Nat) : Bool := e.evSent && newer8 a ((e.evSeq + 255) % 256)

/-- EVENT_ACK (R417). -/
def cardEventAck : Card where
  opcode := 0x0104
  deferred := false
  lenOk := lenIs 4
  params := fun s c pl => zeroAt pl 1 3 && !(ackBad (s.sess (c.slot.getD 0)) (num pl 0 1))
  run := fun s c pl =>
    let k := c.slot.getD 0
    if k = 15 ∨ ¬ (s.sess k).evSent then done s
    else done (s.modSess k (fun e => { e with unacked := e.unacked.filter (fun x => newer8 x.seq (num pl 0 1)) }))

/-- DEVICE_INFO (R426). -/
def cardDeviceInfo : Card where
  opcode := 0x0105
  deferred := false
  lenOk := lenIs 0
  params := fun _ _ _ => true
  run := fun s _ _ =>
    (s, Status.OK, le 2 0x9616 ++ [Config.stepping, 0] ++ le 4 (s.fwVersion s.nvm.runSlot) ++
      le 4 (s.secVersion s.nvm.runSlot) ++ (List.range 8).map Config.serialByte)

/-- SESSION_SUBSCRIBE (R419). -/
def cardSessionSubscribe : Card where
  opcode := 0x0106
  deferred := false
  lenOk := lenIs 4
  params := fun _ _ pl => num pl 0 2 % 2 == 0 && zeroAt pl 2 2
  run := fun s c pl => done (s.modSess (c.slot.getD 0) (fun e => { e with mask := num pl 0 2 }))

/-- GANGWAY_CONFIGURE (R422). -/
def cardGangwayConfigure : Card where
  opcode := 0x0107
  deferred := false
  lenOk := lenIs 8
  presence := fun _ _ _ => 1
  params := fun s _ pl =>
    let ws := toWords 2 pl
    let port := num pl 0 2
    wordsOk 0x1000 ws && port != 0 && port != s.get F.SCENE_PORT && port != s.get F.GROUP_PORT &&
    decide (10 ≤ num pl 4 2) && decide (num pl 4 2 ≤ 1000)
  judge := fun _ c pl =>
    let ws := toWords 2 pl
    if (fieldOf ws 0 16 1 = 0 ∧ ¬ c.spi) ∨ (fieldOf ws 0 17 1 = 0 ∧ c.spi) then Status.BAD_STATE else Status.OK
  run := fun s _ pl => done (s.setObj 0x1000 (toWords 2 pl)).irq

/-- GANGWAY_ECHO: the payload is 4 + COUNT, rounded up to a multiple of 4. -/
def echoLen (pl : List Byte) : Bool :=
  let n := num pl 0 2
  decide (4 ≤ pl.length) && decide (pl.length = 4 * cdiv (4 + n) 4)

/-- GANGWAY_ECHO (R426). -/
def cardGangwayEcho : Card where
  opcode := 0x0F02
  deferred := false
  lenOk := echoLen
  params := fun _ _ pl => decide (num pl 0 2 ≤ 4584) && zeroAt pl 2 2
  run := fun s _ pl => (s, Status.OK, le 2 (num pl 0 2) ++ [0, 0] ++ slice pl 4 (num pl 0 2))

end Sys2Proof.Machine
end

