-- ==== Sys2Proof/Machine/Time.lean ====
section
/-! DEFINITION. Network time (R332 to R348): the two domains, the switch between them, time faults, link delay, timed
outputs and captures. -/

namespace Sys2Proof.Machine

/-! ## The clock's state -/

/-- R511: a TIME wake record: event, new clock state or domain, value. -/
def State.timeRec (s : State) (ev st : Nat) (value : Int) : State :=
  s.wakeRec 0x0401 ([byte ev, byte st, 0, 0] ++ le 8 (wrap value 64))

/-- R335, R511: the clock enters a state. -/
def State.setClock (s : State) (st : ClockState) : State :=
  if s.time.state = st then s
  else ({ s with time := { s.time with state := st } } : State).timeRec 0 st.code 0

/-- R346: TRIG outputs go low, and edges at or before the present local time are past. -/
def State.trigsLow (s : State) : State :=
  { s with time := { s.time with trigs := s.time.trigs.map (fun g => { g with level := false, lastEdge := some s.ns }) } }

/-- R333, R334: the second of local time. -/
def State.sec (s : State) : Nat := s.ns / 1000000000

/-- R334, R342: the change to normal format is pending until the next carry. -/
def State.awaitCarry (s : State) (lock : Bool) : State :=
  { s with time := { s.time with toNormal := true, lockAtCarry := lock, pendSec := s.sec } }

/-! ## Switching (R339, R340, R358) -/

/-- R336: a domain is TRACKING. -/
def State.tracks (s : State) (k : Nat) : Bool := (s.time.domain k).tracking == 2

/-- R358: the device has a live lead other than itself. -/
def State.hasLead (s : State) : Bool :=
  s.get F.GROUP_EN == 1 && !s.group.lead && (match s.group.leadRank with | some r => s.rankLive r | none => false)

/-- R339: S: the first whole second of the target's time that lies at least 1 s ahead. -/
def switchNs (dns : Nat) : Nat := cdiv (dns + 1000000000) 1000000000 * 1000000000

/-- R339: the target: the other domain if it is TRACKING, otherwise the selected one. -/
def State.target (s : State) : Option Nat :=
  let o := 1 - s.time.selected
  if s.tracks o && !(s.tracks s.time.selected) then some o
  else if s.tracks s.time.selected then some s.time.selected else none

/-- R339, R340: a decider chooses a target and S while no domain is followed. A member with a live lead makes no
decision (R358). -/
def State.elect (s : State) : State :=
  let free : Bool := match s.time.state with
    | .holdover | .test => true
    | .free => !s.time.acquireOn && !s.time.lockAtCarry
    | _ => false
  if free ∧ s.time.switchTo = none ∧ ¬ s.hasLead then
    match s.target with
    | some k => { s with time := { s.time with switchTo := some (k, switchNs (s.time.domain k).ns) } }
    | none => s
  else s

/-- R337, R339: a domain leaves TRACKING: LOST is set; when it was followed the clock holds over, and a decision that
named it is made anew. -/
def State.loseDomain (s : State) (k next : Nat) : State :=
  let was := s.tracks k
  let s := s.modDomain k (fun d => { d with tracking := next, syncs := 0, lost := d.lost || was, pendingTwo := none })
  if ¬ was then s
  else
    let s := if s.time.selected = k ∧ (s.time.state = .locked ∨ s.time.state = .slewing) then s.setClock .holdover else s
    let s := match s.time.switchTo with
      | some x => if x.1 = k ∧ ¬ s.hasLead then { s with time := { s.time with switchTo := none } } else s
      | none => s
    s.elect

/-- A stored instant of local time moved with the clock. -/
def movedBy (d : Int) (ns : Nat) : Nat := ((ns : Int) + d).toNat

/-- The instants of a write of a surface moved with the clock. -/
def PastWrite.movedBy (w : PastWrite) (d : Int) : PastWrite :=
  { w with began := w.began + d, ended := w.ended.map (· + d), visible := w.visible.map (· + d) }

/-- R335, R341, R342: local time is set by a step of `d` ns: the instants already past that durations and orders are measured from keep
their distance from the present (log entry 150). -/
def State.redate (s : State) (d : Int) : State :=
  let moor (m : Mooring) : Mooring :=
    { m with lastMark := movedBy d m.lastMark, nackAt := m.nackAt.map (movedBy d),
             missing := m.missing.map (fun e => { e with due := movedBy d e.due }) }
  let surf (f : Surface) : Surface := { f with older := f.older.map (fun w => w.movedBy d) }
  let h := s.harbour; let k := s.skim
  { s with ingest := { s.ingest with moorings := s.ingest.moorings.map (fun e => (e.1, moor e.2)) },
           harbour := { h with bgDone := h.bgDone.map (movedBy d), bgStop := h.bgStop.map (movedBy d),
                               requests := h.requests.map (fun r => { r with acceptNs := movedBy d r.acceptNs }),
                               dropLast := h.dropLast.map (fun e => (e.1, movedBy d e.2)) },
           optics := { s.optics with passed := s.optics.passed.map (· + d) },
           synth := { s.synth with replay := s.synth.replay.map (fun e => (e.1, { e.2 with wrote := movedBy d e.2.wrote })) },
           skim := { k with began := k.began + d, waiting := k.waiting.map (fun w => (w.1, w.2 + d)),
                            surfaces := k.surfaces.map (fun e => (e.1, surf e.2)) },
           scan := { s.scan with changeT0 := s.scan.changeT0.map (movedBy d) } }

/-- R335, R341, R342: the time unit replaced, its local time set. -/
def State.setTime (s : State) (tm : TimeUnit) : State :=
  State.redate { s with time := tm } (((tm.clk / 2 ^ 32 : Nat) : Int) - s.ns)

/-- R342: the clock is set to a domain's D in the acquisition. No decision of R339 or R358 stays: a domain is followed. -/
def State.takeFirst (s : State) (k : Nat) : State :=
  let d := s.time.domain k
  let tm : TimeUnit :=
    { s.time with clk := d.d, incr := d.dIncr, selected := k, takenCyc := s.time.cyc, acquireOn := false, switchTo := none }
  State.awaitCarry (s.setTime tm) true

/-- R342, R340: a domain becomes TRACKING. -/
def State.gainDomain (s : State) (k : Nat) : State :=
  let s := s.modDomain k (fun d => { d with tracking := 2 })
  if s.time.state = .free ∧ s.time.acquireOn then s.takeFirst k
  else if s.time.state = .free ∧ s.time.lockAtCarry ∧ s.time.takenCyc = s.time.cyc ∧ s.get F.PREFERRED = k then s.takeFirst k
  else s.elect

/-- R341, R299: the links that carry video send the raster with every code 0. -/
def State.blackRaster (s : State) : State :=
  let on := s.usedPorts.filter (fun k => (s.port k).state == 3)
  on.foldl (fun s k => s.modSector k (fun x => { x with codes := List.replicate 12288 0 })) s

/-- R341: a time fault. -/
def State.timeFault (s : State) (k : Nat) (delta : Int) : State :=
  let d := s.time.domain k
  let s := s.zonesOff.blackRaster
  let tm : TimeUnit := { s.time with clk := d.d, incr := d.dIncr, carryFmt := true, dark := true, fault := true,
                                     state := .recovery }
  let s := ((s.setTime tm).trigsLow.awaitCarry true).tally T.TIME_FAULT
  (s.timeRec 0 ClockState.recovery.code 0).timeRec 2 ClockState.recovery.code delta

/-- R339, R340, R332: INCR of a clock that slews toward a target: 10 ppm off its rate, and within 500 ppm of nominal. -/
def slewIncr (dIncr : Nat) (delta : Int) : Nat := incrOf ((dIncr : Int) - delta.sign * (dIncr / 100000 : Nat))

/-- R339: S has come: Δ is measured, and the clock slews or takes a time fault. -/
def State.switchNow (s : State) (k sNs : Nat) : State :=
  let d := s.time.domain k
  let delta : Int := (s.ns : Int) - d.ns
  let s := { s with time := { s.time with switchTo := none, selected := k, switched := true, delta := delta, slewS := sNs } }
  let s := (s.tally T.TIME_SWITCH).timeRec 1 k delta
  if 1000000000 < delta.natAbs then s.timeFault k delta
  else
    let s := if s.time.carryFmt then s.awaitCarry false else s
    let s := { s with time := { s.time with acquireOn := false, lockAtCarry := false } }
    if delta = 0 then ({ s with time := { s.time with clk := d.d, incr := d.dIncr } } : State).setClock .locked
    else ({ s with time := { s.time with clk := slewClk d.d delta sNs, incr := slewIncr d.dIncr delta } } : State).setClock .slewing

/-- SWITCH_INSTANT (R339, R358). -/
def execSwitchInstant (t : Cyc) (s : State) : Host.Outcome State Fault Refusal :=
  let s := s.at t
  match s.time.switchTo with
  | some (k, sNs) =>
    let ready : Bool := match s.time.state with | .holdover | .free | .test => true | _ => false
    if s.serving ∧ ready ∧ sNs ≤ (s.time.domain k).ns then
      if s.tracks k then nextOf (s.switchNow k sNs)
      else
        let s := { s with time := { s.time with switchTo := none } }
        nextOf (if s.hasLead then s.tally T.TIME_SWITCH_HELD else s.elect)
    else nextOf s
  | none => nextOf s

/-- SLEW_END (R339): the remainder has reached 0. -/
def execSlewEnd (t : Cyc) (s : State) : Host.Outcome State Fault Refusal :=
  let s := s.at t
  if s.time.state = .slewing ∧ s.slewRemain = 0 then
    let d := s.time.domain s.time.selected
    nextOf (({ s with time := { s.time with clk := d.d, incr := d.dIncr, delta := 0 } } : State).setClock .locked)
  else nextOf s

/-- ACQUIRE_TIMEOUT (R342): no domain has tracked in time. -/
def execAcquireTimeout (t : Cyc) (s : State) : Host.Outcome State Fault Refusal :=
  let s := s.at t
  if s.serving ∧ s.time.acquireOn ∧ s.time.acquireAt + msCyc (s.get F.ACQUIRE_TIMEOUT_MS) ≤ s.time.cyc then
    nextOf (State.awaitCarry { s with time := { s.time with acquireOn := false } } false)
  else nextOf s

/-! ## Sync and Announce (R336, R337) -/

/-- R336: which of TD0 and TD1 has a domain number. -/
def State.domainOf (s : State) (number : Nat) : Option Nat :=
  if number = s.get F.DOMAIN0 then some 0 else if number = s.get F.DOMAIN1 then some 1 else none

/-- R343: the correction of a stamp made at the pads on reception, 2^-32 ns. -/
def State.ingressLat (s : State) (b : Nat) : Nat := s.get (F.INGRESS_LAT b) * 2 ^ 32

/-- R343: the correction of a stamp made at the pads on transmission, 2^-32 ns. -/
def State.egressLat (s : State) (b : Nat) : Nat := s.get (F.EGRESS_LAT b) * 2 ^ 32

/-- R336, R338: a valid Sync of a domain: D set from the time it carried at its ingress, the cycle `ingress`. The rates
are free values within the servo's bound. -/
def State.syncD (s : State) (k b origin ingress intervalNs : Nat) (correction : Int) : State :=
  let old := s.time.domain k
  let rate := incrOf (Config.domainIncr s.time.freeCount)
  let d := wrap ((origin : Int) * 2 ^ 32 + correction * 2 ^ 16 + s.linkDelay b + s.ingressLat b +
    ((s.time.cyc - ingress) * s.time.incr : Nat)) 96
  let steady := old.syncInt = intervalNs ∧ (s.time.cyc - old.lastSync) * 5 / 2 ≤ 8 * intervalNs
  let n := if steady then min (old.syncs + 1) 16 else 0
  let servo := incrOf (Config.servoIncr s.time.freeCount)
  let s := s.took.modDomain k (fun x =>
    { x with d := d, dIncr := rate, syncs := n, lastSync := s.time.cyc, syncInt := intervalNs, pendingTwo := none,
             tracking := if x.tracking = 0 then 1 else x.tracking })
  let s : State := if s.time.selected ≠ k then s
    else match s.time.state with
      | .locked => { s with time := { s.time with incr := servo } }
      | .slewing => { s with time := { s.time with incr := slewIncr rate s.time.delta } }
      | _ => s
  if n = 16 ∧ ¬ s.tracks k then s.gainDomain k else s

/-- SYNC_RECEIVED (R336): a Sync, or the Follow_Up that completes a two-step Sync. -/
def execSyncReceived (t : Cyc) (port : Nat) (m : SyncMsg) (s : State) : Host.Outcome State Fault Refusal :=
  let s := s.at t
  match s.domainOf m.domain with
  | none => nextOf s
  | some k =>
    let d := s.time.domain k
    if ¬ s.serving ∨ ¬ s.bbUp port ∨ d.ann = [] ∨ d.port ≠ port then nextOf s
    else if m.followUp then
      match d.pendingTwo with
      | some (q, src, cyc) =>
        if q = m.sequenceId ∧ src = m.sourcePort then nextOf (s.syncD k port m.originNs cyc m.intervalNs m.correction) else nextOf s
      | none => nextOf s
    else if m.twoStep then
      nextOf (s.modDomain k (fun x => { x with pendingTwo := some (m.sequenceId, m.sourcePort, s.time.cyc) }))
    else nextOf (s.syncD k port m.originNs s.time.cyc m.intervalNs m.correction)

/-- R336: the port of a domain: that with the lowest stepsRemoved, BB0 on a tie. -/
def annPort (l : List (Nat × Nat × Nat)) (now : Nat) : Nat :=
  match minBy? (fun a b => decide (a.2.1 < b.2.1 ∨ (a.2.1 = b.2.1 ∧ a.1 < b.1))) l with
  | some x => x.1
  | none => now

/-- R337: whole cycles of 2.5 ns in a number of nanoseconds. -/
def nsCyc (ns : Nat) : Nat := ns * 2 / 5

/-- R336, R337: an Announce of a domain. -/
def State.announce (s : State) (k port : Nat) (m : AnnounceMsg) : State :=
  let d := s.time.domain k
  let fresh := d.ann.filter (fun (a : Nat × Nat × Nat) => a.1 != port && decide (s.time.cyc < a.2.2 + nsCyc (3 * m.intervalNs)))
  let ann := fresh ++ [(port, m.stepsRemoved, s.time.cyc)]
  let p := annPort ann d.port
  let changed := p == port && d.gmKnown && d.gmId != m.gmIdentity
  let s := s.modDomain k (fun x => { x with ann := ann, port := p, lastAnn := s.time.cyc, annInt := m.intervalNs,
                                            tracking := if x.tracking = 0 then 1 else x.tracking })
  let s := if p = port then s.modDomain k (fun x => { x with gmId := m.gmIdentity, gmKnown := true, steps := m.stepsRemoved }) else s
  if changed then
    let s := if s.tracks k then s.modDomain k (fun x => { x with gmChanged := true }) else s
    s.loseDomain k 1
  else s

/-- ANNOUNCE_RECEIVED (R336, R337). -/
def execAnnounceReceived (t : Cyc) (port : Nat) (m : AnnounceMsg) (s : State) : Host.Outcome State Fault Refusal :=
  let s := s.at t
  match s.domainOf m.domain with
  | some k => if s.serving ∧ s.bbUp port then nextOf (s.announce k port m) else nextOf s
  | none => nextOf s

/-- SYNC_TIMEOUT (R337): no valid Sync for 8 Sync intervals. -/
def execSyncTimeout (t : Cyc) (k : Nat) (s : State) : Host.Outcome State Fault Refusal :=
  let s := s.at t
  let d := s.time.domain k
  if s.serving ∧ k < 2 ∧ d.tracking ≠ 0 ∧ d.syncInt ≠ 0 ∧ d.lastSync + nsCyc (8 * d.syncInt) ≤ s.time.cyc then
    nextOf (s.loseDomain k 1)
  else nextOf s

/-- ANNOUNCE_TIMEOUT (R337): no Announce for 3 Announce intervals. -/
def execAnnounceTimeout (t : Cyc) (k : Nat) (s : State) : Host.Outcome State Fault Refusal :=
  let s := s.at t
  let d := s.time.domain k
  if s.serving ∧ k < 2 ∧ d.tracking ≠ 0 ∧ d.annInt ≠ 0 ∧ d.lastAnn + nsCyc (3 * d.annInt) ≤ s.time.cyc then
    nextOf ((s.loseDomain k 0).modDomain k (fun x => { x with ann := [], gmKnown := false }))
  else nextOf s

/-! ## Link delay (R344) -/

/-- IEEE 1588: the portIdentity of a line port: the EUI-64 made of the MAC address, and the port number. -/
def State.portIdentity (s : State) (b : Nat) : List Byte :=
  let m := be 6 s.macAddr.toNat
  m.take 3 ++ [0xFF, 0xFE] ++ m.drop 3 ++ be 2 (b + 1)

/-- IEEE 1588: the header of a Pdelay message, 54 bytes in all. -/
def State.pdelayHead (s : State) (b type seq : Nat) (correction : Int) : List Byte :=
  [byte (0x10 + type), 2] ++ be 2 54 ++ [0, 0, 0, 0] ++ be 8 (wrap correction 64) ++ zeros 4 ++ s.portIdentity b ++
    be 2 seq ++ [5, if type = 2 then 0 else 0x7F]

/-- The frame of a PTP message of the device. -/
def State.ptpFrame (s : State) (body : List Byte) : Frame :=
  s.ownFrame (BitVec.ofNat 48 0x0180C200000E) (s.get F.CMD_TC) 0x88F7 body

/-- PDELAY_REQ_SEND (R344): once per second on each UP port. -/
def execPdelayReqSend (t : Cyc) (b : Nat) (s : State) : Host.Outcome State Fault Refusal :=
  let s := s.at t
  if s.serving ∧ b < 2 ∧ s.bbUp b ∧ nth s.time.pdelayAt b 0 + msCyc 1000 ≤ s.time.cyc then
    let q := nth s.time.pdelaySeq b 0
    let s := { s with time := { s.time with pdelayAt := modAt s.time.pdelayAt b (fun _ => s.time.cyc),
                                            pdelaySeq := modAt s.time.pdelaySeq b (fun _ => (q + 1) % 2 ^ 16),
                                            pdelay := modAt s.time.pdelay b (fun _ => none) } }
    nextOf (s.sendPort b (s.ptpFrame (s.pdelayHead b 2 q 0 ++ zeros 20)))
  else nextOf s

/-- PDELAY_REQ_RECEIVED (R344): answered with a one-step Pdelay_Resp, whose correctionField takes the turnaround time as
it departs. -/
def execPdelayReqReceived (t : Cyc) (b seq requester : Nat) (s : State) : Host.Outcome State Fault Refusal :=
  let s := s.at t
  if s.serving ∧ b < 2 ∧ s.bbUp b then
    let f := s.ptpFrame (s.pdelayHead b 3 seq 0 ++ zeros 10 ++ be 10 requester)
    nextOf (s.sendStamped b f (some (s.time.clk - s.ingressLat b, 0)))
  else nextOf s

/-- PDELAY_RESP_RECEIVED (R344): the partner's t2 and t3 (2^-32 ns) complete an exchange; `ratio` is the neighbour rate
ratio as u1.31. -/
def execPdelayRespReceived (t : Cyc) (b seq t2 t3 ratio : Nat) (s : State) : Host.Outcome State Fault Refusal :=
  let s := s.at t
  match nth s.time.pdelay b none with
  | some (q, t1) =>
    if s.serving ∧ q = seq then
      let t4 : Int := s.time.clk - s.ingressLat b
      let v := asr (asr ((t4 - t1) * ratio) 31 - ((t3 : Int) - t2)) 1
      nextOf { s with time := { s.time with
        pdelay := modAt s.time.pdelay b (fun _ => none),
        linkDelay := modAt s.time.linkDelay b (fun l => (l ++ [v]).drop ((l.length + 1) - 8)) } }
    else nextOf s
  | none => nextOf s

/-- FOLLOW_UP_TIMEOUT (R345): a forwarded two-step Sync whose Follow_Up has not transited within 10 ms. -/
def execFollowUpTimeout (t : Cyc) (s : State) : Host.Outcome State Fault Refusal :=
  let s := s.at t
  let late := s.time.twoStep.filter (fun e => decide (e.2.2.2.2 + 10000000 ≤ s.ns))
  nextOf (({ s with time := { s.time with twoStep := s.time.twoStep.filter (fun e => decide (s.ns < e.2.2.2.2 + 10000000)) } } : State).tallyBy
    T.TIME_FU_UNMATCHED late.length)

/-! ## Timed outputs (R346) -/

/-- R346: the configuration of a TRIG output once every new one whose time has come applies. -/
def Trig.promote (g : Trig) (now : Nat) : Trig :=
  let due := g.next.filter (fun e => decide (e.1 ≤ now))
  match due.getLast? with
  | some (from', ws) =>
    { g with cfg := ws, next := g.next.filter (fun e => decide (now < e.1)),
             lastEdge := some (max (g.lastEdge.getD ((from' : Int) - 1)) ((from' : Int) - 1)) }
  | none => g

/-- R362: the words of TriggerConfig of an output in force. -/
def Trig.words (g : Trig) : List Word := if g.cfg = [] then resetWords 0x1B10 else g.cfg

/-- R346: the latest edge time of an output that is not after `now`. -/
def State.trigEdge (s : State) (ws : List Word) : Option Int :=
  let off := signed (fieldOf ws 1 0 32) 32
  let div := fieldOf ws 0 16 16
  match fieldOf ws 0 0 2 with
  | 1 => some (s.tickNs (tickIn ((s.ns : Int) - off) s.scan.rate s.scan.phi s.scan.phiNext) + off)
  | 2 =>
    let n := tickIn ((s.ns : Int) - off) s.scan.rate s.scan.phi s.scan.phiNext
    some (s.tickNs (n - n % (s.scan.k * max 1 div)) + off)
  | 3 =>
    let start := fieldOf ws 4 0 32 + fieldOf ws 5 0 32 * 2 ^ 32
    let per := max 1 (fieldOf ws 3 0 32)
    if start ≤ s.ns then some (start + (s.ns - start) / per * per) else none
  | _ => none

/-- R346, R335: TRIG outputs work: the device serves and ticks are not stopped. -/
def State.trigsOn (s : State) : Bool := s.serving && s.ticksOn

/-- TRIG_RISE (R346). -/
def execTrigRise (t : Cyc) (k : Nat) (s : State) : Host.Outcome State Fault Refusal :=
  let s := s.at t
  let g := (nth s.time.trigs k {}).promote s.ns
  let s := { s with time := { s.time with trigs := modAt s.time.trigs k (fun _ => g) } }
  match s.trigEdge g.words with
  | some e =>
    let later : Bool := match g.lastEdge with | some x => decide (x < e) | none => true
    if s.trigsOn ∧ later ∧ 0 ≤ e ∧ e ≤ s.ns then
      let g2 := { g with level := true, lastEdge := some e, fallAt := e.toNat + fieldOf g.words 2 0 32 }
      nextOf { s with time := { s.time with trigs := modAt s.time.trigs k (fun _ => g2) } }
    else nextOf s
  | none => nextOf s

/-- TRIG_FALL (R346). -/
def execTrigFall (t : Cyc) (k : Nat) (s : State) : Host.Outcome State Fault Refusal :=
  let s := s.at t
  let g := nth s.time.trigs k {}
  if g.level ∧ g.fallAt ≤ s.ns then
    nextOf { s with time := { s.time with trigs := modAt s.time.trigs k (fun g => { g with level := false }) } }
  else nextOf s

/-! ## Captures (R348) -/

/-- R348: the capture FIFO of an input holds 16. -/
def fifoRoom (l : List Capture) : Bool := decide (l.length < 16)

/-- R348: the payload of a CAPTURE_EVENT. -/
def captureBytes (k lost : Nat) (c : Capture) : List Byte :=
  [byte k, byte c.edge] ++ le 2 (satN lost 16) ++ le 8 c.ns ++ le 4 c.frac

/-- R348: the captures of an EVT input sent, oldest first; the first packet carries LOST. -/
def State.sendCaptures (s : State) (k : Nat) : State :=
  let l := nth s.time.evt k []
  let lost := nth s.time.evtLost k 0
  let s := { s with time := { s.time with evt := modAt s.time.evt k (fun _ => []), evtLost := modAt s.time.evtLost k (fun _ => 0) } }
  (List.range l.length).foldl (fun s i =>
    s.notify 0x08F0 (captureBytes k (if i = 0 then lost else 0) (nth l i { ns := 0, frac := 0, edge := 0 }))) s

/-- R348: a capture dropped because its FIFO is full. -/
def State.captureLost (s : State) : State :=
  ({ s with time := { s.time with overflow := true } } : State).tally T.TIME_CAPTURE_LOST

/-- R348: L at the edge. -/
def State.capture (s : State) (falling : Bool) : Capture := { ns := s.ns, frac := s.time.clk % 2 ^ 32, edge := b2n falling }

/-- EVT_CAPTURE (R348). -/
def execEvtCapture (t : Cyc) (k : Nat) (falling : Bool) (s : State) : Host.Outcome State Fault Refusal :=
  let s := s.at t
  if s.serving ∧ k < 4 ∧ bit (s.get F.EVT_EN) k ∧ bit (s.get F.EVT_FALLING) k = falling then
    let s := if fifoRoom (nth s.time.evt k []) then
        { s with time := { s.time with evt := modAt s.time.evt k (fun l => l ++ [s.capture falling]) } }
      else State.captureLost { s with time := { s.time with evtLost := modAt s.time.evtLost k (· + 1) } }
    nextOf (if s.get F.CAPTURE_EVENTS = 1 then s.sendCaptures k else s)
  else nextOf s

/-! ## Commands -/

/-- TIME_CONFIGURE: the words are within R362. -/
def timeOk (ws : List Word) : Bool :=
  wordsOk 0x1B00 ws && fieldOf ws 0 0 8 != fieldOf ws 0 8 8 && decide (100 ≤ fieldOf ws 1 0 16 ∧ fieldOf ws 1 0 16 ≤ 60000)

/-- R362: a domain whose number changes starts its acquisition anew. -/
def State.redomain (s : State) (k before : Nat) : State :=
  if before = s.get (if k = 0 then F.DOMAIN0 else F.DOMAIN1) then s
  else (s.loseDomain k 0).modDomain k (fun d => { ({} : Domain) with lost := d.lost, gmChanged := d.gmChanged })

/-- TIME_CONFIGURE (R362). -/
def cardTimeConfigure : Card where
  opcode := 0x0801
  deferred := false
  lenOk := lenIs 20
  presence := fun _ _ _ => 1
  params := fun _ _ pl => timeOk (toWords 5 pl)
  run := fun s _ pl =>
    let d0 := s.get F.DOMAIN0; let d1 := s.get F.DOMAIN1
    done (((s.setObj 0x1B00 (toWords 5 pl)).redomain 0 d0).redomain 1 d1)

/-- R362: TriggerConfig within its ranges. -/
def trigOk (ws : List Word) : Bool :=
  let mode := fieldOf ws 0 0 2; let w := fieldOf ws 2 0 32; let per := fieldOf ws 3 0 32
  wordsOk 0x1B10 ws && fieldOf ws 0 16 16 != 0 && decide ((signed (fieldOf ws 1 0 32) 32).natAbs ≤ 2000000) &&
  decide (10 ≤ w ∧ w ≤ 1000000) && (mode != 3 || decide (1000 ≤ per ∧ per ≤ 4000000000 ∧ w < per))

/-- TRIGGER_CONFIGURE (R346). -/
def cardTriggerConfigure : Card where
  opcode := 0x0802
  deferred := false
  lenOk := lenIs 28
  params := fun _ _ pl => decide (num pl 0 1 ≤ 3) && zeroAt pl 1 3 && trigOk (toWords 6 (pl.drop 4))
  run := fun s _ pl =>
    let k := num pl 0 1
    let ws := toWords 6 (pl.drop 4)
    let s := s.setObj (0x1B10 + k) ws
    done { s with time := { s.time with trigs := modAt s.time.trigs k (fun g =>
      let g := g.promote s.ns
      { g with next := g.next ++ [(s.ns + 1000000, ws)] }) } }

/-- R335: the clock set to a time in ns, in TEST. -/
def State.stepClock (s : State) (ns : Nat) : State :=
  let tm : TimeUnit :=
    { s.time with clk := ns * 2 ^ 32, carryFmt := true, toNormal := false, lockAtCarry := false, switchTo := none,
                  acquireOn := false }
  let s := s.setTime tm
  let s := { s with scan := { s.scan with notBefore := s.ns } }
  let trigs := s.time.trigs.map (fun (g : Trig) => { g with lastEdge := some (s.ns : Int) })
  let s := { s with time := { s.time with trigs := trigs } }
  s.setClock .test

/-- TIME_STEP (R335). -/
def cardTimeStep : Card where
  opcode := 0x0803
  deferred := false
  lenOk := lenIs 12
  presence := fun _ _ _ => 1
  params := fun _ _ pl => decide (num pl 0 8 < 2 ^ 48) && decide (num pl 8 4 ≤ 999999999)
  judge := fun s _ _ =>
    if s.tracks 0 ∨ s.tracks 1 ∨ s.ports.any (fun p => p.state == 3) ∨ s.scan.lantern then Status.BAD_STATE else Status.OK
  run := fun s _ pl => done (s.stepClock (num pl 0 8 * 1000000000 + num pl 8 4))

end Sys2Proof.Machine
end

