-- ==== Sys2Proof/Machine/Bridge.lean ====
section
/-! DEFINITION. The backbone bridge (R323 to R331, R345): classification, learning, egress and its gates, and what the
device itself answers (ARP, ICMP echo, IGMP). -/

namespace Sys2Proof.Machine

/-! ## Settings in force -/

/-- R521, R453: the bridge forwards with every VID a member: before the end of start-up, and in ROM recovery. -/
def State.bridgeOpen (s : State) : Bool :=
  match s.start.phase with | .bridge | .pilotBoot | .recovery | .sramFault => true | _ => false

/-- The bridge forwards at all. -/
def State.bridgeOn (s : State) : Bool := s.bridgeOpen || s.serving || s.start.phase == .shuttingDown

/-- R324, R361: a VID is a member. -/
def State.vidMember (s : State) (vid : Nat) : Bool := s.bridgeOpen || (decide (vid < 4096) && s.get (F.VLAN_MEMBER vid) == 1)

/-- R325: the VID a frame is assigned. -/
def State.vidOf (s : State) (f : Frame) : Nat := if f.tags = 0 ∨ f.vid = 0 then s.get F.PVID else f.vid

/-- A group address. -/
def isGroup (mac : BitVec 48) : Bool := mac.toNat / 2 ^ 40 % 2 == 1

/-- The broadcast address. -/
def bcast : BitVec 48 := BitVec.ofNat 48 0xFFFFFFFFFFFF

/-- R324 row 3: a link-local group address. -/
def isLinkLocal (mac : BitVec 48) : Bool := mac.toNat / 16 == 0x0180C200000

/-- The line rate of a backbone port, Gb/s (R322). -/
def State.bbGbps (s : State) (b : Nat) : Nat :=
  let rate := if s.bridgeOpen then bits s.recoveryRec.2 (8 * b) 1 else s.getI F.BB_RATE b
  if rate = 1 then 25 else 10

/-- The nanoseconds that a frame's bits and its 8 bytes of preamble take on a port. -/
def State.wireNs (s : State) (b len : Nat) : Nat := cdiv ((len + 8) * 8) (s.bbGbps b)

/-- R325: a source address learned, or seen again. -/
def State.learn (s : State) (mac : BitVec 48) (b : Nat) : State :=
  if s.get F.LEARN = 0 ∨ isGroup mac then s
  else
    let rest := s.bridge.learned.filter (fun e => e.1 != mac)
    if rest.length < 4096 ∨ rest.length < s.bridge.learned.length then
      { s with bridge := { s.bridge with learned := rest ++ [(mac, b, s.time.cyc)] } }
    else s

/-! ## Gates (R331) -/

/-- R331, R361: the words of GateControl in force on a port. -/
def Gates.words (g : Gates) : List Word := if g.cur = [] then resetWords 0x1A10 else g.cur

/-- R331: a list that has come into force. -/
def Gates.promote (g : Gates) (now : Nat) : Gates :=
  match g.next with
  | some (from', ws) => if from' ≤ now then { g with cur := ws, next := none, entry := 0 } else g
  | none => g

/-- R331: the entry in force at `off` ns into a cycle, with the ns from the cycle's start at which it ends. -/
def entryAt (ws : List Word) (cycle off : Nat) : Nat → Nat → Nat → Nat × Nat
  | 0, k, _ => (k - 1, cycle)
  | n + 1, k, start =>
    let e := start + fieldOf ws (4 + k) 8 24
    if off < min e cycle then (k, if n = 0 then cycle else min e cycle)
    else if n = 0 then (k, cycle)
    else entryAt ws cycle off n (k + 1) e

/-- R331: BASE of a list. -/
def gateBase (ws : List Word) : Nat := fieldOf ws 2 0 32 + fieldOf ws 3 0 32 * 2 ^ 32

/-- R331: (entry, gates, local ns at which the entry ends) at a local time at or after BASE. -/
def gateAt (ws : List Word) (now : Nat) : Nat × Nat × Nat :=
  let cycle := max 1 (fieldOf ws 1 0 32)
  let start := gateBase ws + (now - gateBase ws) / cycle * cycle
  let e := entryAt ws cycle (now - start) (fieldOf ws 0 1 7) 0 0
  (e.1, fieldOf ws (4 + e.1) 0 8, start + e.2)

/-- R331: the gate of a class is open at `now` and stays open until `stop`. `n` bounds the entries looked at. -/
def gateHolds (ws : List Word) (tc stop : Nat) : Nat → Nat → Bool
  | 0, _ => false
  | n + 1, now =>
    if fieldOf ws 0 0 1 = 0 ∨ fieldOf ws 0 1 7 = 0 then true
    else if now < gateBase ws then (if stop ≤ gateBase ws then true else gateHolds ws tc stop n (gateBase ws))
    else
      let e := gateAt ws now
      if ¬ bit e.2.1 tc then false
      else if stop ≤ e.2.2 then true
      else gateHolds ws tc stop n (max (now + 1) e.2.2)

/-- R331: the gate of a class is open at `now` and stays open until `stop`, under the list in force and, from the instant at
which it takes effect, under the replacement. -/
def Gates.holds (g : Gates) (tc stop now : Nat) : Bool :=
  match g.next with
  | some (from', ws) =>
    gateHolds g.words tc (min stop from') 8192 now && (decide (stop ≤ from') || gateHolds ws tc stop 8192 from')
  | none => gateHolds g.words tc stop 8192 now

/-- R331: the gate condition for a frame of a length on a port. -/
def State.gateOk (s : State) (b tc len : Nat) : Bool :=
  let wake := if (s.bbp b).txLpi then Config.wakeNs (s.bbGbps b) else 0
  ((nth s.bridge.gates b {}).promote s.ns).holds tc (s.ns + wake + s.wireNs b len) s.ns

/-- R331: the first cycle start of a list at or after a local time. -/
def gateStart (ws : List Word) (at' : Nat) : Nat :=
  let cycle := max 1 (fieldOf ws 1 0 32)
  gateBase ws + cdiv (at' - gateBase ws) cycle * cycle

/-- GATE_ENTRY_CHANGE (R331): the entry in force is the one of local time. -/
def execGateEntryChange (t : Cyc) (b : Nat) (s : State) : Host.Outcome State Fault Refusal :=
  let s := s.at t
  if s.serving ∧ b < 2 then
    let g := (nth s.bridge.gates b {}).promote s.ns
    let e := if fieldOf g.words 0 0 1 = 1 ∧ gateBase g.words ≤ s.ns then (gateAt g.words s.ns).1 else 0
    nextOf { s with bridge := { s.bridge with gates := modAt s.bridge.gates b (fun _ => { g with entry := e }) } }
  else nextOf s

/-! ## PTP in transit (R345) -/

/-- IEEE 1588: messageType of a PTP message. -/
def ptpType (m : List Byte) : Nat := num m 0 1 % 16

/-- R324: a Pdelay message. -/
def isPdelay (m : List Byte) : Bool := ptpType m == 2 || ptpType m == 3 || ptpType m == 10

/-- R345: a time interval of 2^-32 ns rounded to the nearest 2^-16 ns and added to correctionField. -/
def addCorrection (m : List Byte) (v : Int) : List Byte :=
  m.take 8 ++ be 8 (wrap (signed (beVal ((m.drop 8).take 8)) 64 + rnd v 16) 64) ++ m.drop 16

/-- R343: the egress stamp of a frame that departs now. -/
def State.egressStamp (s : State) (b : Nat) : Int := s.time.clk + s.egressLat b

/-- R345, R344: what the time unit makes of a PTP message as it departs. -/
def State.depart (s : State) (b : Nat) (q : QFrame) : State × Frame :=
  let m := q.f.payload
  if q.f.etherType.toNat ≠ 0x88F7 then (s, q.f)
  else if q.own then
    match q.stamp with
    | some (t2, _) => (s, { q.f with payload := addCorrection m (s.egressStamp b - t2) })
    | none =>
      if ptpType m = 2 then
        let p := some (beVal ((m.drop 30).take 2), (s.egressStamp b).toNat)
        ({ s with time := { s.time with pdelay := modAt s.time.pdelay b (fun _ => p) } }, q.f)
      else (s, q.f)
  else
    let seq := beVal ((m.drop 30).take 2); let src := beVal ((m.drop 20).take 10); let dom := num m 4 1
    match q.stamp with
    | some (ingress, delay) =>
      let sum := s.egressStamp b - ingress + delay
      if bit (num m 6 1) 1 then
        let e := (seq, src, dom, wrap sum 64, s.ns)
        ({ s with time := { s.time with twoStep := s.time.twoStep ++ [e] } }, q.f)
      else (s, { q.f with payload := addCorrection m sum })
    | none =>
      if ptpType m = 8 then
        match s.time.twoStep.find? (fun e => e.1 == seq && e.2.1 == src && e.2.2.1 == dom) with
        | some e =>
          ({ s with time := { s.time with twoStep := s.time.twoStep.filter (fun x => x != e) } },
           { q.f with payload := addCorrection m (signed e.2.2.2.1 64) })
        | none => (s, q.f)
      else (s, q.f)

/-! ## Egress (R326, R327, R330) -/

/-- R316, R330: the transmit direction of a port is awake and idle. -/
def State.txIdle (s : State) (b : Nat) : Bool :=
  s.bbUp b && !(s.bbp b).txLpi && decide ((s.bbp b).txWakeAt ≤ s.time.cyc) && decide (nth s.bridge.busyUntil b 0 ≤ s.time.cyc)

/-- A frame leaves a port: its bits and the gap of 12 bytes occupy the line. -/
def State.transmit (s : State) (b : Nat) (q : QFrame) : State :=
  let (s, f) := s.depart b q
  let til := s.time.cyc + cdiv (s.wireNs b (f.length + 12) * 2) 5
  { s with bridge := { s.bridge with sent := modAt s.bridge.sent b (fun _ => some f),
                                     busyUntil := modAt s.bridge.busyUntil b (fun _ => til) } }

/-- R330: the queues of a port. -/
def State.queues (s : State) (b : Nat) : List (List QFrame) := nth s.bridge.egress b []

/-- R330, R331, R327: the highest class whose queue head is eligible, with that head. One of the device's own is there once BBI has
carried it. -/
def State.eligible (s : State) (b : Nat) : Option (Nat × QFrame) :=
  let qs := s.queues b
  let l := (List.range 8).filterMap (fun tc => match nth qs tc [] with
    | q :: _ => if q.ready ≤ s.time.cyc ∧ s.gateOk b tc q.f.length then some (tc, q) else none
    | [] => none)
  l.getLast?

/-- R316: a port's queues have become empty, or have not. -/
def State.noteEmpty (s : State) (b : Nat) : State :=
  if (s.queues b).all (·.isEmpty) then s.modBb b (fun p => { p with emptyAt := s.time.cyc }) else s

/-- EGRESS_TRANSMIT (R330): the head of the highest eligible class leaves; what waits in the transmit berths follows. -/
def execEgressTransmit (t : Cyc) (b : Nat) (s : State) : Host.Outcome State Fault Refusal :=
  let s := s.at t
  if s.bridgeOn ∧ b < 2 ∧ s.txIdle b then
    match s.eligible b with
    | some (tc, q) =>
      let s := { s with bridge := { s.bridge with
        egress := modAt s.bridge.egress b (fun l => modAt l tc (fun x => x.drop 1)) } }
      nextOf (((s.transmit b q).pump).noteEmpty b).exportsOut
    | none => nextOf s
  else nextOf s

/-- R326: the conditions of cutting through to a port. -/
def State.cutsThrough (s : State) (ingress egress : Nat) (f : Frame) : Bool :=
  s.get F.CUT_THROUGH == 1 && decide (s.bbGbps egress ≤ s.bbGbps ingress) && s.txIdle egress &&
  (nth (s.queues egress) (s.classOf (prio f)) []).isEmpty && s.gateOk egress (s.classOf (prio f)) 9216

/-- R345: the stamp that goes with a Sync in transit: its ingress stamp and the ingress port's meanLinkDelay. -/
def State.transitStamp (s : State) (b : Nat) (f : Frame) : Option (Nat × Int) :=
  if f.etherType.toNat = 0x88F7 ∧ ptpType f.payload = 0 then
    some (s.time.clk - s.ingressLat b, s.linkDelay b)
  else none

/-- R324, R326, R327: a frame forwarded to the other line port; one to a port that is DOWN is dropped. -/
def State.forward (s : State) (b : Nat) (f : Frame) : State :=
  let o := 1 - b
  let q : QFrame := { f := f, stamp := s.transitStamp b f, own := false }
  if ¬ s.bbUp o then s
  else if s.cutsThrough b o f then
    let s := s.transmit o q
    if f.fcsOk then s else s.tally T.BRG_STOMPED
  else if s.admits o f then s.enqueue o q
  else s.tally T.BRG_EGRESS_DROP

/-! ## What the device answers (R328, R329) -/

/-- R329: an entry of the ARP cache, the one seen longest ago giving way in a full cache. -/
def State.putArp (s : State) (ip : Nat) (mac : BitVec 48) : State :=
  let rest := s.bridge.arp.filter (fun e => e.1 != ip)
  let rest := if rest.length < 64 then rest else rest.drop 1
  State.pump { s with bridge := { s.bridge with arp := rest ++ [(ip, mac, s.time.cyc)] } }

/-- R329, R454: the address for which the device answers ARP. -/
def State.ownIp (s : State) : Nat := if s.start.phase = .recovery then s.recoveryRec.1 else s.get F.DEV_IP

/-- R454: an untagged frame of the boot ROM. -/
def State.romFrame (s : State) (dst : BitVec 48) (etherType : Nat) (payload : List Byte) : Frame :=
  { dst := dst, src := s.macAddr, tags := 0, pcp := 0, vid := 0, etherType := BitVec.ofNat 16 etherType,
    length := max 64 (18 + payload.length), fcsOk := true, payload := payload }

/-- R329, RFC 826: an ARP message that has reached the device on port `b`. -/
def State.arpIn (s : State) (b : Nat) (m : List Byte) : State :=
  let op := beVal ((m.drop 6).take 2); let smac := BitVec.ofNat 48 (beVal ((m.drop 8).take 6))
  let sip := beVal ((m.drop 14).take 4); let tip := beVal ((m.drop 24).take 4)
  let ip := s.ownIp
  if m.length < 28 ∨ ip = 0 then s
  else
    let s := if tip = ip ∨ (s.arpOf sip).isSome then s.putArp sip smac else s
    if op = 1 ∧ tip = ip then
      let r := arpBytes 2 s.macAddr ip smac sip
      if s.start.phase = .recovery then s.sendPort b (s.romFrame smac 0x0806 r)
      else s.sendOwn (s.ownFrame smac (s.get F.CMD_TC) 0x0806 r)
    else s

/-- R328: the groups that the device reports, without repeats; MCAST_GROUP0 to MCAST_GROUP7 as sampled at the scene cut (R31). -/
def State.groupSet (s : State) : List Nat :=
  ((List.range 8).map (fun k => s.cutv (F.MCAST_GROUP k)) ++ [s.get F.GROUP_MCAST]).foldl
    (fun l g => if g = 0 ∨ l.contains g then l else l ++ [g]) []

/-- An IPv4 packet with the router alert option that carries an IGMP message. -/
def State.igmpPacket (s : State) (dst : Nat) (body : List Byte) : List Byte :=
  let msg := body.take 2 ++ be 2 (inetSum body) ++ body.drop 4
  let h (c : Nat) : List Byte := [0x46, 0] ++ be 2 (24 + msg.length) ++ be 2 0 ++ be 2 0 ++ [1, 2] ++ be 2 c ++
    be 4 (s.get F.DEV_IP) ++ be 4 dst ++ [0x94, 4, 0, 0]
  h (inetSum (h 0)) ++ msg

/-- R328, RFC 3376: an IGMPv3 report of groups with a record type. -/
def State.igmp3 (s : State) (type : Nat) (groups : List Nat) : List Byte :=
  s.igmpPacket 0xE0000016 ([0x22, 0, 0, 0] ++ be 2 0 ++ be 2 groups.length ++
    groups.flatMap (fun g => [byte type, 0] ++ be 2 0 ++ be 4 g))

/-- A multicast IPv4 frame of the device for one port. -/
def State.mcastPort (s : State) (b dst : Nat) (pkt : List Byte) : State :=
  s.sendPort b (s.ownFrame (mcastMac dst) (s.get F.CMD_TC) 0x0800 pkt)

/-- R328: a query answered from the port on which it arrived. `v3` tells an IGMPv3 query by its length. -/
def State.igmpAnswer (s : State) (b group : Nat) (v3 : Bool) : State :=
  let l := s.groupSet.filter (fun g => group == 0 || g == group)
  if l = [] then s
  else if v3 then s.mcastPort b 0xE0000016 (s.igmp3 2 l)
  else l.foldl (fun s g => s.mcastPort b g (s.igmpPacket g ([0x16, 0, 0, 0] ++ be 4 g))) s

/-- R328: unsolicited reports on both ports when the set of groups has changed. -/
def State.reportGroups (s : State) : State :=
  let now := s.groupSet
  if now = s.bridge.groups ∨ s.get F.DEV_IP = 0 then s
  else
    let left := s.bridge.groups.filter (fun g => !(now.contains g))
    let joined := now.filter (fun g => !(s.bridge.groups.contains g))
    let s := { s with bridge := { s.bridge with groups := now } }
    [0, 1].foldl (fun s b =>
      let s := if joined = [] then s else s.mcastPort b 0xE0000016 (s.igmp3 4 joined)
      if left = [] then s else s.mcastPort b 0xE0000016 (s.igmp3 3 left)) s

/-- R328: at start every group is reported. -/
def State.reportAll (s : State) : State := State.reportGroups { s with bridge := { s.bridge with groups := [] } }

/-- R329: what the device answers of an IPv4 packet that has reached it: ICMP echo requests and IGMP queries. Its UDP
datagrams come as commands of their own (R100). -/
def State.ipIn (s : State) (b : Nat) (m : List Byte) : State :=
  let hl := num m 0 1 % 16 * 4
  let src := beVal ((m.drop 12).take 4); let dst := beVal ((m.drop 16).take 4)
  let len := beVal ((m.drop 2).take 2)
  let body := (m.take len).drop hl
  let ip := s.get F.DEV_IP
  if ip = 0 ∨ m.length < 20 ∨ num m 0 1 / 16 ≠ 4 then s
  else if num m 9 1 = 1 ∧ dst = ip ∧ num body 0 1 = 8 ∧ 8 ≤ body.length then
    let r := [0, 0] ++ zeros 2 ++ body.drop 4
    let r := r.take 2 ++ be 2 (inetSum r) ++ r.drop 4
    let hop := s.nextHop src
    let pkt := ipv4 ip src 1 64 r
    match s.arpOf hop with
    | some mac => s.sendOwn (s.ownFrame mac (s.get F.CMD_TC) 0x0800 pkt)
    | none => if hop = 0 then s else (s.sendOwn (s.ownFrame 0 (s.get F.CMD_TC) 0x0800 pkt)).askArp hop
  else if num m 9 1 = 2 ∧ num body 0 1 = 0x11 then s.igmpAnswer b (beVal ((body.drop 4).take 4)) (decide (12 ≤ body.length))
  else s

/-! ## The boot ROM's datagrams (R454) -/

/-- The bytes of a text. -/
def textBytes (t : String) : List Byte := t.toList.map (fun c => byte c.toNat)

/-- RFC 1350: an ERROR packet. -/
def tftpError (code : Nat) (message : String) : List Byte := be 2 5 ++ be 2 code ++ textBytes message ++ [0]

/-- R454: a TFTP packet of the ROM to a client, from one of its UDP ports. The client's MAC address is the one its frames
came from (R329). -/
def State.romReply (s : State) (sport ip port : Nat) (data : List Byte) : State :=
  let s := { s with start := { s.start with tftpOut := data } }
  match s.arpOf ip with
  | some mac =>
    let f := s.romFrame mac 0x0800 (udpPacket s.recoveryRec.1 ip sport port data)
    (s.outPorts f).foldl (fun s b => s.sendPort b f) s
  | none => s

/-- RFC 1350: a packet that belongs to no transfer answered from a port of its own. -/
def State.romRefuse (s : State) (ip port : Nat) (data : List Byte) : State :=
  s.took.romReply (Config.tftpTid s.time.freeCount).toNat ip port data

/-- R454: an IPv4 packet that has reached the ROM. Write requests and data come as events of their own, and an ERROR is not
answered; any other TFTP packet is a request that the ROM does not serve. -/
def State.romIn (s : State) (m : List Byte) : State :=
  let hl := num m 0 1 % 16 * 4
  let src := beVal ((m.drop 12).take 4); let dst := beVal ((m.drop 16).take 4)
  let u := m.drop hl
  let port := beVal ((u.drop 2).take 2)
  let mine : Bool := port == 69 || (s.start.tftp.isSome && port == s.start.tftpTid)
  let other : Bool := match beVal ((u.drop 8).take 2) with | 2 | 3 | 5 => false | _ => true
  if num m 0 1 / 16 = 4 ∧ num m 9 1 = 17 ∧ dst = s.ownIp ∧ 10 ≤ u.length ∧ mine ∧ other then
    s.romRefuse src (beVal (u.take 2)) (tftpError 4 "")
  else s

/-- R327: BBI takes a frame at once, lets it wait, or drops it. -/
def State.toBbi (s : State) (b : Nat) (f : Frame) : State × Bool :=
  let dur := cdiv (f.length * 8) 100
  let wait := (nth s.bridge.bbi b []).filter (fun c => decide (s.time.cyc < c))
  if s.bridge.bbiFree ≤ s.time.cyc then
    ({ s with bridge := { s.bridge with bbiFree := s.time.cyc + dur, bbi := modAt s.bridge.bbi b (fun _ => wait) } }, true)
  else if wait.length < 2 then
    let til := s.bridge.bbiFree + dur
    ({ s with bridge := { s.bridge with bbiFree := til, bbi := modAt s.bridge.bbi b (fun _ => wait ++ [til]) } }, true)
  else (s.tally T.BRG_BBI_DROP, false)

/-- R324, R327, R329: a frame delivered to the device. -/
def State.deliver (s : State) (b : Nat) (f : Frame) : State :=
  let (s, ok) := s.toBbi b f
  if ¬ ok then s
  else match f.etherType.toNat with
    | 0x0806 => (s.arpIn b f.payload).exportsOut
    | 0x0800 => if s.serving then s.ipIn b f.payload else (s.putArp (beVal ((f.payload.drop 12).take 4)) f.src).romIn f.payload
    | _ => s

/-! ## A frame received (R323 to R325) -/

/-- R328: the multicast frames copied to BBI. -/
def State.groupFrame (s : State) (f : Frame) : Bool :=
  f.etherType.toNat == 0x0800 && s.groupSet.contains (beVal ((f.payload.drop 16).take 4))

/-- R328: an IGMP query. -/
def isIgmpQuery (f : Frame) : Bool :=
  f.etherType.toNat == 0x0800 && num f.payload 9 1 == 2 && num f.payload (num f.payload 0 1 % 16 * 4) 1 == 0x11

/-- R324 rows 4 to 8, for a frame with a good FCS or one that may cut through. -/
def State.classify (s : State) (b : Nat) (f : Frame) : State :=
  let own := decide (s.vidOf f = s.get F.DEV_VID)
  if f.dst = s.macAddr then
    if ¬ f.fcsOk then s.tally T.BRG_DISCARD
    else if s.serving ∨ s.start.phase = .recovery then (s.learn f.src b).deliver b f
    else s   -- R521: discarded before the end of start-up
  else if isGroup f.dst then
    let copy := f.fcsOk && own && (s.serving || s.start.phase == .recovery) &&
      (if f.dst = bcast then f.etherType.toNat == 0x0806 else s.groupFrame f)
    let s := (s.learn f.src b).forward b f
    if copy then s.deliver b f
    else if f.fcsOk ∧ own ∧ s.serving ∧ isIgmpQuery f then s.ipIn b f.payload else s
  else if s.get F.LEARN = 1 ∧ s.learnedPort f.dst = some b then s
  else (s.learn f.src b).forward b f

/-- R323: whether a frame with a bad FCS is stored, and so discarded: it does not cut through. -/
def State.storedBad (s : State) (b : Nat) (f : Frame) : Bool := !f.fcsOk && !(s.bbUp (1 - b) && s.cutsThrough b (1 - b) f)

/-- LINE_PORT_FRAME (R323, R324). -/
def execLinePortFrame (t : Cyc) (b : Nat) (f : Frame) (s : State) : Host.Outcome State Fault Refusal :=
  let s := s.at t
  if ¬ s.bridgeOn ∨ 2 ≤ b ∨ ¬ s.bbUp b ∨ f.length < 64 then nextOf s
  else if 9216 < f.length ∨ 2 ≤ f.tags ∨ s.storedBad b f then nextOf (s.tally T.BRG_DISCARD)
  else if ¬ s.vidMember (s.vidOf f) then nextOf (s.tally T.BRG_VLAN_DROP)
  else if f.etherType.toNat = 0x88F7 then
    if isPdelay f.payload then nextOf s
    else if ¬ isGroup f.dst ∧ s.get F.LEARN = 1 ∧ s.learnedPort f.dst = some b then nextOf s
    else nextOf ((s.learn f.src b).forward b f)
  else if isLinkLocal f.dst then nextOf s
  else nextOf (s.classify b f)

/-- ADDRESS_AGE_OUT (R325, R329): learned addresses and ARP entries not seen for 300 s go. -/
def execAddressAgeOut (t : Cyc) (s : State) : Host.Outcome State Fault Refusal :=
  let s := s.at t
  let keep (c : Nat) : Bool := decide (s.time.cyc < c + msCyc 300000)
  nextOf { s with bridge := { s.bridge with learned := s.bridge.learned.filter (fun e => keep e.2.2),
                                            arp := s.bridge.arp.filter (fun e => keep e.2.2) } }

/-! ## BRIDGE_SET (R360, R361) -/

/-- The object and its size that SELECT names. -/
def bridgeObj (sel : Nat) : Nat × Nat :=
  match sel with | 0 => (0x1A00, 20) | 1 => (0x1A01, 512) | 2 => (0x1A10, 272) | _ => (0x1A11, 272)

/-- R360: BridgeConfig within its ranges, DEV_VID a member. -/
def State.bridgeOk (s : State) (ws : List Word) : Bool :=
  let dv := fieldOf ws 1 8 12; let pv := fieldOf ws 1 20 12; let pl := fieldOf ws 1 0 6
  decide (1 ≤ pl ∧ pl ≤ 30 ∧ 1 ≤ dv ∧ dv ≤ 4094 ∧ 1 ≤ pv ∧ pv ≤ 4094) && s.get (F.VLAN_MEMBER dv) == 1

/-- R361: GateControl within its ranges. -/
def gatesOk (ws : List Word) : Bool :=
  decide (fieldOf ws 0 1 7 ≤ 64 ∧ 1000 ≤ fieldOf ws 1 0 32 ∧ fieldOf ws 1 0 32 ≤ 1000000000) &&
  (List.range (fieldOf ws 0 1 7)).all (fun k => fieldOf ws (4 + k) 8 24 != 0)

/-- BRIDGE_SET (R360). -/
def cardBridgeSet : Card where
  opcode := 0x0710
  deferred := false
  lenOk := fun pl => decide (4 ≤ pl.length) && (decide (3 < num pl 0 1) || pl.length == 4 + (bridgeObj (num pl 0 1)).2)
  presence := fun _ _ _ => 1
  params := fun s _ pl =>
    let o := bridgeObj (num pl 0 1)
    let ws := toWords (o.2 / 4) (pl.drop 4)
    decide (num pl 0 1 ≤ 3) && zeroAt pl 1 3 && wordsOk o.1 ws &&
    (match num pl 0 1 with
     | 0 => s.bridgeOk ws
     | 1 => fieldOf ws (s.get F.DEV_VID / 32) (s.get F.DEV_VID % 32) 1 == 1
     | _ => gatesOk ws)
  run := fun s _ pl =>
    let sel := num pl 0 1
    let o := bridgeObj sel
    let ws := toWords (o.2 / 4) (pl.drop 4)
    let s := s.setObj o.1 ws
    if sel < 2 then done s.reportGroups
    else done { s with bridge := { s.bridge with gates := modAt s.bridge.gates (sel - 2) (fun g =>
      { g.promote s.ns with next := some (gateStart ws (s.ns + 1000000), ws) }) } }

end Sys2Proof.Machine
end

