-- ==== Sys2Proof/Machine/Codec.lean ====
section
/-! DEFINITION. The scene codec engine (R129 to R151): decompression jobs of tiles, library segments and trials, and
compression jobs with their shadow verification. -/

namespace Sys2Proof.Machine

/-- R129, R51, R485: the lanes are powered. -/
def State.lanesOn (s : State) : Bool := s.serving && !s.scan.lantern

/-! ## Decompression outcomes (R139) -/

/-- R139: the tally of a code. -/
def codecTally (code : Nat) : Nat := T.CODEC_ILLEGAL_CODE + (code - 1)

/-- R139, R151: a failed job counted and recorded. Kind 0 tile, 1 library segment, 2 trial. -/
def State.codecError (s : State) (kind moor : Nat) (r : Zstd.Result) : State :=
  if r.code = Zstd.NONE then s
  else
    let s := { s with codec := { s.codec with lastCode := r.code, lastKind := kind, lastMooring := moor, lastErr := r.errOffset } }
    (s.tally (codecTally r.code)).wakeRec 0x0201
      ([byte kind, byte r.code] ++ le 2 moor ++ le 4 r.errOffset ++ le 4 r.committed)

/-! ## Tile and library jobs -/

/-- R85: the stream of a complete tile: its fragments in order of FRAG_INDEX. -/
def Mooring.stream (m : Mooring) (t : Tile) : List Byte :=
  (sortBy (fun a b => decide (a.1 < b.1)) t.frags).flatMap (fun g =>
    match m.chunks.find? (fun c => c.frame == t.frame && c.seq == g.2.1) with
    | some c => slice c.payload 16 (num c.payload 0x0A 2)
    | none => [])

/-- R165: the channel on which a tile's staging lies: that of the stored tile it will replace. -/
def State.stageChan (s : State) (n : Nat) (t : Tile) : Nat :=
  match (s.moor n).resolve t.coat t.seq with
  | .decl _ _ _ p => p.tile t.relief t.x t.y
  | _ => 0

/-- R101, R102: a tile's output staged; its chunks free their space. -/
def State.stageTile (s : State) (n : Nat) (t : Tile) (data : List Byte) : State :=
  let ch := s.stageChan n t
  let m := (s.moor n).onFrags t (fun c => { c with loc := .store })
  s.setMoor n (m.putTile { t with state := .staged data ch })

/-- A lane of the decompression engine set. -/
def State.setLane (s : State) (lane : Nat) (j : Option DJob) : State :=
  { s with codec := { s.codec with lanes := modAt s.codec.lanes lane (fun _ => j) } }

/-- The library read of a mooring set. -/
def State.setLib (s : State) (n : Nat) (l : LibRead) : State := { s with codec := { s.codec with libs := Tab.put s.codec.libs n l } }

/-- What a lane may take next (R131, R359): a queued tile, a library read not yet begun or a REPAIR stream, with its arrival
order. -/
inductive Ready where
  | tile (n : Nat) (t : Tile)
  | lib (n : Nat) (l : LibRead)
  | repair (e : Nat × Nat × List Byte)

/-- R131: the arrival order of a piece of lane work. -/
def Ready.order : Ready → Nat
  | .tile _ t => t.order
  | .lib _ l => l.order
  | .repair e => e.1

/-- R109, R131, R48: the work of the berths, and in the autonomous profile of the library reads, that the plan in force assigned
to a lane. -/
def State.laneWork (s : State) (lane : Nat) : List Ready :=
  (s.moors.filter (fun p => p.2.laneSet && p.2.lane == lane)).flatMap (fun p =>
    (p.2.tiles.filter (fun t => t.state == .queued)).map (fun t => Ready.tile p.1 t) ++
    (match Tab.get? s.codec.libs p.1 with
     | some l => if l.started ∨ s.harbour.profile ≠ 1 then [] else [Ready.lib p.1 l]
     | none => ((s.codec.repairs.find? (fun e => e.2.1 == p.1)).map Ready.repair).toList))

/-- R130, R359: a segment that a lane is to decode, as it stands when its reading begins. -/
def newRead (segment : List Byte) (size order : Nat) (repair : Bool) : LibRead :=
  let r := Zstd.decode segment size (!repair)
  { segment := segment, size := size, output := r.out, written := 0, released := 0, code := r.code, errOffset := r.errOffset,
    committed := r.committed, started := repair, suspended := false, done := false, order := order, crc := (0xFFFFFFFF, 0),
    repair := repair, saved := none, part := [] }

/-- R130, R131: the work taken by an idle lane. A raw tile is copied to staging without a job, as the ingest ceiling lets it
(R57; log entry 124). Units of the input read with an uncorrectable error are zeros (R385). -/
def State.startLane (s : State) (lane : Nat) (bad : List Nat) : State :=
  let read (l : List Byte) : List Byte := blank 64 bad.contains l
  match minBy? (fun a b => decide (Ready.order a < Ready.order b)) (s.laneWork lane) with
  | none => s
  | some (.tile n t) =>
    let m := s.moor n
    if t.coding = 0 then
      if s.ingestRoom (rawSize t.relief) then ((s.stageTile n t (read (m.stream t))).ingestWrote (rawSize t.relief)).settleAll else s
    else
      let s := s.setMoor n (m.putTile { t with state := .running lane })
      (s.setLane lane (some (.tile n t.frame t.coat t.relief t.x t.y (read (m.stream t)) (rawSize t.relief)))).settleAll
  | some (.lib n l) =>
    let l := if bad = [] then l else newRead (read l.segment) l.size l.order false
    (s.setLib n { l with started := true }).setLane lane (some (.segment n))
  -- R359: a library segment job with OUT_LIMIT 9,100 and EXACT 0 (log entry 117)
  | some (.repair e) =>
    ({ s with codec := { s.codec with repairs := s.codec.repairs.erase e } }.setLib e.2.1 (newRead (read e.2.2) 9100 e.1 true)).setLane lane
      (some (.segment e.2.1))

/-- R151: output of a lane counted. -/
def State.laneOut (s : State) (lane k : Nat) : State :=
  { s with codec := { s.codec with dOut := modAt s.codec.dOut lane (· + k) } }

/-- R137: a tile job ends: its tile is staged or refused. A tile whose frame has gone is released (R132). -/
def State.endTile (s : State) (lane n frame coat : Nat) (relief : Bool) (x y : Nat) (input : List Byte) (raw : Nat) : State :=
  let r := Zstd.decode input raw true
  let s := (((s.setLane lane none).laneOut lane r.out.length).ingestWrote r.out.length).codecError 0 n r
  let key (t : Tile) : Bool := t.frame == frame && t.coat == coat && t.relief == relief && t.x == x && t.y == y
  match (s.moor n).tiles.find? key with
  | some t =>
    if t.state = .running lane then
      (if r.code = Zstd.NONE then s.stageTile n t r.out else s.refuseTile n t).settle n
    else s
  | none => s

/-- R142, R144: the library read of a mooring and its codec context dropped, and the lane that ran its job. -/
def State.dropLib (s : State) (n : Nat) : State :=
  { s with codec := { s.codec with libs := Tab.del s.codec.libs n,
                                   lanes := s.codec.lanes.map (fun j => if j = some (.segment n) then none else j) } }

/-- R140: a window is one 4 KiB piece. -/
def windowBytes : Nat := 4096

/-- R137, R140, R144: a library job writes until its window is full, or ends. -/
def State.endSegment (s : State) (lane n : Nat) : State :=
  let s := s.setLane lane none
  match Tab.get? s.codec.libs n with
  | none => s
  | some l =>
    let left := l.output.length - l.written
    if windowBytes < left then
      let w := l.written + windowBytes
      ((s.setLib n { l with written := w, suspended := true, saved := Zstd.context l.segment w l.size (!l.repair) }).laneOut lane windowBytes).ingestWrote windowBytes
    else
      let r : Zstd.Result := { code := l.code, errOffset := l.errOffset, out := [], committed := l.committed }
      (((s.setLib n { l with written := l.output.length, done := true }).laneOut lane left).ingestWrote left).codecError 1 n r

/-- DECOMPRESSION_JOB_START (R131): an idle lane takes the next job of its berths. -/
def execDecompressionJobStart (t : Cyc) (lane : ReadBy) (s : State) : Host.Outcome State Fault Refusal :=
  let s := s.at t
  if s.lanesOn ∧ lane.k < 8 ∧ nth s.codec.lanes lane.k none = none then nextOf (s.startLane lane.k lane.bad).extraHeartbeat
  else nextOf s

/-- R57, R166: the most that the job of a lane still writes. -/
def State.laneWrites (s : State) (lane : Nat) : Nat :=
  match nth s.codec.lanes lane none with
  | some (.tile _ _ _ _ _ _ _ raw) => raw
  | some (.segment _) => windowBytes
  | none => 0

/-- DECOMPRESSION_JOB_END (R137): a job ends no sooner than the ingest ceiling lets it write its output (R57, R166; log entry
124). -/
def execDecompressionJobEnd (t : Cyc) (lane : Nat) (s : State) : Host.Outcome State Fault Refusal :=
  let s := s.at t
  if ¬ s.lanesOn ∨ ¬ s.ingestRoom (s.laneWrites lane) then nextOf s
  else match nth s.codec.lanes lane none with
    | some (.tile n f c rel x y input raw) => nextOf (s.endTile lane n f c rel x y input raw).extraHeartbeat
    | some (.segment n) => nextOf (s.endSegment lane n)
    | none => nextOf s

/-- DECOMPRESSION_RESUME (R140, R48): the consumer has released the window, and the lane assigned now is idle. -/
def execDecompressionResume (t : Cyc) (n : Nat) (s : State) : Host.Outcome State Fault Refusal :=
  let s := s.at t
  match Tab.get? s.codec.libs n with
  | some l =>
    let m := s.moor n
    if s.lanesOn ∧ (l.repair ∨ s.harbour.profile = 1) ∧ l.suspended ∧ l.released = l.written ∧ m.laneSet ∧ nth s.codec.lanes m.lane none = none then
      nextOf ((s.setLib n { l with suspended := false, saved := none }).setLane m.lane (some (.segment n)))
    else nextOf s
  | none => nextOf s

/-- R36: the ID of the frame on display: that of the last tick. -/
def State.frameNow (s : State) : Nat := s.scan.field / s.scan.k

/-- R179: the segment for frame `f` of a library mooring may be read now: it does not come before the one read last, and its
frame is at most PENDING_MAX frames ahead of display (log entry 131). -/
def State.scheduled (s : State) (n f : Nat) : Bool :=
  decide (f ≤ s.frameNow + s.cutI F.M_PENDING_MAX n) &&
  (match Tab.get? s.harbour.schedule n with | some last => decide (last ≤ f) | none => true)

/-- LIBRARY_SEGMENT_READ (R179, R389): the schedule's segment of a library mooring for frame `f` is read. What of it lay on a
channel that has failed is lost: its 4 KiB units there are zeros. -/
def execLibrarySegmentRead (t : Cyc) (n f : Nat) (segment : SegmentRead) (size : Nat) (s : State) :
    Host.Outcome State Fault Refusal :=
  let s := s.at t
  if s.lanesOn ∧ s.harbour.profile = 1 ∧ s.libMoor n ∧ (Tab.get? s.codec.libs n).isNone ∧ s.scheduled n f then
    let s := { s with ingest := { s.ingest with order := s.ingest.order + 1 },
                      harbour := { s.harbour with schedule := Tab.put s.harbour.schedule n f } }
    let kept := blank 4096 (fun u => match segment.chans[u]? with | some c => !(s.chan c).serves | none => false) segment.bytes
    nextOf (s.setLib n (newRead kept size s.ingest.order false))
  else nextOf s

/-- R126, R128: a CRC unit's state after more bytes of the chunk that it is processing. `run` holds what it has processed. -/
def crcOn (run : Nat × Nat) (bs : List Byte) : Nat × Nat :=
  let p := (checkedPart bs).drop run.2
  (crcRun run.1 p, run.2 + p.length)

/-- R99, R128: the whole chunks at the beginning of library bytes are checked by unit `u`, which had processed `run` of the
first of them; the rest is kept, with the unit's state. A chunk goes to the mooring its own header names (log entry 110).
Bytes that do not frame a chunk end the segment's chunks. -/
def State.libraryChunks (s : State) (u : Nat) : Nat → Nat × Nat → List Byte → State × List Byte × (Nat × Nat)
  | 0, run, bs => (s, bs, run)
  | f + 1, run, bs =>
    let len := num bs 4 2
    if 32 ≤ bs.length ∧ (num bs 0 2 ≠ 0x534C ∨ len < 32 ∨ len % 4 ≠ 0) then (s, [], (0xFFFFFFFF, 0))
    else if bs.length < 32 ∨ bs.length < len then
      let r := crcOn run bs
      (s.setCrc u r.1 r.2, bs, r)
    else
      let c := bs.take len
      let r := crcOn run c
      State.libraryChunks ((s.setCrc u r.1 r.2).chunk .library .store (r.1 ^^^ 0xFFFFFFFF) c) u f (0xFFFFFFFF, 0) (bs.drop len)

/-- R125: the CRC unit that checks the library reads of a mooring, CU8 to CU11 (log entry 115). -/
def libUnit (n : Nat) : Nat := 8 + n % 4

/-- R130, R99, R128: the piece that the job has written taken by the consumer: the unit's saved state restored, the
chunks checked, the state saved again. -/
def State.takePiece (s : State) (n : Nat) (l : LibRead) : State × LibRead :=
  let bytes := l.part ++ (l.output.drop l.released).take (l.written - l.released)
  let r := (s.setCrc (libUnit n) l.crc.1 l.crc.2).libraryChunks (libUnit n) (bytes.length + 1) l.crc bytes
  (r.1, { l with released := l.written, part := r.2.1, crc := r.2.2 })

/-- R359: the chunks of a decoded REPAIR stream enter R95 at step 2, as chunks of the named mooring. -/
def State.repairChunks (s : State) (n : Nat) : Nat → List Byte → State
  | 0, _ => s
  | f + 1, bs =>
    if ¬ framed bs then s
    else
      let len := num bs 4 2
      let c := bs.take len
      let s := if num bs 6 2 = n then s.chunk .repair .quay (chunkCrc c) c else s
      State.repairChunks s n f (bs.drop len)

/-- The library read of a mooring has ended. -/
def State.endLib (s : State) (n : Nat) : State := { s with codec := { s.codec with libs := Tab.del s.codec.libs n } }

/-- R359: the piece of a REPAIR stream that the job has written, taken. Its chunks enter ingest once the whole stream has been
decoded; a stream that failed to decode is discarded. -/
def State.repairPiece (s : State) (n : Nat) (l : LibRead) : State :=
  let bytes := l.part ++ (l.output.drop l.released).take (l.written - l.released)
  if ¬ l.done then s.setLib n { l with released := l.written, part := bytes }
  else if l.code = Zstd.NONE then ((s.endLib n).repairChunks n (bytes.length + 1) bytes).extraHeartbeat
  else s.endLib n

/-- LIBRARY_PIECE_RELEASE (R130, R99, R139): the consumer takes the piece that the job has written. What a failed segment
still held is not received. In the streamed profile nothing feeds a mooring from the library: a read under way waits (R48; log
entry 145). -/
def execLibraryPieceRelease (t : Cyc) (n : Nat) (s : State) : Host.Outcome State Fault Refusal :=
  let s := s.at t
  match Tab.get? s.codec.libs n with
  | some l =>
    if ¬ s.lanesOn then nextOf s
    else if l.repair then nextOf (s.repairPiece n l)
    else if s.harbour.profile ≠ 1 then nextOf s
    else if l.released < l.written ∧ ¬ (l.done ∧ l.code ≠ Zstd.NONE) then
      let r := s.takePiece n l
      if l.done then nextOf (r.1.endLib n)
      else nextOf (r.1.setLib n r.2)
    else if l.done then nextOf (s.endLib n)
    else nextOf s
  | none => nextOf s

/-! ## Compression (R145 to R149) -/

/-- R145: the header of the frame a compression job emits. -/
def frameHead (wlog total : Nat) : List Byte := le 4 0xFD2FB528 ++ [0xC4, byte ((wlog - 10) * 8)] ++ le 8 total

/-- R146: a block header. -/
def blockHead (last : Bool) (type size : Nat) : List Byte := le 3 (b2n last + 2 * type + 8 * size)

/-- R146: every byte of a block is equal. -/
def allEqual (bs : List Byte) : Bool := match bs with | b :: r => r.all (· == b) | [] => false

/-- A compression job that waits for its lane. -/
def newJob (purpose : CFor) (input : List Byte) : CJob := { purpose := purpose, rest := input, total := input.length }

/-- The bytes of the frame header of R145. -/
def frameHeadLen : Nat := 14

/-- R150, R145: a job's frame begun under the CodecConfig in force. -/
def State.beginJob (s : State) (j : CJob) : CJob :=
  let w := s.get F.COMP_WINDOW_LOG
  { j with begun := true, out := frameHead w j.total, level := s.get F.COMP_LEVEL, wlog := w, key := s.time.freeCount }

/-- R146, R147: one block of a job emitted: the job after it, whether its candidate failed the verification, whether it was
the last. The compressed candidate is a free value, the same however the job is suspended (R143). A candidate that fails
leaves its block Raw, also one whose bytes are all equal (log entry 119); an empty input has none. The repeat offsets and entropy
tables follow a block that is emitted compressed; after any other the compressor holds those it held before. -/
def CJob.step (j : CJob) : CJob × Bool × Bool :=
  let blk := j.rest.take 131072
  let rest := j.rest.drop 131072
  let last := rest.isEmpty
  let cand := Config.compressCandidate j.key blk j.out j.level j.wlog
  let dec := Zstd.shadow j.enc j.hash cand (2 ^ j.wlog)
  let good := match dec with | some o => decide (o.1 = j.hash ++ blk) | none => false
  let failed := !blk.isEmpty && !good
  let rle := !failed && allEqual blk
  let small := good && !rle && decide (cand.length < blk.length)
  let bytes :=
    if rle then blockHead last 1 blk.length ++ blk.take 1
    else if small then blockHead last 2 cand.length ++ cand
    else blockHead last 0 blk.length ++ blk
  let enc := match dec with | some o => if small then o.2 else j.enc | none => j.enc
  let hash := j.hash ++ blk
  let out := j.out ++ bytes ++ (if last then le 4 (Zstd.xxh64 hash % 2 ^ 32) else [])
  ({ j with rest := rest, out := out, blocks := j.blocks + 1, hash := hash, enc := enc,
            crc := (crcRun j.crc.1 blk, j.crc.2 + blk.length) }, failed, last)

/-- R141, R142: the context of a job that is suspended: at a 4 KiB boundary of its block's input, which one the manual leaves
open. -/
def CJob.context (j : CJob) : CContext :=
  let blk := j.rest.take 131072
  let taken := 4096 * (Config.encoderProgress j.key j.blocks % (blk.length / 4096 + 1))
  let b := if taken = 0 then (0, 0, 0, 0, j.enc.reps) else Config.encoderBlock j.key j.out taken
  { taken := taken, seqIndex := b.1, litLeft := b.2.1, matchLeft := b.2.2.1, distance := b.2.2.2.1, reps := b.2.2.2.2,
    entropy := Config.encoderEntropy j.key j.out taken, part := Config.encoderPart j.key j.out taken,
    acc := Config.encoderAcc j.key j.out taken, accBits := Config.encoderBits j.key j.out taken % 65,
    xxh := Zstd.xxhState (j.hash ++ blk.take taken) }

/-- R147: a failed verification counted and recorded. -/
def State.verifyFailed (s : State) (lane blk : Nat) : State :=
  (s.tally T.CODEC_VERIFY_FAILED).wakeRec 0x0202 ([byte lane, 0, 0, 0] ++ le 4 blk)

/-- R149: the rank of a job, highest first. -/
def CFor.rank : CFor → Nat
  | .trial => 0
  | .forward .. => 1
  | .wake .. | .tally .. => 2
  | .library => 3

/-- The jobs of a compression lane set. -/
def State.setClane (s : State) (lane : Nat) (l : List CJob) : State :=
  { s with codec := { s.codec with clanes := modAt s.codec.clanes lane (fun _ => l) } }

/-- The codec context of a compression lane set (R142). -/
def State.setCctx (s : State) (lane : Nat) (c : Option CContext) : State :=
  { s with codec := { s.codec with cctx := modAt s.codec.cctx lane (fun _ => c) } }

/-- R106, R130, R141: the transmit berth that a job's output goes to is full. -/
def State.destFull (s : State) (j : CJob) : Bool :=
  let full (berth : Nat) : Bool := Tab.getD s.ingest.txw berth [] != []
  match j.purpose with
  | .forward .. => full 2067
  | .wake .. => full 2065
  | .tally .. => full 2066
  | _ => false

/-- R141, R142: the job at the head of a lane suspended, its context saved in that of the lane, of which there is one: while
another job's stands there, the head stays where it is (log entry 146). -/
def State.suspendHead (s : State) (lane : Nat) : State :=
  match nth s.codec.clanes lane [], nth s.codec.cctx lane none with
  | j :: r, none => (s.setClane lane ({ j with suspended := true } :: r)).setCctx lane (some j.context)
  | _, _ => s

/-- R141, R150: the job at the head of a lane runs: its frame begins, or its context is restored, unless its destination is
full. -/
def State.runHead (s : State) (lane : Nat) : State :=
  match nth s.codec.clanes lane [] with
  | [] => s
  | j :: r =>
    if ¬ j.begun then (s.setClane lane (s.beginJob j :: r)).took
    else if j.suspended ∧ ¬ s.destFull j then (s.setClane lane ({ j with suspended := false } :: r)).setCctx lane none
    else s

/-- R180: the background class of a compression job; 7 none. -/
def CFor.bgClass : CFor → Nat
  | .wake .. => 4
  | .library => 5
  | _ => 7

/-- R183: the slice of a field: 2 % of its gang clocks, as time of the class's resource. -/
def Plan.sliceClocks (p : Plan) : Nat := if p.slice < 6 then clkField (modeOf p.mode).rate / 50 else 0

/-- R183, R129: a job's class holds the slice of the field, and has not had all of its lane time: 5 bytes of input in 6 gang
clocks. -/
def State.inSlice (s : State) (j : CJob) : Bool :=
  let p := s.harbour.cur
  let had := if s.harbour.slicePace.1 = p.field then s.harbour.slicePace.2 else 0
  p.slice == j.purpose.bgClass && decide (6 * had < 5 * p.sliceClocks)

/-- R149, R183: the waiting jobs of a lane with the one that runs next at their head: that of the class whose slice it is, else
the one of the highest rank (log entry 149). -/
def State.nextFirst (s : State) (l : List CJob) : List CJob :=
  let rank (j : CJob) : Nat := if s.inSlice j then 0 else j.purpose.rank + 1
  match minBy? (fun a b => decide (rank a < rank b)) l with
  | some x => x :: l.erase x
  | none => l

/-- R107, R108: jobs whose producers wait enter the berth of their lane, in order, as far as it takes them. -/
def State.fillLane (s : State) (lane : Nat) : List CJob → State
  | [] => { s with codec := { s.codec with cwait := modAt s.codec.cwait lane (fun _ => []) } }
  | j :: r =>
    let l := nth s.codec.clanes lane []
    if l = [] then ((s.setClane lane [j]).runHead lane).fillLane lane r
    else if s.berthTakes (l.length - 1) 256 then (s.setClane lane (l ++ [j])).fillLane lane r
    else { s with codec := { s.codec with cwait := modAt s.codec.cwait lane (fun _ => j :: r) } }

/-- R108, R149: a job for a compression lane, which enters its berth as soon as that takes it. -/
def State.queueJob (s : State) (lane : Nat) (j : CJob) : State := s.fillLane lane (nth s.codec.cwait lane [] ++ [j])

/-- What a finished compression job does (R359, R514, R180). -/
def State.jobDone (s : State) (j : CJob) : State :=
  match j.purpose with
  | .trial => s
  | .forward _ ip moor => s.sendRepair ip moor j.out
  | .wake records last unit ip port =>
    State.exportsOut (({ s with wake := { s.wake with unitOut := some last } }.tallyBy T.WAKE_EXPORTED records).sendExport 2065 0 unit ip port j.out)
  | .tally field unit ip port =>
    State.exportsOut ({ s with wake := { s.wake with tallyUnit := some (field, unit) } }.sendExport 2066 1 unit ip port j.out)
  | .library => { s with codec := { s.codec with libOut := s.codec.libOut ++ [j.out] } }

/-- R180, R181: the background unit that a finished compression job was has completed. -/
def State.unitDone (s : State) (j : CJob) : State :=
  match j.purpose with
  | .wake .. => s.bgDid 4
  | .library => s.bgDid 5
  | _ => s

/-- R359: REPAIR messages that wait go to lane C0 as far as their moorings' limit allows, oldest first. -/
def State.repairPump (s : State) : State :=
  s.group.repairJobs.foldl (fun s j =>
    if s.repairLoad j.2.2.1 < 16 then s.queueJob 0 (newJob (.forward j.1 j.2.1 j.2.2.1) j.2.2.2)
    else { s with group := { s.group with repairJobs := s.group.repairJobs ++ [j] } })
    { s with group := { s.group with repairJobs := [] } }

/-- R149: the job at the head of a lane is done: the waiting job of the highest rank runs next. -/
def State.nextJob (s : State) (lane : Nat) : State :=
  let s := s.setClane lane (s.nextFirst ((nth s.codec.clanes lane []).drop 1))
  (s.runHead lane).fillLane lane (nth s.codec.cwait lane [])

/-- R141, R146, R147, R151: the running job of a lane emits a block; while its destination is full it is
suspended. Units of the block's input read with an uncorrectable error are zeros (R385). -/
def State.laneBlock (s : State) (lane : Nat) (bad : List Nat) : State :=
  match nth s.codec.clanes lane [] with
  | [] => s
  | j :: r =>
    if s.destFull j then s.suspendHead lane
    -- R57: within the 5.6 GB/s of its class (log entry 124)
    else if ¬ s.otherRoom (min 131072 j.rest.length) then s
    else
      let (j2, failed, last) := { j with suspended := false, rest := blank 64 bad.contains j.rest }.step
      let s := ((s.runHead lane).setClane lane (j2 :: r)).setCrc 14 j2.crc.1 j2.crc.2
      let used := j.rest.length - j2.rest.length
      let s := ({ s with codec := { s.codec with cIn := modAt s.codec.cIn lane (· + used) } } : State).otherMoved used
      let s := if s.inSlice j then s.sliceTaken used else s
      let s := if failed then s.verifyFailed lane j.blocks else s
      if last then (((s.nextJob lane).jobDone j2).unitDone j2).repairPump else s

/-- COMPRESSION_BLOCK_DONE (R146). -/
def execCompressionBlockDone (t : Cyc) (lane : ReadBy) (s : State) : Host.Outcome State Fault Refusal :=
  let s := s.at t
  if s.lanesOn then nextOf (s.laneBlock lane.k (lane.bad.filter (· < 2048))) else nextOf s

/-- R149, R183: the waiting job of higher rank than the one at the head of a lane, if there is one and the head does not run in
its class's slice. -/
def State.higherJob (s : State) : List CJob → Option CJob
  | [] => none
  | h :: r =>
    if s.inSlice h then none
    else (minBy? (fun a b => decide (a.purpose.rank < b.purpose.rank)) r).filter (fun x => decide (x.purpose.rank < h.purpose.rank))

/-- R141, R149: a waiting job of higher rank takes the lane; the job it takes it from is suspended, as far as the lane's context
is free (log entry 146). -/
def State.preempt (s : State) (lane : Nat) : State :=
  match s.higherJob (nth s.codec.clanes lane []) with
  | none => s
  | some x =>
    match nth (s.suspendHead lane).codec.clanes lane [] with
    | h :: r => if h.suspended then ((s.suspendHead lane).setClane lane (x :: h :: r.erase x)).runHead lane else s
    | [] => s

/-- COMPRESSION_PREEMPT (R141). -/
def execCompressionPreempt (t : Cyc) (lane : Nat) (s : State) : Host.Outcome State Fault Refusal :=
  let s := s.at t
  if s.lanesOn then nextOf (s.preempt lane) else nextOf s

/-- R180, R514: the oldest whole unexported records, up to 64 KiB. -/
def unitOf : Nat → List WakeRec → List WakeRec
  | _, [] => []
  | room, r :: rest => if r.len ≤ room then r :: unitOf (room - r.len) rest else []

/-- R514: no wake unit is being compressed or sent. -/
def State.unitFree (s : State) : Bool :=
  s.wake.unitOut.isNone && !((s.codec.clanes ++ s.codec.cwait).any (fun l => l.any (fun j => match j.purpose with | .wake .. => true | _ => false)))

/-- R514: the records that the next wake unit takes. -/
def State.wakeUnit (s : State) : List WakeRec := unitOf 4096 (s.wake.ring.drop s.wake.exported)

/-- R514, R181: a unit of the wake waits to be drained. -/
def State.wakeWaits (s : State) : Bool :=
  s.wake.exportMode == 2 && s.wake.collector.1 != 0 && s.wakeUnit != [] && s.unitFree

/-- LIBRARY_COMPRESSION_UNIT (R180, R181): one block of library content goes to a compression lane: C1, for R130 names no lane
of the two for it (log entry 120). A wake unit that waits for the same lane and is older goes first. -/
def execLibraryCompressionUnit (t : Cyc) (blk : List Byte) (s : State) : Host.Outcome State Fault Refusal :=
  let s := s.at t
  if s.lanesOn ∧ blk.length ≤ 131072 ∧ ¬ (s.wakeWaits ∧ s.bgYields 5 4) then
    nextOf (s.queueJob 1 (newJob .library blk))
  else nextOf s

/-- R510: the bytes of a record. -/
def recBytes (r : WakeRec) : List Byte :=
  padTo 16 (le 2 r.type ++ [byte r.len, 0] ++ le 4 r.seq ++ le 8 r.ns ++ r.payload)

/-- WAKE_DRAIN_UNIT (R514): the next unit of the wake goes to a compression lane, C1 (log entry 120). Not in Lantern
(R184). -/
def execWakeDrainUnit (t : Cyc) (s : State) : Host.Outcome State Fault Refusal :=
  let s := (s.at t).wakeBoundary
  let l := s.wakeUnit
  if s.lanesOn ∧ s.wakeWaits then
    let last := match l.getLast? with | some r => r.seq | none => 0
    let j := newJob (.wake l.length last s.wake.unit s.wake.collector.1 s.wake.collector.2) (l.flatMap recBytes)
    let s := s.queueJob 1 j
    nextOf { s with wake := { s.wake with unit := (s.wake.unit + 1) % 2 ^ 32 } }
  else nextOf s

/-! ## Commands -/

/-- CODEC_CONFIGURE (R150). -/
def cardCodecConfigure : Card where
  opcode := 0x0320
  deferred := false
  lenOk := lenIs 4
  params := fun _ _ pl =>
    let ws := toWords 1 pl
    let l := fieldOf ws 0 0 4; let w := fieldOf ws 0 4 5
    wordsOk 0x1200 ws && decide (1 ≤ l ∧ l ≤ 9 ∧ 17 ≤ w ∧ w ≤ 23)
  run := fun s _ pl => done (s.setObj 0x1200 (toWords 1 pl))

/-- CODEC_QUERY (R151). -/
def cardCodecQuery : Card where
  opcode := 0x0321
  deferred := false
  lenOk := lenIs 0
  params := fun _ _ _ => true
  run := fun s _ _ => (s, Status.OK, ofWords (s.obj 0x1200) ++ s.statusBytes 0x2200)

/-- The payload is `head` bytes and IN_SIZE bytes of data, rounded up to a multiple of 4. -/
def dataLen (head lo hi : Nat) (pl : List Byte) : Bool :=
  let n := num pl 0 2
  decide (head ≤ pl.length) && decide (lo ≤ n) && decide (n ≤ hi) && decide (pl.length = 4 * cdiv (head + n) 4)

/-- CODEC_DECOMPRESS (R135). -/
def cardCodecDecompress : Card where
  opcode := 0x0322
  deferred := false
  lenOk := dataLen 8 1 1024
  params := fun _ _ pl => decide (1 ≤ num pl 2 2 ∧ num pl 2 2 ≤ 4096) && decide (num pl 4 1 ≤ 1) && zeroAt pl 5 3
  run := fun s _ pl =>
    let r := Zstd.decode (slice pl 8 (num pl 0 2)) (num pl 2 2) (num pl 4 1 == 1)
    let out := [byte r.code, 0] ++ le 2 r.committed ++ le 4 r.errOffset ++ r.out.take r.committed
    (s.codecError 2 0 r, if r.code = 0 then Status.OK else Status.CHECK_FAILED, out)

/-- CODEC_COMPRESS (R145). -/
def cardCodecCompress : Card where
  opcode := 0x0323
  deferred := false
  lenOk := dataLen 4 0 4096
  params := fun _ _ pl => zeroAt pl 2 2
  run := fun s _ pl =>
    let data := slice pl 4 (num pl 0 2)
    let (j, failed, _) := (s.beginJob (newJob .trial data)).step
    let s := s.took.setCrc 14 j.crc.1 j.crc.2
    let s := { s with codec := { s.codec with cIn := modAt s.codec.cIn 1 (· + data.length) } }
    let s := if failed then s.verifyFailed 1 0 else s
    (s, Status.OK, le 2 j.out.length ++ [byte (b2n failed), 0] ++ j.out)

end Sys2Proof.Machine
end

