-- ==== Sys2Proof/Machine/Crypto.lean ====
section
/-! DEFINITION. The two algorithms that the manual names by their standards: SHA-384 (FIPS 180-4; R202, R443) and the
verification of an ECDSA signature on curve P-384 (FIPS 186-5; R443). -/

namespace Sys2Proof.Machine

namespace Sha

/-- A 64-bit word. -/
abbrev W := BitVec 64

/-- FIPS 180-4, 4.2.3: the first constants. -/
def k0 : List W :=
  [0x428A2F98D728AE22, 0x7137449123EF65CD, 0xB5C0FBCFEC4D3B2F, 0xE9B5DBA58189DBBC,
   0x3956C25BF348B538, 0x59F111F1B605D019, 0x923F82A4AF194F9B, 0xAB1C5ED5DA6D8118,
   0xD807AA98A3030242, 0x12835B0145706FBE, 0x243185BE4EE4B28C, 0x550C7DC3D5FFB4E2,
   0x72BE5D74F27B896F, 0x80DEB1FE3B1696B1, 0x9BDC06A725C71235, 0xC19BF174CF692694,
   0xE49B69C19EF14AD2, 0xEFBE4786384F25E3, 0x0FC19DC68B8CD5B5, 0x240CA1CC77AC9C65,
   0x2DE92C6F592B0275, 0x4A7484AA6EA6E483, 0x5CB0A9DCBD41FBD4, 0x76F988DA831153B5,
   0x983E5152EE66DFAB, 0xA831C66D2DB43210, 0xB00327C898FB213F, 0xBF597FC7BEEF0EE4,
   0xC6E00BF33DA88FC2, 0xD5A79147930AA725, 0x06CA6351E003826F, 0x142929670A0E6E70,
   0x27B70A8546D22FFC, 0x2E1B21385C26C926, 0x4D2C6DFC5AC42AED, 0x53380D139D95B3DF,
   0x650A73548BAF63DE, 0x766A0ABB3C77B2A8, 0x81C2C92E47EDAEE6, 0x92722C851482353B]

/-- FIPS 180-4, 4.2.3: the other constants. -/
def k1 : List W :=
  [0xA2BFE8A14CF10364, 0xA81A664BBC423001, 0xC24B8B70D0F89791, 0xC76C51A30654BE30,
   0xD192E819D6EF5218, 0xD69906245565A910, 0xF40E35855771202A, 0x106AA07032BBD1B8,
   0x19A4C116B8D2D0C8, 0x1E376C085141AB53, 0x2748774CDF8EEB99, 0x34B0BCB5E19B48A8,
   0x391C0CB3C5C95A63, 0x4ED8AA4AE3418ACB, 0x5B9CCA4F7763E373, 0x682E6FF3D6B2B8A3,
   0x748F82EE5DEFB2FC, 0x78A5636F43172F60, 0x84C87814A1F0AB72, 0x8CC702081A6439EC,
   0x90BEFFFA23631E28, 0xA4506CEBDE82BDE9, 0xBEF9A3F7B2C67915, 0xC67178F2E372532B,
   0xCA273ECEEA26619C, 0xD186B8C721C0C207, 0xEADA7DD6CDE0EB1E, 0xF57D4F7FEE6ED178,
   0x06F067AA72176FBA, 0x0A637DC5A2C898A6, 0x113F9804BEF90DAE, 0x1B710B35131C471B,
   0x28DB77F523047D84, 0x32CAAB7B40C72493, 0x3C9EBE0A15C9BEBC, 0x431D67C49C100D4C,
   0x4CC5D4BECB3E42B6, 0x597F299CFC657E2A, 0x5FCB6FAB3AD6FAEC, 0x6C44198C4A475817]

/-- FIPS 180-4, 5.3.4: the initial hash value of SHA-384. -/
def h0 : List W :=
  [0xCBBB9D5DC1059ED8, 0x629A292A367CD507, 0x9159015A3070DD17, 0x152FECD8F70E5939,
   0x67332667FFC00B31, 0x8EB44A8768581511, 0xDB0C2E0D64F98FA7, 0x47B5481DBEFA4FA4]

/-- FIPS 180-4, 4.1.3: Ch. -/
def ch (x y z : W) : W := (x &&& y) ^^^ (~~~x &&& z)
/-- FIPS 180-4, 4.1.3: Maj. -/
def maj (x y z : W) : W := (x &&& y) ^^^ (x &&& z) ^^^ (y &&& z)
/-- FIPS 180-4, 4.1.3: the upper-case sigma 0. -/
def big0 (x : W) : W := x.rotateRight 28 ^^^ x.rotateRight 34 ^^^ x.rotateRight 39
/-- FIPS 180-4, 4.1.3: the upper-case sigma 1. -/
def big1 (x : W) : W := x.rotateRight 14 ^^^ x.rotateRight 18 ^^^ x.rotateRight 41
/-- FIPS 180-4, 4.1.3: the lower-case sigma 0. -/
def small0 (x : W) : W := x.rotateRight 1 ^^^ x.rotateRight 8 ^^^ (x >>> 7)
/-- FIPS 180-4, 4.1.3: the lower-case sigma 1. -/
def small1 (x : W) : W := x.rotateRight 19 ^^^ x.rotateRight 61 ^^^ (x >>> 6)

/-- FIPS 180-4, 6.4.2 step 1: the message schedule, newest word first. -/
def extend : Nat → List W → List W
  | 0, ws => ws
  | n + 1, ws => extend n ((small1 (nth ws 1 0) + nth ws 6 0 + small0 (nth ws 14 0) + nth ws 15 0) :: ws)

/-- FIPS 180-4, 6.4.2 step 3: one round on the working variables a to h. -/
def round (v : List W) (kw : W × W) : List W :=
  let g (i : Nat) : W := nth v i 0
  let t1 := g 7 + big1 (g 4) + ch (g 4) (g 5) (g 6) + kw.1 + kw.2
  let t2 := big0 (g 0) + maj (g 0) (g 1) (g 2)
  [t1 + t2, g 0, g 1, g 2, g 3 + t1, g 4, g 5, g 6]

/-- A block of 128 bytes as 16 words, newest first. -/
def words : Nat → List Byte → List W → List W
  | 0, _, acc => acc
  | n + 1, bs, acc => words n (bs.drop 8) (BitVec.ofNat 64 (beVal (bs.take 8)) :: acc)

/-- FIPS 180-4, 6.4.2: one block. -/
def block (h : List W) (bs : List Byte) : List W :=
  let ws := (extend 64 (words 16 bs [])).reverse
  let v := ((k0 ++ k1).zip ws).foldl round h
  (h.zip v).map (fun e => e.1 + e.2)

/-- FIPS 180-4, 5.1.2: the padded message. -/
def padded (m : List Byte) : List Byte :=
  let z := (240 - (m.length + 1) % 128) % 128
  m ++ [0x80] ++ zeros z ++ be 16 (8 * m.length)

/-- The blocks in order. -/
def blocks : Nat → List Byte → List W → List W
  | 0, _, h => h
  | n + 1, bs, h => blocks n (bs.drop 128) (block h (bs.take 128))

/-- SHA-384 of bytes: 48 bytes. -/
def sha384 (m : List Byte) : List Byte :=
  let p := padded m
  ((blocks (p.length / 128) p h0).take 6).flatMap (fun w => be 8 w.toNat)

end Sha

namespace Curve

/-- SP 800-186: the prime of P-384. -/
def p : Nat := 2 ^ 384 - 2 ^ 128 - 2 ^ 96 + 2 ^ 32 - 1
/-- SP 800-186: the order of the base point. -/
def order : Nat := 0xFFFFFFFFFFFFFFFFFFFFFFFFFFFFFFFFFFFFFFFFFFFFFFFFC7634D81F4372DDF581A0DB248B0A77AECEC196ACCC52973
/-- SP 800-186: the coefficient b. -/
def b : Nat := 0xB3312FA7E23EE7E4988E056BE3F82D19181D9C6EFE8141120314088F5013875AC656398D8A2ED19D2A85C8EDD3EC2AEF
/-- SP 800-186: the base point. -/
def base : Nat × Nat :=
  (0xAA87CA22BE8B05378EB1C71EF320AD746E1D3B628BA79B9859F741E082542A385502F25DBF55296C3A545E3872760AB7,
   0x3617DE4A96262C6F5D9E98BF9292DC29F8F41DBD289A147CE9DA3113B5F0B8C00A60B1CE1D7E819D7A431D7C90EA0E5F)

/-- A power modulo `m`, by the lowest `n` bits of the exponent. -/
def powMod (m : Nat) : Nat → Nat → Nat → Nat
  | 0, _, _ => 1 % m
  | n + 1, x, e => (if e % 2 = 1 then x else 1) * powMod m n (x * x % m) (e / 2) % m

/-- The inverse modulo a prime of 384 bits. -/
def inv (m x : Nat) : Nat := powMod m 384 (x % m) (m - 2)

/-- The sum of two points; none is the point at infinity. -/
def add (P Q : Option (Nat × Nat)) : Option (Nat × Nat) :=
  match P, Q with
  | none, _ => Q
  | _, none => P
  | some (x1, y1), some (x2, y2) =>
    if x1 = x2 ∧ (y1 + y2) % p = 0 then none
    else
      let l := if x1 = x2 then (3 * x1 * x1 + (p - 3)) * inv p (2 * y1) % p
               else (y2 + p - y1) * inv p (x2 + p - x1) % p
      let x3 := (l * l + 2 * p - x1 - x2) % p
      some (x3, (l * (x1 + p - x3) + p - y1) % p)

/-- A multiple of a point, by the lowest `n` bits of the factor. -/
def mul : Nat → Nat → Option (Nat × Nat) → Option (Nat × Nat)
  | 0, _, _ => none
  | n + 1, k, P => add (if k % 2 = 1 then P else none) (mul n (k / 2) (add P P))

/-- FIPS 186-5, 6.4.2: the signature (r, s) over a digest of 384 bits is valid under the public key (x, y). -/
def verify (x y digest r s : Nat) : Bool :=
  decide (0 < r ∧ r < order ∧ 0 < s ∧ s < order) &&
  (let w := inv order s
   match add (mul 384 (digest * w % order) (some base)) (mul 384 (r * w % order) (some (x, y))) with
   | some P => P.1 % order == r
   | none => false)

end Curve

end Sys2Proof.Machine
end

