-- ==== Sys2Proof/Machine/Optics.lean ====
section
/-! DEFINITION. Panel optics (R191 to R213): the lath map, the ray's origin and direction, fans, the correction map and
the commands that set them. -/

namespace Sys2Proof.Machine

/-! ## Parameters sampled for a field (R207) -/

/-- A field of an object as sampled for a field's plan. -/
def opt (o : Tab (List Word)) (obj word lo w : Nat) : Nat := fieldOf (objIn o obj) word lo w

/-- A signed field of an object as sampled. -/
def optS (o : Tab (List Word)) (obj word lo w : Nat) : Int := signed (opt o obj word lo w) w

/-- R207: the objects that one sample covers. -/
def opticsIds : List Nat := [0x1820, 0x1821, 0x1822, 0x1824]

/-- R207: the sample of a table of objects. -/
def sampleOptics (t : Tab (List Word)) : Tab (List Word) := opticsIds.map (fun id => (id, objIn t id))

/-- R263: the panel's width in pixels. -/
def Mode.width (m : Mode) : Nat := m.cols * 4096
/-- R263: the panel's height in pixels. -/
def Mode.height (m : Mode) : Nat := m.rows * 2048

/-! ## Origins and directions (R193, R197, R198) -/

/-- R193: XO of a pixel column, 2^-17 mm. -/
def originX (o : Tab (List Word)) (px : Nat) : Int := optS o 0x1820 0 0 32 * 512 + (2 * px + 1) * opt o 0x1820 2 0 32
/-- R193: YO of a pixel row. -/
def originY (o : Tab (List Word)) (py : Nat) : Int := optS o 0x1820 1 0 32 * 512 + (2 * py + 1) * opt o 0x1820 3 0 32

/-- R197: TAN_X of a view slot. -/
def tanX (o : Tab (List Word)) (v : Nat) : Int := optS o 0x1821 v 0 32
/-- R198: entry `k` of PanelFieldAngles. -/
def tanYk (o : Tab (List Word)) (k : Nat) : Int := optS o 0x1822 k 0 32

/-- R198: TY of a field position. -/
def tanY (o : Tab (List Word)) (k j : Nat) : Int :=
  match k with
  | 4 => tanYk o j
  | 2 => rnd (tanYk o (2 * j) + tanYk o (2 * j + 1)) 1
  | _ => rnd (tanYk o 0 + tanYk o 1 + tanYk o 2 + tanYk o 3) 2

/-! ## The lath map (R194, R195) -/

/-- R200: CORR of the tile of a pixel, under a map in use. -/
def corrOf (c : Option (Nat × Nat × List Nat)) (px py : Nat) : Nat :=
  match c with
  | some (w, h, vs) => if px / 128 < w ∧ py / 32 < h then nth vs (py / 32 * w + px / 128) 0 else 0
  | none => 0

/-- R194: m, the lens phase of a subpixel, 2^-24 subpixel; 0 when LATH_PITCH is 0. -/
def lathM (o : Tab (List Word)) (c : Option (Nat × Nat × List Nat)) (px py s : Nat) : Nat :=
  let pitch := opt o 0x1820 4 0 32
  if pitch = 0 then 0
  else
    let slant := fdiv ((py : Int) * optS o 0x1820 6 0 16 * 2 ^ 24) (max 1 (opt o 0x1820 6 16 16))
    let q : Int := ((3 * px + s) * 2 ^ 24 : Nat) + opt o 0x1820 5 0 32 - slant + signed (corrOf c px py) 16 * 2 ^ 12
    (q - pitch * fdiv q pitch).toNat

/-- R194, R195: V, the view slot of a subpixel. -/
def lathV (o : Tab (List Word)) (c : Option (Nat × Nat × List Nat)) (px py s : Nat) : Nat :=
  let pitch := opt o 0x1820 4 0 32
  if pitch = 0 then 0 else lathM o c px py s * 128 / pitch

/-! ## Fans (R205, R206, R212) -/

/-- R212: the fan of a view slot. -/
def fanOf (o : Tab (List Word)) (v : Nat) : Nat := opt o 0x1824 (1 + v / 8) (4 * (v % 8)) 4
/-- R212: SOURCE of a fan. -/
def fanSource (o : Tab (List Word)) (f : Nat) : Nat := opt o 0x1824 (17 + f) 0 2
/-- R212: OV0_SHOW or OV1_SHOW of a fan. -/
def fanShow (o : Tab (List Word)) (f plane : Nat) : Bool := opt o 0x1824 (17 + f) (2 + plane) 1 == 1
/-- R212: the background of a fan, sRGB. -/
def fanBg (o : Tab (List Word)) (f : Nat) : Nat × Nat × Nat :=
  (opt o 0x1824 (17 + f) 8 8, opt o 0x1824 (17 + f) 16 8, opt o 0x1824 (17 + f) 24 8)

/-- R205, R212: FanConfig is valid. -/
def fanOk (ws : List Word) : Bool :=
  let n := fieldOf ws 0 0 4
  let slot (v : Nat) : Nat := fieldOf ws (1 + v / 8) (4 * (v % 8)) 4
  wordsOk 0x1824 ws && decide (1 ≤ n ∧ n ≤ 8) &&
  (List.range 64).all (fun m => decide (slot (2 * m) < n) && slot (2 * m) == slot (2 * m + 1)) &&
  (List.range 8).all (fun k => fieldOf ws (17 + k) 0 2 != 3)

/-! ## Ranges (R199, R210) -/

/-- R210: PanelOptics within its ranges. -/
def panelOpticsOk (ws : List Word) : Bool :=
  let org (i : Nat) : Bool := within (signed (fieldOf ws i 0 32) 32) 2000000
  let pit (i : Nat) : Bool := decide (0x400 ≤ fieldOf ws i 0 32 ∧ fieldOf ws i 0 32 ≤ 0x40000)
  org 0 && org 1 && pit 2 && pit 3 && (fieldOf ws 4 0 32 == 0 || decide (0x2000000 ≤ fieldOf ws 4 0 32)) && fieldOf ws 6 16 16 != 0

/-- R199: an entry of an angle table. -/
def tanOk (w : Word) : Bool := decide ((signed w.toNat 32).natAbs ≤ 0x40000000)

/-! ## The correction map (R200 to R204, R209) -/

/-- R200, R202: the map that staging bytes of a size hold, when they are laid out as a map. -/
def mapOf (bs : List Byte) (size : Nat) : Option (Nat × Nat × List Nat) :=
  let w := num bs 8 2; let h := num bs 0x0A 2
  if num bs 0 4 = 0x4D50434C ∧ num bs 4 2 = 1 ∧ num bs 6 2 = 0 ∧ 1 ≤ w ∧ w ≤ 512 ∧ 1 ≤ h ∧ h ≤ 256 ∧ num bs 0x0C 4 = 0 ∧
     w * h ≤ 32768 ∧ size = 16 + 2 * w * h then
    some (w, h, (List.range (w * h)).map (fun i => num bs (16 + 2 * i) 2))
  else none

/-- R201: the staging bytes; one not written is a free value, and a failed channel returns zeros (R388). -/
def State.stagingBytes (s : State) (n : Nat) : List Byte :=
  blank 4096 (fun u => (s.chan (s.dram.maps.chan u)).fails)
    (Memory.readAll s.optics.staging (fun i => Config.stagingByte (65552 * s.optics.swaps + i)) 0 n)

/-- R202: the outcome of the check of the commit in progress, of the staging bytes as they are read. -/
def commitCheck (bs : List Byte) (size : Nat) (hash : List Word) : Option (Nat × Nat × List Nat) :=
  match mapOf bs size with
  | some m => if hash.any (· != 0) ∧ Sha.sha384 bs = ofWords hash then some m else none
  | none => none

/-- CORR_MAP_CHECK_DONE (R202, R385): the commit fails, or passes and awaits its scene cut (R203). Staging bytes read with an
uncorrectable error are zeros. -/
def execCorrMapCheckDone (t : Cyc) (s : State) : Host.Outcome State Fault Refusal :=
  let s := s.at t
  match s.optics.commit with
  | some (owner, tag, size, hash) =>
    if ¬ s.serving ∨ s.optics.passed.isSome then nextOf s
    else if (commitCheck (blank 64 s.optics.lost.contains (s.stagingBytes size)) size hash).isSome then
      nextOf { s with optics := { s.optics with passed := some s.ns } }
    else
      let s := { s with optics := { s.optics with commit := none, checkFailed := true } }
      nextOf (s.finalEvent owner tag 0x0542 Status.CHECK_FAILED [])
  | none => nextOf s

/-- R203, R209: a commit has passed before the cut of field `n`; one that passes at its instant waits for the next (R9). -/
def State.corrReady (s : State) (n : Nat) : Bool :=
  match s.optics.passed with | some at0 => decide (at0 < s.cutNs n) | none => false

/-- R201, R203: at the cut of field `n` a passed map becomes active, and the former active buffer the staging buffer, whose bytes
are undefined from then on. -/
def State.corrActivate (s : State) (n : Nat) : State :=
  match s.optics.commit with
  | some (owner, tag, size, _) =>
    if ¬ s.corrReady n then s
    else
      -- a channel that has failed since the check may have taken a part of the map with it (R388)
      let m := mapOf (s.stagingBytes size) size
      let o := { s.optics with staging := [], swaps := s.optics.swaps + 1, map := m, commit := none, passed := none,
                               field := n, state := b2n m.isSome }
      ({ s with optics := o } : State).finalEvent owner tag 0x0542 Status.OK (le 8 n)
  | none => s

/-- R204: the map is used while its dimensions match those of the mode in force, and held otherwise. -/
def State.corrHold (s : State) : State :=
  match s.optics.map with
  | some (w, h, _) =>
    let fits := w = s.mode.width / 128 ∧ h = s.mode.height / 32
    { s with optics := { s.optics with state := if fits then 1 else 2 } }
  | none => s

/-- R203, R204: the correction map in use. -/
def State.corrUsed (s : State) : Option (Nat × Nat × List Nat) := if s.optics.state = 1 then s.optics.map else none

/-! ## Commands -/

/-- The object and its size that SELECT of OPTICS_SET names. -/
def opticsObj (sel : Nat) : Nat × Nat :=
  match sel with | 0 => (0x1820, 32) | 1 => (0x1821, 512) | 2 => (0x1822, 16) | _ => (0x1823, 48)

/-- OPTICS_SET (R210, R211). -/
def cardOpticsSet : Card where
  opcode := 0x0540
  deferred := false
  lenOk := fun pl => decide (4 ≤ pl.length) && (decide (3 < num pl 0 1) || pl.length == 4 + (opticsObj (num pl 0 1)).2)
  presence := fun _ _ pl => if num pl 0 1 = 3 then 2 else 0
  params := fun _ _ pl =>
    let o := opticsObj (num pl 0 1)
    let ws := toWords (o.2 / 4) (pl.drop 4)
    decide (num pl 0 1 ≤ 3) && zeroAt pl 1 3 && wordsOk o.1 ws &&
    (match num pl 0 1 with
     | 0 => panelOpticsOk ws
     | 1 => ws.all tanOk
     | 2 => ws.all tanOk
     | _ => true)
  run := fun s _ pl =>
    let o := opticsObj (num pl 0 1)
    done (s.setObj o.1 (toWords (o.2 / 4) (pl.drop 4)))

/-- CORR_MAP_LOAD (R201). -/
def cardCorrMapLoad : Card where
  opcode := 0x0541
  deferred := false
  lenOk := fun pl =>
    let n := num pl 4 2
    decide (8 ≤ pl.length) && decide (1 ≤ n ∧ n ≤ 1024) && decide (pl.length = 4 * cdiv (8 + n) 4)
  params := fun _ _ pl => decide (num pl 0 4 + num pl 4 2 ≤ 65552) && zeroAt pl 6 2
  judge := fun s _ _ => if s.optics.commit.isSome then Status.BUSY else Status.OK
  run := fun s _ pl =>
    done { s with optics := { s.optics with
      staging := Memory.writeAll none s.optics.staging (num pl 0 4) (slice pl 8 (num pl 4 2)) } }

/-- CORR_MAP_COMMIT (R202). -/
def cardCorrMapCommit : Card where
  opcode := 0x0542
  deferred := true
  lenOk := lenIs 4
  params := fun _ _ pl => decide (18 ≤ num pl 0 4 ∧ num pl 0 4 ≤ 65552)
  judge := fun s _ _ => if s.optics.commit.isSome then Status.BUSY else Status.OK
  run := fun s c pl => done { s with optics := { s.optics with commit := some (c.owner, c.tag, num pl 0 4, s.obj 0x1823), lost := [] } }

/-- FAN_CONFIGURE (R205). -/
def cardFanConfigure : Card where
  opcode := 0x0543
  deferred := false
  lenOk := lenIs 100
  params := fun _ _ pl => fanOk (toWords 25 pl)
  run := fun s _ pl => done (s.setObj 0x1824 (toWords 25 pl))

/-- LATH_EVALUATE (R193, R194) with the values in force for the current field. -/
def cardLathEvaluate : Card where
  opcode := 0x0544
  deferred := false
  lenOk := lenIs 8
  params := fun s _ pl =>
    decide (num pl 0 2 < s.mode.width) && decide (num pl 2 2 < s.mode.height) && decide (num pl 4 1 ≤ 2) && zeroAt pl 5 3
  judge := fun s _ _ => if s.scan.lantern then Status.BAD_STATE else Status.OK
  run := fun s _ pl =>
    let o := s.harbour.cur.optics; let c := s.harbour.cur.corr
    let px := num pl 0 2; let py := num pl 2 2; let st := num pl 4 1
    let v := lathV o c px py st
    let corr := if opt o 0x1820 4 0 32 = 0 then 0 else corrOf c px py
    (s, Status.OK, [byte v, byte (fanOf o v)] ++ le 2 corr ++ le 4 (lathM o c px py st) ++
      le 8 (wrap (originX o px) 64) ++ le 8 (wrap (originY o py) 64))

end Sys2Proof.Machine
end

