-- ==== Sys2Proof/Machine/Rays.lean ====
section
/-! DEFINITION. Ray synthesis (R214 to R234), bit for bit: the tables, the hit of a ray on a coat, the bilinear samples,
compositing, grout, the hand-off to the band ring, and the words of one tile. -/

namespace Sys2Proof.Machine

/-! ## Tables (R216, R217) -/

/-- R216: whether 32,768 × ((c + 0.055) / 1.055)^2.4 is at least y - 1/2, decided on exact integers: with c = k / 255 the
base is (40 k + 561) / 10,761, and both sides are raised to the fifth power. -/
def linAtLeast (k y : Nat) : Bool := y == 0 || decide ((2 * y - 1) ^ 5 * 10761 ^ 12 ≤ (40 * k + 561) ^ 12 * 65536 ^ 5)

/-- The largest y for which `linAtLeast` holds, found bit by bit. -/
def linSearch (k : Nat) : Nat → Nat → Nat
  | 0, y => y
  | n + 1, y => linSearch k n (if linAtLeast k (y + 2 ^ n) then y + 2 ^ n else y)

/-- R216: one entry of LIN; 0.04045 lies between 10 / 255 and 11 / 255, and 12.92 × 255 is 3,294.6. -/
def linEntry (k : Nat) : Nat :=
  if k ≤ 10 then (2 * 327680 * k + 32946) / (2 * 32946) else linSearch k 16 0

/-- R216: LIN. -/
def linTable : List Nat := (List.range 256).map linEntry

/-- R216: LIN of an 8-bit value. -/
def lin (k : Nat) : Nat := nth linTable k 0

/-- R217: AL of an 8-bit opacity. -/
def al (a : Nat) : Nat := (a * 32768 + 127) / 255

/-! ## A coat as one field sees it -/

/-- One coat of a tile with its effective position (R63) and what its mooring contributes (R79, R90). -/
structure RCoat where
  moor    : Nat
  idx     : Nat
  x0      : Int
  y0      : Int
  z0      : Int
  fanMask : Nat
  bg      : Nat × Nat × Nat
  c       : Coat

/-- R63: coat `idx` of mooring `moor` in the scenes of a snapshot. -/
def rcoatOf (scenes : Tab Scene) (moor idx : Nat) : Option RCoat :=
  match Tab.get? scenes moor with
  | none => none
  | some sc =>
    match Tab.get? sc.coats idx with
    | none => none
    | some c => some { moor := moor, idx := idx, x0 := c.originX + sc.offX, y0 := c.originY + sc.offY,
                       z0 := c.baseZ + sc.offZ, fanMask := sc.fanMask, bg := sc.bg, c := c }

/-- R70: front to back. -/
def RCoat.before (a b : RCoat) : Bool :=
  decide (a.z0 < b.z0) || (a.z0 == b.z0 && (decide (a.moor < b.moor) || (a.moor == b.moor && decide (a.idx < b.idx))))

/-- R239: lines of the field whose read was uncorrectable: (mooring, coat, relief, column, row, line). -/
abbrev BadLines := List (Nat × Nat × Bool × Nat × Nat × Nat)

/-! ## Texels (R223, R65 to R68) -/

/-- R223: displayed colour texel (i, j), as its 32-bit word; INIT_TEXEL where no tile replaced it (R66). -/
def RCoat.texel (k : RCoat) (bad : BadLines) (i j : Nat) : Nat :=
  let c := k.c
  let col := (i / 64 + c.phaseX) % c.width
  let row := (j / 64 + c.phaseY) % c.height
  let off := 4 * (64 * (j % 64) + i % 64)
  if bad.contains (k.moor, k.idx, false, col, row, off / 64) then 0
  else match Tab.get? c.tiles (row * c.width + col) with
    | some t => num t off 4
    | none => c.init.toNat

/-- R223, R68: displayed relief texel (i, j); 0 where no tile replaced it (R66). -/
def RCoat.reliefTexel (k : RCoat) (bad : BadLines) (i j : Nat) : Int :=
  let c := k.c
  let w := reliefTiles c.width
  let col := (i / 64 + c.phaseX / 2) % w
  let row := (j / 64 + c.phaseY / 2) % reliefTiles c.height
  let off := 2 * (64 * (j % 64) + i % 64)
  if bad.contains (k.moor, k.idx, true, col, row, off / 64) then 0
  else match Tab.get? c.rtiles (row * w + col) with
    | some t => snum t off 2
    | none => 0

/-- R238, R239: the line of a displayed colour texel. -/
def RCoat.texelLine (k : RCoat) (i j : Nat) : Nat × Nat × Bool × Nat × Nat × Nat :=
  (k.moor, k.idx, false, (i / 64 + k.c.phaseX) % k.c.width, (j / 64 + k.c.phaseY) % k.c.height, (64 * (j % 64) + i % 64) / 16)

/-- R238, R239: the line of a displayed relief texel. -/
def RCoat.reliefLine (k : RCoat) (i j : Nat) : Nat × Nat × Bool × Nat × Nat × Nat :=
  (k.moor, k.idx, true, (i / 64 + k.c.phaseX / 2) % reliefTiles k.c.width, (j / 64 + k.c.phaseY / 2) % reliefTiles k.c.height,
   (64 * (j % 64) + i % 64) / 32)

/-! ## Hits and samples (R222 to R227) -/

/-- R222: texel coordinates of the hit at depth z of a ray from (xo, yo) in direction (tx, ty). -/
def RCoat.pos (k : RCoat) (xo yo tx ty z : Int) : Int × Int :=
  let xh := xo + rnd (z * tx) 19
  let yh := yo + rnd (z * ty) 19
  (fdiv ((xh - k.x0 * 512) * 128) k.c.pitchX, fdiv ((yh - k.y0 * 512) * 128) k.c.pitchY)

/-- R222: inside the displayed extent. -/
def RCoat.inside (k : RCoat) (p : Int × Int) : Bool :=
  decide (0 ≤ p.1 ∧ p.1 < 16384 * k.c.width ∧ 0 ≤ p.2 ∧ p.2 < 16384 * k.c.height)

/-- R224: an index clamped to 0 to n - 1. -/
def clampTo (i : Int) (n : Nat) : Nat := (sat i 0 ((n : Int) - 1)).toNat

/-- R224: the four texel addresses and weights of a bilinear sample. -/
def bilin (a b : Int) (ni nj : Nat) : List ((Nat × Nat) × Nat) :=
  let i0 := asr a 8; let fx := wrap a 8
  let j0 := asr b 8; let fy := wrap b 8
  let x0 := clampTo i0 ni; let x1 := clampTo (i0 + 1) ni
  let y0 := clampTo j0 nj; let y1 := clampTo (j0 + 1) nj
  [((x0, y0), (256 - fx) * (256 - fy)), ((x1, y0), fx * (256 - fy)), ((x0, y1), (256 - fx) * fy), ((x1, y1), fx * fy)]

/-- R225: the displacement at texel coordinates. -/
def RCoat.displace (k : RCoat) (bad : BadLines) (p : Int × Int) : Int :=
  let l := bilin (asr (p.1 - 256) 1) (asr (p.2 - 256) 1) (32 * k.c.width) (32 * k.c.height)
  let vb := l.foldl (fun (v : Int) e => v + (e.2 : Int) * k.reliefTexel bad e.1.1 e.1.2) 0
  rnd (vb * k.c.relief) 32

/-- R226: the refinement of a relief hit: `n` displacements, starting from a position. -/
def RCoat.refine (k : RCoat) (bad : BadLines) (xo yo tx ty : Int) : Nat → Int × (Int × Int) → Int × (Int × Int)
  | 0, r => r
  | n + 1, r =>
    let z := k.z0 + k.displace bad r.2
    RCoat.refine k bad xo yo tx ty n (z, k.pos xo yo tx ty z)

/-- R225, R238: the relief lines that a displacement at texel coordinates samples. -/
def RCoat.reliefUses (k : RCoat) (p : Int × Int) : BadLines :=
  (bilin (asr (p.1 - 256) 1) (asr (p.2 - 256) 1) (32 * k.c.width) (32 * k.c.height)).map (fun e => k.reliefLine e.1.1 e.1.2)

/-- R226, R238: the relief lines that `n` displacements from a position sample. -/
def RCoat.refineUses (k : RCoat) (bad : BadLines) (xo yo tx ty : Int) : Nat → Int × Int → BadLines
  | 0, _ => []
  | n + 1, p => k.reliefUses p ++ RCoat.refineUses k bad xo yo tx ty n (k.pos xo yo tx ty (k.z0 + k.displace bad p))

/-- R227, R238: the colour lines that a colour sample at texel coordinates takes. -/
def RCoat.colourUses (k : RCoat) (p : Int × Int) : BadLines :=
  (bilin (p.1 - 128) (p.2 - 128) (64 * k.c.width) (64 * k.c.height)).map (fun e => k.texelLine e.1.1 e.1.2)

/-- R217: P, a premultiplied channel. -/
def premul (ch a : Nat) : Int := rnd ((lin ch : Int) * al a) 15

/-- R227: the colour sample: (p_R, p_G, p_B, a). -/
def RCoat.colour (k : RCoat) (bad : BadLines) (p : Int × Int) : Int × Int × Int × Int :=
  let l := bilin (p.1 - 128) (p.2 - 128) (64 * k.c.width) (64 * k.c.height)
  let ts := l.map (fun e => (k.texel bad e.1.1 e.1.2, e.2))
  let ch (lo : Nat) : Int := rnd (ts.foldl (fun (v : Int) e => v + (e.2 : Int) * premul (bits e.1 lo 8) (bits e.1 24 8)) 0) 16
  (ch 0, ch 8, ch 16, rnd (ts.foldl (fun (v : Int) e => v + (e.2 : Int) * (al (bits e.1 24 8) : Int)) 0) 16)

/-! ## Compositing (R226, R228) -/

/-- What a ray has gathered on its way (R228), and what it issued (R226, R242). -/
structure Ray where
  t       : Int := 32768               -- R228 T
  c       : Int × Int × Int := (0, 0, 0)  -- R228 C_R, C_G, C_B
  last    : Option RCoat := none       -- R228 LAST
  zc      : Int := 0                   -- R228 ZC
  covered : Bool := false              -- R228
  samples : Nat := 0                   -- R226
  refines : Nat := 0                   -- R226
  uses    : BadLines := []             -- R238 the lines that its samples have taken, in order

/-- R228: a colour sample at texel coordinates `p` composited at depth z. -/
def Ray.take (r : Ray) (k : RCoat) (z : Int) (p : Int × Int) (q : Int × Int × Int × Int) : Ray :=
  let add (c p : Int) : Int := c + rnd (r.t * p) 15
  let t := r.t - rnd (r.t * q.2.2.2) 15
  { r with c := (add r.c.1 q.1, add r.c.2.1 q.2.1, add r.c.2.2 q.2.2.1), t := t, last := some k, zc := if t ≤ 128 then z else r.zc,
           covered := decide (t ≤ 128), samples := r.samples + 1, uses := r.uses ++ k.colourUses p }

/-- R226: one coat intersected. -/
def Ray.meet (r : Ray) (k : RCoat) (bad : BadLines) (xo yo tx ty : Int) (refs : Nat) : Ray :=
  let p := k.pos xo yo tx ty k.z0
  if ¬ k.inside p then r
  else if k.c.relief = 0 then r.take k k.z0 p (k.colour bad p)
  else
    let h := k.refine bad xo yo tx ty (1 + refs) (k.z0, p)
    let r := { r with samples := r.samples + 1 + refs, refines := r.refines + refs,
                      uses := r.uses ++ k.refineUses bad xo yo tx ty (1 + refs) p }
    if k.inside h.2 then r.take k h.1 h.2 (k.colour bad h.2) else r

/-- R221, R228: the coats of a ray, front to back, until it is covered. -/
def Ray.trace (r : Ray) (bad : BadLines) (xo yo tx ty : Int) (refs fan : Nat) : List RCoat → Ray
  | [] => r
  | k :: ks =>
    if bit k.fanMask fan then
      let r := r.meet k bad xo yo tx ty refs
      if r.covered then r else Ray.trace r bad xo yo tx ty refs fan ks
    else Ray.trace r bad xo yo tx ty refs fan ks

/-- R216: a colour of three 8-bit channels in linear light. -/
def linOf (c : Nat × Nat × Nat) : Int × Int × Int := (lin c.1, lin c.2.1, lin c.2.2)

/-! ## Grout (R229, R230) -/

/-- A subpixel of a tile's pixel row after tracing: its column in the tile, its fan, its traced slot, its ray; no ray when
its fan has SOURCE 1 or 2 (R231). -/
structure SubRay where
  x   : Nat
  fan : Nat
  vt  : Nat
  ray : Option Ray

/-- R229: the order of two candidates for a ray at column `x`. -/
def closer (x : Nat) (a b : Nat × Ray) : Bool :=
  let d (u : Nat) : Nat := ((u : Int) - x).natAbs
  decide (a.2.zc < b.2.zc) || (a.2.zc == b.2.zc && (decide (d a.1 < d b.1) || (d a.1 == d b.1 && decide (a.1 < b.1))))

/-- R229: the covered rays a ray of column `x` and slot `vt` may take grout from. -/
def candidatesOf (row : List SubRay) (x vt : Nat) : List (Nat × Ray) :=
  row.filterMap (fun q =>
    match q.ray with
    | some r => if r.covered ∧ q.vt = vt ∧ q.x ≠ x ∧ q.x / 32 ≤ x / 32 + 1 ∧ x / 32 ≤ q.x / 32 + 1 then some (q.x, r) else none
    | none => none)

/-- R229, R231: the channels of a subpixel, and the kind of grout it took: 0 none, 1 neighbour, 2 background. -/
def finish (o : Tab (List Word)) (row : List SubRay) (q : SubRay) : (Int × Int × Int) × Nat :=
  match q.ray with
  | none => (linOf (fanBg o q.fan), 0)
  | some r =>
    if r.covered then (r.c, 0)
    else
      let near := minBy? (closer q.x) (candidatesOf row q.x q.vt)
      let g := match near with
        | some n => n.2.c
        | none => match r.last with | some k => linOf k.bg | none => linOf (fanBg o q.fan)
      let add (c g : Int) : Int := c + rnd (r.t * g) 15
      ((add r.c.1 g.1, add r.c.2.1 g.2.1, add r.c.2.2 g.2.2), if near.isSome then 1 else 2)

/-! ## Hand-off (R232, R233) -/

/-- R233: the number of significant bits. -/
def sigBits (x : Nat) : Nat := if x = 0 then 0 else Nat.log2 x + 1

/-- R233: ENC. -/
def enc (x m : Nat) : Nat :=
  let e := max 1 (sigBits x - m)
  (e - 1) * 2 ^ m + (rnd x (e - 1)).toNat

/-- R233: DEC. -/
def dec (q m : Nat) : Nat :=
  let e := q / 2 ^ m; let f := q % 2 ^ m
  if e = 0 then f else (2 ^ m + f) * 2 ^ (e - 1)

/-- R232: OUT of a channel. -/
def outOf (c : Int) : Nat := (sat c 0 32768).toNat

/-- R232: the word of a pixel. -/
def packPixel (r g b : Int) : Nat := enc (outOf r) 7 + enc (outOf g) 7 * 2 ^ 11 + enc (outOf b) 6 * 2 ^ 22

/-! ## A tile (R219, R220, R230, R236) -/

/-- R157: the refinements of a step: R_MODE at L0, one fewer from L1 on. -/
def refsAt (rmode step : Nat) : Nat := if step = 0 then rmode else rmode - 1

/-- What one tile is rendered from (R215). -/
structure TileJob where
  optics : Tab (List Word)
  corr   : Option (Nat × Nat × List Nat)
  coats  : List RCoat                  -- R221: the kept coats, in order
  px     : Nat                         -- panel coordinates of its first pixel
  py     : Nat
  k      : Nat                         -- R36 K in force
  pos    : Nat                         -- R234 rendering position
  step   : Nat
  refs   : Nat                         -- R157
  bad    : BadLines                    -- R239

/-- R219: the traced slot of a view slot at a step. -/
def tracedSlot (step v : Nat) : Nat := if step < 3 then v else v - v % 2

/-- R219 to R221, R231: the rays of one pixel row of a tile. -/
def TileJob.rays (j : TileJob) (y : Nat) : List SubRay :=
  let py := j.py + y
  let yo := originY j.optics py
  let ty := tanY j.optics j.k j.pos
  (List.range 384).map (fun x =>
    let px := j.px + x / 3
    let v := lathV j.optics j.corr px py (x % 3)
    let vt := tracedSlot j.step v
    let fan := fanOf j.optics v
    let ray := if fanSource j.optics fan = 0 then
        some (Ray.trace {} j.bad (originX j.optics px) yo (tanX j.optics vt) ty j.refs fan j.coats)
      else none
    { x := x, fan := fan, vt := vt, ray := ray })

/-- R238: some sample of a tile, relief-displaced hits included, takes a line of which `f` holds. A tile without coats samples
nothing. -/
def TileJob.anyLine (j : TileJob) (f : Nat × Nat × Bool × Nat × Nat × Nat → Bool) : Bool :=
  if j.coats.isEmpty then false
  else (List.range 32).any (fun y => (j.rays y).any (fun q => match q.ray with | some r => r.uses.any f | none => false))

/-- R220: whether a subpixel's traversal is its own: from L3 on, the first of its pixel with its traced slot. -/
def ownTraversal (step : Nat) (row : List SubRay) (q : SubRay) : Bool :=
  q.ray.isSome && (decide (step < 3) || !((row.drop (q.x - q.x % 3)).take (q.x % 3)).any (fun e => e.vt == q.vt))

/-- R192: the stripe position that shows R, and the one that shows B, under SUBPIXEL_ORDER. -/
def stripeR (o : Tab (List Word)) : Nat := if opt o 0x1820 7 0 1 = 0 then 0 else 2

/-- R232: the words of a pixel row from the finished subpixels. -/
def wordsOf (o : Tab (List Word)) (outs : List ((Int × Int × Int) × Nat)) : List Nat :=
  let at3 (i : Nat) : Int × Int × Int := (nth outs i ((0, 0, 0), 0)).1
  (List.range 128).map (fun x =>
    packPixel (at3 (3 * x + stripeR o)).1 (at3 (3 * x + 1)).2.1 (at3 (3 * x + (2 - stripeR o))).2.2)

/-- What a tile's rays counted (R242). -/
def rowCount (step : Nat) (row : List SubRay) (outs : List ((Int × Int × Int) × Nat)) : GangCount :=
  let own := row.filter (ownTraversal step row)
  let total (f : Ray → Nat) : Nat := sumN (own.map (fun q => match q.ray with | some r => f r | none => 0))
  { rays := own.length, samples := total (·.samples), refines := total (·.refines),
    covered := (row.filter (fun q => match q.ray with | some r => r.covered | none => false)).length,
    groutN := (outs.filter (fun e => e.2 == 1)).length, groutB := (outs.filter (fun e => e.2 == 2)).length }

/-- Two counts summed (R242). -/
def GangCount.add (a b : GangCount) : GangCount :=
  { rays := a.rays + b.rays, samples := a.samples + b.samples, refines := a.refines + b.refines, covered := a.covered + b.covered,
    groutN := a.groutN + b.groutN, groutB := a.groutB + b.groutB, miss := a.miss + b.miss, clocks := a.clocks + b.clocks,
    replayed := a.replayed + b.replayed, skipped := a.skipped + b.skipped, ecc := a.ecc + b.ecc }

/-- One pixel row of a tile: its 128 words and what it counted. -/
def TileJob.row (j : TileJob) (y : Nat) : List Nat × GangCount :=
  let r := j.rays y
  let outs := r.map (finish j.optics r)
  (wordsOf j.optics outs, rowCount j.step r outs)

/-- R236, R237: the words of a tile, 32 rows of 128, and what it counted. -/
def TileJob.render (j : TileJob) : List Nat × GangCount :=
  let rows := (List.range 32).map j.row
  (rows.flatMap (·.1), (rows.map (·.2)).foldl GangCount.add {})

end Sys2Proof.Machine
end

