-- ==== Sys2Proof/Machine/Plan.lean ====
section
/-! DEFINITION. The Harbourmaster's plan of one field (R152 to R172): budgets, the coats that reach a tile, cost, visibility,
field handling, gangs, preload, DRAM and power predictions, the ladder, lanes and shares. -/

namespace Sys2Proof.Machine

/-! ## Parameters of a field -/

/-- R175: B_MODE of an effective service mode. -/
def coatBudget (eff : Nat) : Nat := if eff = 0 then 16 else 8
/-- R175: R_MODE of an effective service mode. -/
def refineBudget (eff : Nat) : Nat := match eff with | 0 => 3 | 1 => 1 | _ => 2
/-- R175: the power cap of an effective service mode, W. -/
def modeCap (eff : Nat) : Nat := if eff = 2 then 28 else 48

/-- R484: the power limit that a scene cut samples, W. -/
def State.powerLimit (s : State) (eff : Nat) : Nat :=
  if s.power.forced then 20 else min s.power.plThermal (min (s.roundv F.POWER_CAP) (modeCap eff))

/-- R36: K of a plan. -/
def Plan.k (p : Plan) : Nat := (modeOf p.mode).k
/-- R36: the field position of a plan's field. -/
def Plan.j (p : Plan) : Nat := p.field % p.k
/-- R36: the frame ID of a plan's field. -/
def Plan.frame (p : Plan) : Nat := p.field / p.k
/-- The field rate of a plan. -/
def Plan.rate (p : Plan) : Nat := (modeOf p.mode).rate

/-- R155, R44: DL(k) of a tile row, gang clocks. -/
def deadline (rate row : Nat) : Nat := clkField rate * (72 + 32 * row) / 2088

/-! ## Tiles and what reaches them (R157, R169, R199) -/

/-- R264: the panel column of a tile's first pixel. -/
def tilePx (m : Mode) (sector col : Nat) : Nat := sector % max 1 m.cols * 4096 + 128 * col
/-- R264: the panel row of a tile's first pixel. -/
def tilePy (m : Mode) (sector row : Nat) : Nat := sector / max 1 m.cols * 2048 + 32 * row

/-- R206: the fans of SOURCE 0 that the subpixels of a tile belong to, as a mask. -/
def tileFans (o : Tab (List Word)) (c : Option (Nat × Nat × List Nat)) (px py : Nat) : Nat :=
  (List.range 32).foldl (fun m y => (List.range 384).foldl (fun m x =>
    let f := fanOf o (lathV o c (px + x / 3) (py + y) (x % 3))
    if fanSource o f = 0 then m ||| 2 ^ f else m) m) 0

/-- R199: the smallest and the largest TAN_X. -/
def tanBounds (o : Tab (List Word)) : Int × Int :=
  let l := (List.range 128).map (tanX o)
  (l.foldl min (tanX o 0), l.foldl max (tanX o 0))

/-- R157, R199: the texel coordinates that rays of a tile can meet on a coat's base plane: (u least, u most, v least, v
most). -/
def footprint (o : Tab (List Word)) (b : Int × Int) (k : RCoat) (px py kf pos : Nat) : Int × Int × Int × Int :=
  let ty := tanY o kf pos
  let p1 := k.pos (originX o px) (originY o py) b.1 ty k.z0
  let p2 := k.pos (originX o px) (originY o py) b.2 ty k.z0
  let q1 := k.pos (originX o (px + 127)) (originY o (py + 31)) b.1 ty k.z0
  let q2 := k.pos (originX o (px + 127)) (originY o (py + 31)) b.2 ty k.z0
  (min p1.1 p2.1, max q1.1 q2.1, p1.2, q1.2)

/-- R157: a footprint meets the extent of a coat. -/
def RCoat.met (k : RCoat) (f : Int × Int × Int × Int) : Bool :=
  decide (f.1 < 16384 * k.c.width ∧ 0 ≤ f.2.1 ∧ f.2.2.1 < 16384 * k.c.height ∧ 0 ≤ f.2.2.2)

/-- R70: every coat of a plan's snapshot, front to back. -/
def Plan.coats (p : Plan) : List RCoat :=
  sortBy RCoat.before (p.scenes.flatMap (fun m => m.2.coats.filterMap (fun c => rcoatOf p.scenes m.1 c.1)))

/-- R169: ZCLASS of a ZNEAR. -/
def zclass (z : Option Int) : Nat :=
  match z with
  | none => 15
  | some z => if z < 256 then 0 else min 15 (Nat.log2 z.toNat - 7)

/-- R169: EDGE of a tile. -/
def edgeOf (m : Mode) (sector row col : Nat) : Nat :=
  let c := tilePx m sector col / 128; let r := tilePy m sector row / 32
  min (min c (m.width / 128 - 1 - c)) (min (r / 4) ((m.height / 32 - 1 - r) / 4))

/-- R169: VIS of a tile. -/
def visOf (m : Mode) (z : Option Int) (sector row col : Nat) : Nat := 16 * (15 - zclass z) + min (edgeOf m sector row col) 15

/-- R169: the least-visible order. -/
def lessVisible (m : Mode) (a b : TilePlan) : Bool :=
  let far (x y : Option Int) : Bool := match x, y with | none, some _ => true | some u, some v => decide (v < u) | _, none => false
  let key (t : TilePlan) : Nat := tilePy m t.sector t.row / 32 * 1024 + tilePx m t.sector t.col / 128
  decide (a.vis < b.vis) || (a.vis == b.vis && (far a.znear b.znear || (a.znear == b.znear && decide (key a < key b))))

/-! ## Handling (R172, R175, R208, R234, R235) -/

/-- R157: a tile some of whose rays are traced. -/
def TilePlan.traced (t : TilePlan) : Bool := t.fans != 0

/-- R172: how a tile is handled in the field at position `j`: its handling and its storing or rendering position. At L4 the
storing position is F0 whatever K is; a tile collapses only with K above 1 (R175). -/
def handlingOf (k eff step j : Nat) (collapsed : Bool) : Handling × Nat :=
  if step = 4 ∨ collapsed then (if j = 0 then (.stored, 0) else (.replayed, 0))
  else if eff = 2 ∧ k = 4 then (if j % 2 = 0 then (.stored, j) else (.replayed, j - 1))
  else (.rendered, j)

/-- R175: Swift collapse of a tile; with no ZNEAR it is infinitely far. -/
def collapses (k eff collapseM : Nat) (z : Option Int) : Bool :=
  decide (1 < k) && eff == 1 && (match z with | none => true | some z => decide ((collapseM : Int) * 1000 ≤ z))

/-- R208, R234, R235, R172: the replay copy of a tile counts for a plan's field at a storing position: its last word was
written before the tick of the field, `tick` in local ns. -/
def ReplayCopy.counts (c : ReplayCopy) (p : Plan) (tick : Int) (pos : Nat) : Bool :=
  c.frame == p.frame && c.k == p.k && c.pos == pos && !c.late && c.optics == p.optics && c.corr == p.corr &&
  decide (c.field < p.field ∧ (c.wrote : Int) < tick)

/-- R172: the replay copy of a tile. -/
def State.copyOf (s : State) (sector row col : Nat) : Option ReplayCopy :=
  (s.synth.replay.find? (fun e => e.1 == (sector, row, col))).map (·.2)

/-- R172, R235: at the plan of a field, a copy is present or the field before is storing it. -/
def State.copyExpected (s : State) (p : Plan) (t : TilePlan) : Bool :=
  (match s.copyOf t.sector t.row t.col with | some c => c.counts p (s.tickNs p.field) t.pos | none => false) ||
  (s.harbour.cur.field + 1 == p.field && s.harbour.cur.k == p.k && !s.harbour.lateNow && s.harbour.cur.optics == p.optics &&
   s.harbour.cur.corr == p.corr && s.harbour.cur.tiles.any (fun c =>
    c.sector == t.sector && c.row == t.row && c.col == t.col && c.handling == .stored && c.pos == t.pos))

/-! ## Cost (R157) -/

/-- R157: how many coats of those that reach a tile are kept. -/
def keptCount (eff step reach : Nat) : Nat :=
  let n := min (coatBudget eff) reach
  if step < 2 then n else cdiv n 2

/-- R157: the rays computed of a tile. -/
def nrayOf (step : Nat) : Nat := if step < 3 then 12288 else 6144

/-- R157: how many of the first kept coats have relief. -/
def reliefKept (p : Plan) (t : TilePlan) : Nat :=
  ((t.coats.take (keptCount p.effMode t.step t.coats.length)).filter (fun e =>
    match rcoatOf p.scenes e.1 e.2 with | some k => k.c.relief != 0 | none => false)).length

/-- R157: nmax of a tile at its step. -/
def nmaxOf (p : Plan) (t : TilePlan) : Nat :=
  let kept := keptCount p.effMode t.step t.coats.length
  let rel := reliefKept p t
  nrayOf t.step * ((kept - rel) + rel * (2 + refsAt (refineBudget p.effMode) t.step))

/-- R157: the predicted cost of a tile at its step, when its rays are computed. -/
def renderCost (h : Coefs) (p : Plan) (t : TilePlan) : Nat :=
  if ¬ t.traced then 16
  else
    let nray := nrayOf t.step
    let rmax := nray * reliefKept p t * refsAt (refineBudget p.effMode) t.step
    let nsamp := (rnd (nmaxOf p t * t.rho) 15).toNat
    let nref := (rnd (rmax * t.rho) 15).toNat
    16 + (rnd (h.aRay * nray + h.aSamp * nsamp + h.aRef * nref + h.aMiss * t.nmiss) 16).toNat

/-- R157, R172: a tile's cost and nmax in the field: a replay of a tile with traced rays costs A_TILE + A_REPLAY. -/
def State.costed (s : State) (p : Plan) (t : TilePlan) : TilePlan :=
  let c := if t.traced ∧ t.handling = .replayed ∧ s.copyExpected p t then 16 + 256 else renderCost s.harbour.coefs p t
  { t with cost := c, nmax := nmaxOf p t }

/-- R160: RHO of a tile from field n - 2, reached by `count` coats. -/
def State.rhoOf (s : State) (n sector row col count : Nat) : Nat :=
  match s.harbour.rho.find? (fun e => e.field + 2 == n && e.sector == sector && e.row == row && e.col == col) with
  | some e => if e.count ≠ count ∨ e.nmax = 0 then 32768 else max 4096 (min 32768 (e.samples * 32768 / e.nmax))
  | none => 32768

/-- R157, R199, R221: the coats of a plan that reach a tile at a rendering position. -/
def Plan.reach (p : Plan) (b : Int × Int) (coats : List RCoat) (t : TilePlan) (pos : Nat) : List RCoat :=
  if t.fans = 0 then [] else
    let px := tilePx (modeOf p.mode) t.sector t.col; let py := tilePy (modeOf p.mode) t.sector t.row
    coats.filter (fun k => k.fanMask &&& t.fans != 0 && k.met (footprint p.optics b k px py p.k pos))

/-- R169: ZNEAR of the coats that reach a tile. -/
def znearOf (l : List RCoat) : Option Int := l.head?.map (fun k => fdiv k.z0 256)

/-- R162 step 3, R170, R172, R234: a tile at its step: its handling, its rendering position, and what follows from the
position: the coats that reach it, ZNEAR, VIS, RHO and cost. Swift collapse, which moves the position, is judged on the coats
that reach the tile without it (log entry 125). -/
def State.judged (s : State) (p : Plan) (b : Int × Int) (coats : List RCoat) (t : TilePlan) : TilePlan :=
  let here := p.reach b coats t (handlingOf p.k p.effMode t.step p.j false).2
  let h := handlingOf p.k p.effMode t.step p.j (collapses p.k p.effMode p.collapseM (znearOf here))
  let reach := p.reach b coats t h.2
  let z := znearOf reach
  s.costed p { t with handling := h.1, pos := h.2, coats := reach.map (fun k => (k.moor, k.idx)), znear := z,
                      vis := visOf (modeOf p.mode) z t.sector t.row t.col,
                      rho := s.rhoOf p.field t.sector t.row t.col reach.length }

/-! ## Preload (R164, R238) -/

/-- A stored tile in a gang cache: (mooring, coat, relief, column, row). -/
abbrev CTile := Nat × Nat × Bool × Nat × Nat

/-- R238: the lines of a stored tile. -/
def CTile.lines (t : CTile) : Nat := if t.2.2.1 then 128 else 256

/-- R238: the lines of a gang's cache. -/
def cacheLines : Nat := 24576

/-- The texels of an axis of `n` texels that coordinates span, with `per` coordinate units to a texel: first and last. -/
def texelSpan (lo hi : Int) (per n : Nat) : Nat × Nat := (clampTo (fdiv lo per) n, clampTo (fdiv hi per + 1) n)

/-- The displayed tile indices that a span of texels touches, with the part of each: (tile, first, last texel in it). -/
def tileSpans (e : Nat × Nat) : List (Nat × Nat × Nat) :=
  (List.range (e.2 / 64 + 1 - e.1 / 64)).map (fun i =>
    let t := e.1 / 64 + i
    (t, max e.1 (64 * t) - 64 * t, min e.2 (64 * t + 63) - 64 * t))

/-- R238: the lines of a stored tile that hold texels of some of its rows and columns; a line holds `per` texels of a row. -/
def linesIn (per : Nat) (x0 x1 y0 y1 : Nat) : List Nat :=
  (List.range (y1 + 1 - y0)).flatMap (fun j => (List.range (x1 / per + 1 - x0 / per)).map (fun i =>
    (y0 + j) * (64 / per) + x0 / per + i))

/-- What a tile of a plan uses, or a gang cache holds: stored tiles with lines of each. -/
abbrev Lines := List (CTile × List Nat)

/-- R164: the lines of one kind of a coat that a footprint can use. -/
def RCoat.lines (k : RCoat) (relief : Bool) (f : Int × Int × Int × Int) : Lines :=
  let per := if relief then 512 else 256
  let half : Int := if relief then 256 else 128
  let n := if relief then 32 else 64
  let line := if relief then 32 else 16
  let px := if relief then k.c.phaseX / 2 else k.c.phaseX; let py := if relief then k.c.phaseY / 2 else k.c.phaseY
  let w := if relief then reliefTiles k.c.width else k.c.width; let h := if relief then reliefTiles k.c.height else k.c.height
  (tileSpans (texelSpan (f.2.2.1 - half) (f.2.2.2 - half) per (n * k.c.height))).flatMap (fun r =>
    (tileSpans (texelSpan (f.1 - half) (f.2.1 - half) per (n * k.c.width))).map (fun c =>
      ((k.moor, k.idx, relief, (c.1 + px) % w, (r.1 + py) % h), linesIn line c.2.1 c.2.2 r.2.1 r.2.2)))

/-- R164: the lines that a tile's kept coats use, relief before colour. -/
def usesOf (p : Plan) (b : Int × Int) (t : TilePlan) : Lines :=
  let m := modeOf p.mode
  (t.coats.take (keptCount p.effMode t.step t.coats.length)).flatMap (fun e =>
    match rcoatOf p.scenes e.1 e.2 with
    | none => []
    | some k =>
      let f := footprint p.optics b k (tilePx m t.sector t.col) (tilePy m t.sector t.row) p.k t.pos
      (if k.c.relief = 0 then [] else k.lines true f) ++ k.lines false f)

/-- R164: the lines a tile of the plan uses; a tile that is replayed or traces nothing uses none. -/
def State.usesIn (s : State) (p : Plan) (b : Int × Int) (t : TilePlan) : Lines :=
  if ¬ t.traced ∨ (t.handling = .replayed ∧ s.copyExpected p t) then [] else usesOf p b t

/-- The index of the first use of a stored tile. -/
def nextUse (future : List Lines) (t : CTile) : Option Nat := future.findIdx? (fun u => u.any (fun e => e.1 == t))

/-- R164: the cached tile to evict: one not used again, otherwise the one whose next use is latest. -/
def victim (future : List Lines) (cache : List CTile) : Option CTile :=
  let key (t : CTile) : CTile × Option Nat := (t, nextUse future t)
  (minBy? (fun a b => match a.2, b.2 with | none, some _ => true | some x, some y => decide (y < x) | _, none => false)
    (cache.map key)).map (·.1)

/-- The number of lines. -/
def countLines (l : Lines) : Nat := sumN (l.map (fun e => e.2.length))

/-- R164: cached tiles other than `t` evicted until some more lines fit. -/
def makeRoom (future : List Lines) (t : CTile) (need : Nat) : Nat → Lines → Lines
  | 0, cache => cache
  | n + 1, cache =>
    if countLines cache + need ≤ cacheLines then cache
    else match victim future ((cache.map (·.1)).filter (· != t)) with
      | some v => makeRoom future t need n (cache.filter (fun e => e.1 != v))
      | none => cache

/-- R238: the lines of a stored tile that a cache holds. -/
def heldLines (cache : Lines) (t : CTile) : List Nat := (cache.filter (fun e => e.1 == t)).flatMap (·.2)

/-- R164: lines of a stored tile that a cache lacks brought into it. -/
def fetchInto (future : List Lines) (cache : Lines) (e : CTile × List Nat) : Lines × Nat :=
  let held := heldLines cache e.1
  let new := e.2.filter (fun l => !held.contains l)
  if new = [] then (cache, 0)
  else
    let room := makeRoom future e.1 new.length cache.length cache
    (room.filter (fun x => x.1 != e.1) ++ [(e.1, held ++ new)], new.length)

/-- Distinct stored tiles in order of first use. -/
def firstUses (l : List CTile) : List CTile := l.foldl (fun a t => if a.contains t then a else a ++ [t]) []

/-- R164: a preload list filled into a cache, whole stored tiles in order. When the cache is full, each makes its room by the
rule of eviction (log entry 126). -/
def preloaded (future : List Lines) (l : List CTile) : Lines :=
  l.foldl (fun c t => (fetchInto future c (t, List.range (CTile.lines t))).1) []

/-- R164: the simulation of a gang's order after the preload: what each tile fetches on demand, by stored tile. -/
def simGang : List Lines → Lines → List (List (CTile × Nat))
  | [], _ => []
  | u :: rest, cache =>
    let r := u.foldl (fun (a : Lines × List (CTile × Nat)) e =>
      let x := fetchInto (u :: rest) a.1 e
      (x.1, if x.2 = 0 then a.2 else a.2 ++ [(e.1, x.2)])) (cache, [])
    r.2 :: simGang rest r.1

/-- What a gang loads under a plan (R164): its preload list, and the lines fetched on demand by stored tile. -/
structure Fetch where
  list   : List CTile
  demand : List (CTile × Nat)

/-- R164, R240: the preload list of a gang's tiles, and what each of them fetches on demand. After Lantern nothing is
preloaded. -/
def gangFetch (cold : Bool) (uses : List Lines) : List CTile × List (List (CTile × Nat)) :=
  let l := if cold then [] else firstUses (uses.flatten.map (·.1))
  (l, simGang uses (preloaded uses l))

/-- R166: the lines that a gang loads, by stored tile. -/
def Fetch.lines (f : Fetch) : List (CTile × Nat) := f.list.map (fun t => (t, CTile.lines t)) ++ f.demand

/-- The positions in a plan's tile list of a gang's tiles, in order (R163). -/
def Plan.ofGang (p : Plan) (g : Nat) : List Nat := idxs p.tiles.length (fun i =>
  match p.tiles[i]? with | some t => t.gang == g | none => false)

/-- R164, R157: the preload list, nmiss and cost of a gang's tiles renewed; what the gang loads. -/
def State.refetch (s : State) (p : Plan) (b : Int × Int) (g : Nat) : Plan × Fetch :=
  let ids := p.ofGang g
  let at? (i : Nat) : Lines := match p.tiles[i]? with | some t => s.usesIn p b t | none => []
  let f := gangFetch s.harbour.cold (ids.map at?)
  let tiles := (List.zip ids f.2).foldl (fun ts e => modAt ts e.1 (fun t => s.costed p { t with nmiss := sumN (e.2.map (·.2)) })) p.tiles
  ({ p with tiles := tiles, preload := (List.range 16).map (fun i => if i = g then f.1 else nth p.preload i []) },
   { list := f.1, demand := f.2.flatten })

/-- R162 step 5: the preload lists and the misses of every gang. -/
def State.fetchAll (s : State) (p : Plan) (b : Int × Int) : Plan × List Fetch :=
  (List.range 16).foldl (fun (acc : Plan × List Fetch) g =>
    let r := s.refetch acc.1 b g
    (r.1, acc.2 ++ [r.2])) (p, [])

/-! ## DRAM and power (R161, R166) -/

/-- R165: the channel of a stored tile in a snapshot. -/
def Plan.ctileChan (p : Plan) (t : CTile) : Nat :=
  match rcoatOf p.scenes t.1 t.2.1 with
  | none => 0
  | some k => k.c.place.tile t.2.2.1 t.2.2.2.1 t.2.2.2.2

/-- What a plan is predicted to load (R166): coat and relief reads with those of each channel, the traffic of the replay
store with that of each channel, tiles staged with those of each channel, and the bytes striped over the channels. -/
structure Load where
  coat    : Nat
  replay  : Nat
  staged  : Nat
  striped : Nat
  chans   : List Nat

/-- R130: raw bytes of the tiles of a mooring that wait for a lane, and of its library read. -/
def State.laneBytes (s : State) (n : Nat) : Nat :=
  sumN (((s.moor n).tiles.filter (fun t => t.state == .queued)).map (fun t => rawSize t.relief)) +
  (match Tab.get? s.codec.libs n with | some l => if l.done then 0 else l.size - l.written | none => 0)

/-- R276: the most that both overlay planes may fetch in a field. -/
def overlayLimit (rate present : Nat) : Nat := ceiling 120 rate present

/-- R276: what scan-out reports as overlay fetch. -/
def State.overlayReport (s : State) (rate : Nat) : Nat :=
  if s.scan.planes.any (fun q => q.surface != 0xFFFF || !q.pending.isEmpty) then overlayLimit rate s.presentCount else 0

/-- R166: the predicted DRAM load of a plan, with what each gang loads. Ingest is held to its ceiling by pacing (R57). -/
def State.predict (s : State) (p : Plan) (fetch : List Fetch) : Load :=
  let pr := s.presentCount
  let copied := p.tiles.filter (fun t => t.handling == .stored || (t.handling == .replayed && s.copyExpected p t))
  let waiting := s.moors.flatMap (fun m => (m.2.tiles.filter (fun t => t.state == .queued)).map (fun t => (m.1, t)))
  let bytes (l : List (Nat × Tile)) : Nat := sumN (l.map (fun e => rawSize e.2.relief))
  let all := sumN (s.moors.map (fun m => s.laneBytes m.1)) + (s.quayUsed - 6144 * 1024)
  let ingest := min (ceiling 320 p.rate pr) all
  let share (n : Nat) : Nat := n * ingest / max 1 all
  let loads := fetch.flatMap Fetch.lines
  let lines (l : List (CTile × Nat)) : Nat := sumN (l.map (·.2))
  let staged := share (bytes waiting)
  { coat := 64 * lines loads, replay := 16384 * copied.length, staged := staged,
    striped := (ingest - staged) + s.overlayReport p.rate + ceiling 60 p.rate pr + ceiling 56 p.rate pr,
    chans := (List.range 16).map (fun c =>
      64 * lines (loads.filter (fun e => p.ctileChan e.1 == c)) +
      4096 * sumN (copied.map (fun t => s.copyUnits t.sector t.row t.col c)) +
      share (bytes (waiting.filter (fun e => s.stageChan e.1 e.2 == c)))) }

/-- R166: the predicted bytes of a field. -/
def Load.total (l : Load) : Nat := l.coat + l.replay + l.staged + l.striped

/-- R166, R165: the predicted bytes of a present channel: what is placed on it, and its share of what is striped. -/
def Load.chan (l : Load) (c present : Nat) : Nat := nth l.chans c 0 + l.striped / max 1 present

/-- R161: P_PRED of a plan, mW. -/
def predicted (h : Coefs) (p : Plan) (bytes : Nat) : Nat :=
  h.pFix + (h.eClk * sumN (p.tiles.map (·.cost)) + h.eByte * bytes) * p.rate / 1000000000

/-- R161, R166: a plan with its predictions of power and DRAM load. -/
def State.withLoad (s : State) (p : Plan) (l : Load) : Plan :=
  { p with pPred := predicted s.harbour.coefs p l.total, dramPred := l.total,
           chanPred := (List.range 16).map (fun c => l.chan c s.presentCount) }

/-! ## The ladder (R170, R171) -/

/-- A violation of R155 or R156. -/
inductive Violation where
  | row (g k : Nat)
  | chan (c : Nat)
  | other
  deriving DecidableEq, Repr

/-- R155: the sum of the costs of a gang's tiles in rows 0 to k. -/
def Plan.rowLoad (p : Plan) (g k : Nat) : Nat :=
  sumN ((p.tiles.filter (fun t => t.gang == g && decide (t.row ≤ k))).map (·.cost))

/-- R183: the channel whose plannable bytes the slice reduces: the one on which the class's next unit runs. For BG0, BG3, BG4 and
BG5 it is time of a pilot, a blanking window or a lane. -/
def State.sliceChan (s : State) (p : Plan) : Option Nat :=
  if p.slice = 1 then some s.scrubTarget.1 else if p.slice = 2 then some s.recalTarget else none

/-- R170: the first violation of a plan. -/
def State.violation (s : State) (p : Plan) (l : Load) : Option Violation :=
  let pr := s.presentCount
  let cut := chanCeiling p.rate pr / 50
  let lim (c : Nat) : Nat := chanCeiling p.rate pr - (if s.sliceChan p = some c then cut else 0) - p.calCut p.rate pr c
  let total := ceiling 1800 p.rate pr - (if (s.sliceChan p).isSome then cut else 0)
  let rows := (List.range 64).flatMap (fun k => (List.range 16).map (fun g => (k, g)))
  match rows.find? (fun e => decide (4 * deadline p.rate e.1 / 5 < p.rowLoad e.2 e.1)) with
  | some e => some (.row e.2 e.1)
  | none =>
    match s.present.find? (fun c => decide (lim c < l.chan c pr)) with
    | some c => some (.chan c)
    | none =>
      if ceiling 1244 p.rate pr < l.coat + l.replay ∨ total < l.total ∨
         min p.limit (modeCap p.effMode) * 1000 < predicted s.harbour.coefs p l.total then some .other
      else none

/-- R170: the tiles that can reduce a violation. -/
def State.reduces (s : State) (p : Plan) (b : Int × Int) (v : Violation) (t : TilePlan) : Bool :=
  match v with
  | .row g k => t.gang == g && decide (t.row ≤ k)
  | .chan c => (s.usesIn p b t).any (fun u => p.ctileChan u.1 == c)
  | .other => true

/-- R170: the tile to raise: the lowest step first, then the least visible. -/
def pickTile (m : Mode) (l : List (Nat × TilePlan)) : Option (Nat × TilePlan) :=
  minBy? (fun a b => decide (a.2.step < b.2.step) || (a.2.step == b.2.step && lessVisible m a.2 b.2)) l

/-- A plan's tiles with their positions. -/
def Plan.numbered (p : Plan) : List (Nat × TilePlan) := List.zip (List.range p.tiles.length) p.tiles

/-- R170: tiles raised one step at a time until nothing is violated or no candidate is left (R171). -/
def State.ladder (s : State) (b : Int × Int) (coats : List RCoat) : Nat → Plan → List Fetch → Plan × List Fetch
  | 0, p, fetch => (p, fetch)
  | n + 1, p, fetch =>
    match s.violation p (s.predict p fetch) with
    | none => (p, fetch)
    | some v =>
      match pickTile (modeOf p.mode) (p.numbered.filter (fun e => decide (e.2.step < 4) && s.reduces p b v e.2)) with
      | none => ({ p with overPlan := true }, fetch)
      | some e =>
        let raise (t : TilePlan) : TilePlan := s.judged p b coats { t with step := t.step + 1 }
        let q := { p with tiles := modAt p.tiles e.1 raise }
        let r := s.refetch q b e.2.gang
        s.ladder b coats n r.1 (modAt fetch e.2.gang (fun _ => r.2))

/-! ## Building (R162) -/

/-- R162 step 3: one tile of a plan at its starting step, before its gang is assigned. -/
def State.newTile (s : State) (p : Plan) (b : Int × Int) (coats : List RCoat) (sector row col : Nat) : TilePlan :=
  let m := modeOf p.mode
  s.judged p b coats
    { sector := sector, row := row, col := col, coats := [], znear := none, vis := 0, step := s.cutv F.MIN_STEP,
      handling := .rendered, pos := p.j, fans := tileFans p.optics p.corr (tilePx m sector col) (tilePy m sector row), gang := 0,
      rho := 32768, nmiss := 0, nmax := 0, cost := 0 }

/-- R163: the gang of the next tile: that of its left neighbour, or the least loaded. -/
def nextGang (loads : List Nat) (left : Option Nat) : Nat :=
  let least := loads.foldl min (nth loads 0 0)
  let lowest := ((idxs 16 (fun g => nth loads g 0 == least)).head?).getD 0
  match left with
  | some g => if nth loads g 0 ≤ least + 4096 then g else lowest
  | none => lowest

/-- R163: gangs assigned in deadline order. -/
def assignGangs : List TilePlan → List Nat → Option TilePlan → List TilePlan
  | [], _, _ => []
  | t :: r, loads, prev =>
    let left := match prev with
      | some q => if q.sector = t.sector ∧ q.row = t.row ∧ q.col + 1 = t.col then some q.gang else none
      | none => none
    let g := nextGang loads left
    let t := { t with gang := g }
    t :: assignGangs r (modAt loads g (· + t.cost)) (some t)

/-- R163: the sectors of a plan that have tiles: those of the mode whose port has none of R305, R186, R163 against it. -/
def State.planSectors (s : State) (p : Plan) : List Nat :=
  (List.range (modeOf p.mode).sectors).filter (fun k =>
    let q := s.port k
    (q.state == 3 || q.state == 4) && (match q.planFrom with | some f => decide (f ≤ p.field) | none => false) && !(p.dropped.contains k))

/-- R167: the moorings with lane work, in the order of assignment. -/
def State.laneOrder (s : State) : List Nat :=
  let l := (s.moors.map (·.1)).filter (fun n => s.laneBytes n != 0 || ((s.moor n).tiles.any (fun t => t.state == .queued)))
  sortBy (fun a b =>
    let pa := s.cutI F.M_PRIORITY a; let pb := s.cutI F.M_PRIORITY b
    decide (pa < pb) || (pa == pb && (decide (s.laneBytes b < s.laneBytes a) || (s.laneBytes a == s.laneBytes b && decide (a < b))))) l

/-- R167: lanes assigned: (mooring, lane), with the bytes of each lane. -/
def State.assignLanes (s : State) : Tab Nat × List Nat :=
  s.laneOrder.foldl (fun (acc : Tab Nat × List Nat) n =>
    let least := acc.2.foldl min (nth acc.2 0 0)
    let lane := ((idxs 8 (fun g => nth acc.2 g 0 == least)).head?).getD 0
    (Tab.put acc.1 n lane, modAt acc.2 lane (· + s.laneBytes n))) ([], List.replicate 8 0)

/-- R167: the shares of the codec engine's SRAM, KiB: D0 to D7, C0, C1. With no planned output the twelve units are shared evenly,
the remainder to the lowest lanes (log entry 147). -/
def codecShares (bytes : List Nat) : List Nat :=
  let sum := sumN bytes
  let units := bytes.map (fun b => if sum = 0 then 0 else 12 * b / sum)
  let left := 12 - sumN units
  (List.range 8).map (fun i => 128 + 64 * (nth units i 0 + left / 8 + b2n (decide (i < left % 8)))) ++ [128, 128]

/-- R167: the shares of the plane FIFOs, bytes, by 2 × sector + plane: 16 KiB each, the rest in proportion to the fetch. With no
planned fetch the rest is given to no plane (log entry 148). -/
def State.fifoShares (s : State) (sectors : List Nat) : Tab Nat :=
  let f (q : Nat) : Nat := (nth s.scan.planes q {}).lastFetch
  let n := sectors.length
  let rest := 1024 * 1024 - 2 * n * 16384
  let sum := n * (f 0 + f 1)
  sectors.flatMap (fun k => [(2 * k, 16384 + (if sum = 0 then 0 else rest * f 0 / sum)), (2 * k + 1, 16384 + (if sum = 0 then 0 else rest * f 1 / sum))])

/-- R162: plan n built on its snapshot: the tiles with their steps and gangs, the ladder, lanes and shares. -/
def State.buildPlan (s : State) (p0 : Plan) : Plan :=
  let b := tanBounds p0.optics
  let sectors := s.planSectors p0
  let coats := p0.coats
  let tiles := (List.range 64).flatMap (fun row => sectors.flatMap (fun k => (List.range 32).map (fun col => s.newTile p0 b coats k row col)))
  let p := { p0 with built := true, tiles := assignGangs tiles (List.replicate 16 0) none }
  let (p, fetch) := s.fetchAll p b
  let (p, fetch) := s.ladder b coats (4 * tiles.length + 1) p fetch
  let l := s.predict p fetch
  let lanes := s.assignLanes
  { (s.withLoad p l) with lanes := lanes.1, shares := codecShares lanes.2, fifo := s.fifoShares sectors }

end Sys2Proof.Machine
end

