-- ==== Sys2Proof/Machine/Trowel.lean ====
section
/-! DEFINITION. The trowel gangs at work (R44, R45, R172, R234 to R242): a tile starts, a tile is finished and handed to its
band ring, a line arrives in a gang cache. -/

namespace Sys2Proof.Machine

/-! ## Plans by field -/

/-- The plan under which a field is rendered: the one in force, or that of the field before. -/
def State.planOf (s : State) (field : Nat) : Plan := if s.harbour.cur.field = field then s.harbour.cur else s.harbour.prev

/-- A tile of the plan of a field changed. -/
def State.modTile (s : State) (field pos : Nat) (f : TilePlan → TilePlan) : State :=
  let g (p : Plan) : Plan := { p with tiles := modAt p.tiles pos f }
  if s.harbour.cur.field = field then { s with harbour := { s.harbour with cur := g s.harbour.cur } }
  else { s with harbour := { s.harbour with prev := g s.harbour.prev } }

/-- A gang. -/
def State.gang (s : State) (g : Nat) : Gang := nth s.synth.gangs g {}

/-- A gang changed. -/
def State.modGang (s : State) (g : Nat) (f : Gang → Gang) : State :=
  { s with synth := { s.synth with gangs := modAt s.synth.gangs g f } }

/-- R242: the counts of a gang in a field changed: the field being rendered, or field n - 1. -/
def State.count (s : State) (field g : Nat) (f : GangCount → GangCount) : State :=
  if s.harbour.cur.field = field then { s with harbour := { s.harbour with counts := modAt s.harbour.counts g f } }
  else { s with harbour := { s.harbour with counts1 := modAt s.harbour.counts1 g f } }

/-! ## Band rings (R44) -/

/-- R44: the instant from which the slot of a tile row of a field may be written. -/
def State.slotFree (s : State) (field row : Nat) : Bool :=
  if 4 ≤ row then s.lineReached field (32 * (row - 3)) else s.lineReached (field - 1) (32 * (row + 61))

/-- R44: the slot of a ring that holds a tile row. -/
def State.ringSlot (s : State) (sector row : Nat) : RingSlot := nth (nth s.synth.rings sector []) (row % 4) {}

/-- R237: the words of a tile handed to its ring slot. -/
def State.putRing (s : State) (field sector row col : Nat) (ws : List Nat) : State :=
  let put (r : RingSlot) : RingSlot :=
    if r.field = field ∧ r.row = row then { r with tiles := Tab.put r.tiles col ws }
    else { field := field, row := row, tiles := [(col, ws)] }
  { s with synth := { s.synth with rings := modAt s.synth.rings sector (fun l => modAt l (row % 4) put) } }

/-- R237: a tile row of a sector is complete in a field: every one of its 32 tiles has been handed to the ring. -/
def State.rowComplete (s : State) (field sector row : Nat) : Bool :=
  let r := s.ringSlot sector row
  r.field == field && r.row == row && r.tiles.length == 32

/-! ## Starting (R163, R241) -/

/-- The trowels work: the device serves and they are powered (R240). -/
def State.trowelsOn (s : State) : Bool := s.serving && !s.scan.lantern

/-- TILE_START (R163, R44, R45, R172): the gang's next tile starts once its slot is free and the gang holds no tile of another
field. A tile whose replay copy is missing is rendered for its storing position. -/
def execTileStart (t : Cyc) (g : Nat) (s : State) : Host.Outcome State Fault Refusal :=
  let s := s.at t
  let gg := s.gang g
  match gg.queue with
  | [] => nextOf s
  | (f, pos) :: rest =>
    match (s.planOf f).tiles[pos]? with
    | none => nextOf s
    | some tp =>
      if ¬ s.trowelsOn ∨ 2 ≤ gg.running.length ∨ ¬ gg.running.all (fun r => r.1 == f) ∨ ¬ s.slotFree f tp.row then nextOf s
      else
        let s := s.modGang g (fun q => { q with queue := rest, running := q.running ++ [(f, pos, s.time.cyc)] })
        let present : Bool := match s.copyOf tp.sector tp.row tp.col with | some c => c.counts (s.planOf f) (s.tickNs f) tp.pos | none => false
        if tp.handling = .replayed ∧ ¬ present then
          nextOf ((s.tally T.HM_REPLAY_MISSING).modTile f pos (fun q => { q with handling := .rendered }))
        else nextOf s

/-! ## Finishing (R234 to R237, R242) -/

/-- R239: the lines that a gang takes as zeros in a field: those whose read in the field was uncorrectable. -/
def Gang.badLines (g : Gang) (field : Nat) : BadLines :=
  (g.bad.filter (fun e => e.1 == field)).map (fun e => (e.2.mooring, e.2.coat, e.2.relief, e.2.col, e.2.row, e.2.line))

/-- R215: what a tile of a plan is rendered from. -/
def Plan.job (p : Plan) (t : TilePlan) (bad : BadLines) : TileJob :=
  let m := modeOf p.mode
  { optics := p.optics, corr := p.corr,
    coats := (t.coats.take (keptCount p.effMode t.step t.coats.length)).filterMap (fun e => rcoatOf p.scenes e.1 e.2),
    px := tilePx m t.sector t.col, py := tilePy m t.sector t.row, k := p.k, pos := t.pos, step := t.step,
    refs := refsAt (refineBudget p.effMode) t.step, bad := bad }

/-- R172, R235: a stored tile's copy written to the replay store. -/
def State.putCopy (s : State) (p : Plan) (t : TilePlan) (ws : List Nat) : State :=
  let c : ReplayCopy := { frame := p.frame, k := p.k, pos := t.pos, field := p.field, wrote := s.ns, late := !p.complete, optics := p.optics,
                          corr := p.corr, words := ws }
  let key := (t.sector, t.row, t.col)
  State.dramMoved { s with synth := { s.synth with replay := s.synth.replay.filter (fun e => e.1 != key) ++ [(key, c)] } } 16384

/-- R388: the words of a replay copy as they are read: a failed channel returns zeros. -/
def State.copyWords (s : State) (sector row col : Nat) (ws : List Nat) : List Nat :=
  let lost (u : Nat) : Bool := (s.chan (s.dram.replay.chan (replayUnit sector row col + u))).fails
  (List.zip (List.range ws.length) ws).map (fun e => if lost (e.1 / 1024) then 0 else e.2)

/-- R242: what a tile counted, in the tallies of its gang and in those of its field. -/
def State.countTile (s : State) (field g : Nat) (c : GangCount) : State :=
  let s := s.count field g (fun q => q.add c)
  [(T.TRW_RAYS, c.rays), (T.TRW_SAMPLES, c.samples), (T.TRW_REFINES, c.refines), (T.TRW_COVERED, c.covered),
   (T.TRW_GROUT_NEIGHBOUR, c.groutN), (T.TRW_GROUT_BACKGROUND, c.groutB), (T.TRW_MISS_LINES, c.miss),
   (T.TRW_CLOCKS, c.clocks), (T.TRW_TILES_REPLAYED, c.replayed), (T.TRW_TILES_SKIPPED, c.skipped),
   (T.TRW_ECC_LINE, c.ecc)].foldl (fun (s : State) e => if e.2 = 0 then s else s.tallyUnit e.1 g e.2) s

/-- R160: what a rendered tile measured, kept for the cut two fields later. -/
def State.measure (s : State) (p : Plan) (t : TilePlan) (samples : Nat) : State :=
  let m : TileMeas := { field := p.field, sector := t.sector, row := t.row, col := t.col, samples := samples, nmax := t.nmax,
                        count := t.coats.length }
  { s with harbour := { s.harbour with rho := s.harbour.rho.filter (fun e => decide (p.field < e.field + 3)) ++ [m] } }

/-! ## The gang cache (R164, R238, R239) -/

/-- R238: the stored tile a line belongs to. -/
def LineTag.tile (l : LineTag) : CTile := (l.mooring, l.coat, l.relief, l.col, l.row)

/-- R164: what a gang's tiles in progress and to come use, in order. -/
def State.gangFuture (s : State) (g : Nat) : List Lines :=
  let gg := s.gang g
  (gg.running.map (fun r => (r.1, r.2.1)) ++ gg.queue).map (fun e =>
    let p := s.planOf e.1
    match p.tiles[e.2]? with | some t => s.usesIn p (tanBounds p.optics) t | none => [])

/-- R238: distinct stored tiles of a cache. -/
def Gang.tiles (g : Gang) : List CTile := firstUses (g.cache.map LineTag.tile)

/-- R214, R238: the storage generation of a stored tile of a coat. -/
def Coat.generation (k : Coat) (relief : Bool) (col row : Nat) : Nat := (Tab.get? k.gens (tileKey relief col row)).getD k.gen

/-- R214, R238: the storage generations of the stored tiles of a plan's snapshot. -/
def Plan.lineGen (p : Plan) (t : CTile) : Nat :=
  match rcoatOf p.scenes t.1 t.2.1 with
  | some k => k.c.generation t.2.2.1 t.2.2.2.1 t.2.2.2.2
  | none => 0

/-- The field that a gang works on (R45). -/
def State.gangField (s : State) (g : Nat) : Nat := match (s.gang g).running with | r :: _ => r.1 | [] => s.harbour.cur.field

/-- R238, R239: a gang has a line: it is resident, or taken as zeros in the field. -/
def Gang.has (q : Gang) (field : Nat) (tag : LineTag) : Bool := q.cache.contains tag || q.bad.contains (field, tag)

/-- R238: the preload list goes on past the stored tiles whose every line has come. -/
def Gang.settleList (q : Gang) (field : Nat) (gen : CTile → Nat) : Gang :=
  let come (t : CTile) : Bool := (List.range t.lines).all (fun l =>
    q.has field { mooring := t.1, coat := t.2.1, relief := t.2.2.1, col := t.2.2.2.1, row := t.2.2.2.2, line := l, gen := gen t })
  { q with todo := q.todo.dropWhile come }

/-- R238: lines that leave a gang's cache at a timebase cycle. Those that have left it are remembered while a tile that may have
sampled them is in progress. -/
def Gang.drop (q : Gang) (cyc : Nat) (gone : LineTag → Bool) : Gang :=
  let since := match q.running with | (_, _, start) :: _ => q.left.filter (fun e => decide (start ≤ e.1)) | [] => []
  let out := if q.running.isEmpty then [] else (q.cache.filter gone).map (fun l => (cyc, l))
  { q with cache := q.cache.filter (fun l => !gone l), left := since ++ out }

/-- R164: room for one more line of a stored tile: while the cache is full, another stored tile leaves it, or the line that came
first. -/
def Gang.evict (q : Gang) (cyc : Nat) (future : List Lines) (t : CTile) : Gang :=
  if q.cache.length < cacheLines then q
  else match victim future (q.tiles.filter (· != t)) with
    | some v => q.drop cyc (fun l => l.tile == v)
    | none => q.drop cyc (fun l => q.cache.head? == some l)

/-- R239: a line that arrives in a gang cache, or counts as zeros for the field: what the gang is after it. -/
def Gang.take (q : Gang) (cyc field : Nat) (future : List Lines) (tag : LineTag) (zero : Bool) : Gang :=
  if zero then { q with bad := q.bad ++ [(field, tag)] }
  else
    let q := q.evict cyc future tag.tile
    { q with cache := q.cache ++ [tag] }

/-- R238: a line of a plan's snapshot, with the generation of its storage there. -/
def Plan.tag (p : Plan) (t : CTile) (line : Nat) : LineTag :=
  { mooring := t.1, coat := t.2.1, relief := t.2.2.1, col := t.2.2.2.1, row := t.2.2.2.2, line := line, gen := p.lineGen t }

/-- R238, R242: the tile of a gang in progress whose samples take a line that the gang does not have: the field. A tile that
copies its replay copy samples nothing. -/
def State.wantedIn (s : State) (g : Nat) (t : CTile) (line : Nat) : Option Nat :=
  let gg := s.gang g
  (gg.running.find? (fun r =>
    let p := s.planOf r.1
    !(gg.has r.1 (p.tag t line)) &&
    (match p.tiles[r.2.1]? with
     | some tp =>
       !(tp.handling == .replayed && (s.copyOf tp.sector tp.row tp.col).isSome) &&
       (p.job tp (gg.badLines r.1)).anyLine (fun u => u == (t.1, t.2.1, t.2.2.1, t.2.2.2.1, t.2.2.2.2, line))
     | none => false))).map (·.1)

/-- R238: the stored tile that the preload list of the field has come to lacks a line. -/
def State.listedIn (s : State) (g : Nat) (t : CTile) (line : Nat) : Bool :=
  (s.gang g).todo.head? == some t && decide (line < t.lines) &&
  !((s.gang g).has s.harbour.cur.field (s.harbour.cur.tag t line))

/-- CACHE_LINE_FILL (R238, R239): a line arrives in a gang cache: one of the stored tile that the preload list of the field has
come to, or one that a sample of a tile in progress takes, which was fetched on demand (R242). Any other is not fetched, and a
channel that gathers training data serves none (R372). An uncorrectable one counts as zeros for the rest of the field, and is
read again in the next. -/
def execCacheLineFill (t : Cyc) (g moor coat : Nat) (relief : Bool) (col row line : Nat) (bad : Bool) (s : State) :
    Host.Outcome State Fault Refusal :=
  let s := s.at t
  let tile : CTile := (moor, coat, relief, col, row)
  let listed := s.listedIn g tile line
  let wanted := if listed then none else s.wantedIn g tile line
  let field := wanted.getD s.harbour.cur.field
  let p := s.planOf field
  let ch := s.chan (p.ctileChan tile)
  if ¬ s.trowelsOn ∨ (rcoatOf p.scenes moor coat).isNone ∨ ¬ (listed ∨ wanted.isSome) ∨ ch.sweep.isSome then nextOf s
  else
    -- R388: a channel that has failed returns zero bytes, and these are not tallied
    let q := ((s.gang g).take s.time.cyc field (s.gangFuture g) (p.tag tile line) (bad || ch.fails)).settleList s.harbour.cur.field
      s.harbour.cur.lineGen
    let s := (s.modGang g (fun _ => q)).dramMoved 64
    -- R239's wake record is the MEMORY record of R385, which DRAM_LINE_READ emits for the same read
    nextOf (s.countTile field g { miss := b2n wanted.isSome, ecc := b2n (bad && !ch.fails) })

/-! ## A tile is complete -/

/-- R238: every line that a tile's samples take has been in the cache of its gang while the tile was in progress, or counts as
zeros in the field. -/
def State.linesCome (s : State) (g f start : Nat) (p : Plan) (t : TilePlan) : Bool :=
  let gg := s.gang g
  !((p.job t (gg.badLines f)).anyLine (fun u =>
    let tag := p.tag (u.1, u.2.1, u.2.2.1, u.2.2.2.1, u.2.2.2.2.1) u.2.2.2.2.2
    !(gg.has f tag) && !(gg.left.any (fun e => decide (start ≤ e.1) && e.2 == tag))))

/-- TILE_FINISH (R237): the gang's oldest tile in progress is complete: its words go to the ring, and to the replay store
where it is stored (R235). A replayed tile copies its stored words; any other stalls until the lines of its samples have come
(R238). -/
def execTileFinish (t : Cyc) (r : ReadBy) (s : State) : Host.Outcome State Fault Refusal :=
  let s := s.at t
  let gg := s.gang r.k
  match gg.running with
  | [] => nextOf s
  | (f, pos, start) :: rest =>
    let p := s.planOf f
    match p.tiles[pos]? with
    | none => nextOf s
    | some tp =>
      let copies : Bool := tp.handling == .replayed && (s.copyOf tp.sector tp.row tp.col).isSome
      if ¬ s.trowelsOn ∨ ¬ (copies ∨ s.linesCome r.k f start p tp) then nextOf s else
      let clocks := 3 * (s.time.cyc - max start gg.lastEnd)
      let s := s.modGang r.k (fun q => { q with running := rest, lastEnd := s.time.cyc,
                                                done := if s.harbour.cur.field = f then q.done ++ [pos] else q.done })
      match tp.handling, s.copyOf tp.sector tp.row tp.col with
      | .replayed, some c =>
        -- R385: units of the copy read with an uncorrectable error are zeros
        let ws := (List.zip (List.range c.words.length) (s.copyWords tp.sector tp.row tp.col c.words)).map (fun e =>
          if r.bad.contains (e.1 / 16) then 0 else e.2)
        nextOf (((s.putRing f tp.sector tp.row tp.col ws).countTile f r.k { replayed := 1, clocks := clocks }).dramMoved 16384)
      | _, _ =>
        let w := (p.job tp (gg.badLines f)).render
        let s := (s.putRing f tp.sector tp.row tp.col w.1).countTile f r.k (w.2.add { clocks := clocks })
        let s := s.measure p tp w.2.samples
        nextOf (if tp.handling = .stored then s.putCopy p tp w.1 else s)

end Sys2Proof.Machine
end

