-- ==== Sys2Proof/Machine/Skim.lean ====
section
/-! DEFINITION. Skim (R244 to R262): surfaces and lists, the checks of entries, what each operation writes, bollards and
waits, and the commands. -/

namespace Sys2Proof.Machine

/-! ## Surfaces (R244) -/

/-- Surface `id`. -/
def State.surf (s : State) (id : Nat) : Option Surface := Tab.get? s.skim.surfaces id

/-- Surface `id` replaced. -/
def State.setSurf (s : State) (id : Nat) (f : Surface) : State :=
  { s with skim := { s.skim with surfaces := Tab.put s.skim.surfaces id f } }

/-- A byte of a surface's rows (R245). -/
def surfByte (bytes : List (Nat × Byte)) (a : Nat) : Byte := Memory.read bytes (fun _ => 0) a

/-- R244: the byte offset of a pixel. -/
def Surface.off (f : Surface) (x y : Nat) : Nat :=
  y * strideOf f.format f.width + (match f.format with | 0 => 4 * x | 1 => x | _ => x / 8)

/-- R244: the value of a pixel in some bytes of a surface: an RGBA8 word, an A8 byte or an L1 bit. -/
def Surface.pixel (f : Surface) (rd : Nat → Byte) (x y : Nat) : Nat :=
  let a := f.off x y
  match f.format with
  | 0 => leVal [rd a, rd (a + 1), rd (a + 2), rd (a + 3)]
  | 1 => (rd a).toNat
  | _ => b2n (bit (rd a).toNat (x % 8))

/-- R244: a pixel written. -/
def Surface.put (f : Surface) (x y v : Nat) : Surface :=
  let a := f.off x y
  let bs : List Byte := match f.format with
    | 0 => le 4 v
    | 1 => [byte v]
    | _ =>
      let old := (surfByte f.bytes a).toNat
      let m := 2 ^ (x % 8)
      [byte (if v % 2 = 1 then old ||| m else old &&& (255 ^^^ m))]
  { f with bytes := Memory.writeAll (some 0) f.bytes a bs }

/-- R257: a write of a surface recorded, with what it is to change still in place. -/
def Surface.keep (f : Surface) (began : Int) (ended visible : Option Int) (units : List Nat) : Surface :=
  { f with older := f.older ++ [{ began := began, ended := ended, visible := visible, units := units, before := f.bytes }] }

/-- R257, R253: a write of unit `u` began before the tide mark at `stop`. An entry that was under way then had begun some of its
units, in its order of writing: how many is a free value of the mark and the entry. -/
def PastWrite.begunAt (w : PastWrite) (stop : Int) (u : Nat) : Bool :=
  decide (w.began < stop) &&
  (match w.ended with
   | some e => if e < stop then true else !((w.units.drop (Config.entryProgress stop.toNat w.began.toNat)).contains u)
   | none => !((w.units.drop (Config.entryProgress stop.toNat w.began.toNat)).contains u))

/-- R257: the contents of a surface that its unit `u` may show, oldest first: from the one in which the writes that became
visible before `seen` are made up to the one in which every write of the unit that began before `stop` is made. -/
def Surface.versions (f : Surface) (seen stop : Int) (u : Nat) : List (List (Nat × Byte)) :=
  let all := f.older.map (·.before) ++ [f.bytes]
  let surely := f.older.takeWhile (fun w => match w.visible with | some v => decide (v < seen) | none => false)
  let maybe := f.older.takeWhile (fun w => w.begunAt stop u)
  (all.take (maybe.length + 1)).drop surely.length

/-- R254: every write of the running list has become visible at a local time. -/
def Surface.show (f : Surface) (ns : Nat) : Surface :=
  { f with older := f.older.map (fun w => if w.visible.isNone then { w with visible := some (ns : Int) } else w) }

/-! ## Failed channels and masked writes (R385, R388) -/

/-- R388: what of some bytes of a striped buffer a failed channel does not lose; `base` is the buffer's first 4 KiB unit. -/
def State.landed (s : State) (p : Stripe) (base : Nat) (l : List (Nat × Byte)) : List (Nat × Byte) :=
  l.filter (fun e => !(s.chan (p.chan (base + e.1 / 4096))).fails)

/-- R388: what lies of a surface on a failed channel reads as zero bytes. -/
def State.surfLanded (s : State) (f : Surface) : Surface :=
  { f with bytes := s.landed f.stripe 0 f.bytes, older := f.older.map (fun w => { w with before := s.landed f.stripe 0 w.before }) }

/-- R388: what surfaces and Skim lists hold on failed channels reads as zero bytes. -/
def State.zeroFailed (s : State) : State :=
  { s with skim := { s.skim with surfaces := s.skim.surfaces.map (fun p => (p.1, s.surfLanded p.2)),
                                 lists := s.skim.lists.map (fun p => (p.1, s.landed s.dram.lists (32 * p.1) p.2)) } }

/-- R385: a unit whose line could not be read to merge a masked write into it: of its bytes only the written ones stay. -/
def mergedOnly (unit first count : Nat) (l : List (Nat × Byte)) : List (Nat × Byte) :=
  l.filter (fun e => e.1 / 64 != unit || decide (first ≤ e.1 % 64 ∧ e.1 % 64 < first + count))

/-- R254: the writes of the running list become visible. -/
def State.listShown (s : State) : State :=
  { s with skim := { s.skim with surfaces := s.skim.surfaces.map (fun e => (e.1, e.2.show s.ns)) } }

/-! ## Entries (R247 to R249) -/

/-- An entry of a skim list (R248). -/
structure Entry where
  op     : Nat
  flags  : Nat
  dst    : Nat
  src    : Nat
  dx     : Nat
  dy     : Nat
  sx     : Nat
  sy     : Nat
  w      : Nat                         -- width, W_M1 + 1
  h      : Nat                         -- height, H_M1 + 1
  colour : Nat
  param  : Nat
  spare  : Nat                         -- the reserved bytes, as a number

/-- R248: the fields of the 32 bytes of an entry. -/
def entryOf (bs : List Byte) : Entry :=
  { op := num bs 0 1, flags := num bs 1 1, dst := num bs 2 2, src := num bs 4 2, dx := num bs 8 2, dy := num bs 0x0A 2,
    sx := num bs 0x0C 2, sy := num bs 0x0E 2, w := num bs 0x10 2 + 1, h := num bs 0x12 2 + 1, colour := num bs 0x14 4,
    param := num bs 0x18 4, spare := num bs 6 2 + num bs 0x1C 4 }

/-- R247: entry `i` of list `id`. -/
def State.entry (s : State) (id i : Nat) : Entry :=
  entryOf (Memory.readAll (Tab.getD s.skim.lists id []) (fun _ => 0) (32 * i) 32)

/-- R249: BLEND with SOLID. -/
def Entry.solid (e : Entry) : Bool := bit e.flags 2
/-- R249: COPY with ROWS_UP. -/
def Entry.rowsUp (e : Entry) : Bool := bit e.flags 0
/-- R249: COPY with PIXELS_LEFT. -/
def Entry.pixelsLeft (e : Entry) : Bool := bit e.flags 1
/-- R249: GLYPH with OPAQUE. -/
def Entry.opaqueBg (e : Entry) : Bool := bit e.flags 3
/-- R249: GLYPH with GLYPH_BLEND. -/
def Entry.glyphBlend (e : Entry) : Bool := bit e.flags 4
/-- R249: BOLLARD with NOTIFY. -/
def Entry.notifies (e : Entry) : Bool := bit e.flags 5
/-- R249: BOLLARD with WAIT. -/
def Entry.waits (e : Entry) : Bool := bit e.flags 6

/-- R249: the entry has a source surface. -/
def Entry.sourced (e : Entry) : Bool := e.op == 2 || e.op == 4 || (e.op == 3 && !e.solid)

/-- R246, R250: the surfaces an entry names. -/
def Entry.names (e : Entry) : List Nat :=
  if 1 ≤ e.op ∧ e.op ≤ 4 then e.dst :: (if e.sourced then [e.src] else []) else []

/-- R249: fields that the operation does not use are 0, and its flags and PARAM are those of its row. -/
def Entry.fieldsOk (e : Entry) : Bool :=
  let noSrc := e.src == 0 && e.sx == 0 && e.sy == 0
  e.spare == 0 &&
  (match e.op with
   | 1 => noSrc && e.flags == 0 && e.param == 0
   | 2 => decide (e.flags < 4) && e.colour == 0 && e.param == 0
   | 3 => (e.flags == 0 || e.flags == 4) && decide (e.param < 256) && (if e.solid then noSrc else e.colour == 0)
   | 4 => e.flags &&& 0x18 == e.flags && (e.opaqueBg || e.param == 0)
   | 5 => e.flags &&& 0x60 == e.flags && noSrc && e.dst == 0 && e.dx == 0 && e.dy == 0 && e.w == 1 && e.h == 1 && e.colour == 0 &&
          (if e.waits then decide (e.param ≤ 64) else e.param == 0)
   | _ => false)

/-- R250: a rectangle lies inside a surface. -/
def Surface.holds (f : Surface) (x y w h : Nat) : Bool := decide (x + w ≤ f.width ∧ y + h ≤ f.height)

/-- R249: the formats of the operation's surfaces. -/
def Entry.formatsOk (e : Entry) (d : Nat) (src : Option Nat) : Bool :=
  match e.op with
  | 1 => true
  | 2 => src == some d
  | 3 => d == 0 && (e.solid || src == some 0)
  | 4 => src == some 2 && (d == 0 || (d == 1 && !e.glyphBlend))
  | _ => true

/-- R250: the checks of one entry. -/
def State.entryOk (s : State) (e : Entry) : Bool :=
  e.fieldsOk &&
  (if e.op = 5 then true
   else match s.surf e.dst with
     | none => false
     | some d =>
       d.holds e.dx e.dy e.w e.h &&
       (if e.sourced then
          match s.surf e.src with
          | some f => f.holds e.sx e.sy e.w e.h && e.formatsOk d.format (some f.format)
          | none => false
        else e.formatsOk d.format none))

/-- R250: the first entry of a range that fails. -/
def State.firstBad (s : State) (id first count : Nat) : Option Nat :=
  ((List.range count).map (first + ·)).find? (fun i => !(s.entryOk (s.entry id i)))

/-! ## Blending (R252) -/

/-- R252: ENC8: the k whose LIN is nearest, the smaller when two are. -/
def enc8 (x : Nat) : Nat :=
  let d (k : Nat) : Nat := ((lin k : Int) - x).natAbs
  (List.range 256).foldl (fun b k => if d k < d b then k else b) 0

/-- R252: source-over of RGBA8 pixels in linear light. -/
def blend (sp dp ga : Nat) : Nat :=
  let as : Int := rnd ((al (bits sp 24 8) : Int) * al ga) 15
  let ad : Int := al (bits dp 24 8)
  let ao := as + rnd (ad * (32768 - as)) 15
  if ao = 0 then 0
  else
    let ch (lo : Nat) : Nat :=
      let pc := rnd ((lin (bits sp lo 8) : Int) * as) 15 + rnd (rnd ((lin (bits dp lo 8) : Int) * ad) 15 * (32768 - as)) 15
      enc8 (sat (fdiv (pc * 32768 + fdiv ao 2) ao) 0 32768).toNat
    ch 0 + ch 8 * 2 ^ 8 + ch 16 * 2 ^ 16 + (rnd (ao * 255) 15).toNat * 2 ^ 24

/-! ## Operations (R251, R260) -/

/-- R260: a byte of a surface as Skim reads it: units with uncorrectable errors read as zeros. -/
def skimRead (bad : List (Nat × Nat)) (id : Nat) (bytes : List (Nat × Byte)) (a : Nat) : Byte :=
  if bad.contains (id, a / 64) then 0 else surfByte bytes a

/-- The pixels of a rectangle, as (column, row). -/
def rectPixels (w h : Nat) : List (Nat × Nat) := (List.range h).flatMap (fun j => (List.range w).map (fun i => (i, j)))

/-- R251: what an entry writes at pixel (i, j) of its rectangle, from the source and destination pixels as they stood when it
began; none leaves the destination unchanged. -/
def Entry.write (e : Entry) (dfmt : Nat) (sp dp : Nat) : Option Nat :=
  let inFormat (c : Nat) : Nat := match dfmt with | 0 => c | 1 => bits c 24 8 | _ => bits c 31 1
  match e.op with
  | 1 => some (inFormat e.colour)
  | 2 => some sp
  | 3 => some (blend (if e.solid then e.colour else sp) dp (bits e.param 0 8))
  | _ =>
    if sp = 1 then some (if e.glyphBlend then blend e.colour dp 255 else inFormat e.colour)
    else if e.opaqueBg then some (if e.glyphBlend then blend e.param dp 255 else inFormat e.param)
    else none

/-- R253: the two rectangles of an entry lie on one surface and overlap. -/
def Entry.overlaps (e : Entry) : Bool :=
  e.src == e.dst && decide (e.sx < e.dx + e.w ∧ e.dx < e.sx + e.w ∧ e.sy < e.dy + e.h ∧ e.dy < e.sy + e.h)

/-- R253: an entry writes its rows from the bottom up, and the pixels of a row from the right. -/
def Entry.direction (e : Entry) : Bool × Bool :=
  if e.op ≠ 2 ∧ e.op ≠ 3 then (false, false)
  else if e.sourced ∧ e.overlaps then (decide (e.sy < e.dy), decide (e.dy = e.sy ∧ e.sx < e.dx))
  else (e.rowsUp, e.pixelsLeft)

/-- R253: the pixels of an entry in the order in which it writes them. -/
def Entry.order (e : Entry) : List (Nat × Nat) :=
  let cols := if e.direction.2 then (List.range e.w).reverse else List.range e.w
  let rows := if e.direction.1 then (List.range e.h).reverse else List.range e.h
  rows.flatMap (fun j => cols.map (fun i => (i, j)))

/-- R251: the destination surface after an entry. -/
def State.drawn (s : State) (e : Entry) (bad : List (Nat × Nat)) (d : Surface) : Surface :=
  let old := skimRead bad e.dst d.bytes
  let sp (i j : Nat) : Nat :=
    if e.sourced then
      match s.surf e.src with
      | some f => f.pixel (skimRead bad e.src f.bytes) (e.sx + i) (e.sy + j)
      | none => 0
    else 0
  e.order.foldl (fun f p =>
    match e.write d.format (sp p.1 p.2) (d.pixel old (e.dx + p.1) (e.dy + p.2)) with
    | some v => f.put (e.dx + p.1) (e.dy + p.2) v
    | none => f) d

/-- R253, R257: the 64-byte units of its destination that an entry writes, each whole, in the order of writing. -/
def Entry.unitOrder (e : Entry) (d : Surface) : List Nat :=
  e.order.foldl (fun (l : List Nat) p =>
    let u := d.off (e.dx + p.1) (e.dy + p.2) / 64
    if l.contains u then l else l ++ [u]) []

/-- R259: the 64-byte units that a rectangle of a surface touches. -/
def Surface.units (f : Surface) (x y w h : Nat) : List Nat :=
  (List.range h).flatMap (fun j =>
    let a := f.off x (y + j) / 64
    let b := (f.off (x + w - 1) (y + j) + (if f.format = 0 then 3 else 0)) / 64
    (List.range (b + 1 - a)).map (a + ·))

/-- R259: the units an entry reads, with their surfaces, and how many it writes. -/
def State.entryUnits (s : State) (e : Entry) : List (Nat × Nat) × Nat :=
  match s.surf e.dst with
  | none => ([], 0)
  | some d =>
    let w := d.units e.dx e.dy e.w e.h
    let src : List (Nat × Nat) := if e.sourced then
        match s.surf e.src with | some f => (f.units e.sx e.sy e.w e.h).map (fun u => (e.src, u)) | none => []
      else []
    let reads := e.op == 3 || (e.op == 4 && e.glyphBlend)
    (src ++ (if reads then w.map (fun u => (e.dst, u)) else []), w.length)

/-! ## Pieces (R254 to R256, R258) -/

/-- R256: the payload of a bollard's notification (KIND 0) or of a final status (KIND 1). -/
def State.skimBytes (s : State) (id kind index sector : Nat) : List Byte :=
  let st := nth s.skim.stamp sector (0, 0)
  [byte id, byte kind] ++ le 2 index ++ le 2 st.2 ++ [0, 0] ++ le 8 st.1

/-- R258: the piece at the head leaves the queue. -/
def State.pieceGone (s : State) : State :=
  let s := s.listShown
  { s with skim := { s.skim with queue := s.skim.queue.drop 1, running := false, index := 0, waiting := none, released := false,
                                 changed := s.skim.changed - 1 } }

/-- R256: the running list ends with a status and INDEX. -/
def State.listEnds (s : State) (status index : Nat) : State :=
  match s.skim.queue with
  | .list id sector _ _ owner tag :: _ => s.pieceGone.finalEvent owner tag 0x0605 status (s.skimBytes id 1 index sector)
  | _ => s

/-- R255: a wait fails. -/
def State.waitFails (s : State) : State :=
  (({ s with skim := { s.skim with waitMissed := true } } : State).tally T.SKIM_WAIT_MISSED).listEnds Status.BAD_STATE s.skim.index

/-- R255: a wait of the running list on a sector cannot be met: its link is ABSENT, a hard change runs, or one has begun since the
list was accepted. -/
def State.noWait (s : State) (sector : Nat) : Bool :=
  (s.port sector).state == 1 || s.scan.changeT0.isSome || decide (0 < s.skim.changed)

/-- R254, R255, R256: the running list has reached entry `i`: its end, a bollard or an operation. -/
def State.reachEntry (s : State) (i : Nat) : State :=
  let s := { s with skim := { s.skim with index := i, began := s.ns, begunCyc := s.time.cyc, waiting := none, released := false } }
  match s.skim.queue with
  | .list id sector first count _ _ :: _ =>
    if first + count ≤ i then s.listEnds Status.OK i
    else
      let e := s.entry id i
      let s := if e.op = 5 then s.listShown else s
      if e.op = 5 ∧ e.waits then
        if s.noWait sector then s.waitFails
        else { s with skim := { s.skim with waiting := some (e.param, s.ns) } }
      else s
  | _ => s

/-- R255: a port has become ABSENT or a hard change has begun: a wait that this ends fails. -/
def State.checkWait (s : State) : State :=
  match s.skim.queue, s.skim.waiting with
  | .list _ sector .. :: _, some _ => if ¬ s.skim.released ∧ s.noWait sector then s.waitFails else s
  | _, _ => s

/-- R255: the tide mark at a tile row has passed in a field: a wait for it is over, unless its writes became visible at
that instant (R9). -/
def State.tideReleases (s : State) (row : Nat) (ns : Int) : State :=
  match s.skim.waiting with
  | some (r, seen) =>
    if r = row ∧ seen < ns then { s with skim := { s.skim with released := true } } else s
  | none => s

/-- R258: Skim runs: the device serves, and it is not in Lantern (R261). -/
def State.skimOn (s : State) : Bool := s.serving && !s.scan.lantern

/-- SKIM_PIECE_START (R258): the next piece starts. -/
def execSkimPieceStart (t : Cyc) (s : State) : Host.Outcome State Fault Refusal :=
  let s := s.at t
  if ¬ s.skimOn ∨ s.skim.running then nextOf s
  else match s.skim.queue with
    | [] => nextOf s
    | .list _ _ first _ _ _ :: _ => nextOf (State.reachEntry { s with skim := { s.skim with running := true } } first)
    | .clear .. :: _ => nextOf { s with skim := { s.skim with running := true, index := 0, began := s.ns, begunCyc := s.time.cyc } }

/-- R259: bytes counted in the current field. -/
def State.skimCount (s : State) (units : Nat) : State :=
  (({ s with skim := { s.skim with bytesNow := s.skim.bytesNow + 64 * units } } : State).tallyBy T.SKIM_BYTES (64 * units)).dramMoved (64 * units)

/-- R259, R57: Skim has had the time for some bytes, since its entry or clearing began, at its ceiling of 6.0 GB/s (log entry
124). -/
def State.skimPaced (s : State) (bytes : Nat) : Bool :=
  decide (32 * bytes ≤ 30 * s.presentCount * (s.time.cyc - s.skim.begunCyc))

/-- R251, R259, R260: the operation in progress carried out. -/
def State.doEntry (s : State) (e : Entry) (d : Surface) (badUnits : List (Nat × Nat)) : State :=
  let u := s.entryUnits e
  let bad := badUnits.filter (fun x => u.1.contains x)
  let s := s.setSurf e.dst (s.surfLanded (s.drawn e bad (d.keep s.skim.began (some (s.ns : Int)) none (e.unitOrder d))))
  let s := (s.skimCount (u.1.length + u.2)).tally T.SKIM_ENTRIES
  if bad = [] then s
  else ({ s with skim := { s.skim with eccSeen := true } } : State).tallyBy T.SKIM_ECC_LINE bad.length

/-- R259: the bytes that an entry moves. -/
def State.entryBytes (s : State) (e : Entry) : Nat := 64 * ((s.entryUnits e).1.length + (s.entryUnits e).2)

/-- R261: a list that was to stop after its current entry has come to its end. The surfaces of that entry are lost where Lantern
has taken the others (R245). -/
def State.listStops (s : State) (names : List Nat) : State :=
  let gone := if s.skim.dropping then names else []
  let s := s.listEnds Status.BAD_STATE (s.skim.index + 1)
  { s with skim := { s.skim with stopping := false, dropping := false,
                                 surfaces := s.skim.surfaces.filter (fun p => !gone.contains p.1) } }

/-- SKIM_ENTRY_DONE (R251, R257, R259, R260): the entry in progress is complete, no sooner than the Skim ceiling lets it be
(R57). A list that is to stop after it ends (R261). -/
def execSkimEntryDone (t : Cyc) (badUnits : List (Nat × Nat)) (s : State) : Host.Outcome State Fault Refusal :=
  let s := s.at t
  match s.skim.queue with
  | .list id _ _ _ _ _ :: _ =>
    let e := s.entry id s.skim.index
    if ¬ (s.skimOn ∨ s.serving ∧ s.skim.stopping) ∨ ¬ s.skim.running ∨ e.op = 5 then nextOf s
    else match s.surf e.dst with
      | none => nextOf s
      | some d =>
        if ¬ s.skimPaced (s.entryBytes e) then nextOf s
        else
          let r := s.doEntry e d badUnits
          nextOf (if s.skim.stopping then r.listStops e.names else r.reachEntry (s.skim.index + 1))
  | _ => nextOf s

/-- R254, R256: the bollard in progress has completed. -/
def State.bollardDone (s : State) (id sector owner tag : Nat) (e : Entry) : State :=
  let s := s.tally T.SKIM_ENTRIES
  if e.notifies then s.sideEvent owner tag 0x0605 (s.skimBytes id 0 s.skim.index sector) else s

/-- BOLLARD_COMPLETE (R254, R256): the bollard in progress completes, once the tide mark of its wait has passed. -/
def execBollardComplete (t : Cyc) (s : State) : Host.Outcome State Fault Refusal :=
  let s := s.at t
  match s.skim.queue with
  | .list id sector _ _ owner tag :: _ =>
    let e := s.entry id s.skim.index
    if ¬ s.skimOn ∨ ¬ s.skim.running ∨ e.op ≠ 5 ∨ (s.skim.waiting.isSome ∧ ¬ s.skim.released) then nextOf s
    else nextOf ((s.bollardDone id sector owner tag e).reachEntry (s.skim.index + 1))
  | _ => nextOf s

/-- SURFACE_CLEAR_DONE (R245): the clearing of a created surface is complete. -/
def execSurfaceClearDone (t : Cyc) (s : State) : Host.Outcome State Fault Refusal :=
  let s := s.at t
  match s.skim.queue with
  | .clear id owner tag :: _ =>
    if ¬ s.skimOn ∨ ¬ s.skim.running then nextOf s
    else match s.surf id with
      | none => nextOf s
      | some f =>
        if ¬ s.skimPaced (surfaceBytes f.format f.width f.height) then nextOf s else
        let s := s.setSurf id { f with clearing := false, bytes := [], older := [] }
        nextOf ((s.skimCount (surfaceBytes f.format f.width f.height / 64)).pieceGone.finalEvent owner tag 0x0601 Status.OK [])
  | _ => nextOf s

/-- R261: the running list has an operation in progress, which is to be finished before the list stops. -/
def State.entryRuns (s : State) : Bool :=
  match s.skim.queue with
  | .list id .. :: _ =>
    let e := s.entry id s.skim.index
    s.skim.running && e.op != 5 && (s.surf e.dst).isSome
  | _ => false

/-- R261: a bollard in progress that waits for no tide mark completes; the wait of another is given up (log entry 128). -/
def State.lastBollard (s : State) : State :=
  match s.skim.queue with
  | .list id sector _ _ owner tag :: _ =>
    let e := s.entry id s.skim.index
    if s.skim.running ∧ e.op = 5 ∧ (s.skim.waiting.isNone ∨ s.skim.released) then s.bollardDone id sector owner tag e else s
  | _ => s

/-- R261, R389: the running list stops after its current entry, a surface whose clearing has not completed is not
created, and every other piece completes with BAD_STATE. An operation in progress goes on to its end, paced as ever (R259). The
writes of a list that completes are visible (R254). -/
def State.skimEnds (s : State) : State :=
  let on := s.entryRuns
  let s := if on then s else s.lastBollard.listShown
  let q := if on then s.skim.queue.drop 1 else s.skim.queue
  let s := q.foldl (fun (s : State) p =>
    match p with
    | .list id sector first _ owner tag =>
      let head := !on && s.skim.queue.head? == some p && s.skim.running
      let i := if head then s.skim.index + 1 else first
      s.finalEvent owner tag 0x0605 Status.BAD_STATE (s.skimBytes id 1 i sector)
    | .clear _ owner tag => s.finalEvent owner tag 0x0601 Status.BAD_STATE []) s
  let kept := s.skim.surfaces.filter (fun p => !p.2.clearing)
  if on then { s with skim := { s.skim with queue := s.skim.queue.take 1, stopping := true, changed := min s.skim.changed 1, surfaces := kept } }
  else { s with skim := { s.skim with queue := [], running := false, index := 0, waiting := none, released := false, changed := 0,
                                      surfaces := kept } }

/-- R261, R245: Lantern entry: Skim stops, and the surfaces are lost; those of an operation in progress with its end. -/
def State.skimStops (s : State) : State :=
  let s := s.skimEnds
  match s.skim.queue with
  | .list id .. :: _ =>
    let names := (s.entry id s.skim.index).names
    { s with skim := { s.skim with dropping := true, surfaces := s.skim.surfaces.filter (fun p => names.contains p.1) } }
  | _ => { s with skim := { s.skim with surfaces := [] } }

/-! ## Use (R246, R247) -/

/-- R246: a queued or running list or clear names a surface. -/
def State.pieceNames (s : State) (id : Nat) : Bool :=
  s.skim.queue.any (fun p => match p with
    | .list l _ first count _ _ => (List.range count).any (fun i => (s.entry l (first + i)).names.contains id)
    | .clear f _ _ => f == id)

/-- R246: an overlay plane shows a surface, in the commit in force or in a pending one. -/
def State.planeNames (s : State) (id : Nat) : Bool :=
  s.scan.planes.any (fun q => q.surface == id || q.pending.any (fun c => c.surface == id))

/-- R247: a list is queued or running. -/
def State.listQueued (s : State) (id : Nat) : Bool :=
  s.skim.queue.any (fun p => match p with | .list l .. => l == id | .clear .. => false)

/-! ## Commands -/

/-- SURFACE_CREATE: the surface the parameters describe. -/
def newSurface (pl : List Byte) : Surface :=
  { format := num pl 2 1, width := num pl 4 2 + 1, height := num pl 6 2 + 1, clearing := true, bytes := [], older := [] }

/-- SURFACE_CREATE (R244, R245). -/
def cardSurfaceCreate : Card where
  opcode := 0x0601
  deferred := true
  lenOk := lenIs 8
  params := fun _ _ pl =>
    decide (num pl 0 2 ≤ 1023 ∧ num pl 2 1 ≤ 2 ∧ num pl 6 2 ≤ 8191) && zeroAt pl 3 1 && decide ((newSurface pl).size ≤ 512 * 1024 * 1024)
  judge := fun s _ pl =>
    if (s.surf (num pl 0 2)).isSome ∨ s.scan.lantern then Status.BAD_STATE
    else if 2 * 1024 * 1024 * 1024 < s.surfacePool + (newSurface pl).size ∨ 16 ≤ s.skim.queue.length then Status.NO_RESOURCE
    else Status.OK
  run := fun s c pl =>
    -- R165: placed on the channels present now
    let s := s.setSurf (num pl 0 2) { newSurface pl with stripe := { chans := s.present } }
    done { s with skim := { s.skim with queue := s.skim.queue ++ [.clear (num pl 0 2) c.owner c.tag] } }

/-- SURFACE_DESTROY (R246). -/
def cardSurfaceDestroy : Card where
  opcode := 0x0602
  deferred := false
  lenOk := lenIs 4
  params := fun _ _ pl => decide (num pl 0 2 ≤ 1023) && zeroAt pl 2 2
  judge := fun s _ pl =>
    let id := num pl 0 2
    if (s.surf id).isNone then Status.BAD_STATE
    else if s.pieceNames id ∨ s.planeNames id then Status.BUSY
    else Status.OK
  run := fun s _ pl => done { s with skim := { s.skim with surfaces := Tab.del s.skim.surfaces (num pl 0 2) } }

/-- SURFACE_WRITE (R246). -/
def cardSurfaceWrite : Card where
  opcode := 0x0603
  deferred := false
  lenOk := fun pl =>
    let n := num pl 2 2
    decide (8 ≤ pl.length) && decide (1 ≤ n ∧ n ≤ 1024) && decide (pl.length = 4 * cdiv (8 + n) 4)
  params := fun s _ pl =>
    decide (num pl 0 2 ≤ 1023) &&
    (match s.surf (num pl 0 2) with
     | some f => decide (num pl 4 4 + num pl 2 2 ≤ surfaceBytes f.format f.width f.height)
     | none => true)
  judge := fun s _ pl =>
    let id := num pl 0 2
    if (s.surf id).isNone ∨ s.scan.lantern then Status.BAD_STATE
    else if s.pieceNames id then Status.BUSY
    else Status.OK
  run := fun s _ pl =>
    match s.surf (num pl 0 2) with
    | none => done s
    | some f =>
      let n := num pl 4 4; let k := num pl 2 2
      let g := f.keep s.ns (some (s.ns : Int)) (some (s.ns : Int)) ((List.range ((n + k - 1) / 64 + 1 - n / 64)).map (n / 64 + ·))
      done (s.setSurf (num pl 0 2) (s.surfLanded { g with bytes := Memory.writeAll (some 0) g.bytes n (slice pl 8 k) }))

/-- SKIM_LIST_WRITE (R247). -/
def cardSkimListWrite : Card where
  opcode := 0x0604
  deferred := false
  lenOk := fun pl => decide (4 ≤ pl.length) && decide (pl.length = 4 + 32 * num pl 1 1)
  params := fun _ _ pl => decide (1 ≤ num pl 1 1 ∧ num pl 1 1 ≤ 32) && decide (num pl 2 2 + num pl 1 1 ≤ 4096)
  judge := fun s _ pl =>
    if s.scan.lantern then Status.BAD_STATE else if s.listQueued (num pl 0 1) then Status.BUSY else Status.OK
  run := fun s _ pl =>
    let m := Tab.getD s.skim.lists (num pl 0 1) []
    let m := s.landed s.dram.lists (32 * num pl 0 1) (Memory.writeAll (some 0) m (32 * num pl 2 2) (slice pl 4 (32 * num pl 1 1)))
    done { s with skim := { s.skim with lists := Tab.put s.skim.lists (num pl 0 1) m } }

/-- R297: a sector is active: it belongs to the mode in force and its port is not ABSENT. -/
def State.activeSector (s : State) (k : Nat) : Bool := s.usedPorts.contains k && (s.port k).state != 1

/-- SKIM_SUBMIT: the range of its parameters. -/
def submitOk (s : State) (pl : List Byte) : Bool :=
  (if s.scan.lantern then decide (num pl 1 1 < s.mode.sectors) else s.activeSector (num pl 1 1)) && decide (1 ≤ num pl 4 2 ∧ num pl 4 2 ≤ 4096 ∧ num pl 2 2 + num pl 4 2 ≤ 4096) && zeroAt pl 6 2

/-- SKIM_SUBMIT (R250, R255, R258). -/
def cardSkimSubmit : Card where
  opcode := 0x0605
  deferred := true
  lenOk := lenIs 8
  params := fun s _ pl => submitOk s pl &&
    (s.scan.lantern || (s.firstBad (num pl 0 1) (num pl 2 2) (num pl 4 2)).isNone)
  judge := fun s _ pl =>
    if s.scan.lantern then Status.BAD_STATE
    else if s.listQueued (num pl 0 1) then Status.BUSY
    else if 16 ≤ s.skim.queue.length then Status.NO_RESOURCE
    else Status.OK
  why := fun st s _ pl =>
    if st = Status.BAD_PARAM ∧ submitOk s pl then
      match s.firstBad (num pl 0 1) (num pl 2 2) (num pl 4 2) with | some i => le 2 i ++ [0, 0] | none => []
    else []
  ack := fun _ _ _ => zeros 4
  run := fun s c pl =>
    done { s with skim := { s.skim with
      queue := s.skim.queue ++ [.list (num pl 0 1) (num pl 1 1) (num pl 2 2) (num pl 4 2) c.owner c.tag] } }

end Sys2Proof.Machine
end

