-- ==== Sys2Proof/Machine/Window.lean ====
section
/-! DEFINITION. Requests for blanking windows and dropped fields (R185 to R187): judging, queueing, dropping fields. -/

namespace Sys2Proof.Machine

/-- R185: a duration in ns is no longer than `lines` lines at the field rate in force. -/
def State.inLines (s : State) (dur lines : Nat) : Bool := decide (dur * (2088 * s.scan.rate) ≤ lines * 1000000000)

/-- R186, R187: the status with which a request of `dur` ns is met at once: BUSY, or OK when it is queued. `always` tells
a request that only a dropped field can carry. -/
def State.judgeReq (s : State) (dur : Nat) (allowDrop always : Bool) : Nat :=
  let drops := always || !s.inLines dur 35
  if drops ∧ (¬ allowDrop ∨ ¬ s.inLines dur 2123) then Status.BUSY
  else if 8 ≤ s.harbour.requests.length then Status.BUSY
  else Status.OK

/-- R187: a request queued. -/
def State.queueReq (s : State) (kind : TestKind) (owner tag : Nat) : State :=
  let r : TestReq := { kind := kind, slot := owner, tag := tag, accepted := s.time.cyc, acceptNs := s.ns, drop := none }
  { s with harbour := { s.harbour with requests := s.harbour.requests ++ [r] } }

/-- The duration of a request, ns (R313, R391, R536). -/
def TestKind.dur : TestKind → Nat
  | .linkTest _ _ _ _ _ d => (d + 400) * 1000
  | .memCal _ mode => if mode = 0 then 40000 else 1800000
  | .selfTest _ => 4000

/-- The opcode of a request's command. -/
def TestKind.opcode : TestKind → Nat
  | .linkTest .. => 0x0703
  | .memCal .. => 0x0903
  | .selfTest _ => 0x0F01

/-- R185, R391: the ports whose windows a request uses. A calibration uses that of every active port. -/
def TestKind.ports (s : State) : TestKind → List Nat
  | .linkTest p .. => [p]
  | .memCal .. => s.usedPorts.filter (fun p => (s.port p).state == 3)
  | .selfTest sectors => idxs 16 (fun p => bit sectors p)

/-- R186: a request runs in a dropped field only. -/
def TestKind.drops (s : State) (k : TestKind) : Bool :=
  match k with | .linkTest .. => true | _ => !s.inLines k.dur 35

/-- R186: field `n` may be the dropped field of a request: its tick follows acceptance by at least one field period,
and every port it uses has had none for 1,000 ms. -/
def State.mayDrop (s : State) (n : Nat) (r : TestReq) : Bool :=
  let tn : Int := s.tickNs n
  decide ((r.acceptNs : Int) * s.scan.rate + 1000000000 ≤ tn * s.scan.rate) &&
  (r.kind.ports s).all (fun p => match Tab.get? s.harbour.dropLast p with
    | some x => decide ((x : Int) + 1000000000 ≤ tn)
    | none => true)

/-- R186, R187: a request has no dropped field to wait for: it has been given none, or the one it was given has come without
carrying it. -/
def TestReq.unplaced (r : TestReq) (field : Nat) : Bool := match r.drop with | some d => decide (d ≤ field) | none => true

/-- R186: the dropped fields fixed at the scene cut of field `n`, request by request in order of arrival. -/
def State.fixDrops (s : State) (n : Nat) : State :=
  (List.range s.harbour.requests.length).foldl (fun s i =>
    match s.harbour.requests[i]? with
    | some r =>
      if r.unplaced s.lineNow.1 ∧ r.kind.drops s ∧ r.kind.ports s ≠ [] ∧ s.mayDrop n r then
        let ports := r.kind.ports s
        let h := { s.harbour with
          requests := modAt s.harbour.requests i (fun r => { r with drop := some n }),
          dropLast := ports.foldl (fun m p => Tab.put m p (s.tickNs n).toNat) s.harbour.dropLast }
        { s with harbour := h }.tally T.HM_FIELD_DROPPED
      else s
    | none => s) s

/-- R186: the sectors whose field `n` is dropped. -/
def State.droppedIn (s : State) (n : Nat) : List Nat :=
  (s.harbour.requests.filter (fun r => r.drop == some n)).flatMap (fun r => r.kind.ports s)

/-- R187: requests that have found no window after 1,000 ms complete with BUSY. -/
def State.reqTimeouts (s : State) : State :=
  let late (r : TestReq) : Bool := r.unplaced s.lineNow.1 && decide (r.accepted + msCyc 1000 ≤ s.time.cyc)
  let gone := s.harbour.requests.filter late
  let s := { s with harbour := { s.harbour with requests := s.harbour.requests.filter (fun r => !late r) } }
  gone.foldl (fun s r => (s.tally T.HM_TEST_BUSY).finalEvent r.slot r.tag r.kind.opcode Status.BUSY []) s

/-- TEST_REQUEST_TIMEOUT (R187). -/
def execTestRequestTimeout (t : Cyc) (s : State) : Host.Outcome State Fault Refusal := nextOf (s.at t).reqTimeouts

end Sys2Proof.Machine
end

