-- ==== Sys2Proof/Machine/Links.lean ====
section
/-! DEFINITION. The panel links and the backbone lanes (R298 to R322): states, training, loss and absence, tests. -/

namespace Sys2Proof.Machine

/-! ## Records and darkness -/

/-- R309, R306, R315: a link wake record. -/
def State.linkRec (s : State) (port ev cause us : Nat) : State :=
  s.wakeRec 0x0301 ([byte port, byte ev, byte cause, 0] ++ le 4 us)

/-- R468: the zones that lie behind a sector, as fixed at the last commit latch. -/
def State.zonesOf (s : State) (sec : Nat) : List Nat := idxs 16 (fun z => bit (s.latchv (F.ZONE_SECTORS z)) sec)

/-- R469: zones fall, and what is scheduled for them with them. -/
def State.zonesFall (s : State) (zs : List Nat) : State :=
  let on := (List.range 16).map (fun z => nth s.scan.zones z false && !zs.contains z)
  { s with scan := { s.scan with zones := on,
                                 zoneFall := s.scan.zoneFall.filter (fun e => !zs.contains e.1),
                                 sched := s.scan.sched.filter (fun e => !zs.contains e.1) } }

/-- R306, R469: a sector whose port leaves ACTIVE: its zones fall, its light-field plane is off for the rest of the
field, and its tiles leave the next plan. -/
def State.darken (s : State) (p : Nat) : State :=
  let s := s.zonesFall (s.zonesOf p)
  (s.modSector p (fun x => { x with lfOff := true, codes := [] })).modPort p (fun x => { x with planFrom := none, rejoining := false })

/-- The final events of the LINK_RETRAIN commands of a port. -/
def State.retrainsEnd (s : State) (p status state cause : Nat) : State :=
  let cmds := (s.port p).cmds
  cmds.foldl (fun s c => s.finalEvent c.1 c.2 0x0702 status [byte state, byte cause, 0, 0])
    (s.modPort p (fun x => { x with cmds := [] }))

/-- R311: r, the bits per microsecond of a link rate code. -/
def linkBits (rate : Nat) : Nat := match rate with | 1 => 10000 | 2 => 13500 | _ => 20000

/-- LINK_TEST: the payload of the final event. -/
def testPayload (result field bitCount : Nat) (errors injected sinkErr : List Nat) : List Byte :=
  [byte result, 0, 0, 0] ++ le 8 field ++ le 8 bitCount ++ (List.range 4).flatMap (fun k => le 4 (nth errors k 0)) ++
  (List.range 4).flatMap (fun k => le 4 (nth injected k 0)) ++ (List.range 4).flatMap (fun k => le 2 (nth sinkErr k 0xFFFF))

/-- R308: a test that is cut short ends with BAD_STATE. -/
def State.testCut (s : State) (p : Nat) : State :=
  match (s.port p).test with
  | some x => (s.modPort p (fun q => { q with test := none, sinkPattern := none })).finalEvent x.slot x.tag 0x0703 Status.BAD_STATE
      (testPayload 1 x.field 0 [] [] [])
  | none => s

/-- R284, R535: whether every port of the new mode has ended the training that t0 started. -/
def State.checkTrained (s : State) : State :=
  if s.scan.changeT0.isSome ∧ ¬ s.scan.trained ∧ s.power.railSeq ≠ 1 ∧
     s.usedPorts.all (fun p => !((s.port p).training.any (·.first))) then
    let first := s.start.linkSteps && s.start.tLinks == 0
    { s with scan := { s.scan with trained := true },
             start := { s.start with tLinks := if first then s.msSinceReset else s.start.tLinks } }
  else s

/-- R309: a port goes to ABSENT with a cause, the time reached in its phase in µs. -/
def State.portAbsent (s : State) (p cause us : Nat) : State :=
  let s := (s.testCut p).darken p
  let s := s.modPort p (fun x => { x with state := 1, cause := cause, absentEvent := true, training := none })
  let s := (s.tallyUnit T.LNK_ABSENT p 1).linkRec p 0 cause us
  ((s.retrainsEnd p Status.OK 1 cause).checkWait).checkTrained

/-! ## Training (R302 to R305) -/

/-- R320: the wiring of a port: for each logical lane, its physical lane and whether that is inverted. -/
def wiringOf (cfg : List Word) : List (Nat × Bool) :=
  (List.range 4).map (fun k =>
    let lane := if F.LANE_REVERSE.of cfg = 1 then 3 - k else k
    (lane, bit (F.POLARITY.of cfg) lane))

/-- R303: the limit of a phase, ms, and the cause of its failure. -/
def phaseLimit : TrainPhase → Nat × Nat
  | .hpd => (20, 1)
  | .caps => (20, 3)
  | .laneEq => (100, 4)
  | .cds => (50, 5)

/-- R302, R303: a training starts, or the port goes to ABSENT with cause RAILS. `first` tells a training that a hard
change or a Lantern transition starts. -/
def State.startTraining (s : State) (p : Nat) (first : Bool) : State :=
  if ¬ s.railsUp p then s.portAbsent p 6 0
  else
    let tr (x : Port) : Training :=
      { phase := if x.hpd then .caps else .hpd, start := s.time.cyc, pstart := s.time.cyc, cfg := s.obj (0x1900 + p),
        rate := if s.scan.lantern then 1 else s.mode.link, lanes := if s.scan.lantern then 1 else 4, first := first }
    let cfg := s.obj (0x1900 + p)
    s.modPort p (fun x => { x with state := 2, training := some (tr x), trainings := satN (x.trainings + 1) 16,
                                   spread := F.SSC_EN.of cfg == 1, wiring := wiringOf cfg,
                                   noReply := 0, defers := 0, auxFails := 0, newPresets := none,
                                   planFrom := none, rejoining := false })

/-- R306: an in-service retrain of an ACTIVE port. -/
def State.retrain (s : State) (p : Nat) : State :=
  let s := (s.darken p).modPort p (fun x => { x with retrained := true })
  ((s.tallyUnit T.LNK_RETRAIN p 1).linkRec p 2 0 0).startTraining p false

/-- R303, R305: a training has succeeded. A first training of a change waits for tick m (R284); any other rejoins. -/
def State.portActive (s : State) (p : Nat) (tr : Training) : State :=
  let s := s.modPort p (fun x => { x with state := 3, training := none, trainUs := satN (usBetween tr.start s.time.cyc) 32,
                                          rejoining := !tr.first })
  let s := (s.tallyUnit T.LNK_TRAIN_OK p 1).linkRec p 1 0 (usBetween tr.pstart s.time.cyc)
  (s.retrainsEnd p Status.OK 3 (s.port p).cause).checkTrained

/-- A phase of a port's training begins. -/
def State.enterPhase (s : State) (p : Nat) (ph : TrainPhase) : State :=
  let f (tr : Training) : Training := { tr with phase := ph, pstart := s.time.cyc, status := none }
  s.modPort p (fun x => { x with training := x.training.map f, noReply := 0, defers := 0 })

/-- R303: the sink's capability serves a training. -/
def Training.servedBy (tr : Training) (c : SinkCaps) : Bool :=
  c.rev20 && c.coded && c.rates.contains tr.rate && decide (tr.lanes ≤ c.lanes)

/-- R303: a phase of a training has done what it is for. -/
def Port.phaseOk (x : Port) (tr : Training) : Bool :=
  match tr.phase with
  | .hpd => x.hpd
  | .caps => tr.caps.any tr.servedBy
  | .laneEq => tr.status.any (·.eqDone)
  | .cds => tr.status.any (·.cdsDone)

/-- TRAINING_PHASE_DONE (R303): the next phase begins, or the stream does. At the start of LANE_EQ every lane takes
INIT_PRESET as sampled (R320). A phase that has not succeeded within its limit, which ends the interval (R8), does not end
so. -/
def execTrainingPhaseDone (t : Cyc) (p : Nat) (s : State) : Host.Outcome State Fault Refusal :=
  let s := s.at t
  match (s.port p).training with
  | none => nextOf s
  | some tr =>
    if tr.pstart + msCyc (phaseLimit tr.phase).1 ≤ s.time.cyc ∨ ¬ (s.port p).phaseOk tr then nextOf s
    else match tr.phase with
      | .hpd => nextOf (s.enterPhase p .caps)
      | .caps =>
        let q := F.INIT_PRESET.of tr.cfg
        nextOf ((s.modPort p (fun x => { x with presets := [q, q, q, q] })).enterPhase p .laneEq)
      | .laneEq => nextOf (s.enterPhase p .cds)
      | .cds => nextOf (s.portActive p tr)

/-- TRAINING_PHASE_TIMEOUT (R303): a phase has not succeeded within its limit. -/
def execTrainingPhaseTimeout (t : Cyc) (p : Nat) (s : State) : Host.Outcome State Fault Refusal :=
  let s := s.at t
  match (s.port p).training with
  | some tr =>
    if tr.pstart + msCyc (phaseLimit tr.phase).1 ≤ s.time.cyc then
      nextOf (s.portAbsent p (phaseLimit tr.phase).2 (usBetween tr.pstart s.time.cyc))
    else nextOf s
  | none => nextOf s

/-- R303: the interval of a training's lane status reads, cycles: what the sink advertises, and 400 µs at least. -/
def Training.interval (tr : Training) : Nat := usCyc (max 400 (match tr.caps with | some c => c.pollUs | none => 0))

/-- LANE_EQ_POLL (R303): in LANE_EQ and CDS the lane status is read; the presets that the sink requests are applied during
LANE_EQ, whatever PRESET_LOCK holds. -/
def execLaneEqPoll (t : Cyc) (p : Nat) (st : LaneStatus) (s : State) : Host.Outcome State Fault Refusal :=
  let s := s.at t
  match (s.port p).training with
  | none => nextOf s
  | some tr =>
    let reads : Bool := tr.phase == .laneEq || tr.phase == .cds
    if ¬ reads ∨ (tr.polled ≠ 0 ∧ s.time.cyc < tr.polled + tr.interval) then nextOf s
    else
      let ps := (List.range 4).map (fun k => nth st.presets k (nth (s.port p).presets k 0) % 16)
      let read : Training := { tr with status := some st, polled := s.time.cyc }
      nextOf (s.modPort p (fun x => { x with training := some read, presets := if tr.phase = .laneEq then ps else x.presets }))

/-- R304: the AUX transaction of a training has failed. -/
def State.auxFailed (s : State) (p : Nat) : State :=
  match (s.port p).training with
  | some tr => s.portAbsent p 2 (usBetween tr.pstart s.time.cyc)
  | none => s

/-- R303: the sink's receiver capability has been read. -/
def Training.read (tr : Training) (c : SinkCaps) : Training := if tr.phase = .caps then { tr with caps := some c } else tr

/-- AUX_REPLY (R304, R303): an answer ends the transaction, and AUX_DEFER is retried up to 7 times. -/
def execAuxReply (t : Cyc) (p : Nat) (a : AuxAnswer) (s : State) : Host.Outcome State Fault Refusal :=
  let s := s.at t
  match a with
  | .caps c => nextOf (s.modPort p (fun x => { x with noReply := 0, defers := 0, training := x.training.map (·.read c) }))
  | .ack => nextOf (s.modPort p (fun x => { x with noReply := 0, defers := 0 }))
  | .nack => nextOf ((s.modPort p (fun x => { x with noReply := 0, defers := 0 })).auxFailed p)
  | .defer =>
    if 7 ≤ (s.port p).defers then nextOf ((s.modPort p (fun x => { x with noReply := 0, defers := 0 })).auxFailed p)
    else nextOf (s.modPort p (fun x => { x with defers := x.defers + 1 }))

/-- AUX_TIMEOUT (R304): a no-reply is retried up to 3 times. -/
def execAuxTimeout (t : Cyc) (p : Nat) (s : State) : Host.Outcome State Fault Refusal :=
  let s := s.at t
  if 3 ≤ (s.port p).noReply then nextOf ((s.modPort p (fun x => { x with noReply := 0, defers := 0 })).auxFailed p)
  else nextOf (s.modPort p (fun x => { x with noReply := x.noReply + 1 }))

/-! ## HPD (R301, R306, R308) -/

/-- HPD_HIGH (R301, R302, R303): HPD has been high for 2 ms. -/
def execHpdHigh (t : Cyc) (p : Nat) (s : State) : Host.Outcome State Fault Refusal :=
  let s := s.at t
  if ¬ s.alive ∨ 16 ≤ p then nextOf s
  else
    let was := (s.port p).hpd
    let s := s.modPort p (fun x => { x with hpd := true })
    match (s.port p).state, (s.port p).training with
    | 1, _ => nextOf (if was then s else s.startTraining p false)
    | 2, some tr => nextOf (if tr.phase = .hpd then s.enterPhase p .caps else s)
    | _, _ => nextOf s

/-- R306, R308: HPD has been low for 2 ms. -/
def State.unplug (s : State) (p : Nat) : State :=
  let s := s.modPort p (fun x => { x with hpd := false })
  match (s.port p).state, (s.port p).training with
  | 2, some tr => if tr.phase = .hpd then s else s.portAbsent p 1 (usBetween tr.pstart s.time.cyc)
  | 3, _ => s.portAbsent p 1 0
  | 4, _ => s.portAbsent p 1 0
  | _, _ => s

/-- HPD_UNPLUG (R301, R306, R308). -/
def execHpdUnplug (t : Cyc) (p : Nat) (s : State) : Host.Outcome State Fault Refusal :=
  let s := s.at t
  nextOf (if s.alive ∧ p < 16 then s.unplug p else s)

/-- R307: an AUX read in service that failed: the third in a row retrains the port. -/
def State.auxReadFailed (s : State) (p : Nat) : State :=
  let s := (s.tallyUnit T.LNK_AUX_FAIL p 1).modPort p (fun x => { x with auxFails := x.auxFails + 1 })
  if 3 ≤ (s.port p).auxFails then s.retrain p else s

/-- R306: the lane status read after an IRQ_HPD or at the end of a test. -/
def State.checkLanes (s : State) (p : Nat) (st : Option LaneStatus) : State :=
  match st with
  | none => s.auxReadFailed p
  | some x =>
    let s := s.modPort p (fun q => { q with auxFails := 0 })
    if x.locked then s else s.retrain p

/-- IRQ_HPD (R302, R306, R308). -/
def execIrqHpd (t : Cyc) (p : Nat) (st : Option LaneStatus) (s : State) : Host.Outcome State Fault Refusal :=
  let s := s.at t
  match (s.port p).state, (s.port p).test with
  | 1, _ => nextOf (s.startTraining p false)
  | 3, _ => nextOf (s.checkLanes p st)
  | 4, some x => nextOf (if x.back = 3 then s.modPort p (fun q => { q with test := some { x with irq := true } }) else s)
  | _, _ => nextOf s

/-- R184, R181: a port whose BG3 unit may run: an ACTIVE one, in Lantern the lantern port alone. -/
def State.recalPort (s : State) (p : Nat) : Bool :=
  s.serving && (s.port p).state == 3 && (!s.scan.lantern || s.usedPorts.contains p)

/-- R306, R307: what a BG3 unit makes of the sink's status. The limits are those of PanelLinkConfig at the unit (R320). -/
def State.recal (s : State) (p : Nat) (x : LaneStatus) : State :=
  let lim := s.getI F.ERR_LIMIT p
  let err := satN x.symErr 16
  let s := s.modPort p (fun q => { q with auxFails := 0, sinkErr := err })
  if ¬ x.locked ∨ (lim ≠ 0 ∧ lim < x.symErr) then s.retrain p
  else
    let ps := (List.range 4).map (fun k => nth x.presets k (nth (s.port p).presets k 0) % 16)
    if ps ≠ (s.port p).presets ∧ s.getI F.PRESET_LOCK p = 0 then s.modPort p (fun q => { q with newPresets := some ps }) else s

/-- LINK_RECAL_UNIT (R307): a BG3 work unit of an ACTIVE port. -/
def execLinkRecalUnit (t : Cyc) (p : Nat) (st : Option LaneStatus) (s : State) : Host.Outcome State Fault Refusal :=
  let s := s.at t
  if ¬ s.recalPort p then nextOf s
  else match st with
    | none => nextOf ((s.auxReadFailed p).bgDid 3)
    | some x => nextOf ((s.recal p x).bgDid 3)

/-! ## Panel lane tests (R310 to R313) -/

/-- R310: the degree and the middle tap of a PATTERN's polynomial. -/
def prbs (pattern : Nat) : Nat × Nat :=
  match pattern with
  | 0 => (7, 6) | 1 => (9, 5) | 2 => (11, 9) | 3 => (15, 14) | 4 => (23, 18) | _ => (31, 28)

/-- R310: the all-ones state from which a generator of PATTERN starts. -/
def prbsStart (pattern : Nat) : Nat := 2 ^ (prbs pattern).1 - 1

/-- R310: one step of a generator of PATTERN: the bit it sends, and its next state. -/
def prbsStep (pattern g : Nat) : Bool × Nat :=
  let d := prbs pattern
  let b := bit g (d.1 - 1) != bit g (d.2 - 1)
  (b, (2 * g + b2n b) % 2 ^ d.1)

/-- R310: the first bits of PATTERN from a state of its generator. -/
def prbsBits (pattern : Nat) : Nat → Nat → List Bool
  | 0, _ => []
  | n + 1, g => (prbsStep pattern g).1 :: prbsBits pattern n (prbsStep pattern g).2

/-- R310: the lanes of a port that a test runs on. -/
def State.testLanes (s : State) : Nat := if s.scan.lantern then 1 else 4

/-- R310: the link rate of the mode in force, or UHBR10 in Lantern. -/
def State.linkRate (s : State) : Nat := if s.scan.lantern then 1 else s.mode.link

/-- R313: a queued test starts on its port in its work window. -/
def State.beginTest (s : State) (r : TestReq) (field : Nat) : State :=
  match r.kind with
  | .linkTest p mode pattern injectLog lanes d =>
    let x : LaneTest := { slot := r.slot, tag := r.tag, mode := mode, pattern := pattern, injectLog := injectLog, lanes := lanes,
                          gens := List.replicate s.testLanes (prbsStart pattern), rate := s.linkRate, duration := d, back := 3,
                          field := field, irq := false }
    (s.modPort p (fun q => { q with state := 4, test := some x, sinkPattern := some pattern })).tallyUnit T.LNK_TEST_RUN p 1
  | _ => s

/-- R311, R313: the figures of a test that has ended: (BITS, INJECTED per lane, ERRORS per lane, SINK_ERR per lane,
RESULT). A checker counts each injected bit and `errors`, what the lane itself has inverted. -/
def LaneTest.figures (x : LaneTest) (lanes : Nat) (errors sinkErr : List Nat) (readable : Bool) :
    Nat × List Nat × List Nat × List Nat × Nat :=
  let bitCount := x.duration * linkBits x.rate - 64
  let inj := (List.range 4).map (fun k => if k < lanes ∧ bit x.lanes k ∧ x.injectLog ≠ 0 then bitCount / 2 ^ x.injectLog else 0)
  let far := x.mode == 0
  let err := (List.range 4).map (fun k => if far ∨ lanes ≤ k then 0 else satN (nth inj k 0 + nth errors k 0) 32)
  let sink := (List.range 4).map (fun k => if far ∧ readable ∧ k < lanes then nth sinkErr k 0 % 65536 else 0xFFFF)
  (bitCount, inj, err, sink, if far then (if readable then 0 else 2) else (if err = inj then 0 else 1))

/-- LINK_TEST_END (R311, R313): the port returns to where it was, the final event is sent, and after a test in service
the lane status is read. That reading counts as a check of R307 does (log entry 154). -/
def execLinkTestEnd (t : Cyc) (p : Nat) (errors sinkErr : List Nat) (readable : Bool) (status : Option LaneStatus) (s : State) :
    Host.Outcome State Fault Refusal :=
  let s := s.at t
  match (s.port p).test with
  | none => nextOf s
  | some x =>
    let f := x.figures s.testLanes errors sinkErr readable
    let s := s.modPort p (fun q => { q with state := x.back, test := none, sinkPattern := none })
    let s := s.finalEvent x.slot x.tag 0x0703 Status.OK (testPayload f.2.2.2.2 x.field f.1 f.2.2.1 f.2.1 f.2.2.2.1)
    nextOf (if x.back = 3 then s.checkLanes p status else s)

/-! ## Backbone lanes (R314 to R319) -/

/-- R315, R453: a backbone port is enabled. ROM recovery uses both ports. -/
def State.bbEnabled (s : State) (b : Nat) : Bool := s.start.phase == .recovery || s.getI F.BB_ENABLE b == 1

/-- R325: what a port has learned is removed. -/
def State.unlearn (s : State) (b : Nat) : State :=
  { s with bridge := { s.bridge with learned := s.bridge.learned.filter (fun e => e.2.1 != b) } }

/-- R315, R325, R318: a port goes DOWN. -/
def State.bbDown (s : State) (b : Nat) : State :=
  if ¬ s.bbUp b then s
  else
    let s := s.modBb b (fun x => { x with link := 0, downEvent := true, txLpi := false, rxLpi := false, rxOff := false,
                                          frozen := false, dataBlocks := 0 })
    ((s.unlearn b).tallyUnit T.BB_DOWN b 1).linkRec (16 + b) 3 0 0

/-- BB_PORT_UP (R315, R318): block lock and no fault sequence for 10 ms. -/
def execBbPortUp (t : Cyc) (b : Nat) (s : State) : Host.Outcome State Fault Refusal :=
  let s := s.at t
  if s.bridgeOn ∧ b < 2 ∧ s.bbEnabled b ∧ (s.bbp b).link = 0 then
    let s := s.modBb b (fun x => { x with link := 1, frozen := false, dataBlocks := 0, emptyAt := s.time.cyc, txLpi := false,
                                          rxLpi := false })
    nextOf s.pump.exportsOut
  else nextOf s

/-- BB_PORT_DOWN (R315). -/
def execBbPortDown (t : Cyc) (b : Nat) (s : State) : Host.Outcome State Fault Refusal := nextOf ((s.at t).bbDown b)

/-- R318: adaptation freezes. -/
def State.freeze (s : State) (b : Nat) : State :=
  let was := (s.bbp b).frozen
  let s := s.modBb b (fun x => { x with frozen := true, dataBlocks := 0 })
  if was then s else s.tallyUnit T.BB_ADAPT_FREEZE b 1

/-- ADAPT_FREEZE (R318): a run of 64 idle blocks; while frozen it restarts the count of data blocks. -/
def execAdaptFreeze (t : Cyc) (b : Nat) (s : State) : Host.Outcome State Fault Refusal :=
  let s := s.at t
  nextOf (if s.bbUp b then s.freeze b else s)

/-- ADAPT_RESUME (R318): the 256th data block. -/
def execAdaptResume (t : Cyc) (b : Nat) (s : State) : Host.Outcome State Fault Refusal :=
  let s := s.at t
  nextOf (if s.bbUp b ∧ ¬ (s.bbp b).rxLpi then s.modBb b (fun x => { x with frozen := false, dataBlocks := 0 }) else s)

/-- RECEIVE_QUIET_START (R316, R318): with EEE_RX the receiver's front end is powered down. -/
def execReceiveQuietStart (t : Cyc) (b : Nat) (s : State) : Host.Outcome State Fault Refusal :=
  let s := s.at t
  nextOf (if s.bbUp b then (s.modBb b (fun x => { x with rxLpi := true, rxOff := s.getI F.BB_EEE_RX b == 1 })).freeze b else s)

/-- RECEIVE_QUIET_END (R318): adaptation stays frozen and counts data blocks from 0. -/
def execReceiveQuietEnd (t : Cyc) (b : Nat) (s : State) : Host.Outcome State Fault Refusal :=
  let s := s.at t
  nextOf (if (s.bbp b).rxLpi then s.modBb b (fun x => { x with rxLpi := false, rxOff := false, dataBlocks := 0 }) else s)

/-- R316: a gate of a list opens after `now` and not after `stop`. `n` bounds the entries looked at. -/
def gateOpens (ws : List Word) (stop : Nat) : Nat → Nat → Bool
  | 0, _ => false
  | n + 1, now =>
    if fieldOf ws 0 0 1 = 0 ∨ fieldOf ws 0 1 7 = 0 ∨ now < gateBase ws then false
    else
      let e := gateAt ws now
      let next := max (now + 1) e.2.2
      if stop < next then false
      else if (List.range 8).any (fun tc => !bit e.2.1 tc && bit (gateAt ws next).2.1 tc) then true
      else gateOpens ws stop n next

/-- R316, R331: whether a gate of a port opens within a number of ns, under the list in force or under its replacement once that
takes effect; a replacement that takes effect in this time counts as an opening. -/
def State.gateSoon (s : State) (b within : Nat) : Bool :=
  let g := (nth s.bridge.gates b {}).promote s.ns
  match g.next with
  | some (from', _) => decide (from' ≤ s.ns + within) || gateOpens g.words (s.ns + within) 8192 s.ns
  | none => gateOpens g.words (s.ns + within) 8192 s.ns

/-- LPI_ENTRY (R316): the transmit direction has been idle for LPI_ENTRY, and no gate opens soon. -/
def execLpiEntry (t : Cyc) (b : Nat) (s : State) : Host.Outcome State Fault Refusal :=
  let s := s.at t
  let wait := s.getI F.BB_LPI_ENTRY b
  if s.bbUp b ∧ s.getI F.BB_EEE_TX b = 1 ∧ (s.queues b).all (·.isEmpty) ∧ (s.bbp b).emptyAt + usCyc wait ≤ s.time.cyc ∧
     ¬ s.gateSoon b (Config.wakeNs (s.bbGbps b) + wait * 1000) then
    nextOf (s.modBb b (fun x => { x with txLpi := true }))
  else nextOf s

/-- LPI_WAKE (R316): the transmit direction wakes for a queued frame, or one wake time ahead of a gate opening. -/
def execLpiWake (t : Cyc) (b : Nat) (s : State) : Host.Outcome State Fault Refusal :=
  let s := s.at t
  let wake := Config.wakeNs (s.bbGbps b)
  if (s.bbp b).txLpi ∧ (¬ (s.queues b).all (·.isEmpty) ∨ s.gateSoon b wake) then
    nextOf (s.modBb b (fun x => { x with txLpi := false, txWakeAt := s.time.cyc + cdiv (wake * 2) 5, emptyAt := s.time.cyc }))
  else nextOf s

/-- R319: the bits that a lane carries in a millisecond. -/
def bbBits (gbps : Nat) : Nat := if gbps = 25 then 25781250 else 10312500

/-- BB_TEST_END (R319): the final event is sent and the port reacquires. -/
def execBbTestEnd (t : Cyc) (b errors : Nat) (s : State) : Host.Outcome State Fault Refusal :=
  let s := s.at t
  match (s.bbp b).test with
  | none => nextOf s
  | some x =>
    let check := bit x.dir 1
    -- log entry 133
    let err := if check then satN errors 32 else 0
    let n := if check then x.duration * bbBits (s.bbGbps b) - 64 else 0
    let s := s.modBb b (fun q => { q with link := 0, test := none, prbsErr := err })
    let s := s.unlearn b
    nextOf (s.finalEvent x.slot x.tag 0x0705 Status.OK (le 8 n ++ le 4 err))

/-! ## Commands -/

/-- LINK_CONFIGURE (R320). -/
def cardLinkConfigure : Card where
  opcode := 0x0701
  deferred := false
  lenOk := lenIs 12
  params := fun _ _ pl => decide (num pl 0 1 ≤ 15) && zeroAt pl 1 3 && wordsOk 0x1900 (toWords 2 (pl.drop 4))
  run := fun s _ pl => done (s.setObj (0x1900 + num pl 0 1) (toWords 2 (pl.drop 4)))

/-- LINK_RETRAIN (R302, R306, R308). -/
def cardLinkRetrain : Card where
  opcode := 0x0702
  deferred := true
  lenOk := lenIs 4
  params := fun _ _ pl => decide (num pl 0 1 ≤ 15) && zeroAt pl 1 3
  judge := fun s _ pl =>
    match (s.port (num pl 0 1)).state with
    | 0 | 4 => Status.BAD_STATE
    | 2 => Status.BUSY
    | _ => Status.OK
  run := fun s c pl =>
    let p := num pl 0 1
    let was := (s.port p).state
    let s := s.modPort p (fun x => { x with cmds := x.cmds ++ [(c.owner, c.tag)] })
    done (if was = 3 then s.retrain p else s.startTraining p false)

/-- LINK_TEST: the fields within their ranges; RATE 0 needs a mode or Lantern, and any other RATE a port out of
service. -/
def State.testOk (s : State) (pl : List Byte) : Bool :=
  let il := num pl 3 1
  decide (num pl 0 1 ≤ 15 ∧ num pl 1 1 ≤ 1 ∧ num pl 2 1 ≤ 5 ∧ (il = 0 ∨ (10 ≤ il ∧ il ≤ 30)) ∧ num pl 4 1 < 16 ∧
    num pl 5 1 ≤ 1 ∧ num pl 6 1 ≤ 3 ∧ 1 ≤ num pl 8 4 ∧ num pl 8 4 ≤ 10000000) && zeroAt pl 7 1 &&
  (if num pl 6 1 = 0 then s.linkRate != 0 else (s.port (num pl 0 1)).state != 3)

/-- R310, R312, R313: whether the sink can do its part of a test. -/
def State.sinkOk (s : State) (pl : List Byte) : Bool :=
  let p := num pl 0 1
  num pl 1 1 == 1 || (((s.port p).state == 3 || Config.sinkAnswers s.time.freeCount p) &&
    Config.sinkSupports s.time.freeCount p (num pl 2 1))

/-- LINK_TEST (R310 to R313). -/
def cardLinkTest : Card where
  opcode := 0x0703
  deferred := true
  lenOk := lenIs 12
  params := fun s _ pl => s.testOk pl
  judge := fun s _ pl =>
    let st := (s.port (num pl 0 1)).state
    if st = 2 ∨ st = 4 then Status.BUSY
    else if ¬ s.sinkOk pl then Status.BAD_STATE
    else if st = 3 then s.judgeReq ((num pl 8 4 + 400) * 1000) (num pl 5 1 == 1) true
    else Status.OK
  refused := fun st s _ pl =>
    let s := s.took
    if st = Status.BUSY ∧ (s.port (num pl 0 1)).state = 3 then s.tally T.HM_TEST_BUSY else s
  run := fun s c pl =>
    let p := num pl 0 1
    let s := s.took
    let rate := if num pl 6 1 = 0 then s.linkRate else num pl 6 1
    if (s.port p).state = 3 then
      done (s.queueReq (.linkTest p (num pl 1 1) (num pl 2 1) (num pl 3 1) (num pl 4 1) (num pl 8 4)) c.owner c.tag)
    else
      let x : LaneTest := { slot := c.owner, tag := c.tag, mode := num pl 1 1, pattern := num pl 2 1, injectLog := num pl 3 1,
                            gens := List.replicate s.testLanes (prbsStart (num pl 2 1)), lanes := num pl 4 1, rate := rate,
                            duration := num pl 8 4, back := (s.port p).state, field := 0, irq := false }
      let sets := x.mode = 0 ∨ Config.sinkAnswers s.time.freeCount p
      done ((s.modPort p (fun q => { q with state := 4, test := some x,
                                             sinkPattern := if sets then some x.pattern else none })).tallyUnit T.LNK_TEST_RUN p 1)

/-- R315, BB_CONFIGURE: what of word 0x00 takes the port DOWN when it changes: ENABLE, RATE, FEC and polarity. -/
def bbKey (ws : List Word) : Nat := (nth ws 0 0).toNat &&& 0xCF

/-- BB_CONFIGURE: whether it changes what takes the port DOWN. -/
def State.bbChanges (s : State) (pl : List Byte) : Bool :=
  decide (num pl 0 1 ≤ 1) && bbKey (s.obj (0x1910 + num pl 0 1)) != bbKey (toWords 2 (pl.drop 4))

/-- BB_CONFIGURE (R315, R322). A direction that is idle or quiet when EEE_TX or EEE_RX changes stays so up to its next wake or the
end of the quiet period (log entry 155). -/
def cardBbConfigure : Card where
  opcode := 0x0704
  deferred := false
  lenOk := lenIs 12
  presence := fun s _ pl => if s.bbChanges pl then 1 else 0
  params := fun _ _ pl =>
    let ws := toWords 2 (pl.drop 4)
    let fec := fieldOf ws 0 2 2
    decide (num pl 0 1 ≤ 1) && zeroAt pl 1 3 && wordsOk 0x1910 ws &&
    decide (fec ≠ 3 ∧ (fec = 2 → fieldOf ws 0 1 1 = 1) ∧ 1 ≤ fieldOf ws 1 0 16)
  run := fun s _ pl =>
    let b := num pl 0 1
    let changes := s.bbChanges pl
    let s := s.setObj (0x1910 + b) (toWords 2 (pl.drop 4))
    done (if changes then s.bbDown b else s)

/-- BB_TEST (R319). -/
def cardBbTest : Card where
  opcode := 0x0705
  deferred := true
  lenOk := lenIs 8
  presence := fun _ _ _ => 1
  params := fun _ _ pl =>
    decide (num pl 0 1 ≤ 1 ∧ num pl 1 1 ≤ 1 ∧ 1 ≤ num pl 2 1 ∧ num pl 2 1 ≤ 3 ∧ 1 ≤ num pl 4 4 ∧ num pl 4 4 ≤ 60000) &&
    zeroAt pl 3 1
  judge := fun s _ pl =>
    if s.getI F.BB_ENABLE (num pl 0 1) = 0 then Status.BAD_STATE
    else if (s.bbp (num pl 0 1)).test.isSome then Status.BUSY
    else Status.OK
  run := fun s c pl =>
    let b := num pl 0 1
    let pattern := if num pl 1 1 = 0 then 5 else 1
    let x : BbTest := { slot := c.owner, tag := c.tag, pattern := num pl 1 1, gen := prbsStart pattern, dir := num pl 2 1,
                        duration := num pl 4 4 }
    done ((s.modBb b (fun q => { q with link := 2, test := some x, txLpi := false, rxLpi := false, rxOff := false,
                                        frozen := false, dataBlocks := 0 })).unlearn b)

/-- LINK_QUERY (R321, R322). -/
def cardLinkQuery : Card where
  opcode := 0x0706
  deferred := false
  lenOk := lenIs 4
  params := fun _ _ pl =>
    decide (num pl 0 1 ≤ 1) && decide (num pl 1 1 ≤ if num pl 0 1 = 0 then 15 else 1) && zeroAt pl 2 2
  run := fun s _ pl =>
    let k := num pl 1 1
    if num pl 0 1 = 0 then (s, Status.OK, ofWords (s.obj (0x1900 + k)) ++ slice (s.statusBytes (0x2B00 + k)) 0 24)
    else (s, Status.OK, ofWords (s.obj (0x1910 + k)) ++ slice (s.statusBytes (0x2B10 + k)) 0 24)

end Sys2Proof.Machine
end

