-- ==== Sys2Proof/Machine/Memory.lean ====
section
/-! DEFINITION. The dynamic memory (R365 to R394): the address map, training data, frequency changes, refresh, Breakwater,
low power, errors, and what a failed channel takes with it. -/

namespace Sys2Proof.Machine

/-! ## Address map (R366 to R369) -/

/-- R369: a bank mask as sampled at start, number 0 to 3 for BG0, BG1, BA0 and BA1. -/
def State.bankMask (s : State) (k : Nat) : Nat :=
  fieldOf (if s.cfg.startMem = [] then resetWords 0x1D00 else s.cfg.startMem) k 0 24

/-- R366: the page bits of a density. -/
def pageBits (density : Nat) : Nat := 18 + density

/-- R368: page and column line of a data line. -/
def pageOf (line : Nat) : Nat × Nat := (line / 31, line % 31)

/-- R369: the bank of a page: 4 × BG + BA. -/
def State.bankOf (s : State) (page : Nat) : Nat :=
  let par (k : Nat) : Nat := parity 24 ((page % 2 ^ pageBits s.density) &&& s.bankMask k)
  4 * (2 * par 1 + par 0) + 2 * par 3 + par 2

/-- R366: the row of a page, and its rank. -/
def rowOf (density page : Nat) : Nat × Nat :=
  (bits page 4 (if density = 1 then 15 else 16), if density = 3 then bits page 20 1 else 0)

/-- R511: a memory wake record. -/
def State.memRec (s : State) (ev ch bank req row col cause : Nat) : State :=
  s.wakeRec 0x0501 ([byte ev, byte ch, byte bank, byte req] ++ le 4 row ++ [byte col, byte cause, 0, 0])

/-! ## Failure in service (R388) -/

/-- R388: a present channel fails in service. -/
def State.failChannel (s : State) (ch cause : Nat) : State :=
  if ¬ (s.chan ch).serves then s
  else
    let s := s.modChan ch (fun c => { c with fails := true, cause := cause, sweep := none, sweepNext := none, change := none })
    let s := { s with dram := { s.dram with failed := true } }
    ((s.tally T.MEM_CHANNEL_FAILED).memRec 2 ch 0 0 0 0 cause).zeroFailed

/-! ## Sweeps (R371, R372, R375) -/

/-- Runs of passing codes: (index of the first, length). `i` is the index of the list's head. -/
def passRuns (i : Nat) : List Bool → List (Nat × Nat)
  | [] => []
  | false :: r => passRuns (i + 1) r
  | true :: r =>
    match passRuns (i + 1) r with
    | (j, n) :: m => if j = i + 1 then (i, n + 1) :: m else (i, 1) :: (j, n) :: m
    | [] => [(i, 1)]

/-- R371: the set-point and the length of the longest run, the lower codes winning ties; none below 16 codes. -/
def eyeOf (l : SweepLane) : Option (Nat × Nat) :=
  match minBy? (fun a b => decide (b.2 < a.2)) (passRuns 0 l.passes) with
  | some (i, n) => if n < 16 then none else some (l.firstCode + i + (n - 1) / 2, n)
  | none => none

/-- R372: of the codes of a sweep those within 8 of a set-point, the 17 that a re-centre checks. -/
def nearLane (set : Nat) (l : SweepLane) : SweepLane :=
  let low := max l.firstCode (set - 8)
  { firstCode := low, passes := (l.passes.drop (low - l.firstCode)).take (set + 9 - low) }

/-- R372: the centre of the passing run, within those codes, that contains a set-point; none where the set-point fails. -/
def centreOf (set : Nat) (lane : SweepLane) : Option Nat :=
  let l := nearLane set lane
  let i := set - l.firstCode
  match (passRuns 0 l.passes).find? (fun r => decide (l.firstCode ≤ set ∧ r.1 ≤ i ∧ i < r.1 + r.2)) with
  | some (j, n) => some (l.firstCode + j + (n - 1) / 2)
  | none => none

/-- All of a list of options. -/
def allSome {α : Type} : List (Option α) → Option (List α)
  | [] => some []
  | none :: _ => none
  | some a :: r => (allSome r).map (a :: ·)

/-- The stored set-points of a frequency set-point. -/
def Channel.sets (c : Channel) (fsp : Nat) : List Nat := if fsp = 0 then c.setH else c.setL

/-- New set-points of the current frequency set-point stored. -/
def Channel.putSets (c : Channel) (l : List Nat) : Channel := if c.fsp = 0 then { c with setH := l } else { c with setL := l }

/-- R379: every owed refresh issued. -/
def Channel.refreshOwed (c : Channel) (banks : Nat) : Channel :=
  if c.owed ≤ 0 then c else { c with owed := 0, target := (c.target + c.owed.toNat) % banks }

/-- R366, R376: the banks of a channel that refresh goes round. -/
def State.refreshBanks (s : State) : Nat := if s.density = 3 then 32 else 16

/-- R384, R379: a channel goes to self-refresh. -/
def State.selfRefresh (s : State) (ch : Nat) : State :=
  s.modChan ch (fun c => { c.refreshOwed s.refreshBanks with state := 3 })

/-- R391: a channel of a calibration has ended; with the last one the final event is sent. -/
def State.calEnd (s : State) (ch : Nat) (ok : Bool) : State :=
  match s.dram.cal with
  | some (owner, tag, field, running, passed, failed) =>
    if ¬ bit running ch then s
    else
      let running := running - 2 ^ ch
      let passed := if ok then passed + 2 ^ ch else passed
      let failed := if ok then failed else failed + 2 ^ ch
      if running = 0 then
        ({ s with dram := { s.dram with cal := none } } : State).finalEvent owner tag 0x0903 Status.OK
          (le 8 field ++ le 2 passed ++ le 2 failed)
      else { s with dram := { s.dram with cal := some (owner, tag, field, running, passed, failed) } }
  | none => s

/-- R372: a BG2 unit has ended: the next one takes the next channel. -/
def State.recalEnd (s : State) (ch : Nat) : State :=
  let s := s.bgDid 2
  { s with dram := { s.dram with recalNext := (s.nextChan ch).1 } }

/-- R375: a frequency change is wanted on a channel: held while it gathers data. -/
def State.wantChange (s : State) (ch target : Nat) : State :=
  s.modChan ch (fun c =>
    match c.change with
    | some (.switching _) | some (.retraining _) => c   -- R375: held behind the short retrain
    | _ => if c.fsp = target then { c with change := none }
           else { c with change := some (if c.sweep.isSome then .held target else .wanted target) })

/-- R374, R375, R384: a frequency change has completed on a channel: a sweep that waited begins; a set-point wanted
since is changed to; and on the way into Lantern the channel goes to self-refresh. -/
def State.changeEnd (s : State) (ch : Nat) : State :=
  let s := s.modChan ch (fun c => { c with change := none, sweep := c.sweepNext, sweepNext := none })
  let c := s.chan ch
  -- R375: a change asked for since was held while the channel gathered the data of the short retrain
  if c.fsp ≠ s.dram.target then (s.wantChange ch s.dram.target).tally T.MEM_FREQ_HELD
  else if s.dram.selfRefresh ∧ c.sweep.isNone then s.selfRefresh ch
  else s

/-- R372, R375: a sweep of a channel has ended, with or without an eye. -/
def State.sweepEnd (s : State) (ch : Nat) (w : Sweep) (ok : Bool) : State :=
  let s := match w.why with
    | .unit => s.recalEnd ch
    | .request => s.calEnd ch ok
    | .retrain => s
  if ¬ ok then s.failChannel ch 5
  else
    let s := s.modChan ch (fun c => { c with sweep := none })
    match w.why, (s.chan ch).change with
    | .retrain, _ => s.changeEnd ch
    | _, some (.held g) => (s.modChan ch (fun c => { c with change := some (.wanted g) })).tally T.MEM_FREQ_HELD
    | _, _ =>
      -- a sweep that waited for this one begins
      let s := s.modChan ch (fun c => { c with sweep := c.sweepNext, sweepNext := none })
      if s.dram.selfRefresh ∧ (s.chan ch).fsp = s.dram.target ∧ (s.chan ch).sweep.isNone then s.selfRefresh ch else s

/-- DRAM_SWEEP_DONE (R371, R372, R375): a re-centre or a full sweep completes. -/
def execDramSweepDone (t : Cyc) (ch : Nat) (lanes : List SweepLane) (s : State) : Host.Outcome State Fault Refusal :=
  let s := s.at t
  let c := s.chan ch
  match c.sweep with
  | none => nextOf s
  | some w =>
    if ¬ c.serves then nextOf s
    else if w.full then
      match allSome ((List.range 4).map (fun k => eyeOf (nth lanes k { firstCode := 0, passes := [] }))) with
      | some l =>
        let s := s.modChan ch (fun c => { c.putSets (l.map (·.1)) with eyeMin := (l.map (·.2)).foldl min 128 })
        nextOf (s.sweepEnd ch w true)
      | none => nextOf (s.sweepEnd ch w false)
    else
      let set (k : Nat) : Nat := nth (c.sets c.fsp) k 0
      match allSome ((List.range 4).map (fun k => centreOf (set k) (nth lanes k { firstCode := 0, passes := [] }))) with
      | some l => nextOf ((s.modChan ch (fun c => c.putSets l)).sweepEnd ch w true)
      | none => nextOf (s.modChan ch (fun c => { c with sweep := some { w with full := true } }))

/-- R375, R372: a sweep begins on a channel, or waits for a frequency change or for the sweep that runs; it leaves a low-power
state for it. -/
def State.startSweep (s : State) (ch : Nat) (w : Sweep) : State :=
  s.modChan ch (fun c =>
    let c := if c.state = 3 then { c with state := 1, owed := 0 } else if c.state = 2 then { c with state := 1 } else c
    match c.change with
    | some (.switching _) | some (.retraining _) => { c with sweepNext := some w }
    | _ => if c.sweep.isSome then { c with sweepNext := some w } else { c with sweep := some w })

/-- DRAM_RECAL_UNIT (R372, R180): a BG2 unit begins on the next present channel, where no older scrub unit waits for it (R181);
it does not run in Lantern (R184). -/
def execDramRecalUnit (t : Cyc) (s : State) : Host.Outcome State Fault Refusal :=
  let s := s.at t
  let ch := s.recalTarget
  let c := s.chan ch
  if s.serving ∧ ¬ s.scan.lantern ∧ ¬ s.dram.selfRefresh ∧ c.serves ∧ c.sweep.isNone ∧ c.sweepNext.isNone ∧
     ¬ (s.scrubTarget.1 = ch ∧ s.bgYields 2 1) then
    -- R181: the channel's share of 40 µs, from what the plan leaves of it or from the slice
    match s.bgUnit 2 ch (chanCeiling s.scan.rate s.presentCount * s.scan.rate * 40 / 1000000) with
    | some s => nextOf (State.startSweep { s with dram := { s.dram with recalNext := ch } } ch { why := .unit, full := false })
    | none => nextOf s
  else nextOf s

/-! ## Frequency changes (R373 to R375, R384) -/

/-- R373, R384: Lantern begins or ends: every present channel changes its set-point, and in Lantern goes on to
self-refresh; at its end it leaves self-refresh first, with OWED 0 (R379). -/
def State.setFsp (s : State) (target : Nat) (selfRefresh : Bool) : State :=
  let s := { s with dram := { s.dram with target := target, selfRefresh := selfRefresh } }
  s.present.foldl (fun s ch =>
    let s := s.modChan ch (fun c => if c.state = 3 ∧ ¬ selfRefresh then { c with state := 1, owed := 0 } else c)
    if (s.chan ch).fails then s
    else
      let s := s.wantChange ch target
      if selfRefresh ∧ (s.chan ch).fsp = target ∧ (s.chan ch).change.isNone ∧ (s.chan ch).sweep.isNone then s.selfRefresh ch
      else s) s

/-- FREQUENCY_CHANGE_START (R374): with an empty queue and no sweep, every owed refresh is issued and the switch begins. -/
def execFrequencyChangeStart (t : Cyc) (ch : Nat) (s : State) : Host.Outcome State Fault Refusal :=
  let s := s.at t
  let c := s.chan ch
  match c.change with
  | some (.wanted g) =>
    if c.serves ∧ c.sweep.isNone then
      nextOf (s.modChan ch (fun c => { c.refreshOwed s.refreshBanks with
        change := some (.switching g), state := 1, owed := if c.state = 3 then 0 else min c.owed 0 }))
    else nextOf s
  | _ => nextOf s

/-- FREQUENCY_SWITCH_DONE (R374): the set-point is switched, and the short retrain begins. -/
def execFrequencySwitchDone (t : Cyc) (ch : Nat) (s : State) : Host.Outcome State Fault Refusal :=
  let s := s.at t
  match (s.chan ch).change with
  | some (.switching g) =>
    nextOf (s.modChan ch (fun c => { c with fsp := g, change := some (.retraining g), sweep := some { why := .retrain, full := false } }))
  | _ => nextOf s

/-! ## Refresh (R376 to R379) -/

/-- One refresh issued to the target bank. -/
def Channel.refpb (c : Channel) (banks : Nat) : Channel := { c with owed := c.owed - 1, target := (c.target + 1) % banks }

/-- REFRESH_DUE (R376, R377): OWED rises, and at 6 the refresh is forced. -/
def execRefreshDue (t : Cyc) (ch : Nat) (s : State) : Host.Outcome State Fault Refusal :=
  let s := s.at t
  let c := s.chan ch
  if ¬ c.serves ∨ c.state = 3 then nextOf s
  else if 6 ≤ c.owed + 1 then
    nextOf ((s.modChan ch (fun c => { c with owed := c.owed + 1 }.refpb s.refreshBanks)).tally T.MEM_REFRESH_FORCED)
  else nextOf (s.modChan ch (fun c => { c with owed := c.owed + 1 }))

/-- REFPB_ISSUE (R376): the target bank is idle and OWED is above -8. -/
def execRefpbIssue (t : Cyc) (ch : Nat) (s : State) : Host.Outcome State Fault Refusal :=
  let s := s.at t
  let c := s.chan ch
  nextOf (if c.free ∧ c.state ≠ 3 ∧ -8 < c.owed then s.modChan ch (fun c => c.refpb s.refreshBanks) else s)

/-- MR4_READ (R376, R388): two consecutive reads without a response fail the channel. -/
def execMr4Read (t : Cyc) (ch : Nat) (rate : Option Nat) (s : State) : Host.Outcome State Fault Refusal :=
  let s := s.at t
  if ¬ (s.chan ch).serves then nextOf s
  else match rate with
    | some r => nextOf (s.modChan ch (fun c => { c with mr4 := r % 8, mr4Miss := 0 }))
    | none =>
      let s := s.modChan ch (fun c => { c with mr4Miss := c.mr4Miss + 1 })
      nextOf (if 2 ≤ (s.chan ch).mr4Miss then s.failChannel ch 1 else s)

/-! ## Breakwater (R381, R382) -/

/-- R381: a bank's table after an activation, with the count that the activation reached. -/
def bwCount (l : List BwEntry) (group req : Nat) : List BwEntry × Nat :=
  match l.findIdx? (fun e => e.group == group && e.req == req) with
  | some i =>
    let n := (nth l i { group := 0, req := 0, count := 0 }).count + 1
    (modAt l i (fun e => { e with count := n }), n)
  | none =>
    if l.length < 4 then (l ++ [{ group := group, req := req, count := 1 }], 1)
    else
      match minBy? (fun (a b : Nat × Nat) => decide (a.2 < b.2)) (List.zip (List.range l.length) (l.map (·.count))) with
      | some (i, m) => (modAt l i (fun _ => { group := group, req := req, count := m + 1 }), m + 1)
      | none => (l, 0)

/-- R382: what a trigger does. Scan-out, requester 16, is never throttled. -/
def State.breakwater (s : State) (ch bank group req : Nat) : State :=
  let cap : BwCap := { bank := bank, req := req, windows := s.memv F.BW_HOLD }
  let s := s.modChan ch (fun c =>
    let rest := c.caps.filter (fun k => !(k.bank == bank && k.req == req))
    { c with rfm := c.rfm + 1, caps := if req = 16 then c.caps else rest ++ [cap] })
  let s := { s with dram := { s.dram with breakwater := true } }
  (s.tally T.MEM_BREAKWATER).memRec 1 ch bank req group 0 0

/-- R382: the activations of a requester to a bank in the current window. -/
def Channel.actCount (c : Channel) (bank req : Nat) : Nat :=
  match c.acts.find? (fun e => e.1 == bank && e.2.1 == req) with | some e => e.2.2 | none => 0

/-- R382: an activation counted in the current window. -/
def Channel.countAct (c : Channel) (bank req : Nat) : Channel :=
  { c with acts := c.acts.filter (fun e => !(e.1 == bank && e.2.1 == req)) ++ [(bank, req, c.actCount bank req + 1)] }

/-- R382: a cap holds an activation back. -/
def State.capped (s : State) (ch bank req : Nat) : Bool :=
  (s.chan ch).caps.any (fun k => k.bank == bank && k.req == req) && decide (s.memv F.BW_CAP ≤ (s.chan ch).actCount bank req)

/-- R381, R382: at each multiple of 16,000 ns of local time the tables of all banks clear, and the caps come to their next
window. -/
def State.bwClear (s : State) : State :=
  let w := s.ns / 16000
  if w = s.dram.bwWindow then s
  else
    let gone := w - s.dram.bwWindow
    let next (k : BwCap) : Option BwCap := if k.windows < gone then none else some { k with windows := k.windows - gone }
    let f (c : Channel) : Channel := { c with banks := List.replicate 32 [], caps := c.caps.filterMap next, acts := [] }
    { s with dram := { s.dram with channels := s.dram.channels.map f, bwWindow := w } }

/-- ROW_ACTIVATION (R381, R382): the table of the bank counts it; a capped requester waits. -/
def execRowActivation (t : Cyc) (ch bank row req : Nat) (s : State) : Host.Outcome State Fault Refusal :=
  let s := (s.at t).bwClear
  if ¬ (s.chan ch).free ∨ 32 ≤ bank ∨ s.capped ch bank req then nextOf s
  else
    let s := s.request ch
    let r := bwCount (nth (s.chan ch).banks bank []) (row / 64) req
    let s := s.modChan ch (fun c => { c with banks := modAt c.banks bank (fun _ => r.1) }.countAct bank req)
    let due := (s.chan ch).rfmNeed && Config.rfmDue s.time.freeCount ch
    let s := s.took
    let s := if due then (s.modChan ch (fun c => { c with rfm := c.rfm + 1 })).tally T.MEM_RFM else s
    nextOf (if r.2 = s.memv F.BW_TRIGGER then s.breakwater ch bank (row / 64) req else s)

/-- BREAKWATER_WINDOW_CLEAR (R381, R382): a window of 16,000 ns of local time ends. -/
def execBreakwaterWindowClear (t : Cyc) (s : State) : Host.Outcome State Fault Refusal := nextOf (s.at t).bwClear

/-- R383: a channel's queue has been empty for some ns. -/
def State.idleFor (s : State) (ch ns : Nat) : Bool := decide (2 * ns ≤ 5 * (s.time.cyc - (s.chan ch).lastReq))

/-! ## Low power (R383, R384) -/

/-- POWER_DOWN_ENTRY (R383): an idle channel enters power-down or self-refresh. -/
def execPowerDownEntry (t : Cyc) (ch : Nat) (kind : LowPower) (s : State) : Host.Outcome State Fault Refusal :=
  let s := s.at t
  let c := s.chan ch
  if ¬ c.serves ∨ c.sweep.isSome ∨ c.change.isSome then nextOf s
  else match kind with
    | .powerDown =>
      nextOf (if s.memv F.PD_EN = 1 ∧ c.state = 1 ∧ 3 ≤ s.scan.slack ∧ s.idleFor ch (s.memv F.PD_IDLE_NS) then s.modChan ch (fun c => { c with state := 2 }) else s)
    | .selfRefresh =>
      nextOf (if s.memv F.SR_EN = 1 ∧ 15 ≤ s.scan.slack ∧ c.owed ≤ 0 ∧ s.idleFor ch (1000 * s.memv F.SR_IDLE_US) then s.modChan ch (fun c => { c with state := 3 }) else s)

/-- LOW_POWER_EXIT (R383, R384): a request or a low SLACK brings a channel back, but not in Lantern. -/
def execLowPowerExit (t : Cyc) (ch : Nat) (s : State) : Host.Outcome State Fault Refusal :=
  let s := s.at t
  let c := s.chan ch
  if ¬ c.serves ∨ s.dram.selfRefresh then nextOf s
  else if c.state = 3 then nextOf (s.modChan ch (fun c => { c with state := 1, owed := 0 }))
  else if c.state = 2 then nextOf (s.modChan ch (fun c => { c with state := 1 }))
  else nextOf s

/-! ## Errors and scrubbing (R385, R386) -/

/-- R385: a line read with a single-bit error. -/
def State.lineCorrected (s : State) (ch n : Nat) : State :=
  (s.modChan ch (fun c => { c with corrected := satN (c.corrected + n) 32 })).tallyBy T.MEM_CORRECTED n

/-- R385, R388: an uncorrectable line counted and tallied. -/
def State.lineCounted (s : State) (ch line : Nat) : State :=
  (s.modChan ch (fun c =>
    let recent := c.badLines.filter (fun e => decide (s.time.cyc < e.2 + msCyc 1000) && e.1 != line)
    { c with uncorr := satN (c.uncorr + 1) 32, badLines := recent ++ [(line, s.time.cyc)] })).tally T.MEM_UNCORRECTABLE

/-- R388: sixteen distinct uncorrectable lines within 1,000 ms fail their channel. -/
def State.manyBad (s : State) (ch : Nat) : State := if 16 ≤ (s.chan ch).badLines.length then s.failChannel ch 4 else s

/-- R385, R388: an uncorrectable line: tallied, recorded, and counted toward the sixteen of 1,000 ms. -/
def State.lineBad (s : State) (ch line req : Nat) : State :=
  if ¬ (s.chan ch).serves then s
  else
    let pc := pageOf line
    let rr := rowOf s.density pc.1
    ((s.lineCounted ch line).memRec 0 ch (s.bankOf pc.1 + 16 * rr.2) req rr.1 pc.2 0).manyBad ch

/-- R385: an uncorrectable line read to merge a masked write into it: the line's other bytes are written as 0. It is tallied and
counts toward the sixteen of R388, and no record of a requester is made (log entry 151). -/
def State.mergeBad (s : State) (ch line : Nat) (use : LineUse) : State :=
  let s := s.lineCounted ch line
  let s := match use with
    | .surface id u first count =>
      (match s.surf id with
       | some f => if f.stripe.chan (u / 64) = ch then s.setSurf id { f with bytes := mergedOnly u first count f.bytes } else s
       | none => s)
    | .list id u first count =>
      if s.dram.lists.chan (32 * id + u / 64) = ch then
        let l := mergedOnly u first count (Tab.getD s.skim.lists id [])
        { s with skim := { s.skim with lists := Tab.put s.skim.lists id l } }
      else s
    | .staging u first count =>
      if s.dram.maps.chan (u / 64) = ch then
        let others := (List.range 64).filter (fun i => decide (i < first ∨ first + count ≤ i))
        let m := others.foldl (fun m i => Memory.write none m (64 * u + i) 0) s.optics.staging
        { s with optics := { s.optics with staging := m } }
      else s
    | .data | .check _ => s
  s.manyBad ch

/-- R202, R385: a unit of the staging bytes that the check of a correction map read was uncorrectable: zeros to that check. -/
def State.stagingLost (s : State) (u : Nat) : State :=
  if s.optics.commit.isSome then { s with optics := { s.optics with lost := s.optics.lost ++ [u] } } else s

/-- DRAM_LINE_READ (R385, R388): a data line is checked. A failed channel's reads are not tallied. -/
def execDramLineRead (t : Cyc) (ch line req : Nat) (r : LineRead) (s : State) :
    Host.Outcome State Fault Refusal :=
  let s := s.at t
  if ¬ (s.chan ch).free then nextOf s
  else match r.check, r.use with
    | .clean, _ => nextOf (s.request ch)
    | .corrected, _ => nextOf ((s.request ch).lineCorrected ch 1)
    | .uncorrectable, .data => nextOf ((s.request ch).lineBad ch line req)
    | .uncorrectable, .check u => nextOf (State.stagingLost ((s.request ch).lineBad ch line req) u)
    | .uncorrectable, use => nextOf ((s.request ch).mergeBad ch line use)

/-- PATROL_SCRUB_UNIT (R386, R184): the next 1 MiB of data lines of a channel; the unit after the last of the last
channel begins a new pass. -/
def execPatrolScrubUnit (t : Cyc) (corrected : Nat) (bad : List Nat) (s : State) : Host.Outcome State Fault Refusal :=
  let s := s.at t
  let ch := s.scrubTarget.1
  let mib := s.scrubTarget.2.1
  -- R57, R181: within the 5.6 GB/s of its class, and no older unit waits for the channel (log entry 124)
  if s.serving ∧ ¬ s.scan.lantern ∧ ¬ s.dram.selfRefresh ∧ (s.chan ch).present ∧ (s.chan ch).sweep.isNone ∧
     s.otherRoom 1048576 ∧ ¬ (s.recalTarget = ch ∧ s.bgYields 1 2) then
    let wrapped := s.scrubTarget.2.2
    match s.bgUnit 1 ch 1048576 with
    | none => nextOf s
    | some s =>
      let s := (s.request ch).otherMoved 1048576
      let lines := bad.filter (fun l => l / 16384 == mib)
      let s := if (s.chan ch).serves then lines.foldl (fun s l => s.lineBad ch l 30) (s.lineCorrected ch corrected) else s
      let s := s.bgDid 1
      let n := s.nextChan ch
      let last := decide (dataMib s.density ≤ mib + 1)
      let passes := satN (s.dram.passes + b2n wrapped + b2n (last && n.2)) 16
      nextOf { s with dram := { s.dram with scrubCh := if last then n.1 else ch, scrubMib := if last then 0 else mib + 1,
                                            passes := passes } }
  else nextOf s

/-! ## A failed channel at the next scene cut (R388, R389) -/

/-- R389: the stored tiles of a coat that lay on a channel re-placed, one by one, on the channel with the least coat
storage. -/
def Placement.leave (p : Placement) (w h relief ch : Nat) (use : List (Nat × Nat)) : Placement × List (Nat × Nat) :=
  let grid (rel : Bool) (w h : Nat) : List (Bool × Nat × Nat) :=
    (List.range h).flatMap (fun r => (List.range w).map (fun c => (rel, c, r)))
  let all := grid false w h ++ (if relief = 0 then [] else grid true (reliefTiles w) (reliefTiles h))
  (all.filter (fun e => p.tile e.1 e.2.1 e.2.2 == ch)).foldl (fun (a : Placement × List (Nat × Nat)) e =>
    let c := leastUsed a.2
    let n := if e.1 then 8192 else 16384
    ({ a.1 with moved := Tab.put a.1.moved (tileKey e.1 e.2.1 e.2.2) c },
     a.2.map (fun u => if u.1 = c then (u.1, u.2 + n) else u))) (p, use)

/-- R389: a coat whose tiles on a channel become its initial texel, or relief 0. Its storage is of a new generation. -/
def Coat.lose (k : Coat) (ch : Nat) (use : List (Nat × Nat)) : Coat × List (Nat × Nat) :=
  let r := k.place.leave k.width k.height k.relief ch use
  let w := reliefTiles k.width
  ({ k with place := r.1,
            tiles := k.tiles.filter (fun e => k.place.tile false (e.1 % k.width) (e.1 / k.width) != ch),
            rtiles := k.rtiles.filter (fun e => k.place.tile true (e.1 % w) (e.1 / w) != ch),
            gen := k.gen + 2 ^ 96, gens := k.gens.map (fun e => (e.1, e.2 + 2 ^ 96)) }, r.2)

/-- The coats of a table, one after the other. -/
def loseCoats (ch : Nat) : List (Nat × Coat) → List (Nat × Nat) → List (Nat × Coat) × List (Nat × Nat)
  | [], use => ([], use)
  | (i, k) :: r, use =>
    let a := k.lose ch use
    let b := loseCoats ch r a.2
    ((i, a.1) :: b.1, b.2)

/-- R389: the placement that accepted COAT_DECLs of pending frames hold. -/
def loseDecls (ch : Nat) : List Chunk → List (Nat × Nat) → List Chunk × List (Nat × Nat)
  | [], use => ([], use)
  | c :: r, use =>
    if c.type = 3 ∧ ¬ c.refused then
      let a := c.place.leave (num c.payload 2 2) (num c.payload 4 2) (num c.payload 0x1C 4) ch use
      let b := loseDecls ch r a.2
      ({ c with place := a.1 } :: b.1, b.2)
    else
      let b := loseDecls ch r use
      (c :: b.1, b.2)

/-- R389: what a mooring loses with a channel: coats' tiles, staged tiles, and pending frames with a chunk there. -/
def State.moorLoses (s : State) (n ch field : Nat) : State :=
  let m := s.moor n
  let a := loseCoats ch m.scene.coats s.chanUse
  let b := loseDecls ch m.chunks a.2
  let s := s.setMoor n { m with scene := { m.scene with coats := a.1 }, chunks := b.1 }
  let s := (s.moor n).tiles.foldl (fun s t =>
    match t.state with
    | .staged _ c => if c = ch then s.refuseTile n t else s
    | _ => s) s
  (s.moor n).frames.foldl (fun s f =>
    let held := (s.moor n).chunks.any (fun c => c.frame == f.id && !c.refused &&
      (c.loc == .spill || (c.loc == .store && !isTile c.type)))
    if ¬ held then s
    else if Config.onChannel s.time.freeCount ch then (s.took).abandonFrame n f.id field none
    else s.took) s

/-- R389: a suspended library segment read ends. -/
def State.libLoses (s : State) (n : Nat) (l : LibRead) (ch : Nat) : State :=
  if ¬ l.suspended then s
  else if Config.onChannel s.time.freeCount ch then
    s.took.setLib n { l with output := l.output.take l.written, suspended := false, done := true }
  else s.took

/-- R165, R389: how many of the first `n` units of a striped buffer lie on each present channel, added to what is counted. -/
def Stripe.use (f : Stripe) (n : Nat) (use : List (Nat × Nat)) : List (Nat × Nat) :=
  (List.range n).foldl (fun l u => l.map (fun e => if e.1 = f.chan u then (e.1, e.2 + 1) else e)) use

/-- R389: the units of a striped buffer that lay on a channel re-placed, one by one, on the channel with the least use. -/
def Stripe.leave (f : Stripe) (n ch : Nat) (use : List (Nat × Nat)) : Stripe × List (Nat × Nat) :=
  ((List.range n).filter (fun u => f.chan u == ch)).foldl (fun (a : Stripe × List (Nat × Nat)) u =>
    let c := leastUsed a.2
    ({ a.1 with moved := Tab.put a.1.moved u c }, a.2.map (fun e => if e.1 = c then (e.1, e.2 + 1) else e))) (f, use)

/-- R172: the 4 KiB units of the replay store. -/
def replayUnits : Nat := 131072
/-- R247: the 4 KiB units of the Skim lists. -/
def listUnits : Nat := 8192
/-- R200: the 4 KiB units of a correction map buffer of the largest size. -/
def mapUnits : Nat := 17
/-- R245: the 4 KiB units of a surface. -/
def Surface.stripes (f : Surface) : Nat := cdiv f.size 4096

/-- R389: the use of each present channel by striped buffers, in units: the replay store, the Skim lists, both map buffers and
the surfaces (log entry 127). -/
def State.stripeUse (s : State) : List (Nat × Nat) :=
  let d := s.dram
  let use := d.maps.use mapUnits (d.maps.use mapUnits (d.lists.use listUnits (d.replay.use replayUnits (s.present.map (fun c => (c, 0))))))
  s.skim.surfaces.foldl (fun u e => e.2.stripe.use e.2.stripes u) use

/-- The surfaces of a table re-placed, one after the other. -/
def leaveSurfaces (ch : Nat) : List (Nat × Surface) → List (Nat × Nat) → List (Nat × Surface) × List (Nat × Nat)
  | [], use => ([], use)
  | (i, f) :: r, use =>
    let a := f.stripe.leave f.stripes ch use
    let b := leaveSurfaces ch r a.2
    ((i, { f with stripe := a.1 }) :: b.1, b.2)

/-- R389: the striped buffers that lay partly on a channel re-placed on the present ones. -/
def State.restripe (s : State) (ch : Nat) : State :=
  let a := s.dram.replay.leave replayUnits ch s.stripeUse
  let b := s.dram.lists.leave listUnits ch a.2
  let c := s.dram.maps.leave mapUnits ch b.2
  let d := leaveSurfaces ch s.skim.surfaces c.2
  { s with dram := { s.dram with replay := a.1, lists := b.1, maps := c.1 }, skim := { s.skim with surfaces := d.1 } }

/-- R389: what a failed channel takes with it at the scene cut of field `n`: the channel is absent, and its buffers are
re-placed on the present ones. -/
def State.loseChannel (s : State) (ch field : Nat) : State :=
  let s := s.zeroFailed
  -- the staging bytes on the channel are gone: what its re-placed units hold is undefined (R201)
  let staging := s.optics.staging.filter (fun e => s.dram.maps.chan (e.1 / 4096) != ch)
  let s : State := { s with optics := { s.optics with staging := staging } }
  let mapLost : Bool := match s.optics.map with
    | some (w, h, _) => (List.range (cdiv (16 + 2 * w * h) 4096)).any (fun u => s.dram.maps.chan u == ch)
    | none => false
  let s := s.modChan ch (fun c => { c with state := 0, owed := 0 })
  let s := (s.moors.map (·.1)).foldl (fun s n => s.moorLoses n ch field) s
  let s := s.codec.libs.foldl (fun s e => s.libLoses e.1 e.2 ch) s
  let kept := s.synth.replay.filter (fun e => s.copyUnits e.1.1 e.1.2.1 e.1.2.2 ch == 0)
  let s : State := { s with synth := { s.synth with replay := kept } }
  let s : State := if mapLost then { s with optics := { s.optics with map := none, state := 0 } } else s
  ((s.skimEnds).restripe ch).calEnd ch false

/-- R388, R390: at the scene cut of field `n` the channels that have failed are absent, and MODE_LIMITED tells whether the
mode in force is still allowed. -/
def State.loseFailed (s : State) (field : Nat) : State :=
  let s := ((List.range 16).filter (fun c => (s.chan c).present && (s.chan c).fails)).foldl (fun s c => s.loseChannel c field) s
  { s with dram := { s.dram with limited := !s.scan.lantern && !modeAllowed s.scan.mode s.presentCount } }

/-! ## Commands -/

/-- R369: a bank mask sets its own bit `k` of P[3:0] and clears the other three. -/
def maskOk (ws : List Word) (k : Nat) : Bool := fieldOf ws k 0 4 == 2 ^ k

/-- MEM_CONFIGURE (R392). -/
def cardMemConfigure : Card where
  opcode := 0x0901
  deferred := false
  lenOk := lenIs 24
  params := fun _ _ pl =>
    let ws := toWords 6 pl
    wordsOk 0x1D00 ws && (List.range 4).all (maskOk ws) &&
    decide (16 ≤ fieldOf ws 4 8 8 ∧ 1 ≤ fieldOf ws 4 16 8 ∧ fieldOf ws 4 16 8 ≤ 64 ∧ 1 ≤ fieldOf ws 4 24 4 ∧
      20 ≤ fieldOf ws 5 0 16 ∧ fieldOf ws 5 0 16 ≤ 10000 ∧ 1 ≤ fieldOf ws 5 16 16 ∧ fieldOf ws 5 16 16 ≤ 10000)
  run := fun s _ pl => done (s.setObj 0x1D00 (toWords 6 pl))

/-- MEM_QUERY (R393, R394). -/
def cardMemQuery : Card where
  opcode := 0x0902
  deferred := false
  lenOk := lenIs 4
  params := fun _ _ pl => decide (num pl 0 1 ≤ 15) && zeroAt pl 1 3
  run := fun s _ pl =>
    (s, Status.OK, ofWords (s.obj 0x1D00) ++ slice (s.statusBytes 0x2F00) 0 16 ++ slice (s.statusBytes (0x2F10 + num pl 0 1)) 0 24)

/-- MEM_CALIBRATE (R391). -/
def cardMemCalibrate : Card where
  opcode := 0x0903
  deferred := true
  lenOk := lenIs 4
  params := fun _ _ pl => decide (num pl 0 2 ≠ 0 ∧ num pl 2 1 ≤ 1 ∧ num pl 3 1 ≤ 1)
  judge := fun s _ pl =>
    if s.scan.lantern ∨ ¬ (idxs 16 (fun c => bit (num pl 0 2) c)).all (fun c => (s.chan c).present) then Status.BAD_STATE
    else s.judgeReq (TestKind.memCal (num pl 0 2) (num pl 2 1)).dur (num pl 3 1 == 1) false
  refused := fun st s _ _ => if st = Status.BUSY then s.tally T.HM_TEST_BUSY else s
  run := fun s c pl => done (s.queueReq (.memCal (num pl 0 2) (num pl 2 1)) c.owner c.tag)

/-- R391: a calibration begins in its window, on the channels it names; a channel that has gone since has failed. -/
def State.beginCal (s : State) (r : TestReq) (channels mode field : Nat) : State :=
  let s := { s with dram := { s.dram with cal := some (r.slot, r.tag, field, channels, 0, 0) } }
  (idxs 16 (fun c => bit channels c)).foldl (fun s ch =>
    if (s.chan ch).serves then s.startSweep ch { why := .request, full := mode == 1 } else s.calEnd ch false) s

end Sys2Proof.Machine
end

