-- ==== Sys2Proof/Machine/Change.lean ====
section
/-! DEFINITION. What an overlay plane fetches and when it is withdrawn (R276, R277), and the instant t0 of a hard change of
panel mode or of a Lantern transition (R284, R291, R292, R523). -/

namespace Sys2Proof.Machine

/-! ## Overlay fetch (R268, R276) -/

/-- An overlay plane changed. -/
def State.modPlane (s : State) (p : Nat) (f : OvPlane → OvPlane) : State :=
  { s with scan := { s.scan with planes := modAt s.scan.planes p f } }

/-- R268: of `n` surface pixels placed at an offset, the first that lies on a panel of a size, and how many do. -/
def visibleSpan (off : Int) (n size : Nat) : Nat × Nat :=
  let a := (max 0 (-off)).toNat
  let b := (min (n : Int) ((size : Int) - off)).toNat
  (a, b - a)

/-- R276: the bytes that showing a surface at an offset fetches in a field of a mode; none for no surface. -/
def State.ovFetch (s : State) (m : Mode) (surface : Nat) (offX offY : Int) : Nat :=
  match s.surf surface with
  | none => 0
  | some f =>
    let x := visibleSpan offX f.width m.width
    let y := visibleSpan offY f.height m.height
    if x.2 = 0 ∨ y.2 = 0 then 0 else y.2 * 64 * (f.units x.1 y.1 x.2 1).length

/-- R276: the fetch bytes of the latest accepted commit of a plane in a mode. -/
def State.latestFetch (s : State) (m : Mode) (q : OvPlane) : Nat :=
  match q.pending.getLast? with
  | some c => s.ovFetch m c.surface c.offX c.offY
  | none => s.ovFetch m q.surface q.offX q.offY

/-- R277: the largest fetch among the commit in force and the pending commits of a plane, in a mode. -/
def State.planeFetch (s : State) (m : Mode) (q : OvPlane) : Nat :=
  maxN (s.ovFetch m q.surface q.offX q.offY :: q.pending.map (fun c => s.ovFetch m c.surface c.offX c.offY))

/-- OVERLAY_COMMIT: the payload of the final event. -/
def commitBytes (result field : Nat) : List Byte := [byte result, 0, 0, 0] ++ le 8 field

/-- R277: a plane switched to no surface; its pending commits complete as withdrawn. -/
def State.withdrawPlane (s : State) (p : Nat) : State :=
  let cs := (nth s.scan.planes p {}).pending
  let s := s.modPlane p (fun q => { q with surface := 0xFFFF, pending := [], lastFetch := 0 })
  cs.foldl (fun s c => s.finalEvent c.slot c.tag 0x0502 Status.OK (commitBytes 2 0)) s

/-- R277: a plane judged under a new mode beside the fetch of the other plane; one that exceeds the limit is withdrawn. -/
def State.judgePlane (s : State) (m : Mode) (p other : Nat) : State :=
  if overlayLimit m.rate s.presentCount < s.planeFetch m (nth s.scan.planes p {}) + other then
    let s := s.withdrawPlane p
    { s with scan := { s.scan with withdrawn := true } }
  else s.modPlane p (fun q => { q with lastFetch := s.latestFetch m q })

/-- R277: both planes judged at the start of a hard change, plane 0 first. -/
def State.judgePlanes (s : State) (m : Mode) : State :=
  let s := s.judgePlane m 0 0
  s.judgePlane m 1 (s.planeFetch m (nth s.scan.planes 0 {}))

/-! ## t0 (R284, R291, R292) -/

/-- R463: the faults of every rail forgotten: at the next start, at RAIL_PROFILE_SET, at a hard change from 0x00. -/
def State.clearFaults (s : State) : State :=
  { s with power := { s.power with rails := s.power.rails.map (fun x => { x with fault := false, attempts := 0, overCur := 0 }) } }

/-- The change marked as having ended its trainings, or not. -/
def State.markTrained (s : State) (v : Bool) : State := { s with scan := { s.scan with trained := v } }

/-- R302: every port that the mode in force uses starts the first training of a change. Whether all have ended is judged when
every port has begun. -/
def State.trainAll (s : State) : State :=
  ((s.usedPorts.foldl (fun s p => s.startTraining p true) (s.markTrained true)).markTrained false).checkTrained

/-- The panel mode that a change leads to; Lantern keeps the mode in force (R285). -/
def Change.mode (c : Change) (inForce : Nat) : Nat :=
  match c with
  | .hard m _ => m
  | .lanternEntry _ => inForce
  | .lanternExit m _ => m

/-- The change is the entry to Lantern. -/
def Change.enters (c : Change) : Bool := match c with | .lanternEntry _ => true | _ => false

/-- The change is the exit from Lantern. -/
def Change.exits (c : Change) : Bool := match c with | .lanternExit .. => true | _ => false

/-- The field at whose commit latch a change begins (R284). -/
def Change.field (c : Change) : Nat := match c with | .hard _ n => n | .lanternEntry n => n | .lanternExit _ n => n

/-- R284, R37: the mode, the rate and K in force from t0, no tick raised and no line begun at the new rate yet. -/
def Scanout.enter (x : Scanout) (c : Change) (ns : Nat) : Scanout :=
  let m := modeOf (c.mode x.mode)
  let clear (k : SectorScan) : SectorScan := { k with lfOff := false, ovOff := [false, false], counted := [false, false, false],
                                                      fifoRows := [0, 0], ovBad := [[], []], codes := [], teField := none, teJudged := none }
  { x with mode := m.id, lantern := c.enters, rate := if c.enters then 30 else m.rate, k := if c.enters then 1 else m.k,
           change := some c, changeT0 := some ns, trained := false, firstTick := none, visible := none, ticked := false,
           notBefore := ns, latchField := none, line := none, scanned := none, tide := none, sectors := x.sectors.map clear }

/-- R159, R184, R186, R240: what the Harbourmaster forgets at t0: plans, what was placed in fields of the old rate, and
outside Lantern entry the measured coefficients; the ages of background classes stop in Lantern and resume after it. With no plan in
force, LATH_EVALUATE answers from the Reset optics and no correction map until the first tick at the new rate (log entry 153). -/
def Harbour.enter (h : Harbour) (c : Change) (ns : Nat) : Harbour :=
  let stopped := match h.bgStop with | some x => ns - x | none => 0
  let age (j v : Nat) : Nat := if j = 0 ∨ j = 3 then v else v + stopped
  { h with next := {}, cur := {}, prev := {}, lateMode := none, lateNow := false, lastCut := none,
           counts := List.replicate 16 {}, counts1 := List.replicate 16 {}, window := (0, []),
           requests := h.requests.map (fun r => { r with drop := none }), schedule := [],
           coefs := if c.enters then h.coefs else {}, energy := if c.enters then h.energy else none,
           cold := h.cold || c.enters, rho := [], captures := h.captures.map (fun e => (e.1, 0)),
           bgStop := if c.enters then some ns else none,
           bgDone := (List.range 6).map (fun j => age j (nth h.bgDone j 0)) }

/-- R284, R240: the gangs drop what they had still to do; in Lantern their caches are lost. -/
def Gang.enter (g : Gang) (lantern : Bool) : Gang :=
  { g with queue := [], running := [], done := [], skipped := [], todo := [], bad := [], cache := if lantern then [] else g.cache }

/-- R284, R300: a port at t0: its video, training and test end; one that the new mode does not use is IDLE. -/
def State.portEnter (s : State) (p : Nat) : State :=
  let s := s.testCut p
  let s := s.modPort p (fun x => { x with training := none, planFrom := none, rejoining := false })
  if s.usedPorts.contains p then s
  else (s.modPort p (fun x => { x with state := 0 })).retrainsEnd p Status.BAD_STATE 0 0

/-- R287: a φ applies from the second frame tick after its update, whatever K those ticks have. Frame tick `n` was the last of the
old mode, with its `k`. A φ that applies from `n` or before is in force; the one updated a frame before `n` applies from the
first frame tick of the new mode, and the one updated at `n` from the next. -/
def State.movePhi (s : State) (n k : Nat) : State :=
  let phi := phiAt s.scan.phi s.scan.phiNext n
  let f := cdiv (tickAt s.ns s.scan.rate phi + 1) s.scan.k * s.scan.k
  let g (e : Int × Nat) : Int × Nat := (e.1, if e.2 ≤ n + k then f else f + s.scan.k)
  { s with scan := { s.scan with phi := phi, phiNext := (s.scan.phiNext.filter (fun e => decide (n < e.2))).map g } }

/-- R284, R291, R292, R462: t0 of a change. `rails` tells that the rails are up already, as at the start of links (R523). -/
def State.beginChange (s : State) (c : Change) (rails : Bool) : State :=
  let old := s.scan.mode; let k := s.scan.k
  let new := c.mode old
  let s := if c.enters then (s.withdrawPlane 0).withdrawPlane 1 else s.judgePlanes (modeOf new)
  let s := s.zonesOff
  let s := { s with scan := s.scan.enter c s.ns, harbour := s.harbour.enter c s.ns,
                    synth := { s.synth with gangs := s.synth.gangs.map (fun (g : Gang) => g.enter c.enters) } }
  let s : State := s.movePhi c.field k
  let s : State := if c.enters then s else
    -- R255: the waits of the lists accepted so far fail
    { s.tally T.SCN_MODE_HARD with skim := { s.skim with changed := s.skim.queue.length } }
  let s : State := (List.range 16).foldl (fun s p => s.portEnter p) s
  let s : State := if c.enters then (s.setFsp 1 true).skimStops else if c.exits then s.setFsp 0 false else s
  let s := s.checkWait
  if new = 0 then (if old = 0 then s else s.startSeq false).checkTrained
  else if old = 0 ∧ ¬ rails then
    let s : State := s.clearFaults.startSeq true
    if s.power.railSeq = 2 then s.trainAll else s
  else s.trainAll

/-! ## The links of a start (R523) -/

/-- R523, R459: the rails of every sector of the stored mode are up. -/
def State.modeRailsUp (s : State) : Bool :=
  s.power.railSeq == 2 && (List.range (modeOf (s.get F.PANEL_MODE)).sectors).all (fun k => s.railsUp k)

/-- R523: step 9: with ticks and with the rails of every sector up, the stored mode begins as after a hard change from 0x00,
or Lantern begins when it is stored with a window. -/
def State.beginLinks (s : State) : State :=
  if s.start.phase = .running ∧ ¬ s.start.linksBegun ∧ s.start.dramDone ∧ s.modeRailsUp ∧ s.ticksOn then
    let s := { s with start := { s.start with linksBegun := true } }
    let mode := s.get F.PANEL_MODE
    let window := s.get F.LN_ENABLE == 1 && decide (s.get F.LN_SECTOR < (modeOf mode).sectors)
    if s.get F.SERVICE_MODE = 3 ∧ window then
      let s := { s with scan := { s.scan with mode := mode }, harbour := { s.harbour with effMode := 3, reqMode := 3 },
                        cfg := { s.cfg with cut := s.cfg.work } }
      s.beginChange (.lanternEntry 0) true
    else s.beginChange (.hard mode 0) true
  else s

/-- R460, R462, R523, R535: the device's up sequence is complete: the trainings that waited for it begin. -/
def State.upDone (s : State) : State :=
  let s := if s.start.linkSteps ∧ s.start.tRails = 0 then { s with start := { s.start with tRails := s.msSinceReset } } else s
  if s.scan.changeT0.isSome ∧ ¬ s.scan.trained then s.trainAll else s.beginLinks

end Sys2Proof.Machine
end

