-- ==== Sys2Proof/Machine/Nvm.lean ====
section
/-! DEFINITION. Writing the MRAM record by record (R428 to R436), the temperature window (R440), and the commands of
stored settings: STORE, SETTINGS_ERASE, FACTORY_WRITE and NVM_QUERY (R437 to R439, R457). -/

namespace Sys2Proof.Machine

/-! ## Records of a transaction -/

/-- R429: a fixed record by its number: 0 to 15 pairings, 16 security counter, 17 boot record, 18 seal-break record,
19 MAC address, 20 recovery record, 21 PanelCalib. -/
def fixedRec (m : Mram) (which : Nat) : FixedRec :=
  match which with
  | 16 => m.counter
  | 17 => m.boot
  | 18 => m.sealRec
  | 19 => m.mac
  | 20 => m.recovery
  | 21 => m.calib
  | k => nth m.pairings k {}

/-- A fixed record replaced, by the same numbers. -/
def putFixed (m : Mram) (which : Nat) (r : FixedRec) : Mram :=
  match which with
  | 16 => { m with counter := r }
  | 17 => { m with boot := r }
  | 18 => { m with sealRec := r }
  | 19 => { m with mac := r }
  | 20 => { m with recovery := r }
  | 21 => { m with calib := r }
  | k => { m with pairings := modAt m.pairings k (fun _ => r) }

/-- R430: one copy of a fixed record written: copy A takes the serial raised by 1, copy B that of copy A. -/
def FixedRec.writeCopy (r : FixedRec) (content : List Byte) (copyB : Bool) : FixedRec :=
  if copyB then { r with b := some (match r.a with | some a => a.1 | none => 1, content) }
  else { r with a := some (match r.read.1 with | some x => (x.1 + 1) % 2 ^ 32 | none => 1, content) }

/-- R430: the two steps that update a fixed record. -/
def fixedSteps (which : Nat) (content : List Byte) : List WriteStep :=
  [.fixed which content false, .fixed which content true]

/-- R433: PART and DISCARD records with the COMMIT that ends their transaction. -/
def journalSteps (gen flags : Nat) (records : List WriteStep) : List WriteStep :=
  if records = [] then [] else records ++ [.record 2 gen 0 0 (le 4 records.length ++ le 4 flags)]

/-- R433: the DISCARD of a generation, written by an image of another or the same one. -/
def discardStep (gen gone : Nat) : WriteStep := .record 3 gen 0 0 (le 4 gone)

/-- R431, R441: the header of page `n` as far as it is written. What the page held is not in use any more. -/
def State.writeHeader (s : State) (n : Nat) (header : List Byte) : State :=
  let rest := s.mram.pages.filter (fun p => p.number != n)
  { s with mram := { s.mram with pages := rest ++ [{ number := n, header := header, body := [] }] } }

/-- R431, R436: a page opened at the head of the ring; a pass of the ring is counted when its numbers begin again. -/
def State.openPage (s : State) : State :=
  match s.pageToOpen with
  | none => s
  | some (n, serial) =>
    let wrapped : Bool := match (usedPages s.mram).getLast? with | some p => decide (n < p.2.number) | none => false
    let s := s.writeHeader n (headerBytes serial)
    { s with mram := { s.mram with passes := satN (s.mram.passes + b2n wrapped) 32 }, nvm := { s.nvm with pageOpen := true } }

/-- R432: bytes of a record written to the head page. -/
def State.appendRecord (s : State) (bs : List Byte) : State :=
  match (usedPages s.mram).getLast? with
  | none => s
  | some h =>
    let put (p : Page) : Page := if p.number = h.2.number then { p with body := p.body ++ bs } else p
    { s with mram := { s.mram with pages := s.mram.pages.map put } }

/-- R428, R436: what one completed write of a transaction leaves in the MRAM. -/
def State.runStep (s : State) (x : Txn) : WriteStep → State
  | .record kind gen obj part payload => s.appendRecord (recordBytes kind gen x.txn obj part payload)
  | .fixed which content copyB =>
    { s with mram := putFixed s.mram which ((fixedRec s.mram which).writeCopy content copyB) }
  | .page => s.openPage
  | .release page => { s with mram := { s.mram with pages := s.mram.pages.filter (fun p => p.number != page) } }

/-- R518, R485, R441: the record in progress is completed at once, and nothing else is written. -/
def State.finishRecord (s : State) : State :=
  let q := s.oneRecord.nvm.queue
  let s := { s with nvm := { s.nvm with queue := [] } }
  match q with
  | x :: _ => x.steps.foldl (fun s st => s.runStep x st) s
  | [] => s

/-! ## The queue of transactions -/

/-- R436: the compaction of the oldest page in use: its live records, one transaction, and its release. -/
def State.compactionSteps (s : State) : List WriteStep :=
  match usedPages s.mram with
  | [] => []
  | (_, p) :: _ =>
    let js := journal s.mram
    let live := (liveGens js).flatMap (fun g => liveRecs js g)
    let here := (decodePage 1024 p.body).filter (fun r => live.any (fun q => q == r))
    journalSteps s.runGen 2 (here.map (fun r => .record 1 r.gen r.obj r.part r.payload)) ++ [.release p.number]

/-- R433, R436: pages a transaction can need at most. -/
def pagesNeeded (steps : List WriteStep) : Nat := cdiv (sumN (steps.map WriteStep.size)) (pageRoom - 2088)

/-- R436, R438: a transaction needs compaction first: the ring would keep fewer than three free pages. -/
def State.needsRoom (s : State) (x : Txn) : Bool :=
  let n := pagesNeeded x.steps
  n != 0 && decide (256 < (usedPages s.mram).length + n + 3) && decide (1 < (usedPages s.mram).length)

/-- R440: transactions whose refusal by the window is retried each second; a fascia transaction waits too (R498), a boot
record (R449), and a seal-break record as soon as the window allows (R415). -/
def WriteFor.held : WriteFor → Bool
  | .migration | .confirm | .fasciaMark | .fasciaClose | .boot | .sealing => true
  | _ => false

/-- R446, R449: no activation runs any more. -/
def State.endActivation (s : State) : State :=
  { s with nvm := { s.nvm with phase := .none, trialTag := none, deadline := none, handover := none, handback := none,
                               handbackAt := none, hostConfirmed := false, liveTrial := false } }

/-- R446: the final event of the activation, with RESULT. -/
def State.activationEvent (s : State) (status result : Nat) : State :=
  match s.nvm.trialTag with
  | some (slot, tag) => s.finalEvent slot tag 0x0B03 status [byte result, 0, 0, 0]
  | none => s

/-- R407, R408, R410: the reply of the PAIR or UNPAIR whose record was being written. -/
def State.heldReply (s : State) (status : Nat) (empty : Bool) : State :=
  match s.nvm.held with
  | some (w, out) =>
    let s := { s with nvm := { s.nvm with held := none } }
    s.reply w.opcode w.packet (s.callerOf w.packet w.slot) status (if empty then [] else out)
  | none => s

/-- R450, R525: the restart that ends a trial boot. -/
def State.trialRestart (s : State) : State := ({ s with start := { s.start with restartFor := 5 } } : State).beginRestart

/-- R440, R439: what the window's refusal of a transaction that is not held does. A STORE that has written nothing takes no
token. -/
def State.refuseTxn (s : State) (x : Txn) : State :=
  match x.purpose with
  | .store slot tag _ =>
    let s := if x.wrote then s else { s with nvm := { s.nvm with tokens := min 8 (s.nvm.tokens + 1) } }
    s.finalEvent slot tag 0x0A01 Status.TEMP_WINDOW (le 4 0 ++ le 4 0)
  | .erase slot tag => s.finalEvent slot tag 0x0A03 Status.TEMP_WINDOW []
  | .factory slot tag => s.finalEvent slot tag 0x0A04 Status.TEMP_WINDOW []
  | .activationDiscard => (s.activationEvent Status.TEMP_WINDOW 1).endActivation
  | .pairing .. => s.heldReply Status.TEMP_WINDOW true
  | .trialClear => s.trialRestart
  | _ => s

/-- R432: a transaction begun: it takes the next TXN when it writes the journal. -/
def State.beginTxn (s : State) (x : Txn) (rest : List Txn) : State :=
  let journals := x.txn == 0 && x.steps.any (fun st => decide (st.size ≠ 0))
  let x := { x with begun := true, txn := if journals then s.nvm.nextTxn else x.txn }
  { s with nvm := { s.nvm with queue := x :: rest,
                               nextTxn := if journals then (s.nvm.nextTxn + 1) % 2 ^ 32 else s.nvm.nextTxn } }

/-- R428, R525, R441: a transaction may begin: the pilot's in service, a migration in step 5 of a start (R520), and the ROM's
boot record before it. A restart or a shutdown starts no record. -/
def State.mayWrite (s : State) (p : WriteFor) : Bool :=
  match s.start.phase with
  | .running => true
  | .pilotBoot => p == .migration
  | .bridge => p == .rom
  | .recovery => p == .recovered
  | _ => false

/-- R428, R440: the head of the queue begun when nothing is being written. The window is judged here: outside it,
transactions that wait are dropped or held. A transaction that finds too little room has a compaction put before it. -/
def State.beginHead (s : State) : State :=
  match s.nvm.queue with
  | [] => s
  | x :: r =>
    if x.begun ∨ ¬ s.mayWrite x.purpose then s
    else if ¬ s.inWindow then
      let refusals := s.nvm.queue.filter (fun y => !y.purpose.held)
      let kept := s.nvm.queue.filter (fun y => y.purpose.held)
      let s := { s with nvm := { s.nvm with queue := kept },
                        gw := { s.gw with sealPending := s.gw.sealPending || kept.any (fun y => y.purpose == .sealing) } }
      refusals.foldl State.refuseTxn s
    else
      let c : Txn := { purpose := .compaction false, steps := s.compactionSteps }
      match x.purpose with
      | .compaction u => s.beginTxn { c with purpose := .compaction u } r
      | _ => if s.needsRoom x then s.beginTxn c (x :: r) else s.beginTxn x r

/-- A transaction queued, and begun when nothing is being written. -/
def State.pushTxn (s : State) (x : Txn) : State :=
  State.beginHead { s with nvm := { s.nvm with queue := s.nvm.queue ++ [x] } }

/-- R440: after a step of a transaction, the next one begins an update of its own: a fixed record, or the journal after one. -/
def newUpdate (st next : WriteStep) : Bool :=
  match st, next with
  | _, .fixed _ _ false => true
  | .fixed .., .record .. => true
  | _, _ => false

/-- R428: the write in progress completes; the transaction is returned when it was its last. The header of a page that a record
needs is written before it (R431). Where an update of its own follows, the window is judged anew (R440). -/
def State.recordDone (s : State) : State × Option Txn :=
  match s.nvm.queue with
  | [] => (s, none)
  | x :: r =>
    if ¬ x.begun then (s, none)
    else match x.steps with
      | [] => ({ s with nvm := { s.nvm with queue := r } }, some x)
      | st :: rest =>
        if s.needsPage st.size then (s.openPage, none)
        else
          let s := s.runStep x st
          match rest with
          | [] => ({ s with nvm := { s.nvm with queue := r } }, some x)
          | nx :: _ =>
            let x := { x with steps := rest, wrote := true, begun := !(newUpdate st nx && !s.inWindow) }
            ({ s with nvm := { s.nvm with queue := x :: r } }, none)

/-- R457: LAST_TXN after a transaction has been written whole. -/
def State.committed (s : State) (x : Txn) : State :=
  if x.txn = 0 then s else { s with nvm := { s.nvm with lastTxn := x.txn } }

/-! ## STORE (R437 to R439) -/

/-- R446 to R449: an activation is between its acceptance and the takeover, or a handback runs (R452). -/
def State.handing (s : State) : Bool :=
  match s.nvm.phase with | .booting | .migrating | .ready | .handback => true | _ => false

/-- R433: the PART records of dirty parts. -/
def State.partSteps (s : State) (l : List (Nat × Nat)) : List WriteStep :=
  l.map (fun e => .record 1 s.runGen e.1 e.2 (partBytes (s.obj e.1) e.2))

/-- STORE accepted (R438). -/
def State.storeRun (s : State) (owner tag : Nat) : State :=
  let dirty := s.dirty
  if dirty = [] then s.finalEvent owner tag 0x0A01 Status.OK (le 4 0 ++ le 4 0)
  else
    let parts := s.partSteps (dirty.filter (fun e => e.1 != 0x1823))
    let calib := dirty.any (fun e => e.1 == 0x1823)
    -- R449: the first STORE after a fallback begins with a DISCARD of the generation of the image that fell back
    let gone := match s.nvm.discardNext with | some g => [discardStep s.runGen g] | none => []
    let steps := (if calib then fixedSteps 21 (ofWords (s.obj 0x1823)) else []) ++ journalSteps s.runGen 0 (gone ++ parts)
    let s := { s with nvm := { s.nvm with tokens := s.nvm.tokens - 1 } }
    s.pushTxn { purpose := .store owner tag dirty.length, gone := s.nvm.discardNext, steps := steps }

/-- STORE (R438, R439, R440, R452). -/
def cardStore : Card where
  opcode := 0x0A01
  deferred := true
  lenOk := lenIs 0
  presence := fun s _ _ => if s.calibDirty then 2 else if s.dirtyProtected then 1 else 0
  params := fun _ _ _ => true
  judge := fun s _ _ =>
    if s.handing ∨ s.nvm.tokens = 0 then Status.BUSY
    else if s.isDirty ∧ ¬ s.inWindow then Status.TEMP_WINDOW
    else Status.OK
  run := fun s c _ => done (s.storeRun c.owner c.tag)

/-- SETTINGS_ERASE (R433). -/
def cardSettingsErase : Card where
  opcode := 0x0A03
  deferred := true
  lenOk := lenIs 0
  presence := fun _ _ _ => 1
  params := fun _ _ _ => true
  judge := fun s _ _ =>
    if s.nvm.phase ≠ .none then Status.BAD_STATE
    else if ¬ s.inWindow then Status.TEMP_WINDOW
    else Status.OK
  run := fun s c _ =>
    done (s.pushTxn { purpose := .erase c.owner c.tag, steps := journalSteps s.runGen 0 [discardStep s.runGen s.runGen] })

/-- FACTORY_WRITE: the fields of DATA are in range; a MAC address is not a group address. -/
def factoryOk (pl : List Byte) : Bool :=
  zeroAt pl 1 3 &&
  (match num pl 0 1 with
   | 0 => num pl 4 1 % 2 == 0 && zeroAt pl 10 2
   | 1 => let w := num pl 8 4
          w &&& 0x707 == w && decide (bits w 1 2 ≤ 2) && decide (bits w 9 2 ≤ 2)
   | _ => false)

/-- FACTORY_WRITE (R427, R430). -/
def cardFactoryWrite : Card where
  opcode := 0x0A04
  deferred := true
  lenOk := lenIs 12
  presence := fun _ _ _ => 2
  params := fun _ _ pl => factoryOk pl
  judge := fun s _ _ => if ¬ s.inWindow then Status.TEMP_WINDOW else Status.OK
  run := fun s c pl =>
    let steps := if num pl 0 1 = 0 then fixedSteps 19 (slice pl 4 6) else fixedSteps 20 (slice pl 4 8)
    done (s.pushTxn { purpose := .factory c.owner c.tag, steps := steps })

/-- NVM_QUERY (R457): from the latest snapshot. -/
def cardNvmQuery : Card where
  opcode := 0x0A05
  deferred := false
  lenOk := lenIs 0
  params := fun _ _ _ => true
  run := fun s _ _ => (s, Status.OK, s.statusBytes 0x2F80 ++ s.statusBytes 0x2F81)

/-! ## Events -/

/-- STORE_TOKEN_REFILL (R439): each second the bucket gains one token, up to 8. -/
def execStoreTokenRefill (t : Cyc) (s : State) : Host.Outcome State Fault Refusal :=
  let s := s.at t
  if s.serving then nextOf { s with nvm := { s.nvm with tokens := min 8 (s.nvm.tokens + 1) } } else nextOf s

/-- R436: a BG0 unit may run: records of one generation at most are live, two pages are in use and the window allows it. -/
def State.compactable (s : State) : Bool :=
  s.serving && s.nvm.interpreting && s.inWindow &&
  decide (2 ≤ (usedPages s.mram).length) && decide ((liveGens (journal s.mram)).length ≤ 1)

/-- JOURNAL_COMPACTION_UNIT (R436, R181, R183): a BG0 unit begins: in the slice of the field, which gives it pilot time, or
while the pilot writes nothing else. -/
def execJournalCompactionUnit (t : Cyc) (s : State) : Host.Outcome State Fault Refusal :=
  let s := s.at t
  let unit : Txn := { purpose := .compaction true, steps := [] }
  if ¬ s.compactable then nextOf s
  else if s.harbour.cur.slice = 0 ∧ s.sliceHad = 0 then nextOf ((s.sliceTaken 4096).pushTxn unit)
  else if s.nvm.queue.isEmpty then nextOf (s.pushTxn unit)
  else nextOf s

/-- NVM_WINDOW_RETRY (R440): each second, writes that the window refused are tried again. -/
def execNvmWindowRetry (t : Cyc) (s : State) : Host.Outcome State Fault Refusal :=
  let s := s.at t
  if s.serving then nextOf s.beginHead else nextOf s

/-! ## Boot record (R442) -/

/-- R442: the boot record updated: RUN_SLOT, TRIAL_SLOT (2 none), TRIAL_BOOTS. -/
def State.putBoot (s : State) (why : WriteFor) (run trial boots : Nat) : State :=
  s.pushTxn { purpose := why, steps := fixedSteps 17 (bootBytes run trial boots) }

/-! ## Seal-break record (R415) -/

/-- R415: the content of the seal-break record. -/
def sealBytes (count ns : Nat) (opened : Bool) : List Byte := le 4 count ++ le 8 ns ++ [byte (b2n opened)]

/-- R415: the count, the NS and the state that the next seal record starts from: those still to be written, else those stored. -/
def State.sealBase (s : State) : Nat × Nat × Bool :=
  let waiting := (s.nvm.queue.flatMap (·.steps)).filterMap (fun st => match st with | .fixed 18 c _ => some c | _ => none)
  match waiting.getLast? with
  | some c => (num c 0 4, num c 4 8, num c 12 1 == 1)
  | none => s.sealRecord

/-- R415, R440: the seal-break record written as soon as the window allows, in place of one that still waits. -/
def State.sealWrite (s : State) (content : List Byte) : State :=
  let q := s.nvm.queue.filter (fun x => x.purpose != .sealing || x.begun)
  ({ s with nvm := { s.nvm with queue := q } } : State).pushTxn { purpose := .sealing, steps := fixedSteps 18 content }

/-- R415: a change of the debounced seal state at a local time recorded. -/
def State.sealChange (s : State) (opened : Bool) (ns : Nat) : State :=
  let b := s.sealBase
  if opened then
    ({ s with gw := { s.gw with sealBreak := true } }.tally T.GW_SEAL_BREAK).sealWrite (sealBytes (satN (b.1 + 1) 32) ns true)
  else s.sealWrite (sealBytes b.1 b.2.1 false)

/-- R415: a seal-break record that waits is begun when the window has opened again. -/
def State.sealRetry (s : State) : State :=
  if s.inWindow ∧ s.nvm.queue.any (fun x => x.purpose == .sealing) then s.beginHead else s

/-- SEAL_DEBOUNCED (R412, R415): the debounced seal state changes. Before the end of start-up the change is kept, to be recorded
then (log entry 157). -/
def execSealDebounced (t : Cyc) (opened : Bool) (s : State) : Host.Outcome State Fault Refusal :=
  let s := s.at t
  if ¬ s.alive ∨ s.gw.sealOpen = opened then nextOf s
  else
    let s : State := { s with gw := { s.gw with sealOpen := opened } }
    if s.serving then nextOf ((s.sealChange opened s.ns).notify 0x01F0 s.presenceBytes)
    else
      -- a loop found open 20 ms after the release is found open at the start: the first NS held is that of the release
      let ns := if s.time.cyc ≤ s.time.releaseCyc + msCyc 20 then 0 else s.ns
      nextOf { s with gw := { s.gw with sealEarly := s.gw.sealEarly ++ [(ns, opened)] } }

/-! ## Pairing records (R406 to R408) -/

/-- R407, R408: the pairing record of slot `k` written, before the session that it makes and the reply. -/
def State.putPairing (s : State) (k : Nat) (content : List Byte) (e : Session) : State :=
  s.pushTxn { purpose := .pairing k e, steps := fixedSteps k content }

/-- R407, R408, R424: the pairing record is written: the session stands, with no event waiting, or is gone, and the command is
answered. LOST_EVENTS counts on since start. -/
def State.pairingDone (s : State) (k : Nat) (e : Session) : State :=
  (((s.modSess k (fun old => { e with unacked := [], lostTotal := old.lostTotal })).heldReply Status.OK false)).irq

/-- PAIR (R407). -/
def cardPair : Card where
  opcode := 0x0101
  deferred := false
  held := true
  lenOk := lenIs 20
  presence := fun _ _ _ => 1
  params := fun _ c pl => c.token == 0 && num pl 0 2 % 2 == 0 && zeroAt pl 2 2
  judge := fun s c _ =>
    if (s.pairSlot c).isNone then Status.NO_RESOURCE
    else if ¬ s.inWindow then Status.TEMP_WINDOW
    else Status.OK
  run := fun s c pl =>
    let k := (s.pairSlot c).getD 0
    let hi := (Config.tokenRandom s.time.freeCount).toNat
    let s := s.took
    let serial := (s.pairSerial + 1) % 2 ^ 28
    let e := newSession hi serial (num pl 0 2) (slice pl 4 16) c.srcIp c.srcPort
    let content := pairBytes true hi serial (num pl 0 2) (slice pl 4 16)
    (s.putPairing k content e, Status.OK, le 8 (hi * 2 ^ 32 + serial * 16 + k) ++ [byte k, 0, 0, 0])

/-- UNPAIR (R408, R403). A SLOT that is neither 0 to 15 nor 0xFF is judged at P0 and refused at step 9. The cleared record keeps
its serial, so that no serial is used again (R406). -/
def cardUnpair : Card where
  opcode := 0x0102
  deferred := false
  held := true
  lenOk := lenIs 4
  presence := fun _ c pl => if slotArg c pl = c.slot.getD 0 ∨ 15 < slotArg c pl then 0 else 1
  params := fun _ _ pl => slotArgOk pl
  judge := fun s c pl =>
    if ¬ (s.sess (slotArg c pl)).paired then Status.BAD_STATE
    else if ¬ s.inWindow then Status.TEMP_WINDOW
    else Status.OK
  run := fun s c pl =>
    let k := slotArg c pl
    done (s.putPairing k (pairBytes false 0 (s.sess k).serial 0 []) {})

end Sys2Proof.Machine
end

