-- ==== Sys2Proof/Machine/Power.lean ====
section
/-! DEFINITION. Power and thermal management (R459 to R492): the panel rails, brightness, the core supply, the
housekeeping round, the thermal model, the power limit and the latched shutdown. -/

namespace Sys2Proof.Machine

/-! ## Rails (R459 to R463) -/

/-- R511: a power wake record. -/
def State.powerRec (s : State) (ev rail : Nat) : State :=
  s.wakeRec 0x0601 ([byte ev, byte rail, byte s.power.plThermal, 0] ++ le 2 (t16 s.hottest) ++ [0, 0])

/-- A rail changed. -/
def State.modRail (s : State) (r : Nat) (f : Rail → Rail) : State :=
  { s with power := { s.power with rails := modAt s.power.rails r f } }

/-- R463: the used rails whose SECTORS lies within those of a rail, itself among them. -/
def State.railsWithin (s : State) (r : Nat) : List Nat :=
  let m := s.get (F.RAIL_SECTORS r)
  idxs 8 (fun q => s.railUsed q && (q == r || s.get (F.RAIL_SECTORS q) &&& m == s.get (F.RAIL_SECTORS q)))

/-- R463: rails taken out of the sequences that run; a sequence left with nothing to do is complete. -/
def withoutRails (now : Nat) (rs : List Nat) (q : RailSeq) : RailSeq :=
  match q.wait with
  | some r => if rs.contains r then { q with rest := q.rest.filter (fun x => !rs.contains x), wait := none, since := now }
              else { q with rest := q.rest.filter (fun x => !rs.contains x) }
  | none => { q with rest := q.rest.filter (fun x => !rs.contains x) }

/-- A sequence has nothing left to do. -/
def RailSeq.atEnd (q : RailSeq) : Bool := q.rest.isEmpty && q.wait.isNone

/-- R463: a sequence that raises a rail: an attempt of it. -/
def RailSeq.raises (q : RailSeq) (r : Nat) : Bool := q.up && (q.whole || q.rails.contains r)

/-- R463: an attempt has ended: the rails that it has raised without a fault have no consecutive faults. -/
def State.attemptEnds (s : State) (q : RailSeq) : State :=
  let clear (r : Nat) : Rail :=
    let x := nth s.power.rails r {}
    if q.raises r ∧ x.enable ∧ x.pg ∧ ¬ x.fault then { x with attempts := 0 } else x
  { s with power := { s.power with rails := (List.range 8).map clear } }

/-- R460, R461, R463: sequences that have nothing left to do end: RAIL_SEQ follows the device's own, with the trainings
that wait for it, the links of a start may wait for rails raised again (R523), and the down sequence of a fault is followed
by a retry. -/
def State.endSeqs (s : State) : State :=
  let ended := s.power.seqs.filter RailSeq.atEnd
  let s := { s with power := { s.power with seqs := s.power.seqs.filter (fun q => !q.atEnd) } }
  ended.foldl (fun s q =>
    let s := s.attemptEnds q
    if q.whole then
      let s := { s with power := { s.power with railSeq := seqEnd q.up } }
      if q.up then s.upDone else s
    else if q.up then s.beginLinks
    else { s with power := { s.power with retry := s.power.retry ++ [(s.time.cyc, q.rails)] } }) s

/-- R463: a rail stands in a down sequence that has not taken it yet: it is not up any more. -/
def State.falling (s : State) (r : Nat) : Bool := s.power.seqs.any (fun q => !q.up && q.rest.contains r)

/-- R463: a rail fault. One in a sequence that raises the rail makes that attempt one that faulted (log entry 163). -/
def State.railFault (s : State) (r : Nat) : State :=
  let attempt : Nat := b2n (s.power.seqs.any (fun q => q.raises r))
  let secs := idxs 16 (fun k => bit (s.get (F.RAIL_SECTORS r)) k)
  let s := s.zonesFall (idxs 16 (fun z => nth s.scan.zones z false && secs.any (fun k => (s.zonesOf k).contains z)))
  let s := s.modRail r (fun x => { x with fault := true, attempts := min 3 (x.attempts + attempt), overCur := 0 })
  let s := { s with power := { s.power with railFault := true } }
  let s := secs.foldl (fun s k =>
    if (s.port k).state = 0 then s
    else if (s.port k).state = 1 then s.modPort k (fun x => { x with cause := 6 })
    else s.portAbsent k 6 (match (s.port k).training with | some tr => usBetween tr.pstart s.time.cyc | none => 0)) s
  let down := s.railsWithin r
  let s := { s with power := { s.power with seqs := s.power.seqs.map (withoutRails s.time.cyc down) } }
  ((s.startPartSeq false down).endSeqs.tally T.PWR_RAIL_FAULT).powerRec 0 r

/-- A step of one sequence: rails whose wait has ended are taken. The result is the sequence and the rails. -/
def stepSeq (q : RailSeq) : RailSeq × Option Nat :=
  match q.rest, q.wait with
  | r :: rest, none => ({ q with rest := rest }, some r)
  | _, _ => (q, none)

/-- R460, R461: the wait of a sequence's next rail has ended. -/
def State.seqDue (s : State) (up : Bool) (q : RailSeq) : Bool :=
  q.up == up && q.wait.isNone && (match q.rest with
    | r :: _ => decide (q.since + msCyc (if up then s.get (F.UP_DELAY_MS r) else s.get (F.DOWN_DELAY_MS r)) ≤ s.time.cyc)
    | [] => false)

/-- RAIL_UP_STEP (R460): the enable of the next rail of a rising sequence goes high, and its power-good is awaited. -/
def execRailUpStep (t : Cyc) (s : State) : Host.Outcome State Fault Refusal :=
  let s := s.at t
  match s.power.seqs.find? (fun q => s.seqDue true q) with
  | none => nextOf s
  | some q =>
    match stepSeq q with
    | (q2, some r) =>
      let q2 := { q2 with wait := some r, since := s.time.cyc }
      let s := { s with power := { s.power with seqs := s.power.seqs.map (fun x => if x = q then q2 else x) } }
      nextOf (s.modRail r (fun x => { x with enable := true, pg := false }))
    | (_, none) => nextOf s

/-- RAIL_DOWN_STEP (R461): the enable of the next rail of a falling sequence goes low. -/
def execRailDownStep (t : Cyc) (s : State) : Host.Outcome State Fault Refusal :=
  let s := s.at t
  match s.power.seqs.find? (fun q => s.seqDue false q) with
  | none => nextOf s
  | some q =>
    match stepSeq q with
    | (q2, some r) =>
      let q2 := { q2 with since := s.time.cyc }
      let s := { s with power := { s.power with seqs := s.power.seqs.map (fun x => if x = q then q2 else x) } }
      nextOf (s.modRail r (fun x => { x with enable := false, pg := false })).endSeqs
    | (_, none) => nextOf s

/-- R460: a power-good has risen: the sequence that waits for it goes on. A rail raised again has its fault ended; a
power-good that comes after the timeout ends nothing. -/
def State.pgRise (s : State) (r : Nat) : State :=
  let awaited : Bool := s.power.seqs.any (fun q => q.up && q.wait == some r)
  let s := s.modRail r (fun x => { x with pg := true, fault := x.fault && !awaited })
  let go (q : RailSeq) : RailSeq := if q.up ∧ q.wait = some r then { q with wait := none, since := s.time.cyc } else q
  ({ s with power := { s.power with seqs := s.power.seqs.map go } } : State).endSeqs

/-- RAIL_PG_TIMEOUT (R463): a power-good has not risen within PG_TIMEOUT_MS. -/
def execRailPgTimeout (t : Cyc) (s : State) : Host.Outcome State Fault Refusal :=
  let s := s.at t
  let late (q : RailSeq) : Bool := q.up && q.wait.isSome && decide (q.since + msCyc (s.get F.PG_TIMEOUT_MS) ≤ s.time.cyc)
  match (s.power.seqs.find? late).bind (·.wait) with
  | some r => nextOf (s.railFault r)
  | none => nextOf s

/-- RAIL_PG_LOST (R463): the power-good of a rail has been low for 20 µs; of a rail that is up, this is a fault. A rail that a
down sequence is about to take is not up any more. -/
def execRailPgLost (t : Cyc) (rail : Nat) (s : State) : Host.Outcome State Fault Refusal :=
  let s := s.at t
  let x := nth s.power.rails rail {}
  let s := s.modRail rail (fun x => { x with pg := false })
  if x.enable ∧ x.pg ∧ s.railUsed rail ∧ s.power.railSeq ≠ 3 ∧ ¬ s.falling rail then nextOf (s.railFault rail) else nextOf s

/-- RAIL_RETRY (R463): one second after the down sequence of a fault, its rails are raised again, but not one that has
faulted on three consecutive attempts. -/
def execRailRetry (t : Cyc) (s : State) : Host.Outcome State Fault Refusal :=
  let s := s.at t
  if s.start.phase ≠ .running then nextOf s else
  let due := s.power.retry.filter (fun e => decide (e.1 + msCyc 1000 ≤ s.time.cyc))
  let s := { s with power := { s.power with retry := s.power.retry.filter (fun e => !due.contains e) } }
  nextOf (due.foldl (fun s e =>
    s.startPartSeq true (e.2.filter (fun r => decide ((nth s.power.rails r {}).attempts < 3)))) s)

/-! ## Sensors (R478, R481) -/

/-- R478: interpolation from one point to the next. -/
def between (c c0 c1 y0 y1 : Int) : Int :=
  let d := c1 - c0
  let x := (c - c0) * (y1 - y0)
  y0 + (if d < 0 then fdiv (-x) (-d) else fdiv x d)

/-- R478, R470: a table of points with strictly monotonic codes read at a code; outside it, the nearer end point. -/
def tableAt (pts : List (Int × Int)) (c : Int) : Int :=
  let lo := nth pts 0 (0, 0)
  let hi := nth pts (pts.length - 1) (0, 0)
  let seg := (List.zip pts (pts.drop 1)).find? (fun p =>
    (decide (p.1.1 ≤ c) && decide (c ≤ p.2.1)) || (decide (p.2.1 ≤ c) && decide (c ≤ p.1.1)))
  match seg with
  | some p => between c p.1.1 p.2.1 p.1.2 p.2.2
  | none => if (if lo.1 ≤ hi.1 then c < lo.1 else lo.1 < c) then lo.2 else hi.2

/-- R478, R490: an NTC code as s8.8 degrees; none when it is invalid. -/
def State.ntcAt (s : State) (c : Nat) : Option Int :=
  if c < 16 ∨ 4079 < c then none
  else some (tableAt ((List.range 17).map (fun k =>
    ((s.roundv (F.NTC_CODE k) : Int), signed (s.roundv (F.NTC_TEMP k)) 16))) c)

/-- R475: the diode that a round converts, by the local time at which it started. -/
def diodeOf (roundNs : Nat) : Option Nat := (idxs 4 (fun k => roundNs % 1000000000 == 250000000 * k)).head?

/-- R475, R492: the codes of a round taken; a diode's only in its rounds. -/
def State.takeCodes (s : State) (codes : List Nat) : State :=
  let d := diodeOf s.power.roundNs
  let take (i : Nat) (c : Nat × Bool) : Nat × Bool :=
    if i < 60 ∨ d = some (i - 60) then (nth codes i 0 % 4096, true) else c
  { s with power := { s.power with codes := (List.range 64).map (fun i => take i (nth s.power.codes i (0, false))) } }

/-- R475, R478: the diode of the round and the NTCs read; an invalid sensor sets SENSOR_FAULT. -/
def State.takeSensors (s : State) : State :=
  let code (i : Nat) : Nat := (nth s.power.codes i (0, false)).1
  let p := s.power
  let p := match diodeOf p.roundNs with
    | none => p
    | some k =>
      let x := Config.diodeTemp k (code (60 + k))
      let ok : Bool := decide (-55 * 256 ≤ x) && decide (x ≤ 150 * 256)
      { p with diodes := modAt p.diodes k (fun _ => if ok then some x else none), diodeVal := modAt p.diodeVal k (fun _ => x),
               sensorFault := p.sensorFault || !ok }
  let n := (List.range 4).map (fun k => s.ntcAt (code (28 + k)))
  let vals := (List.range 4).map (fun k => (nth n k none).getD (nth p.ntcVal k 0))
  { s with power := { p with ntcs := n, ntcVal := vals, sensorFault := p.sensorFault || n.any (·.isNone) } }

/-- R475: the milliwatts of a power monitor in the last round. -/
def State.monitor (s : State) (i : Nat) : Nat := Config.monitorMw i (nth s.power.codes i (0, false)).1

/-- The milliwatts of consecutive monitors. -/
def State.monitors (s : State) (first n : Nat) : Nat := sumN ((List.range n).map (fun i => s.monitor (first + i)))

/-! ## The thermal model (R479 to R482) -/

/-- R479: the power of a node, mW. -/
def State.nodePower (s : State) (i : Nat) : Nat :=
  if i < 4 then s.monitors (33 + 4 * i) 4
  else match i with
    | 4 => s.monitors 49 4
    | 5 => s.monitors 53 2
    | 6 => s.monitors 55 3
    | 7 => s.monitors 58 2
    | _ => 0

/-- R479: the neighbours of a node with their conductances, mW/K. -/
def State.neighbours (s : State) (i : Nat) : List (Nat × Nat) :=
  if i < 4 then [(9, 1000), (6, 300)]
  else match i with
    | 4 | 5 => [(9, 1000)]
    | 6 => [(9, 1000), (0, 300), (1, 300), (2, 300), (3, 300)]
    | 7 => [(9, 1000), (8, 200)]
    | 8 => [(7, 200), (9, 500), (11, s.roundv F.G_BOARD)]
    | 9 => (List.range 8).map (fun k => (k, 1000)) ++ [(8, 500), (10, s.roundv F.G_LC)]
    | 10 => [(9, s.roundv F.G_LC), (11, s.roundv F.G_CR)]
    | _ => []

/-- R479: the heat capacity of a node, mJ/K. -/
def State.capacity (s : State) (i : Nat) : Nat :=
  match i with | 8 => 8000 | 9 => 17000 | 10 => s.roundv F.C_CASE | _ => 100

/-- R479: N11: the board NTC, or 70 degrees while it is invalid. -/
def State.reference (s : State) : Int := (nth s.power.ntcs 0 none).getD (70 * 256)

/-- R480: one update of the model from the temperatures before it. -/
def State.modelStep (s : State) : List Int :=
  let old := s.power.nodes
  (List.range 12).map (fun i =>
    if i = 11 then s.reference
    else
      let ti := nth old i 0
      let q := (s.nodePower i : Int) * 256 +
        (s.neighbours i).foldl (fun a e => a + (e.2 : Int) * ((if e.1 = 11 then s.reference else nth old e.1 0) - ti)) 0
      ti + fdiv (q + 50 * s.capacity i) (100 * s.capacity i))

/-- R481: the correction by a diode that has been converted and is valid. -/
def correct (k : Nat) (dk : Int) (nodes : List Int) : List Int :=
  let d := rnd (dk - nth nodes k 0) 1
  let nodes := modAt nodes k (· + d)
  [4, 5, 6, 7].foldl (fun l i => modAt l i (· + fdiv d 4)) nodes

/-- R481: the temperature every node takes in the first round. -/
def State.firstTemp (s : State) : Int :=
  match s.power.diodes.filterMap id with
  | [] => (nth s.power.ntcs 0 none).getD (70 * 256)
  | l => fdiv (l.foldl (· + ·) 0) l.length

/-- R480, R481: the model at the end of a round. -/
def State.model (s : State) : State :=
  let nodes :=
    if ¬ s.power.nodesSet then List.replicate 11 s.firstTemp ++ [s.reference]
    else match diodeOf s.power.roundNs with
      | some k => match nth s.power.diodes k none with
        | some dk => correct k dk s.modelStep
        | none => s.modelStep
      | none => s.modelStep
  { s with power := { s.power with nodes := nodes, nodesSet := true } }

/-! ## Limits (R471, R483) -/

/-- R483: the counts of consecutive rounds, and a step of PL_THERMAL. -/
def State.limitStep (s : State) : State :=
  let h := s.hottest
  let hot := if 105 * 256 ≤ h then s.power.hot + 1 else 0
  let cool := if h ≤ 100 * 256 then s.power.cool + 1 else 0
  let step (lim : Nat) (id : Nat) : State :=
    ({ s with power := { s.power with plThermal := lim, hot := 0, cool := 0 } }.tally id).powerRec 1 0
  if 100 ≤ hot ∧ 20 < s.power.plThermal then step (s.power.plThermal - 4) T.PWR_STEP_DOWN
  else if 1000 ≤ cool ∧ s.power.plThermal < 48 then step (s.power.plThermal + 4) T.PWR_STEP_UP
  else { s with power := { s.power with hot := min hot 100, cool := min cool 1000 } }

/-- R471: BL_STEP. -/
def State.blStepRound (s : State) : State :=
  match nth s.power.ntcs 2 none with
  | none => { s with power := { s.power with blStep := 5, blHot := 0, blCool := 0 } }
  | some x =>
    let lim : Int := s.latchv F.BL_T_STEP * 256
    let hyst : Int := s.latchv F.BL_T_HYST * 256
    let hot := if lim ≤ x then s.power.blHot + 1 else 0
    let cool := if x ≤ lim - hyst then s.power.blCool + 1 else 0
    if 100 ≤ hot ∧ s.power.blStep < 5 then
      { s with power := { s.power with blStep := s.power.blStep + 1, blHot := 0, blCool := 0 } }
    else if 1000 ≤ cool ∧ 0 < s.power.blStep then
      { s with power := { s.power with blStep := s.power.blStep - 1, blHot := 0, blCool := 0 } }
    else { s with power := { s.power with blHot := min hot 100, blCool := min cool 1000 } }

/-- R470: brightness and the pulse width of BL_ILIM. -/
def State.brightness (s : State) : State :=
  let als := nth s.power.codes 32 (0, false)
  let target : Int :=
    if s.latchv F.ALS_EN = 1 ∧ als.2 then
      tableAt ((List.range 8).map (fun k => ((s.latchv (F.POINT_ALS k) : Int), (s.latchv (F.POINT_ILIM k) : Int)))) als.1
    else (s.latchv F.MANUAL_ILIM : Int)
  let ramp : Int := s.latchv F.RAMP
  let b := s.power.bright + sat (target - s.power.bright) (-ramp) ramp
  { s with power := { s.power with bright := b, ilimOut := min b.toNat (1023 - 128 * s.power.blStep) } }

/-! ## The core supply (R472 to R474) -/

/-- R472: the code of VOUT_COMMAND for a set-point in mV, under the exponent N = -n that the regulator has reported. -/
def voutCode (n mv : Nat) : Nat := (2 * mv * 2 ^ n + 1000) / 2000

/-- R472: VOUT_MODE reports ULINEAR16 with an exponent N from -16 to -8: the value of -N. -/
def voutMode (byte : Nat) : Option Nat :=
  let n := 32 - byte % 32
  if byte / 32 = 0 ∧ 8 ≤ n ∧ n ≤ 16 then some n else none

/-- R474: the tries of a transaction, at most `n`: how many it takes, and what the one that succeeds answers. -/
def tries {α : Type} : Nat → List (Option α) → Nat × Option α
  | 0, _ => (0, none)
  | n + 1, l =>
    match l.head?.bind id with
    | some x => (1, some x)
    | none => let r := tries n (l.drop 1); (r.1 + 1, r.2)

/-- R474: a transaction is tried four times within a round; while the fault condition lasts, once. -/
def State.pmTries (s : State) : Nat := if s.power.avsFail then 1 else 4

/-- R472: a transaction sent to the regulator a number of times. -/
def State.pmSend (s : State) (cmd : Nat) (data : Option Nat) (n : Nat) : State :=
  let x : PmTxn := { addr := s.roundv F.AVS_ADDR, cmd := cmd, data := data, pec := s.roundv F.PEC_EN == 1 }
  { s with power := { s.power with pmSent := s.power.pmSent ++ List.replicate n x } }

/-- R474: FORCED_FLOOR while the fault lasts and the margin is below the critical threshold. -/
def State.floor (s : State) : State :=
  { s with power := { s.power with forced := s.power.avsFail && decide (s.power.margin < Config.avsCritical) } }

/-- R474: the failure of a transaction or of the core voltage. A write that waited is made when the condition ends. -/
def State.avsFails (s : State) : State :=
  let owed : Bool := s.power.avsOwed || s.power.avsDue.isSome
  let s0 := { s with power := { s.power with avsFail := true, avsFault := true, avsOwed := owed, avsDue := none } }
  if s.power.avsFail then s0 else (s0.tally T.PWR_AVS_FAULT).powerRec 2 0

/-- R472, R474: VOUT_COMMAND with the set-point, at a cycle. One that fails stays owed. -/
def State.writeVcore (s : State) (cyc : Nat) (acks : List Bool) : State :=
  match s.power.voutExp with
  | none => { s with power := { s.power with avsOwed := true, avsDue := none } }
  | some n =>
    let code := voutCode n s.power.vcore
    let r := tries s.pmTries (acks.map (fun a => if a then some () else none))
    let s := s.pmSend 0x21 (some code) r.1
    let ok := r.2.isSome
    let p : Power := { s.power with avsWrite := some cyc, avsDue := none, avsOwed := !ok }
    if ok then { s with power := { p with avsCode := some code } } else State.avsFails { s with power := p }

/-- R473: a new set-point that had to wait is written at the first instant allowed. -/
def State.settleVcore (s : State) (late : List Bool) : State :=
  match s.power.avsDue with
  | some d => if d ≤ s.time.cyc ∧ ¬ s.power.avsFail then s.writeVcore d late else s
  | none => s

/-- R472, R473: a new set-point, written at least 1 ms after the last write: at once, or when that time has passed. -/
def State.setVcore (s : State) (mv : Nat) (acks : List Bool) : State :=
  if mv = s.power.vcore then s
  else
    let s := { s with power := { s.power with vcore := mv } }
    match s.power.avsWrite with
    | some w => if s.time.cyc < w + msCyc 1 then { s with power := { s.power with avsDue := some (w + msCyc 1) } }
                else s.writeVcore s.time.cyc acks
    | none => s.writeVcore s.time.cyc acks

/-- R472, R474: VOUT_MODE, read once after pilot boot; an answer that is not what R472 requires of the regulator is a
failure (log entry 164). -/
def State.readMode (s : State) (mode : List (Option Nat)) : State :=
  if s.power.voutExp.isSome then s
  else
    let r := tries s.pmTries mode
    let s := s.pmSend 0x20 none r.1
    match r.2.bind voutMode with
    | some n => { s with power := { s.power with voutExp := some n } }
    | none => s.avsFails

/-- R474: a READ_VOUT code lies more than 20 mV from the set-point. -/
def voutAway (n code mv : Nat) : Bool := decide (code * 1000 + 20 * 2 ^ n < mv * 2 ^ n) || decide ((mv + 20) * 2 ^ n < code * 1000)

/-- R472, R474: READ_VOUT, read once per round: whether the round succeeds. -/
def State.readVout (s : State) (vout : List (Option Nat)) : State × Bool :=
  match s.power.voutExp with
  | none => (s, false)
  | some n =>
    let r := tries s.pmTries vout
    let s := s.pmSend 0x8B none r.1
    match r.2 with
    | none => (s, false)
    | some c =>
      let away := if voutAway n c s.power.vcore then min 3 (s.power.avsOff + 1) else 0
      ({ s with power := { s.power with avsOff := away } }, decide (away < 3))

/-- R473: the set-point after a round. -/
def State.vcoreNext (s : State) (above : Nat) : Nat :=
  if s.roundv F.AVS_EN = 0 then s.roundv F.FIXED_MV
  else if s.power.margin < Config.avsLow then min 800 (s.power.vcore + 5)
  else if 10 ≤ above then max 650 (s.power.vcore - 5)
  else s.power.vcore

/-- R474: a round while the fault condition lasts: what failed is tried once more, and with the first success the condition
ends. -/
def State.avsRetry (s : State) (read : Bool) (acks : List Bool) : State :=
  if ¬ read then s
  else
    let s := if s.power.avsOwed then s.writeVcore s.time.cyc acks else s
    if s.power.avsOwed then s else { s with power := { s.power with avsFail := false } }

/-- R472 to R474: the core supply at the end of a round. -/
def State.avsRound (s : State) (r : Readings) : State :=
  let s := { s with power := { s.power with margin := r.margin, pmSent := [] } }
  let failing := s.power.avsFail
  let s := (s.settleVcore r.late).readMode r.mode
  let above := if Config.avsHigh < r.margin then min 10 (s.power.avsAbove + 1) else 0
  let (s, read) := s.readVout r.vout
  let s := { s with power := { s.power with avsAbove := above } }
  if failing then (s.avsRetry read r.acks).floor
  else if ¬ read then s.avsFails.floor
  else if s.power.avsFail then s.floor
  else
    let mv := s.vcoreNext above
    let s := { s with power := { s.power with avsAbove := if 10 ≤ above then 0 else above } }
    let s := if s.power.avsOwed then ({ s with power := { s.power with vcore := mv } } : State).writeVcore s.time.cyc r.acks
             else s.setVcore mv r.acks
    s.floor

/-- AVS_CRITICAL_MARGIN (R473): the core voltage rises by 10 mV at once. -/
def execAvsCriticalMargin (t : Cyc) (r : Readings) (s : State) : Host.Outcome State Fault Refusal :=
  let s := s.at t
  if ¬ s.serving ∨ ¬ r.margin < Config.avsCritical then nextOf s
  else
    let s := ({ s with power := { s.power with margin := r.margin } } : State).settleVcore r.late
    if s.roundv F.AVS_EN = 1 ∧ ¬ s.power.avsFail then nextOf ((s.setVcore (min 800 (s.power.vcore + 10)) r.acks).floor)
    else nextOf s.floor

/-! ## Checks (R476, R463) -/

/-- R476, R530: the nominal value of a supply channel, mV. -/
def State.nominalMv (s : State) (ch : Nat) : Nat :=
  if ch < 2 then s.power.vcore else nth [800, 900, 1200, 1050, 900, 500, 1800, 3300, 1800, 900] (ch - 2) 0

/-- R476: the supplies checked. -/
def State.supplyRound (s : State) : State :=
  let off (ch : Nat) : Bool :=
    let v := Config.supplyMv ch (nth s.power.codes ch (0, false)).1
    let n := s.nominalMv ch
    decide (100 * v < 94 * n) || decide (106 * n < 100 * v)
  let counts := (List.range 12).map (fun ch => if off ch then min 4 (nth s.power.supplyBad ch 0 + 1) else 0)
  let new := (counts.filter (· == 3)).length
  let s := { s with power := { s.power with supplyBad := counts, supplyWarn := s.power.supplyWarn || decide (0 < new) } }
  if new = 0 then s else s.tallyBy T.PWR_SUPPLY_WARN new

/-- R463: the rail currents checked. -/
def State.currentRound (s : State) : State :=
  (List.range 8).foldl (fun s r =>
    let x := nth s.power.rails r {}
    let high : Bool := s.railUsed r && x.enable && !s.falling r && decide (s.get (F.ILIMIT r) < (nth s.power.codes (20 + r) (0, false)).1)
    if ¬ high then s.modRail r (fun x => { x with overCur := 0 })
    else if x.overCur = 0 then s.modRail r (fun x => { x with overCur := 1 })
    else s.railFault r) s

/-- R161: the energies of the round, for the next scene cut. -/
def State.energyRound (s : State) : State :=
  let clocks := Tab.getD s.obs.tallies T.TRW_CLOCKS 0
  let total := s.monitors 33 27
  let e := (s.monitors 33 16, s.monitors 53 2, total, clocks - s.harbour.roundClocks, s.harbour.roundBytes)
  { s with harbour := { s.harbour with energy := some e, roundClocks := clocks, roundBytes := 0 },
           power := { s.power with totalMw := satN total 16 } }

/-- R31: PowerConfig, ThermalConfig and NtcTable come into force. -/
def State.takeRoundConfig (s : State) : State :=
  { s with cfg := { s.cfg with round := [(0x1E20, s.obj 0x1E20), (0x1E30, s.obj 0x1E30), (0x1E31, s.obj 0x1E31)] } }

/-! ## Latched shutdown (R485) -/

/-- R485: a node or a valid diode is at or above 118 degrees. -/
def State.tooHot (s : State) : Bool :=
  decide (118 * 256 ≤ s.hottest) || s.power.diodes.any (fun d => match d with | some x => decide (118 * 256 ≤ x) | none => false)

/-- R485: trowels, codec and Skim stop. -/
def State.enginesStop (s : State) : State :=
  { s with synth := { s.synth with gangs := s.synth.gangs.map (fun g => { g with queue := [], running := [] }) },
           codec := { s.codec with lanes := List.replicate 8 none, clanes := [[], []], cctx := [none, none], libs := [],
                                   repairs := [] },
           skim := { s.skim with queue := [], running := false, waiting := none } }

/-- R485, R499: the latched shutdown fires. -/
def State.shutdown (s : State) : State :=
  let s := s.powerRec 3 0
  let s := s.zonesLow.linksStop.enginesStop.oneRecord
  let s := { s with start := { s.start with phase := .shuttingDown, restartDue := none },
                    power := { s.power with thermN := false },
                    time := { s.time with trigs := s.time.trigs.map (fun (x : Trig) => { x with level := false }) },
                    fascia := { s.fascia with update := none, foe := false, bits := [] },
                    gw := { s.gw with irqN := true, miso := [] }, nvm := { s.nvm with interpreting := false, held := none } }
  s.startSeq false

/-- SHUTDOWN_HALT (R485, R441): the last enable is low; the record in progress has completed, the backbone ports go DOWN and
the device halts. -/
def execShutdownHalt (t : Cyc) (s : State) : Host.Outcome State Fault Refusal :=
  let s := s.at t
  if s.start.phase = .shuttingDown ∧ s.power.rails.all (fun r => !r.enable) then
    let s := s.finishRecord
    nextOf { s with start := { s.start with phase := .halted }, bb := s.bb.map (fun _ => {}) }
  else nextOf s

/-! ## Rounds (R475) -/

/-- R347, R475: rounds run in this phase. -/
def State.rounds (s : State) : Bool :=
  match s.start.phase with
  | .rom | .bridge | .pilotBoot | .running | .recovery | .sramFault | .restarting => true
  | _ => false

/-- HOUSEKEEPING_ROUND_START (R347): a whole multiple of 10 ms of local time. -/
def execHousekeepingRoundStart (t : Cyc) (s : State) : Host.Outcome State Fault Refusal :=
  let s := s.at t
  let r := s.ns / 10000000 * 10000000
  if s.rounds ∧ ¬ s.power.converting ∧ (¬ s.start.roundDone ∨ r ≠ s.power.roundNs) then
    nextOf { s with power := { s.power with converting := true, roundNs := r } }
  else nextOf s

/-- R475: the end of a round but for what the fascia and the seal record do with it (R499, R415). -/
def State.roundEnd (s : State) (r : Readings) : State :=
  let s := s.takeRoundConfig
  let s := { s with power := { s.power with converting := false }, start := { s.start with roundDone := true } }
  let s := (s.takeCodes r.codes).takeSensors
  let s := s.energyRound.model.limitStep
  if s.tooHot then s.shutdown
  else
    let s := s.blStepRound
    -- a restart holds BL_ILIM low (R525)
    let s := if s.start.phase = .restarting then s else s.brightness
    let s := if s.serving then s.avsRound r else s
    s.supplyRound.currentRound

/-! ## Commands -/

/-- POWER_CONFIGURE: the object SELECT names. -/
def powerObj (pl : List Byte) : Nat := match num pl 0 1 with | 0 => 0x1E20 | 1 => 0x1E30 | _ => 0x1E31

/-- POWER_CONFIGURE: fields in range (R489, R490). -/
def powerOk (pl : List Byte) : Bool :=
  let ws := toWords ((pl.length - 4) / 4) (pl.drop 4)
  zeroAt pl 1 3 && wordsOk (powerObj pl) ws &&
  (match num pl 0 1 with
   | 0 =>
     let cap := fieldOf ws 0 0 6
     let mv := fieldOf ws 1 0 10
     let adr := fieldOf ws 0 8 7
     decide (20 ≤ cap) && decide (cap ≤ 48) && cap % 4 == 0 && decide (8 ≤ adr) && decide (adr ≤ 0x77) &&
     decide (650 ≤ mv) && decide (mv ≤ 800) && mv % 5 == 0
   | 1 =>
     let w (i : Nat) : Nat := (nth ws i 0).toNat
     decide (1000 ≤ w 0) && decide (w 0 ≤ 100000) && decide (100 ≤ w 1) && decide (w 1 ≤ 100000) &&
     decide (1000 ≤ w 2) && decide (w 2 ≤ 100000000) && decide ((w 0 + w 1) / 50 ≤ w 2) && decide (w 3 ≤ 100000)
   | 2 =>
     let codes := (List.range 17).map (fun k => (fieldOf ws k 0 12 : Int))
     rising codes || rising codes.reverse
   | _ => false)

/-- POWER_CONFIGURE (R489, R490). -/
def cardPowerConfigure : Card where
  opcode := 0x0C01
  deferred := false
  lenOk := fun pl => match num pl 0 1 with
    | 0 => lenIs 12 pl
    | 1 => lenIs 20 pl
    | 2 => lenIs 72 pl
    | _ => decide (4 ≤ pl.length)
  params := fun _ _ pl => powerOk pl
  run := fun s _ pl => done (s.setObj (powerObj pl) (toWords ((pl.length - 4) / 4) (pl.drop 4)))

/-- BACKLIGHT_CONFIGURE: fields in range; every used zone keeps to R466. -/
def backlightOk (ws : List Word) : Bool :=
  let f (x : Fld) : Nat := fieldOf ws x.word x.lo x.w
  wordsOk 0x1E10 ws && decide (1 ≤ f F.DUTY) && decide (f F.DUTY ≤ 2087) &&
  (List.range 16).all (fun z =>
    decide (f (F.FIRST_LINE z) ≤ f (F.LAST_LINE z)) &&
    (f (F.ZONE_SECTORS z) == 0 ||
     decide (f (F.LAST_LINE z) + 1 + f F.SETTLE + f F.DUTY ≤ f (F.FIRST_LINE z) + 2088))) &&
  rising ((List.range 8).map (fun k => (f (F.POINT_ALS k) : Int))) && decide (1 ≤ f F.RAMP) &&
  decide (40 ≤ f F.BL_T_STEP) && decide (f F.BL_T_STEP ≤ 125) && decide (2 ≤ f F.BL_T_HYST) && decide (f F.BL_T_HYST ≤ 20)

/-- BACKLIGHT_CONFIGURE (R488, R469). -/
def cardBacklightConfigure : Card where
  opcode := 0x0C02
  deferred := false
  lenOk := lenIs 172
  params := fun _ _ pl => backlightOk (toWords 43 pl)
  run := fun s _ pl => done (s.setObj 0x1E10 (toWords 43 pl))

/-- RAIL_PROFILE_SET: fields in range; positions distinct among the used rails. -/
def railsOk (ws : List Word) : Bool :=
  let f (x : Fld) : Nat := fieldOf ws x.word x.lo x.w
  let used := idxs 8 (fun r => bit (f F.RAILS_USED) r)
  wordsOk 0x1E00 ws && decide (1 ≤ f F.PG_TIMEOUT_MS) &&
  distinct (used.map (fun r => f (F.UP_POS r))) && distinct (used.map (fun r => f (F.DOWN_POS r)))

/-- RAIL_PROFILE_SET (R487). -/
def cardRailProfileSet : Card where
  opcode := 0x0C03
  deferred := false
  lenOk := lenIs 68
  params := fun _ _ pl => railsOk (toWords 17 pl)
  judge := fun s _ _ => if s.scan.mode = 0 ∧ s.power.railSeq = 0 then Status.OK else Status.BAD_STATE
  run := fun s _ pl => done (s.setObj 0x1E00 (toWords 17 pl)).clearFaults

/-- THERMAL_QUERY (R491): from the latest snapshot. -/
def cardThermalQuery : Card where
  opcode := 0x0C04
  deferred := false
  lenOk := lenIs 0
  params := fun _ _ _ => true
  run := fun s _ _ => (s, Status.OK, s.statusBytes 0x2F90 ++ s.statusBytes 0x2F91)

end Sys2Proof.Machine
end

