-- ==== Sys2Proof/Machine/Fascia.lean ====
section
/-! DEFINITION. The fascia port (R493 to R506): the waveform, updates and their journal marks, aborts and restores, and
the choice of what is drawn. -/

namespace Sys2Proof.Machine

/-! ## The waveform (R494, R496) -/

/-- R494: a 2-bit code, most significant bit first. -/
def codeBits (c : Nat) : List Nat := [c / 2 % 2, c % 2]

/-- R496: bit `c × 40 + s` of an image. -/
def imageBit (image : List Byte) (c sg : Nat) : Bool :=
  let b := c * 40 + sg
  bit (nth image (b / 8) 0).toNat (b % 8)

/-- R496: the common selected in a frame of the selection phase. -/
def FasciaUpdate.common (u : FasciaUpdate) : Nat := (u.commons * u.select - u.left) / u.select

/-- R496: the code of common `c` in the present frame. -/
def FasciaUpdate.commonCode (u : FasciaUpdate) (c : Nat) : Nat :=
  if u.commons ≤ c then 0
  else match u.phase with
    | 0 => 3
    | 1 => 2
    | 2 => if u.common = c then 3 else 0
    | 3 => 1
    | _ => 0

/-- R496: the code of segment `sg` in the present frame. -/
def FasciaUpdate.segmentCode (u : FasciaUpdate) (sg : Nat) : Nat :=
  if u.segments ≤ sg ∨ u.phase ≠ 2 then 0 else if imageBit u.image u.common sg then 1 else 2

/-- R494: the 89 bits of the present frame. -/
def FasciaUpdate.bits (u : FasciaUpdate) : List Nat :=
  [u.frame % 2] ++ (List.range 4).flatMap (fun c => codeBits (u.commonCode c)) ++
  (List.range 40).flatMap (fun sg => codeBits (u.segmentCode sg))

/-- R500: a restore of an image that is all zero is a reset phase and the end frame. -/
def FasciaUpdate.resetOnly (u : FasciaUpdate) : Bool := u.restore && allZero u.image

/-- R496, R499, R500: the update in the frame after its present one. Phase 5 stands for the end of the end frame. -/
def FasciaUpdate.next (u : FasciaUpdate) : FasciaUpdate :=
  let u := { u with frame := u.frame + 1 }
  if 1 < u.left then { u with left := u.left - 1 }
  else if u.resetLeft then { u with phase := 0, left := u.reset, resetLeft := false }
  else match u.phase with
    | 0 => if u.abort || u.resetOnly then { u with phase := 4, left := 1 } else { u with phase := 1, left := u.prep }
    | 1 => { u with phase := 2, left := u.commons * u.select }
    | 2 => { u with phase := 3, left := u.evol }
    | 3 => { u with phase := 4, left := 1 }
    | _ => { u with phase := 5, left := 0 }

/-! ## Start and end of an update (R498) -/

/-- R498, R506: FasciaLast as the one PART record of a transaction. -/
def State.fasciaTxn (s : State) (why : WriteFor) (inProgress : Bool) (last : List Byte) : Txn :=
  let f : Fascia := { s.fascia with inProgress := inProgress, last := last }
  { purpose := why, steps := journalSteps s.runGen 0 [.record 1 s.runGen 0x1F02 0 (ofWords f.lastWords)] }

/-- R497, R498, R503: the update of an image, with everything it latches. -/
def State.newUpdate (s : State) (image : List Byte) (source seq : Nat) (cmd : Option (Nat × Nat × Nat)) (restore : Bool)
    (band : Nat) : FasciaUpdate :=
  { image := image, stage := .mark, source := source, seq := seq, done := cmd, band := band, reset := s.get (F.T_RESET band),
    prep := s.get (F.T_PREP band), select := s.get (F.T_SELECT band), evol := s.get (F.T_EVOL band),
    commons := s.get F.COMMONS, segments := s.get F.SEGMENTS, range := (s.getS F.TMIN, s.getS (F.TMAX 7)), frame := 0,
    shown := false, boundary := 0, frameCyc := 0, phase := 0, left := s.get (F.T_RESET band), abort := false, resetLeft := false, restore := restore }

/-- R503: the command of a host slot that the drawing of its image completes. -/
def FasciaSlot.cmd (x : FasciaSlot) (k : Nat) : Option (Nat × Nat × Nat) := if x.tag = 0 then none else some (k, x.slot, x.tag)

/-- R498, R500, R503: the update that is due starts with its mark. -/
def State.fasciaStart (s : State) : State :=
  match s.fasciaBand with
  | none => s
  | some band =>
    let u : Option FasciaUpdate :=
      if s.fascia.restoreDue then some (s.newUpdate s.fascia.last 0 0 none true band)
      else match s.fasciaTarget with
        | some (i, src, some k) =>
          let x := nth s.fascia.slots k {}
          some (s.newUpdate i src (x.high.getD 0) (x.cmd k) false band)
        | some (i, src, none) => some (s.newUpdate i src 0 none false band)
        | none => none
    match u with
    | none => s
    | some u =>
      ({ s with fascia := { s.fascia with update := some u } } : State).pushTxn (s.fasciaTxn .fasciaMark true s.fascia.last)

/-- FASCIA_UPDATE_START (R498, R503): the update of a new target is marked in the journal. -/
def execFasciaUpdateStart (t : Cyc) (s : State) : Host.Outcome State Fault Refusal :=
  let s := s.at t
  if s.serving ∧ s.nvm.interpreting ∧ s.fascia.update.isNone ∧ s.fasciaDue ∧ s.fasciaMay then nextOf s.fasciaStart
  else nextOf s

/-- R495: the whole millisecond of local time. -/
def State.wholeMs (s : State) : Nat := s.ns / 1000000

/-- R498: the mark is committed: frames follow, the first at the first boundary after it. -/
def State.fasciaMarked (s : State) : State :=
  { s with fascia := { s.fascia with
      inProgress := true, update := s.fascia.update.map (fun u => { u with stage := .frames, boundary := s.wholeMs }) } }

/-- R498: the closing transaction written once commands are interpreted. -/
def State.fasciaClosing (s : State) : State :=
  match s.fascia.update with
  | some u =>
    if u.stage = .closing ∧ s.nvm.interpreting ∧ ¬ s.nvm.queue.any (fun x => x.purpose == .fasciaClose) then
      s.pushTxn (s.fasciaTxn .fasciaClose false (if u.abort then zeros 20 else u.image))
    else s
  | none => s

/-- R502, R503: the final event of a FASCIA_IMAGE, at the present local time. -/
def State.imageEvent (s : State) (owner tag result : Nat) : State :=
  s.finalEvent owner tag 0x0D02 Status.OK ([byte result, 0, 0, 0] ++ le 8 s.ns)

/-- R503: a command of a host slot completed; the slot no longer holds it outstanding. -/
def State.imageDone (s : State) (k owner tag result : Nat) : State :=
  let f (x : FasciaSlot) : FasciaSlot := if x.slot = owner ∧ x.tag = tag then { x with tag := 0 } else x
  ({ s with fascia := { s.fascia with slots := modAt s.fascia.slots k f } } : State).imageEvent owner tag result

/-- R498, R499, R500: the closing transaction is committed and the update is over. An aborted update leaves its image to
be drawn again; a replaced image has no later update and completes as superseded. An aborted restore stays due: it is a
restore of LAST_IMAGE as the abort left it (log entry 161). -/
def State.fasciaClosed (s : State) : State :=
  match s.fascia.update with
  | none => s
  | some u =>
    let last := if u.abort then zeros 20 else u.image
    let f := { s.fascia with update := none, inProgress := false, last := last, aborted := s.fascia.aborted || u.abort,
                             restored := s.fascia.restored || (u.restore && !u.abort),
                             restoreDue := s.fascia.restoreDue && !(u.restore && !u.abort) }
    let s := { s with fascia := f }
    let s := if u.abort then s.tally T.FAS_ABORT else s.tally T.FAS_UPDATE
    let s := if u.restore && !u.abort then s.tally T.FAS_RESTORE else s
    match u.done with
    | none => s
    | some (k, owner, tag) =>
      let x := nth s.fascia.slots k {}
      if ¬ u.abort then s.imageDone k owner tag 0
      else if x.slot = owner ∧ x.tag = tag then s
      else s.imageEvent owner tag 1

/-- R495, R496: the frame that starts at a boundary: the first one of the update, or the one after its present frame. -/
def FasciaUpdate.step (u : FasciaUpdate) (ms cyc : Nat) : FasciaUpdate :=
  let v := if u.shown then u.next else { u with shown := true }
  { v with boundary := ms, frameCyc := cyc }

/-- FASCIA_FRAME (R495, R496): at a whole millisecond of local time the present frame ends and the next is shifted out and
latched; after the end frame FOE falls. -/
def execFasciaFrame (t : Cyc) (s : State) : Host.Outcome State Fault Refusal :=
  let s := s.at t
  match s.fascia.update with
  | some u =>
    if u.stage ≠ .frames ∨ ¬ s.serving ∨ s.wholeMs = u.boundary then nextOf s
    else
      let v := u.step s.wholeMs s.time.cyc
      if v.phase = 5 then
        let f := { s.fascia with foe := false, bits := [], update := some { v with stage := .closing } }
        nextOf ({ s with fascia := f } : State).fasciaClosing
      else nextOf { s with fascia := { s.fascia with foe := true, bits := v.bits, update := some v } }
  | none => nextOf s

/-! ## The pins (R493, R495) -/

/-- The levels of the four fascia pins. -/
structure FasciaPins where
  fclk : Bool
  fdat : Bool
  flat : Bool
  foe  : Bool
  deriving DecidableEq, Repr

/-- R493, R495: the pins of the port: low while no frame of an update runs. From the start of a frame FCLK has a period of 80
timebase cycles (200 ns), low in its first half; FDAT changes at its falling edges; FLAT is high for 200 ns from 100 ns after
the last falling edge; FOE is high from 1 us before the first FLAT. Where FCLK begins in the frame is the model's choice
(log entry 162). -/
def State.fasciaPins (s : State) : FasciaPins :=
  match s.fascia.update with
  | some u =>
    if ¬ s.fascia.foe then { fclk := false, fdat := false, flat := false, foe := false }
    else
      let d := s.time.cyc - u.frameCyc
      let k := d / 80
      { fclk := decide (k < 89) && decide (40 ≤ d % 80), fdat := nth s.fascia.bits k 0 == 1,
        flat := decide (7160 ≤ d) && decide (d < 7240), foe := decide (0 < u.frame) || decide (6760 ≤ d) }
  | none => { fclk := false, fdat := false, flat := false, foe := false }

/-! ## Aborts (R499) -/

/-- R499: the running update is cut short: the phase of its present frame completes, and a reset phase and the end frame
follow. A reset phase serves as that one. -/
def FasciaUpdate.cut (u : FasciaUpdate) : FasciaUpdate :=
  if u.stage = .closing ∨ u.abort then u else { u with abort := true, resetLeft := u.phase ≠ 0 }

/-- R499: the update that runs is cut short. -/
def State.fasciaAbort (s : State) : State :=
  { s with fascia := { s.fascia with update := s.fascia.update.map FasciaUpdate.cut } }

/-- R499: T has left the range that the update latched. -/
def State.fasciaRange (s : State) : State :=
  match s.fascia.update, nth s.power.ntcs 1 none with
  | some u, some temp => if u.range.1 ≤ temp ∧ temp < u.range.2 then s else s.fasciaAbort
  | some _, none => s.fasciaAbort
  | none, _ => s

/-- R511: Jonyk's log lines at or below LOG_LEVEL go to the wake. Which lines there are is a free value, and when they are written
is the model's choice: at the end of a round (log entry 165). -/
def State.logLines (s : State) : State :=
  let put (s : State) (e : BitVec 3 × List (BitVec 7)) : State :=
    let text := (e.2.take 108).map (fun c => byte c.toNat)
    if e.1.toNat ≤ s.get F.LOG_LEVEL then s.wakeRec 0x0701 ([byte e.1.toNat, 0] ++ le 2 text.length ++ text) else s
  (Config.logLines s.time.freeCount).foldl put s.took

/-- HOUSEKEEPING_ROUND_END (R475): conversions end; the model, the limits and every check update. -/
def execHousekeepingRoundEnd (t : Cyc) (r : Readings) (s : State) : Host.Outcome State Fault Refusal :=
  let s := s.at t
  if ¬ s.power.converting ∨ ¬ s.rounds then nextOf s
  else
    let s := s.roundEnd r
    if s.serving then nextOf s.fasciaRange.sealRetry.logLines else nextOf s

/-! ## Commands -/

/-- R496: an image of 20 bytes sets no bit outside COMMONS × SEGMENTS. -/
def imageWithin (image : List Byte) (commons segments : Nat) : Bool :=
  (List.range 160).all (fun b => !(bit (nth image (b / 8) 0).toNat (b % 8)) || (decide (b / 40 < commons) && decide (b % 40 < segments)))

/-- FASCIA_CONFIGURE: fields in range (R504, R505). -/
def fasciaOk (pl : List Byte) : Bool :=
  let ws := toWords ((pl.length - 4) / 4) (pl.drop 4)
  let f (x : Fld) : Nat := fieldOf ws x.word x.lo x.w
  zeroAt pl 1 3 &&
  (match num pl 0 1 with
   | 0 =>
     wordsOk 0x1F00 ws && decide (1 ≤ f F.COMMONS) && decide (f F.COMMONS ≤ 4) && decide (1 ≤ f F.SEGMENTS) &&
     decide (f F.SEGMENTS ≤ 40) &&
     (List.range 4).all (fun j => imageWithin (slice pl (8 + 20 * j) 20) (f F.COMMONS) (f F.SEGMENTS))
   | 1 =>
     let dur (n : Nat) : Bool := decide (1 ≤ n) && decide (n ≤ 10000)
     wordsOk 0x1F01 ws &&
     rising (signed (f F.TMIN) 16 :: (List.range 8).map (fun k => signed (f (F.TMAX k)) 16)) &&
     (List.range 8).all (fun k => dur (f (F.T_RESET k)) && dur (f (F.T_PREP k)) && dur (f (F.T_SELECT k)) && dur (f (F.T_EVOL k)))
   | _ => false)

/-- FASCIA_CONFIGURE: what a new FasciaConfig does at once: clearing ENABLE cuts a running update short (R499). -/
def State.fasciaEnabled (s : State) : State := if s.get F.FA_ENABLE = 0 then s.fasciaAbort else s

/-- FASCIA_CONFIGURE (R504, R505). -/
def cardFasciaConfigure : Card where
  opcode := 0x0D01
  deferred := false
  lenOk := fun pl => match num pl 0 1 with
    | 0 => lenIs 88 pl
    | 1 => lenIs 104 pl
    | _ => decide (4 ≤ pl.length)
  params := fun _ _ pl => fasciaOk pl
  run := fun s _ pl =>
    done (s.setObj (if num pl 0 1 = 0 then 0x1F00 else 0x1F01) (toWords ((pl.length - 4) / 4) (pl.drop 4))).fasciaEnabled

/-- R502: the image a slot holds is replaced or cleared: its command completes as superseded, unless its update runs. -/
def State.supersede (s : State) (k : Nat) : State :=
  let x := nth s.fascia.slots k {}
  match s.fascia.update.bind (·.done) with
  | some d => if some d = x.cmd k then s
    else if x.tag = 0 then s else (s.imageEvent x.slot x.tag 1).tally T.FAS_SUPERSEDED
  | none => if x.tag = 0 then s else (s.imageEvent x.slot x.tag 1).tally T.FAS_SUPERSEDED

/-- R502: a host image or CLEAR for a slot. -/
def State.fasciaPlace (s : State) (owner tag k : Nat) (clear : Bool) (seq : Nat) (image : List Byte) : State :=
  let x := nth s.fascia.slots k {}
  let newer : Bool := match x.high with | some h => newer32 seq h | none => true
  if ¬ newer then s.imageEvent owner tag 1
  else
    let s := s.supersede k
    let y : FasciaSlot := if clear then { image := none, high := some seq }
      else { image := some image, high := some seq, slot := owner, tag := tag }
    let s := { s with fascia := { s.fascia with slots := modAt s.fascia.slots k (fun _ => y) } }
    if clear then s.imageEvent owner tag 0 else s

/-- FASCIA_IMAGE (R502). -/
def cardFasciaImage : Card where
  opcode := 0x0D02
  deferred := true
  lenOk := lenIs 28
  params := fun s _ pl =>
    let image := slice pl 8 20
    decide (num pl 0 1 ≤ 3) && decide (num pl 1 1 ≤ 1) && zeroAt pl 2 2 &&
    imageWithin image (s.get F.COMMONS) (s.get F.SEGMENTS) && (num pl 1 1 == 0 || allZero image)
  judge := fun s _ _ => if s.get F.FA_ENABLE = 0 then Status.BAD_STATE else Status.OK
  run := fun s c pl => done (s.fasciaPlace c.owner c.tag (num pl 0 1) (num pl 1 1 == 1) (num pl 4 4) (slice pl 8 20))

/-- FASCIA_QUERY (R506): FasciaStatus from the latest snapshot, with FasciaLast. -/
def cardFasciaQuery : Card where
  opcode := 0x0D03
  deferred := false
  lenOk := lenIs 0
  params := fun _ _ _ => true
  run := fun s _ _ => (s, Status.OK, s.statusBytes 0x2FA0 ++ ofWords (s.settingAt 0x1F02))

end Sys2Proof.Machine
end

