-- ==== Sys2Proof/Machine/Group.lean ====
section
/-! DEFINITION. Loss reports (R120, R121) and the display group (R349 to R359): messages, liveness, lead and epoch,
group commits and repair. -/

namespace Sys2Proof.Machine

/-! ## Missing sequences and their reports (R120, R121) -/

/-- R120: the tail probe: HIGH + 1 is treated as missing. -/
def State.tailProbe (s : State) (n : Nat) : State :=
  let m := s.moor n
  if m.highOpen ∧ ¬ m.tailDone ∧ m.lastMark + 1000 * s.cutI F.M_NACK_DELAY n ≤ s.ns then
    let q := (m.high + 1) % 2 ^ 32
    let x : Miss := { seq := q, due := s.ns, tries := 0 }
    s.setMoor n { m with tailDone := true, missing := if m.missing.any (fun y => y.seq == q) then m.missing else m.missing ++ [x] }
  else s

/-- R120: the sequences of a mooring whose report is due, oldest first, as distances from BASE. -/
def State.dueSeqs (s : State) (n : Nat) : List Nat :=
  let m := s.moor n
  let l := m.missing.filter (fun x => decide (x.due ≤ s.ns) && decide (x.tries < s.cutI F.M_NACK_TRIES n) && !(m.got x.seq))
  sortBy (fun a b => decide (a < b)) (l.map (fun x => dist32 x.seq m.base))

/-- R121: the ranges of one report: (first, count), at most 64. -/
def reportRanges (base : Nat) (due : List Nat) : List (Nat × Nat) :=
  ((runs due).take 64).map (fun r => ((base + r.1) % 2 ^ 32, r.2 + 1 - r.1))

/-- R120, R121: the sequences of a report counted as reported now. -/
def State.reported (s : State) (n : Nat) (rs : List (Nat × Nat)) : State :=
  let next := s.ns + 1000 * s.cutI F.M_NACK_INTERVAL n
  s.modMoor n (fun m => { m with
    missing := m.missing.map (fun x =>
      if rs.any (fun r => decide (dist32 x.seq r.1 < r.2)) then { x with due := next, tries := x.tries + 1 } else x),
    nackAt := m.nackAt.filter (fun a => decide (s.ns < a + 1000000)) ++ [s.ns] })

/-- R121: fewer than 16 reports of the mooring in the last millisecond. -/
def State.reportRoom (s : State) (n : Nat) : Bool :=
  decide (((s.moor n).nackAt.filter (fun a => decide (s.ns < a + 1000000))).length < 16)

/-- R120, R121: reports sent by `send` while some are due and the limit allows. -/
def State.reports (send : State → Nat → List (Nat × Nat) → State) (n : Nat) : Nat → State → State
  | 0, s => s
  | k + 1, s =>
    let rs := reportRanges (s.moor n).base (s.dueSeqs n)
    if rs = [] ∨ ¬ s.reportRoom n then s
    else State.reports send n k ((send s n rs).reported n rs)

/-- R94, R121: one NACK sent. -/
def State.sendNack (s : State) (n : Nat) (rs : List (Nat × Nat)) : State :=
  let m := s.moor n
  let frame := match m.ordered.getLast? with | some x => x.id | none => m.floor
  let c := nackChunk n frame m.nackSerial m.session rs
  let s := s.setMoor n { m with nackSerial := (m.nackSerial + 1) % 2 ^ 32 }
  (s.sendUdp 2064 (s.cutv F.NACK_TC) m.srcIp (s.cutv F.SCENE_PORT) m.nackPort c).tally T.ING_NACK_SENT

/-- R121: a mooring reports at all, RETURN_PORT apart: not in LIBRARY, and not without a session, whose value 0 no chunk carries
(R110; log entry 116). -/
def State.reportsOn (s : State) (n : Nat) : Bool :=
  s.serving && (s.moor n).state != 4 && (s.moor n).session != 0 && s.cutI F.M_NACK_EN n == 1 && s.cutI F.M_NACK_TRIES n != 0

/-- NACK_DUE (R120, R121). -/
def execNackDue (t : Cyc) (n : Nat) (s : State) : Host.Outcome State Fault Refusal :=
  let s := s.at t
  if s.reportsOn n ∧ (s.moor n).nackPort ≠ 0 then nextOf (State.reports State.sendNack n 16 (s.tailProbe n)) else nextOf s

/-! ## Repair (R359) -/

/-- R359: repair covers a mooring. -/
def State.repairable (s : State) (n : Nat) : Bool :=
  s.get F.REPAIR_EN == 1 && s.groupShared n && (s.moor n).nackPort == 0

/-- R359: one REPAIR_REQ sent to the lead. -/
def State.sendRepairReq (s : State) (n : Nat) (rs : List (Nat × Nat)) : State :=
  let ip := nth s.group.address (s.group.leadRank.getD 0) 0
  if ip = 0 then s
  else s.sendUdp 2067 (s.get F.GROUP_TC) ip (s.get F.GROUP_PORT) (s.get F.GROUP_PORT)
    (s.groupMessage 3 (le 2 n ++ le 2 rs.length ++ rs.flatMap (fun r => le 4 r.1 ++ le 4 r.2)))

/-- REPAIR_REQ_SEND (R359): a member asks its lead at the instants a NACK would be sent. -/
def execRepairReqSend (t : Cyc) (n : Nat) (s : State) : Host.Outcome State Fault Refusal :=
  let s := s.at t
  if s.reportsOn n ∧ s.repairable n ∧ s.hasLead then nextOf (State.reports State.sendRepairReq n 16 (s.tailProbe n)) else nextOf s

/-- R359: chunks joined into messages of at most 9,100 bytes. -/
def packChunks (acc : List Byte) : List (List Byte) → List (List Byte)
  | [] => if acc = [] then [] else [acc]
  | c :: r => if acc.length + c.length ≤ 9100 then packChunks (acc ++ c) r
              else (if acc = [] then packChunks c r else acc :: packChunks c r)

/-- R359: the lead answers a request with the chunks it holds. -/
def State.answerRepair (s : State) (rank ip n : Nat) (rs : List (Nat × Nat)) : State :=
  if ¬ s.group.lead ∨ ¬ s.repairable n then s
  else
    let m := s.moor n
    let l := m.chunks.filter (fun c => c.bytes != [] && decide (c.bytes.length ≤ 9100) &&
      rs.any (fun r => decide (dist32 c.seq r.1 < r.2)))
    let l := sortBy (fun a b => decide (dist32 a.seq m.base < dist32 b.seq m.base)) l
    let jobs := (packChunks [] (l.map (·.bytes))).map (fun b => (rank, ip, n, b))
    State.repairPump { s with group := { s.group with repairJobs := s.group.repairJobs ++ jobs } }

/-- R359, R130: a REPAIR stream becomes a job of the lane that its mooring is assigned. -/
def State.takeRepair (s : State) (n : Nat) (stream : List Byte) : State :=
  if s.group.lead ∨ ¬ s.repairable n then s
  else { s with codec := { s.codec with repairs := s.codec.repairs ++ [(s.ingest.order, n, stream)] },
                ingest := { s.ingest with order := s.ingest.order + 1 } }

/-! ## Lead and epoch (R353 to R355) -/

/-- R354: the device has a live lead of its epoch, itself included. -/
def State.leadLive (s : State) : Bool := s.group.lead || s.hasLead

/-- R355: a lead demotes itself. -/
def State.demoteSelf (s : State) : State :=
  if ¬ s.group.lead then s
  else (({ s with group := { s.group with lead := false, demoted := true, leadRank := none } } : State).tally T.GRP_DEMOTED).timeRec
    4 s.time.state.code s.group.epoch

/-- R354, R76: the newest of the epochs seen. -/
def newestEpoch (old : Option Nat) (e : Nat) : Option Nat :=
  match old with
  | some o => if newer32 e o then some e else some o
  | none => some e

/-- R354: the device becomes lead of a new epoch. -/
def State.takeLead (s : State) : State :=
  let e := ((s.group.newest.getD 0) + 1) % 2 ^ 32
  let g := { s.group with lead := true, leadChanged := true, leadRank := some (s.get F.RANK), epoch := e, newest := some e }
  let moors := s.ingest.moorings.map (fun p => (p.1, { p.2 with sentCommit := none }))
  let s := { s with group := g, ingest := { s.ingest with moorings := moors } }
  ((s.tally T.GRP_LEAD_TAKEN).timeRec 3 s.time.state.code e).elect

/-- R355: the epoch of a received message handled. `claims` tells a lead heartbeat or a COMMIT, `beat` a lead
heartbeat. -/
def State.takeEpoch (s : State) (rank e : Nat) (claims beat : Bool) : State :=
  let s := { s with group := { s.group with newest := newestEpoch s.group.newest e } }
  if newer32 e s.group.epoch then
    let s := s.demoteSelf
    { s with group := { s.group with epoch := e, leadRank := if claims then some rank else none } }
  else if e = s.group.epoch then
    if ¬ beat then s
    else if s.group.lead then
      if rank < s.get F.RANK then
        let s := s.demoteSelf
        { s with group := { s.group with leadRank := some rank } }
      else s
    else match s.group.leadRank with
      | some r => if rank < r then { s with group := { s.group with leadRank := some rank } } else s
      | none => { s with group := { s.group with leadRank := some rank } }
  else if claims then (s.tally T.GRP_STALE_EPOCH).timeRec 5 s.time.state.code e
  else s

/-- R357: a message counts as one of the device's lead. -/
def State.fromLead (s : State) (rank e : Nat) : Bool := !s.group.lead && s.group.leadRank == some rank && e == s.group.epoch

/-- R357: the lead's group frame commit of a mooring. -/
def State.groupCommitted (s : State) (n frame : Nat) : State :=
  if s.groupShared n then
    let e := s.group.epoch
    s.modMoor n (fun m => { m with groupCommit := match m.groupCommit with
      | some g => if g.2 ≠ e ∨ newer32 frame g.1 then some (frame, e) else some g
      | none => some (frame, e) })
  else s

/-! ## Messages (R350) -/

/-- R350: the checks of a group message besides its GROUP_ID: framing, CRC and reserved bits. -/
def groupFramed (d : Datagram) : Bool :=
  let b := d.payload
  !d.ipOptions && !d.fragment && !d.badChecksum && decide (32 ≤ b.length) && num b 0 2 == 0x4C47 && num b 2 1 == 1 &&
  decide (1 ≤ num b 3 1 ∧ num b 3 1 ≤ 4) && num b 4 2 == b.length && b.length % 4 == 0 && decide (num b 7 1 < 8) &&
  num b 0x14 8 == 0 && num b 0x1C 4 == chunkCrc b

/-- R351: the payload of a heartbeat. -/
def heartbeatOk (pl : List Byte) : Bool :=
  decide (32 ≤ pl.length) && decide (num pl 0 1 ≤ 1) && decide (num pl 5 1 ≤ 32) && num pl 6 2 == 0 &&
  pl.length == 32 + 12 * num pl 5 1 && (List.range (num pl 5 1)).all (fun i => decide (num pl (0x22 + 12 * i) 2 < 4))

/-- R359: the payload of a REPAIR_REQ. -/
def repairReqOk (pl : List Byte) : Bool :=
  decide (4 ≤ pl.length) && decide (1 ≤ num pl 2 2 ∧ num pl 2 2 ≤ 64) && pl.length == 4 + 8 * num pl 2 2

/-- R359: the payload of a REPAIR. -/
def repairOk (pl : List Byte) : Bool := decide (4 ≤ pl.length) && pl.length == 4 + 4 * cdiv (num pl 2 2) 4

/-- R350: the payload checks of a message type. -/
def groupPayloadOk (type : Nat) (pl : List Byte) : Bool :=
  match type with
  | 1 => heartbeatOk pl
  | 2 => pl.length == 8 && num pl 2 2 == 0
  | 3 => repairReqOk pl
  | _ => repairOk pl

/-- The entries of a heartbeat: (mooring, flags, READY_FRAME, COMMIT_FRAME). -/
def beatEntries (pl : List Byte) : List (Nat × Nat × Nat × Nat) :=
  (List.range (num pl 5 1)).map (fun i =>
    (num pl (0x20 + 12 * i) 2, num pl (0x22 + 12 * i) 2, num pl (0x24 + 12 * i) 4, num pl (0x28 + 12 * i) 4))

/-- R358: a member that holds over takes the lead's switch. -/
def State.followSwitch (s : State) (k sNs : Nat) : State :=
  match s.time.state with
  | .holdover | .free | .test => { s with time := { s.time with switchTo := some (k, sNs) } }
  | _ => s

/-- R352, R355, R356, R358: a heartbeat of another rank. -/
def State.heartbeatIn (s : State) (rank e : Nat) (pl : List Byte) : State :=
  let wrong := num pl 2 2 != s.scan.rate || num pl 1 1 != s.scan.k
  let beat := num pl 0 1 == 1
  let es := beatEntries pl
  let ready := s.group.ready.filter (fun x => x.rank != rank) ++
    es.map (fun x => { rank := rank, mooring := x.1, valid := bit x.2.1 0, frame := x.2.2.1 : RankReady })
  let s := { s with group := { s.group with
    miss := modAt s.group.miss rank (fun _ => 0), heard := modAt s.group.heard rank (fun _ => true),
    wrongMode := modAt s.group.wrongMode rank (fun _ => wrong), ready := ready, mismatch := s.group.mismatch || wrong } }
  let s := if wrong then s.tally T.GRP_MODE_MISMATCH else s
  let s := s.takeEpoch rank e beat beat
  if (beat && s.fromLead rank e) = true then
    let s := es.foldl (fun s x => if bit x.2.1 1 then s.groupCommitted x.1 x.2.2.2 else s) s
    let s := if num pl 4 1 < 2 then s.followSwitch (num pl 4 1) (num pl 8 8) else s
    let f := num pl 0x18 8
    let l : List (Int × Nat) := s.scan.phiNext.filter (fun e => decide (e.2 < f)) ++ [(snum pl 0x14 4, f)]
    if f ≠ 0 ∧ s.scan.field < f then { s with scan := { s.scan with phiNext := l } } else s
  else s

/-- R357: a COMMIT. -/
def State.commitIn (s : State) (rank e field : Nat) (pl : List Byte) : State :=
  let s := s.takeEpoch rank e true false
  if s.fromLead rank e then
    let first := (field / s.scan.k + 1) * s.scan.k
    let s := if s.cutNs first < s.ns then s.tally T.GRP_COMMIT_LATE else s
    s.groupCommitted (num pl 0 2) (num pl 4 4)
  else s

/-- R350: a group message that has reached the device. -/
def State.groupIn (s : State) (d : Datagram) : State :=
  let b := d.payload
  let pl := b.drop 32
  let rank := num b 7 1; let e := num b 8 4; let type := num b 3 1
  if s.get F.GROUP_EN = 0 then s
  else if ¬ s.quayTakes .group d.ipLen [] then s.quayDrop .group []
  else if ¬ groupFramed d ∨ ¬ groupPayloadOk type pl then s.tally T.GRP_BAD
  else if num b 6 1 ≠ s.get F.GROUP_ID then s
  else if rank = s.get F.RANK then (if d.srcIp = s.get F.DEV_IP then s else s.tally T.GRP_RANK_CONFLICT)
  else
    let s := { s with group := { s.group with address := modAt s.group.address rank (fun _ => d.srcIp) } }
    let rs := (List.range (num pl 2 2)).map (fun i => (num pl (4 + 8 * i) 4, num pl (8 + 8 * i) 4))
    match type with
    | 1 => s.heartbeatIn rank e pl
    | 2 => s.commitIn rank e (num b 0x0C 8) pl
    | 3 => (s.takeEpoch rank e false false).answerRepair rank d.srcIp (num pl 0 2) rs
    | _ => (s.takeEpoch rank e false false).takeRepair (num pl 0 2) (slice pl 4 (num pl 2 2))

/-! ## Frame ticks (R351 to R354) -/

/-- R352: the MISS counts at a frame tick. -/
def Group.countMiss (g : Group) : Group :=
  { g with miss := (List.range 8).map (fun r => if nth g.heard r false then 0 else min 8 (nth g.miss r 8 + 1)),
           heard := List.replicate 8 false }

/-- R352 to R354, R351: what the group does at a frame tick. -/
def State.groupTick (s : State) : State :=
  if s.get F.GROUP_EN = 0 then s
  else
    let g := s.group.countMiss
    let s := { s with group := { g with listened := if g.joined then g.listened else min 15 (g.listened + 1) } }
    let own := s.get F.RANK
    let s := if s.group.joined ∧ ¬ s.leadLive ∧ (List.range own).all (fun r => !(s.rankLive r)) then s.takeLead else s
    s.heartbeat.repairPump

/-- RANK_DEAD (R352): what the rank last said of its moorings no longer counts. -/
def execRankDead (t : Cyc) (rank : Nat) (s : State) : Host.Outcome State Fault Refusal :=
  let s := s.at t
  if s.get F.GROUP_EN = 1 ∧ rank < 8 ∧ 8 ≤ nth s.group.miss rank 0 then
    nextOf { s with group := { s.group with ready := s.group.ready.filter (fun x => x.rank != rank) } }
  else nextOf s

/-- GROUP_JOINED (R353): a lead has been heard, or 8 frame ticks have been listened to. -/
def execGroupJoined (t : Cyc) (s : State) : Host.Outcome State Fault Refusal :=
  let s := s.at t
  if s.serving ∧ s.get F.GROUP_EN = 1 ∧ ¬ s.group.joined ∧ (s.group.leadRank.isSome ∨ 8 ≤ s.group.listened) then
    nextOf { s with group := { s.group with joined := true } }
  else nextOf s

/-! ## Group commits of the lead (R356) -/

/-- R356: READY_FRAME of every live rank that lists a mooring, the device's own included. -/
def State.readyRanks (s : State) (n : Nat) : List (Option Nat) :=
  s.readyOf n :: (s.group.ready.filter (fun x => x.mooring == n && s.rankLive x.rank)).map
    (fun x => if x.valid then some x.frame else none)

/-- R356, R76: the oldest of frames, none when one is missing. -/
def oldestFrame : List (Option Nat) → Option Nat
  | [] => none
  | [x] => x
  | x :: r => match x, oldestFrame r with
    | some a, some b => if newer32 b a then some a else some b
    | _, _ => none

/-- R356: at least COMMIT_GUARD remains before the next frame-tick scene cut. -/
def State.guardOk (s : State) : Bool :=
  let n := (s.dueCut / s.scan.k + 1) * s.scan.k
  decide ((s.ns : Int) + 1000 * s.get F.COMMIT_GUARD ≤ s.cutNs n)

/-- R356: the commit of one mooring, when its C is newer than the last. -/
def State.commitMoor (s : State) (n : Nat) : State :=
  match oldestFrame (s.readyRanks n) with
  | some c =>
    let fresh := match (s.moor n).sentCommit with | some x => newer32 c x | none => true
    if fresh then
      ((s.sendGroup 2 (le 2 n ++ [0, 0] ++ le 4 c)).groupCommitted n c).modMoor n (fun m => { m with sentCommit := some c })
    else s
  | none => s

/-- GROUP_COMMIT_SEND (R356). A commit held for want of COMMIT_GUARD goes with the event after the scene cut. -/
def execGroupCommitSend (t : Cyc) (s : State) : Host.Outcome State Fault Refusal :=
  let s := s.at t
  if s.serving ∧ s.get F.GROUP_EN = 1 ∧ s.group.lead ∧ s.guardOk then
    nextOf (s.sharedMoors.foldl (fun s n => s.commitMoor n) s)
  else nextOf s

/-! ## GROUP_CONFIGURE (R363) -/

/-- R363: GroupConfig within its ranges. -/
def State.groupOk (s : State) (ws : List Word) : Bool :=
  let port := fieldOf ws 0 16 16; let mc := fieldOf ws 1 0 32; let g := fieldOf ws 2 0 16
  wordsOk 0x1C00 ws && fieldOf ws 0 8 8 != 0 && port != 0 && port != s.get F.SCENE_PORT && port != s.get F.GANGWAY_PORT &&
  (mc == 0 || isMcast mc) && (fieldOf ws 0 0 1 == 0 || mc != 0) && decide (50 ≤ g ∧ g ≤ 4000)

/-- R353: the device listens again: with EPOCH 0, a member without a lead. The W1C flags stay. -/
def Group.listen (g : Group) : Group :=
  { ({} : Group) with leadChanged := g.leadChanged, demoted := g.demoted, mismatch := g.mismatch }

/-- R42, R353, R363: the device leaves its group: the commits of its lead no longer count. -/
def State.leaveGroup (s : State) : State :=
  { s with group := s.group.listen,
           ingest := { s.ingest with moorings := s.ingest.moorings.map (fun p => (p.1, { p.2 with groupCommit := none })) } }

/-- R363: what a change of makes the device leave its group: GROUP_EN, RANK, GROUP_ID, GROUP_PORT, GROUP_MCAST. -/
def groupKey (ws : List Word) : Nat × Nat × Nat × Nat × Nat :=
  (fieldOf ws 0 0 1, fieldOf ws 0 1 3, fieldOf ws 0 8 8, fieldOf ws 0 16 16, fieldOf ws 1 0 32)

/-- GROUP_CONFIGURE (R363). -/
def cardGroupConfigure : Card where
  opcode := 0x0804
  deferred := false
  lenOk := lenIs 12
  presence := fun _ _ _ => 1
  params := fun s _ pl => s.groupOk (toWords 3 pl)
  run := fun s _ pl =>
    let ws := toWords 3 pl
    let left := groupKey (s.obj 0x1C00) ≠ groupKey ws
    let s := s.setObj 0x1C00 ws
    let s := if left then s.leaveGroup else s
    done s.reportGroups.elect

end Sys2Proof.Machine
end

