-- ==== Sys2Proof/Machine/Firmware.lean ====
section
/-! DEFINITION. Firmware (R443 to R452): checking a slot, live replacement, confirmation and fallback, pilot restart;
working copies replaced without a command (R437, R449, R451); the two self-tests (R536). -/

namespace Sys2Proof.Machine

/-! ## Checking a slot (R443, R444) -/

/-- What a check under R444 finds. -/
inductive SlotCheck where
  | ok                                 -- the slot is valid
  | fault                              -- a header, device or signature fault
  | rollback                           -- SECURITY_VERSION below the security counter
  deriving DecidableEq, Repr

/-- R443: the header is as its table says, with reserved bytes 0. -/
def State.slotHeader (s : State) (k : Nat) : Bool :=
  let size := s.imageSize k
  let reads := s.slotNum k 0x015 1
  s.slotNum k 0 4 == 0x4B594E4A && s.slotNum k 4 2 == 1 && s.slotNum k 6 2 == 0x9616 && size % 4 == 0 &&
  decide (4096 ≤ size) && decide (size ≤ 8388608) && decide (1 ≤ s.writeGen k) && decide (reads ≤ 4) &&
  allZero (s.slotBytes k (0x016 + reads) (4 - reads)) && decide (s.slotNum k 0x01C 1 ≤ Config.stepping.toNat) &&
  allZero (s.slotBytes k 0x01D 227)

/-- R443: the signature verifies: ECDSA on P-384 over the SHA-384 digest of bytes 0 to IMAGE_SIZE - 97. -/
def State.slotSigned (s : State) (k : Nat) : Bool :=
  let size := s.imageSize k
  Curve.verify Config.vendorKeyX Config.vendorKeyY (beVal (Sha.sha384 (s.slotBytes k 0 (size - 96))))
    (beVal (s.slotBytes k (size - 96) 48)) (beVal (s.slotBytes k (size - 48) 48))

/-- R444: the check of a slot. -/
def State.checkSlot (s : State) (k : Nat) : SlotCheck :=
  if (s.slot k).state = .empty ∨ ¬ s.slotHeader k ∨ ¬ s.slotSigned k then .fault
  else if s.secVersion k < s.secCounter then .rollback
  else .ok

/-- The slot that is not running. -/
def State.otherSlot (s : State) : Nat := 1 - s.nvm.runSlot

/-- The state of a slot changed. -/
def State.setSlot (s : State) (k : Nat) (st : SlotState) : State := s.modSlot k (fun x => { x with state := st })

/-! ## Generations (R435, R445) -/

/-- R435: the readable generation that the image of a slot uses: the one with live records whose newest committed
transaction is the newest; none when no readable generation holds live records. A generation of which only compaction
transactions are left is older than any other (log entry 160). -/
def State.sourceGen (s : State) (k : Nat) : Option Nat :=
  let js := journal s.mram
  let gens := (s.writeGen k :: s.readGens k).filter (fun g => !(candidates js g).isEmpty)
  (gens.foldl (fun (m : Option (Nat × Option Nat)) g => match m, newestTxn js g with
    | none, t => some (g, t)
    | some (h, some u), some t => if newer32 t u then some (g, some t) else some (h, some u)
    | some (_, none), some t => some (g, some t)
    | m, none => m) none).map (·.1)

/-- R445: the records of a migration: every stored part of a generation, converted to another. -/
def State.migrationSteps (s : State) (source own : Nat) : List WriteStep :=
  let js := journal s.mram
  journalSteps own 1 ((liveRecs js source).map (fun r =>
    .record 1 own r.obj r.part (partBytes (storedObj js source r.obj) r.part)))

/-- The working copies that a generation's stored values give (R435); PanelCalib has its factory record (R438). -/
def State.loaded (s : State) (g : Nat) : Tab (List Word) :=
  let t := (storedAll (journal s.mram) g).filter (fun e => e.1 != 0x1F02 && e.1 != 0x1823)
  match s.mram.calib.read.1 with
  | some c => Tab.put t 0x1823 (toWords 12 c.2)
  | none => t

/-! ## Working copies replaced without a command -/

/-- R315: the fields of BackboneLaneConfig whose change takes the port DOWN differ. -/
def laneDiffers (a b : List Word) : Bool := bbKey a != bbKey b

/-- A working copy replaced by a stored or a former one (R437, R449, R451), with what R31 says its change does at once. -/
def State.installObj (s : State) (id : Nat) (ws : List Word) : State :=
  let old := s.obj id
  if old = ws ∨ id = 0x1F02 then s
  else
    let d0 := s.get F.DOMAIN0; let d1 := s.get F.DOMAIN1
    let s := s.setObj id ws
    if id = 0x1300 then
      { s with harbour := { s.harbour with modeWrite := true, demoted := false } }
    else if id = 0x1910 ∨ id = 0x1911 then (if laneDiffers old ws then s.bbDown (id - 0x1910) else s)
    else if id = 0x1A10 ∨ id = 0x1A11 then
      let f (g : Gates) : Gates := { g.promote s.ns with next := some (gateStart ws (s.ns + 1000000), ws) }
      { s with bridge := { s.bridge with gates := modAt s.bridge.gates (id - 0x1A10) f } }
    else if 0x1B10 ≤ id ∧ id < 0x1B14 then
      let f (g : Trig) : Trig := { g.promote s.ns with next := (g.promote s.ns).next ++ [(s.ns + 1000000, ws)] }
      { s with time := { s.time with trigs := modAt s.time.trigs (id - 0x1B10) f } }
    else match id with
      | 0x1000 => s.irq
      | 0x1100 | 0x1A00 | 0x1A01 => s.reportGroups
      | 0x1B00 => (s.redomain 0 d0).redomain 1 d1
      | 0x1C00 =>
        let s := if groupKey old ≠ groupKey ws then s.leaveGroup else s
        s.reportGroups.elect
      | 0x1F00 => s.fasciaEnabled
      | _ => s

/-- R449, R451: at the scene cut after a resumption every object takes the working value of the image that resumed,
unless it has been changed since. -/
def State.applyReload (s : State) : State :=
  match s.nvm.reload with
  | none => s
  | some (base, target) =>
    let s := { s with nvm := { s.nvm with reload := none } }
    objIds.foldl (fun s id => if s.obj id = objIn base id then s.installObj id (objIn target id) else s) s

/-- SETTINGS_REVERT: the objects it names. -/
def revertIds (obj : Nat) : List Nat := if obj = 0 then objIds else [obj]

/-- SETTINGS_REVERT (R437). -/
def cardSettingsRevert : Card where
  opcode := 0x0A02
  deferred := false
  lenOk := lenIs 4
  params := fun _ _ pl => zeroAt pl 2 2 && (num pl 0 2 == 0 || (objWords (num pl 0 2)).isSome)
  run := fun s _ pl => done ((revertIds (num pl 0 2)).foldl (fun s id => s.installObj id (s.stored id)) s)

/-! ## Images -/

/-- IMAGE_LOAD: the payload is 8 + COUNT rounded up to a multiple of 4. -/
def loadLen (pl : List Byte) : Bool := decide (8 ≤ pl.length) && decide (pl.length = 4 * cdiv (8 + num pl 4 2) 4)

/-- IMAGE_LOAD (R427, R440). -/
def cardImageLoad : Card where
  opcode := 0x0B01
  deferred := false
  lenOk := loadLen
  params := fun _ _ pl => decide (1 ≤ num pl 4 2) && decide (num pl 4 2 ≤ 1024) && zeroAt pl 6 2 &&
    decide (num pl 0 4 + num pl 4 2 ≤ 8388608)
  judge := fun s _ _ =>
    let st := (s.slot s.otherSlot).state
    if st = .trial ∨ st = .fallback then Status.BAD_STATE
    else if s.nvm.verify.isSome then Status.BUSY
    else if ¬ s.inWindow then Status.TEMP_WINDOW
    else Status.OK
  run := fun s _ pl =>
    let put (x : Slot) : Slot :=
      { x with bytes := Memory.writeAll none x.bytes (num pl 0 4) (slice pl 8 (num pl 4 2)), state := .loaded }
    done (s.modSlot s.otherSlot put)

/-- IMAGE_VERIFY (R444). -/
def cardImageVerify : Card where
  opcode := 0x0B02
  deferred := true
  lenOk := lenIs 0
  params := fun _ _ _ => true
  judge := fun s _ _ =>
    let st := (s.slot s.otherSlot).state
    if st = .empty ∨ st = .trial ∨ st = .fallback then Status.BAD_STATE
    else if s.nvm.verify.isSome then Status.BUSY
    else Status.OK
  run := fun s c _ => done { s with nvm := { s.nvm with verify := some (c.owner, c.tag) } }

/-- R446, IMAGE_VERIFY: MIGRATABLE: WRITE_GEN or READ_GEN of a slot contains RUN_GEN. -/
def State.migratable (s : State) (k : Nat) : Bool := (s.writeGen k :: s.readGens k).contains s.runGen

/-- IMAGE_VERIFY_DONE (R444): the check of the slot that is not running ends. -/
def execImageVerifyDone (t : Cyc) (s : State) : Host.Outcome State Fault Refusal :=
  let s := s.at t
  match s.nvm.verify with
  | none => nextOf s
  | some (owner, tag) =>
    let k := s.otherSlot
    let c := s.checkSlot k
    let s := { s with nvm := { s.nvm with verify := none } }
    let s := match (s.slot k).state with
      | .trial | .fallback => s
      | _ => s.setSlot k (if c = SlotCheck.ok then .valid else .invalid)
    let st := match c with | .ok => Status.OK | .fault => Status.CHECK_FAILED | .rollback => Status.ROLLBACK_REFUSED
    nextOf (s.finalEvent owner tag 0x0B02 st
      (le 4 (s.fwVersion k) ++ le 4 (s.secVersion k) ++ [byte (s.writeGen k), byte (b2n (s.migratable k)), 0, 0]))

/-! ## Live replacement (R446) -/

/-- R443: the handover versions of the running and the new image fit: the new one reads what the running one writes. -/
def State.handoverFits (s : State) (new : Nat) : Bool :=
  let v := s.slotNum s.nvm.runSlot 0x01A 1
  decide (s.slotNum new 0x01B 1 ≤ v) && decide (v ≤ s.slotNum new 0x01A 1)

/-- R446: step 2: the idle pilot boots the other slot. -/
def State.bootTrial (s : State) : State :=
  let k := s.otherSlot
  ((s.setSlot k .trial).setSlot s.nvm.runSlot .fallback).putBoot .boot s.nvm.runSlot k 1

/-- R446, R449: the slots as they were before the activation: the running one RUNNING, the other with a state. -/
def State.slotsBack (s : State) (other : SlotState) : State :=
  ((s.setSlot s.otherSlot other).setSlot s.nvm.runSlot .running).putBoot .boot s.nvm.runSlot 2 0

/-- R446, R452: the status that refuses an activation. Parts that a running STORE writes are dirty until its COMMIT: BUSY is
judged first. -/
def State.activateJudge (s : State) : Nat :=
  let k := s.otherSlot
  if s.nvm.phase ≠ .none ∨ (s.slot k).state ≠ .valid then Status.BAD_STATE
  else if s.nvm.queue.any (fun x => match x.purpose with | .store .. => true | _ => false) then Status.BUSY
  else if s.isDirty then Status.BAD_STATE
  else if s.secVersion k < s.secCounter then Status.ROLLBACK_REFUSED
  else if ¬ s.migratable k ∨ ¬ s.handoverFits k then Status.MIGRATION_FAILED
  else if ¬ s.inWindow then Status.TEMP_WINDOW
  else Status.OK

/-- R446: step 1: a DISCARD for every generation other than the running one that holds live records; then step 2. -/
def State.activate (s : State) (owner tag : Nat) (byHost : Bool) : State :=
  let s := { s with nvm := { s.nvm with phase := .booting, liveTrial := true, trialTag := some (owner, tag),
                                        confirmByHost := byHost, hostConfirmed := false, migrated := false } }
  let gens := (liveGens (journal s.mram)).filter (· != s.runGen)
  if gens = [] then s.bootTrial
  else s.pushTxn { purpose := .activationDiscard, steps := journalSteps s.runGen 0 (gens.map (discardStep s.runGen)) }

/-- R448, R449: a trial runs. -/
def State.inTrial (s : State) : Bool := s.nvm.phase == .trial

/-- R448, R452: the health deadline has not come; at its instant it is taken first. -/
def State.beforeDeadline (s : State) : Bool := match s.nvm.deadline with | some d => decide (s.time.cyc < d) | none => false

/-- R450: the trial is being cleared before the restart. -/
def State.clearing (s : State) : Bool := s.nvm.queue.any (fun x => x.purpose == .trialClear)

/-- IMAGE_ACTIVATE (R446, R448, R449): the ACTION byte decides what it does. -/
def cardImageActivate : Card where
  opcode := 0x0B03
  deferred := true
  lenOk := lenIs 4
  presence := fun _ _ _ => 1
  params := fun _ _ pl => decide (num pl 0 1 ≤ 2) && decide (num pl 1 1 ≤ (if num pl 0 1 = 0 then 1 else 0)) && zeroAt pl 2 2
  judge := fun s _ pl =>
    if num pl 0 1 = 0 then s.activateJudge else if s.inTrial ∧ s.beforeDeadline then Status.OK else Status.BAD_STATE
  run := fun s c pl =>
    let s1 := { s with nvm := { s.nvm with actionTags := s.nvm.actionTags ++ [(c.owner, c.tag, num pl 0 1)] } }
    match num pl 0 1 with
    | 0 => done (s.activate c.owner c.tag (num pl 1 1 == 1))
    | 1 => done { s1 with nvm := { s1.nvm with hostConfirmed := true } }
    | _ => if s.nvm.liveTrial then done { s1 with nvm := { s1.nvm with phase := .handback, handback := some 3 } } else done s1

/-- R445: the migration fails: the new pilot halts and the running image goes on. -/
def State.migrationFails (s : State) (status : Nat) (other : SlotState) : State :=
  let s := { s.slotsBack other with nvm := { s.nvm with migrationFailed := true } }
  (s.activationEvent status 1).endActivation

/-- R445: whether the stored values of a generation can be converted: what the new image's schema can hold is a free
value. The migration transaction is queued; its commit completes the migration. -/
def State.beginMigration (s : State) (k : Nat) : State × Bool :=
  match s.sourceGen k with
  | none => ({ s with nvm := { s.nvm with migrated := true } }, true)
  | some g =>
    if g = s.writeGen k then ({ s with nvm := { s.nvm with migrated := true } }, true)
    else
      let ok := Config.migrates s.time.freeCount
      let s := s.took
      if ok then
        (({ s with nvm := { s.nvm with migrated := false } } : State).pushTxn
          { purpose := .migration, steps := s.migrationSteps g (s.writeGen k) }, true)
      else (s, false)

/-- R446: steps 2 and 3: the check of the slot that the idle pilot boots has ended. -/
def State.activationCheck (s : State) : State :=
  let k := s.otherSlot
  match s.checkSlot k with
  | .ok =>
    let (s2, ok) := ({ s with nvm := { s.nvm with phase := .migrating } } : State).beginMigration k
    if ok then s2 else s2.migrationFails Status.MIGRATION_FAILED .valid
  | .fault => s.migrationFails Status.CHECK_FAILED .invalid
  | .rollback => s.migrationFails Status.ROLLBACK_REFUSED .invalid

/-- IMAGE_READY (R446): migration or loading has succeeded and the new image signals READY. -/
def execImageReady (t : Cyc) (s : State) : Host.Outcome State Fault Refusal :=
  let s := s.at t
  if s.serving ∧ s.nvm.phase = .migrating ∧ s.nvm.migrated then nextOf { s with nvm := { s.nvm with phase := .ready } }
  else nextOf s

/-- R447: the working copies of the new image: the migrated stored values. Fields that are not stored keep their value. -/
def State.newWork (s : State) (k : Nat) : State :=
  let t := s.loaded (s.writeGen k)
  let keep (id : Nat) : List Word :=
    let defs := (objWords id).getD []
    (List.range defs.length).map (fun i =>
      let d := (nth defs i { reset := 0, rw := 0, stored := 0 }).stored
      BitVec.ofNat 32 (((nth (objIn t id) i 0).toNat &&& d) ||| ((nth (s.obj id) i 0).toNat &&& (fullMask ^^^ d))))
  objIds.foldl (fun s id => s.installObj id (keep id)) s

/-- R446, R448: the pilot of slot `k` interprets commands, and its trial begins. -/
def State.trialBegins (s : State) (k : Nat) : State :=
  { s with nvm := { s.nvm with pilot := 1 - s.nvm.pilot, runSlot := k, interpreting := true, phase := .trial,
                               trialSince := s.time.cyc, deadline := some (s.time.cyc + msCyc 60000), handover := none } }

/-- R446: step 5: the new image takes over at tick h + 1. -/
def State.takeOver (s : State) : State := (s.newWork s.otherSlot).trialBegins s.otherSlot

/-- R449: the sessions as at the handover: pairings stay, and what the handover block carries is as it was. -/
def restoreSession (old cur : Session) : Session :=
  if old.paired ∧ cur.paired ∧ old.serial = cur.serial then
    { cur with lastSeq := old.lastSeq, fresh := true, evSeq := old.evSeq, evSent := old.evSent, unacked := old.unacked,
               outstanding := old.outstanding }
  else { cur with fresh := true, outstanding := [] }

/-- R449: the old image resumes. -/
def State.resumeOld (s : State) (result : Nat) : State :=
  let new := s.nvm.runSlot
  let old := s.otherSlot
  let s := if result = 4 then
      { s with gw := { s.gw with sessions := List.zipWith restoreSession s.nvm.oldSessions s.gw.sessions } }
    else s
  let s := { s with nvm := { s.nvm with pilot := 1 - s.nvm.pilot, runSlot := old, interpreting := true, fallback := true,
                                        reload := some (s.cfg.work, s.nvm.oldWork) } }
  let g := s.writeGen new
  let s := if g ≠ s.runGen then { s with nvm := { s.nvm with discardNext := some g } } else s
  -- the boot record of the old image, with no trial; outside the temperature window it waits (R440)
  let s := ((s.setSlot new .valid).setSlot old .running).putBoot .boot old 2 0
  (((s.tally T.FW_FALLBACK).activationEvent Status.BAD_STATE result).endActivation).fasciaClosing.beginHead.irq

/-- R450: a trial boot ends: the trial is cleared, and then the device restarts into RUN_SLOT. Outside the temperature window
the restart does not wait, and the start that follows clears the trial. -/
def State.trialBootEnds (s : State) : State :=
  let run := match s.bootRec with | some b => b.1 | none => s.otherSlot
  if s.clearing then s
  else if s.inWindow then s.putBoot .trialClear run 2 0
  else s.trialRestart

/-- R446, R449: what a field tick does for a live replacement, and the ACTIONs that complete at it. -/
def State.pilotTick (s : State) (n : Nat) : State :=
  let acts := s.nvm.actionTags
  let s := { s with nvm := { s.nvm with actionTags := [] } }
  let s : State := acts.foldl (fun s a => s.finalEvent a.1 a.2.1 0x0B03 Status.OK []) s
  -- a trial boot has no old image to hand back to: it is ended as R450 ends one
  if s.nvm.phase = .trial ∧ ¬ s.nvm.liveTrial ∧ acts.any (fun a => a.2.2 == 2) then s.trialBootEnds
  else if s.start.phase ≠ .running then s
  else match s.nvm.phase with
  | .ready =>
    (match s.nvm.handover with
     | none => { s with nvm := { s.nvm with interpreting := false, handover := some n, oldSessions := s.gw.sessions,
                                            oldWork := s.cfg.work } }
     | some h => if h = n then s else s.takeOver.fasciaClosing)
  | .handback =>
    (match s.nvm.handbackAt with
     | none => { s with nvm := { s.nvm with interpreting := false, handbackAt := some n } }
     | some h => if h = n then s else s.resumeOld (s.nvm.handback.getD 2))
  | _ => s

/-! ## Health (R448 to R450) -/

/-- R448: the confirmation: the counter, the DISCARD of the old generation, the boot record. -/
def State.confirmSteps (s : State) : List WriteStep :=
  let sec := s.secVersion s.nvm.runSlot
  let old := s.otherSlot
  let g := s.writeGen old
  let live := (s.slot old).state.good && g != s.runGen && !(candidates (journal s.mram) g).isEmpty
  (if s.secCounter < sec then fixedSteps 16 (le 4 sec) else []) ++
  (if live then journalSteps s.runGen 0 [discardStep s.runGen g] else []) ++
  fixedSteps 17 (bootBytes s.nvm.runSlot 2 0)

/-- A confirmation is queued. -/
def State.confirming (s : State) : Bool := s.nvm.queue.any (fun x => x.purpose == WriteFor.confirm)

/-- HEALTH_CONFIRM (R448): the conditions hold before the deadline. -/
def execHealthConfirm (t : Cyc) (s : State) : Host.Outcome State Fault Refusal :=
  let s := s.at t
  if s.serving ∧ s.inTrial ∧ s.nvm.interpreting ∧ s.beforeDeadline ∧ ¬ s.clearing ∧ s.nvm.migrated ∧ s.nvm.trialSince + msCyc 10000 ≤ s.time.cyc ∧
     (s.nvm.confirmByHost → s.nvm.hostConfirmed) ∧ ¬ s.confirming then
    nextOf (s.pushTxn { purpose := .confirm, steps := s.confirmSteps })
  else nextOf s

/-- R448: the confirmation is written. -/
def State.confirmDone (s : State) : State :=
  let old := s.otherSlot
  let s := s.setSlot s.nvm.runSlot .running
  let s := if (s.slot old).state.good then
      s.setSlot old (if s.secVersion old < s.secCounter then .invalid else .valid)
    else s
  ((s.tally T.FW_CONFIRMED).activationEvent Status.OK 0).endActivation

/-- HEALTH_DEADLINE (R449, R450): the deadline passes unconfirmed. -/
def execHealthDeadline (t : Cyc) (s : State) : Host.Outcome State Fault Refusal :=
  let s := s.at t
  let past : Bool := match s.nvm.deadline with | some d => decide (d ≤ s.time.cyc) | none => false
  if ¬ s.serving ∨ ¬ s.inTrial ∨ ¬ past ∨ s.nvm.queue.any (fun x => x.purpose == WriteFor.confirm && x.begun) then nextOf s
  else
    let s := { s with nvm := { s.nvm with queue := s.nvm.queue.filter (fun x => x.purpose != WriteFor.confirm) } }
    if s.nvm.liveTrial then nextOf { s with nvm := { s.nvm with phase := .handback, handback := some 2 } }
    else nextOf s.trialBootEnds

/-- R451, R415, R449: the writes that outlast the pilot that asked for them: the boot record and the seal-break record. -/
def WriteFor.lasting (p : WriteFor) : Bool := p == .boot || p == .sealing

/-- R451: what stops with a pilot: interpretation, what it was writing and checking, and an update not yet marked. The MRAM
writer completes the record in progress (R428). -/
def State.pilotStops (s : State) : State :=
  let up := s.fascia.update.filter (fun u => u.stage != FasciaStage.mark)
  let whole := s.nvm.queue.filter (fun x => x.purpose.lasting)
  let rest := if s.nvm.queue.head?.any (fun x => x.purpose.lasting) then [] else s.oneRecord.nvm.queue
  let s := { s with nvm := { s.nvm with interpreting := false, queue := rest ++ whole, verify := none, scan := none, held := none,
                                        pageOpen := false },
                    start := { s.start with restartTag := none }, fascia := { s.fascia with update := up } }
  s.beginHead

/-- PILOT_WATCHDOG_EXPIRY (R449, R450, R451): the watchdog of the pilot that interprets commands expires. -/
def execPilotWatchdogExpiry (t : Cyc) (s : State) : Host.Outcome State Fault Refusal :=
  let s := s.at t
  if ¬ s.serving ∨ ¬ s.nvm.interpreting then nextOf s
  else if s.inTrial ∨ s.nvm.phase = .handback then
    if s.nvm.liveTrial then
      let s := s.pilotStops
      nextOf { s with nvm := { s.nvm with phase := .handback, handback := some 4, handbackAt := some s.scan.field } }
    else nextOf s.pilotStops.trialBootEnds
  else
    let active : Bool := s.nvm.phase != .none
    let s := s.pilotStops
    let s := if active then (s.slotsBack .valid).endActivation else s
    nextOf (({ s with nvm := { s.nvm with takeover := true } } : State).tally T.FW_PILOT_RESTART)

/-- PILOT_TAKEOVER (R451): the other pilot has booted the running slot and interprets commands. -/
def State.takeoverDone (s : State) : State :=
  let s := { s with gw := { s.gw with sessions := s.gw.sessions.map (fun (e : Session) => { e with fresh := true, outstanding := [] }) } }
  let s := { s with nvm := { s.nvm with pilot := 1 - s.nvm.pilot, interpreting := true, takeover := false,
                                        dirtyLost := s.nvm.dirtyLost || s.isDirty,
                                        reload := some (s.cfg.work, s.loaded s.runGen) } }
  s.fasciaClosing

/-! ## Restart -/

/-- R525: the final event of DEVICE_RESTART, and the restart 20 ms later. -/
def State.restartSoon (s : State) (owner tag : Nat) : State :=
  let s := s.finalEvent owner tag 0x0B05 Status.OK []
  { s with start := { s.start with restartTag := none, restartFor := 1, restartDue := some (s.time.cyc + msCyc 20) } }

/-- DEVICE_RESTART (R525). -/
def cardDeviceRestart : Card where
  opcode := 0x0B05
  deferred := true
  lenOk := lenIs 0
  presence := fun _ _ _ => 1
  params := fun _ _ _ => true
  judge := fun s _ _ => if s.nvm.phase ≠ .none then Status.BAD_STATE else Status.OK
  run := fun s c _ =>
    if s.nvm.queue.any (·.begun) then done { s with start := { s.start with restartTag := some (c.owner, c.tag) } }
    else done (s.restartSoon c.owner c.tag)

/-- FIRMWARE_QUERY (R458): from the latest snapshot. -/
def cardFirmwareQuery : Card where
  opcode := 0x0B04
  deferred := false
  lenOk := lenIs 0
  params := fun _ _ _ => true
  run := fun s _ _ => (s, Status.OK, s.statusBytes 0x2F81)

/-! ## The end of a transaction (R428) -/

/-- What the end of a transaction does (R433, R436, R438, R445, R446, R448, R498). -/
def State.txnEnd (s : State) (x : Txn) : State :=
  match x.purpose with
  | .store owner tag parts =>
    let s := if x.gone = s.nvm.discardNext then { s with nvm := { s.nvm with discardNext := none } } else s
    s.finalEvent owner tag 0x0A01 Status.OK (le 4 x.txn ++ le 4 parts)
  | .erase owner tag => s.finalEvent owner tag 0x0A03 Status.OK []
  | .factory owner tag => s.finalEvent owner tag 0x0A04 Status.OK []
  | .fasciaMark => s.fasciaMarked
  | .fasciaClose => s.fasciaClosed
  | .compaction u => if u then s.bgDid 0 else s
  | .migration => { s with nvm := { s.nvm with migrated := true } }
  | .activationDiscard => s.bootTrial
  | .confirm => s.confirmDone
  | .boot | .rom | .rest => s
  | .trialClear => s.trialRestart
  | .recovered => { s with start := { s.start with restartDue := some (max s.nvm.recoverDue s.time.cyc) } }
  | .sealing => { s with gw := { s.gw with sealPending := false } }
  | .pairing k e => s.pairingDone k e

/-! ## Self-tests (R536) -/

/-- SELF_TEST (R536): the TEST byte decides. -/
def cardSelfTest : Card where
  opcode := 0x0F01
  deferred := true
  lenOk := lenIs 4
  params := fun _ _ pl =>
    decide (num pl 0 1 ≤ 1) && decide (num pl 1 1 ≤ 1) && (num pl 2 2 == 0) == (num pl 0 1 == 0)
  judge := fun s _ pl =>
    if num pl 0 1 = 0 then
      if s.nvm.phase ≠ .none then Status.BAD_STATE else if s.nvm.scan.isSome then Status.BUSY else Status.OK
    else if s.scan.lantern ∨ (idxs 16 (fun k => bit (num pl 2 2) k)).any (fun k => (s.port k).state ≠ 3) then Status.BAD_STATE
    else s.judgeReq 4000 false false
  refused := fun st s _ pl => if st = Status.BUSY ∧ num pl 0 1 = 1 then s.tally T.HM_TEST_BUSY else s
  run := fun s c pl =>
    if num pl 0 1 = 0 then done { s with nvm := { s.nvm with scan := some (c.owner, c.tag) } }
    else done (s.queueReq (.selfTest (num pl 2 2)) c.owner c.tag)

/-- R429: what reading the journal tallies: records with one usable copy, and unusable records. -/
def State.tallyRecords (s : State) (js : List JRec) : State :=
  let one := (js.filter (·.single)).length
  let lost := (js.filter (fun r => !r.usable)).length
  let s := if one = 0 then s else s.tallyBy T.NVM_ONE_COPY one
  if lost = 0 then s
  else { s.tallyBy T.NVM_RECORD_LOST lost with nvm := { s.nvm with recordLost := true } }

/-- MRAM_SCAN_DONE (R536): the idle pilot's scan of the slots and the journal ends. -/
def execMramScanDone (t : Cyc) (s : State) : Host.Outcome State Fault Refusal :=
  let s := s.at t
  match s.nvm.scan with
  | none => nextOf s
  | some (owner, tag) =>
    let js := journal s.mram
    let bad : Bool := s.checkSlot s.nvm.runSlot != SlotCheck.ok
    let detail := s.mram.slotA.state.code + 8 * s.mram.slotB.state.code + 65536 * satN (failedCopies js) 16
    let s := ({ s with nvm := { s.nvm with scan := none } } : State).tallyRecords js
    nextOf (s.finalEvent owner tag 0x0F01 (if bad then Status.CHECK_FAILED else Status.OK)
      ([byte (b2n bad), 0, 0, 0] ++ le 8 0 ++ le 4 detail))

end Sys2Proof.Machine
end

