-- ==== Sys2Proof/Machine/Observation.lean ====
section
/-! DEFINITION. Observation (R507 to R515): reading objects and tallies, the wake's configuration, export over the pins,
and the export of the tallies. -/

namespace Sys2Proof.Machine

/-- R426: the words of an object: a settings object's working copy, or a status object of the latest snapshot. -/
def State.readObj (s : State) (id : Nat) : Option (List Word) :=
  if id = 0x1F02 then some s.fascia.lastWords
  else match objWords id with
    | some _ => some (s.obj id)
    | none => if 0x2000 ≤ id ∧ id < 0x3000 then s.statusAt id else none

/-- R115: a read of IngestStatus restarts the peak of the Quay at its occupancy. -/
def State.afterRead (s : State) (id : Nat) : State :=
  if id = 0x2100 then { s with ingest := { s.ingest with peak := s.quayUsed } } else s

/-- OBJECT_READ (R426). -/
def cardObjectRead : Card where
  opcode := 0x0E01
  deferred := false
  lenOk := lenIs 8
  params := fun s _ pl =>
    let n := num pl 2 2
    let off := num pl 4 4
    decide (4 ≤ n) && decide (n ≤ 1024) && n % 4 == 0 && off % 4 == 0 &&
    (match s.readObj (num pl 0 2) with
     | some ws => decide (off + n ≤ 4 * ws.length)
     | none => false)
  run := fun s _ pl =>
    (s.afterRead (num pl 0 2), Status.OK, le 8 s.obs.snapField ++
      ofWords ((((s.readObj (num pl 0 2)).getD []).drop (num pl 4 4 / 4)).take (num pl 2 2 / 4)))

/-- R508: `n` tallies of the latest snapshot from an ID on. -/
def State.snapTallies (s : State) (first n : Nat) : List Byte :=
  (List.range n).flatMap (fun i => le 8 (Tab.getD s.obs.snapTally (first + i) 0))

/-- TALLY_READ (R508). -/
def cardTallyRead : Card where
  opcode := 0x0E02
  deferred := false
  lenOk := lenIs 4
  params := fun _ _ pl =>
    let f := num pl 0 2
    let n := num pl 2 2
    decide (0x3000 ≤ f) && decide (f ≤ 0x37FF) && decide (1 ≤ n) && decide (n ≤ 128) && decide (f + n ≤ 0x3800)
  run := fun s _ pl => (s, Status.OK, le 8 s.obs.snapField ++ s.snapTallies (num pl 0 2) (num pl 2 2))

/-- WAKE_CONFIGURE (R515). -/
def cardWakeConfigure : Card where
  opcode := 0x0E03
  deferred := false
  lenOk := lenIs 4
  params := fun _ _ pl => wordsOk 0x1F80 (toWords 1 pl) && fieldOf (toWords 1 pl) 0 11 2 != 3
  run := fun s _ pl => done (s.setObj 0x1F80 (overlayWords (s.obj 0x1F80) 0 (toWords 1 pl)))

/-- WAKE_SUBSCRIBE (R514, R515). -/
def cardWakeSubscribe : Card where
  opcode := 0x0E04
  deferred := false
  lenOk := lenIs 8
  params := fun _ _ pl => zeroAt pl 6 2 && (num pl 0 4 == 0 || num pl 4 2 != 0)
  judge := fun s _ _ => if s.get F.DEV_IP = 0 then Status.BAD_STATE else Status.OK
  run := fun s _ pl => done (s.setObj 0x1F80 (overlayWords (s.obj 0x1F80) 1 (toWords 2 pl)))

/-- TALLY_EXPORT (R514). -/
def cardTallyExport : Card where
  opcode := 0x0E05
  deferred := true
  lenOk := lenIs 0
  params := fun _ _ _ => true
  judge := fun s _ _ =>
    if s.get F.COLLECTOR_IP = 0 ∨ s.scan.lantern then Status.BAD_STATE
    else if s.wake.tallyExp.isSome then Status.BUSY
    else Status.OK
  run := fun s c _ => done { s with wake := { s.wake with tallyExp := some (c.owner, c.tag) } }

/-- R514: at a field tick the snapshot of a TALLY_EXPORT that waits goes to a compression lane, C1 (log entry
120). -/
def State.tallyTick (s : State) : State :=
  let begun := s.wake.tallyUnit.isSome ||
    (s.codec.clanes ++ s.codec.cwait).any (fun l => l.any (fun j => match j.purpose with | .tally .. => true | _ => false))
  if s.wake.tallyExp.isNone ∨ begun ∨ s.scan.lantern then s
  else
    let s := s.wakeBoundary
    let j := newJob (.tally s.obs.snapField s.wake.unit s.wake.collector.1 s.wake.collector.2) (s.snapTallies 0x3000 2048)
    let s := s.queueJob 1 j
    { s with wake := { s.wake with unit := (s.wake.unit + 1) % 2 ^ 32 } }

/-- R513: the wake pins: WAKE_CLK and the value of WAKE_D3 to WAKE_D0. A byte takes one period of the 200 MHz clock: bits [3:0]
at its rising edge and bits [7:4] at the falling edge after it. Between records the pins are low. -/
def State.wakePins (s : State) : Bool × Nat :=
  let d := s.time.cyc - s.wake.pinsAt
  if d < 2 * s.wake.pins.length then
    let b := (nth s.wake.pins (d / 2) 0).toNat
    (d % 2 == 0, if d % 2 = 0 then b % 16 else b / 16)
  else (false, 0)

/-- R513: the record before has been sent, and WAKE_CLK has stayed low for 20 ns. -/
def State.wakePinsFree (s : State) : Bool :=
  s.wake.pins.isEmpty || decide (s.wake.pinsAt + 2 * s.wake.pins.length + 8 ≤ s.time.cyc)

/-- WAKE_PIN_EXPORT (R513): the next record is sent over the wake pins. -/
def execWakePinExport (t : Cyc) (s : State) : Host.Outcome State Fault Refusal :=
  let s := s.at t
  let on : Bool := match s.start.phase with | .pilotBoot | .running | .restarting | .shuttingDown => true | _ => false
  if ¬ on then nextOf s else
  let s := s.wakeBoundary
  match s.wake.ring.drop s.wake.exported with
  | r :: _ =>
    if s.wake.exportMode = 1 ∧ s.wakePinsFree then
      let w := { s.wake with exported := s.wake.exported + 1, pins := recBytes r, pinsAt := s.time.cyc }
      nextOf (({ s with wake := w } : State).tally T.WAKE_EXPORTED)
    else nextOf s
  | [] => nextOf s

end Sys2Proof.Machine
end

