-- ==== Sys2Proof/Machine/Compose.lean ====
section
/-! DEFINITION. What scan-out makes of a pixel (R267 to R272, R278, R279, R288, R289, R257): the four planes composed in
linear light, gamma and dither, and the codes of a line of a sector. -/

namespace Sys2Proof.Machine

/-! ## Which fields are scanned and lit (R284, R291, R341) -/

/-- R284, R291, R341: field `n` is scanned: a raster mode or Lantern is in force, no change keeps it dark, and neither does
a time fault. -/
def State.fieldShown (s : State) (n : Nat) : Bool :=
  s.serving && (s.scan.mode != 0 || s.scan.lantern) && !s.time.dark && s.scan.changeT0.isNone &&
  (match s.scan.change with | some c => decide (n < c.field) | none => true) &&
  (match s.scan.firstTick with | some m => decide (m ≤ n) | none => true)

/-- R284, R291, R341: the zones may be lit in field `n`. -/
def State.fieldLit (s : State) (n : Nat) : Bool :=
  s.fieldShown n && (match s.scan.visible with | some v => decide (v ≤ n) | none => true)

/-- R284: field `n` belongs to the dark frame of a change. -/
def State.darkFrame (s : State) (n : Nat) : Bool := match s.scan.visible with | some v => decide (n < v) | none => false

/-! ## Gamma and dither (R270, R271) -/

/-- R270: entry `i` of a gamma table. -/
def gammaEntry (o : Tab (List Word)) (ch i : Nat) : Nat := opt o (0x1801 + ch) (i / 2) (16 * (i % 2)) 16

/-- R270: the u10.6 output code of a linear value from 0 to 32,768. -/
def gamma (o : Tab (List Word)) (ch : Nat) (l : Int) : Int :=
  let i := min (l.toNat / 32) 1023
  let f : Int := l - 32 * i
  gammaEntry o ch i + rnd (((gammaEntry o ch (i + 1) : Int) - gammaEntry o ch i) * f) 5

/-- R271: the matrix BAYER. -/
def bayer : List (List Nat) :=
  [[0, 32, 8, 40, 2, 34, 10, 42], [48, 16, 56, 24, 50, 18, 58, 26], [12, 44, 4, 36, 14, 46, 6, 38],
   [60, 28, 52, 20, 62, 30, 54, 22], [3, 35, 11, 43, 1, 33, 9, 41], [51, 19, 59, 27, 49, 17, 57, 25],
   [15, 47, 7, 39, 13, 45, 5, 37], [63, 31, 55, 23, 61, 29, 53, 21]]

/-- R271: the 10-bit code of a u10.6 value of channel `c` at a panel pixel; `frame` is the frame ID. -/
def dither (on : Bool) (frame px py c : Nat) (y : Int) : Nat :=
  let q := frame % 4
  let d : Nat := if on then nth (nth bayer ((py + 3 * q + c) % 8) []) ((px + 5 * q + 3 * c) % 8) 0 else 32
  (min 1023 (asr (y + d) 6)).toNat

/-! ## Planes (R268, R269, R288) -/

/-- R269: one plane's colour laid over what is below it, with opacity `a`. -/
def mix (ch : Nat) (a l : Int) : Int := sat (rnd (lin ch * a) 15 + rnd (l * (32768 - a)) 15) 0 32768

/-- R67, R216: channel `ch` of an RGBA8 word, 0 to 2 for R, G, B, and 3 for A. -/
def rgba (v ch : Nat) : Nat := bits v (8 * ch) 8

/-- R206: overlay plane `p` is shown for a fan. -/
def planeShown (o : Tab (List Word)) (fan p : Nat) : Bool :=
  match fanSource o fan with | 0 => fanShow o fan p | 1 => p == 0 | _ => p == 1

/-- R257: a surface with the entry in progress taken as one more of its writes, when it began before a mark. -/
def State.withEntry (s : State) (id : Nat) (f : Surface) (stop : Int) : Surface :=
  match s.skim.queue with
  | .list l .. :: _ =>
    let e := s.entry l s.skim.index
    if s.skim.running ∧ e.op ≠ 5 ∧ e.dst = id ∧ s.skim.began < stop then
      s.drawn e [] (f.keep s.skim.began none none (e.unitOrder f))
    else f
  | _ => f

/-- R257: the surface pixel that a plane shows in field `n`, sector line `line`: one of the contents its 64-byte unit may show, the
same one for the whole unit throughout the field. -/
def State.ovPixel (s : State) (id : Nat) (n line x y : Nat) : Nat :=
  match s.surf id with
  | none => 0
  | some f0 =>
    let k := line / 32
    let seen := if k = 0 then s.lineNs (n - 1) 2048 else s.lineNs n (32 * (k - 1))
    let stop := s.lineNs n (32 * k)
    let f := s.withEntry id f0 stop
    let u := f.off x y / 64
    let v := f.versions seen stop u
    let i := min (Config.showsNew (1024 * n + id) u) (v.length - 1)
    f.pixel (surfByte (nth v i f.bytes)) x y

/-- R268: the surface pixel of overlay plane `p` at a panel pixel, where its surface covers it, the plane is on in the
sector and its data has arrived (R279). -/
def State.planePixel (s : State) (p sec n line px py : Nat) : Option Nat :=
  let q := nth s.scan.planes p {}
  match s.surf q.surface with
  | none => none
  | some f =>
    let x : Int := px - q.offX; let y : Int := py - q.offY
    if nth (s.sector sec).ovOff p false ∨ nth (s.sector sec).fifoRows p 0 ≤ line ∨ x < 0 ∨ (f.width : Int) ≤ x ∨ y < 0 ∨ (f.height : Int) ≤ y then none
    -- R385: a unit read with an uncorrectable error is zero bytes
    else if (nth (s.sector sec).ovBad p []).contains (f.off x.toNat y.toNat / 64) then some 0
    else some (s.ovPixel q.surface n line x.toNat y.toNat)

/-- R288: the palette index of window pixel (x, y). -/
def lanternIndex (o : Tab (List Word)) (x y : Nat) : Nat :=
  let p := 3 * (y * 1024 + x)
  (List.range 3).foldl (fun v b => v + opt o 0x1805 ((p + b) / 32) ((p + b) % 32) 1 * 2 ^ b) 0

/-- R288, R289: the palette entry of a sector pixel, where the lantern plane is shown and the pixel lies in the window. -/
def lanternPixel (o : Tab (List Word)) (lantern : Bool) (sec x line : Nat) : Option Nat :=
  let g (f : Fld) : Nat := fieldOf (objIn o f.obj) f.word f.lo f.w
  let x0 := g F.LN_X0; let y0 := g F.LN_Y0
  if g F.LN_ENABLE = 1 ∧ g F.LN_SECTOR = sec ∧ (lantern ∨ g F.LN_IN_SERVICE = 1) ∧
     x0 ≤ x ∧ x ≤ x0 + g F.LN_W_M1 ∧ y0 ≤ line ∧ line ≤ y0 + g F.LN_H_M1 then
    some (opt o 0x1804 (3 + lanternIndex o (x - x0) (line - y0)) 0 32)
  else none

/-! ## One pixel, one line (R269, R272) -/

/-- R269: the light-field plane's value for channel `ch` of a pixel of a plan's field. -/
def State.lightField (s : State) (p : Plan) (sec line x ch : Nat) : Int :=
  if s.scan.lantern then 0
  else if (s.sector sec).lfOff then lin (opt p.look 0x1800 (2 + sec) (8 * ch) 8)
  else
    let w := nth (Tab.getD (s.ringSlot sec (line / 32)).tiles (x / 128) []) (line % 32 * 128 + x % 128) 0
    match ch with
    | 0 => dec (bits w 0 11) 7
    | 1 => dec (bits w 11 11) 7
    | _ => dec (bits w 22 10) 6

/-- R269: one subpixel of a field composed: channel `ch` of pixel `x` of a sector line. -/
def State.subpixel (s : State) (p : Plan) (sec line x ch : Nat) : Int :=
  let m := s.mode
  let px := sec % max 1 m.cols * 4096 + x
  let py := sec / max 1 m.cols * 2048 + line
  let stripe := if stripeR p.optics = 0 then ch else 2 - ch
  let fan := fanOf p.optics (lathV p.optics p.corr px py stripe)
  let lay (l : Int) (k : Nat) : Int :=
    match s.planePixel k sec p.field line px py with
    | some q => if planeShown p.optics fan k then mix (rgba q ch) (al (rgba q 3)) l else l
    | none => l
  let l := lay (lay (s.lightField p sec line x ch) 0) 1
  match lanternPixel p.look s.scan.lantern sec x line with
  | some e => mix (rgba e ch) (if s.scan.lantern then 32768 else al (rgba e 3)) l
  | none => l

/-- R536: the code of channel `ch` of test pixel `x` that compose, gamma and dither give with the tables in force; which pixels the
test generates, the manual does not say (log entry 23). -/
def State.testCode (s : State) (p : Plan) (n sec x ch : Nat) : Nat :=
  let m := s.mode
  let lay (l : Int) (k : Nat) : Int :=
    let q := (Config.testOverlay n k x).toNat
    mix (rgba q ch) (al (rgba q 3)) l
  let l := lay (lay (min (32768 : Int) (Config.testLight n x ch).toNat) 0) 1
  dither (opt p.look 0x1800 0 8 1 == 1) p.frame (sec % max 1 m.cols * 4096 + x)
    (sec / max 1 m.cols * 2048 + Config.testLine n % 2048) ch (gamma p.look ch l)

/-- R536: the codes of a test line of 4,096 pixels, as the pilot computes them. -/
def State.testCodes (s : State) (p : Plan) (n sec : Nat) : List Nat :=
  (List.range 4096).flatMap (fun x => (List.range 3).map (fun ch => s.testCode p n sec x ch))

/-- R536: the CRC-32C of output codes, each as two bytes. -/
def codesCrc (l : List Nat) : Nat := crc32c (l.flatMap (fun c => le 2 c))

/-- R536: what comes out of the path of a sector for a test line. -/
def pathOut (n sec : Nat) (l : List Nat) : List Nat :=
  (List.range l.length).map (fun i => nth l i 0 ^^^ (Config.pathFault n sec i).toNat)

/-- R536: the CRC of a sector's path differs from the one the pilot computes. -/
def State.pathBad (s : State) (p : Plan) (n sec : Nat) : Bool :=
  let l := s.testCodes p n sec
  codesCrc (pathOut n sec l) != codesCrc l

/-- R270, R271, R272: the code of one channel of a pixel of a sector line. -/
def State.code (s : State) (p : Plan) (sec line x ch : Nat) : Nat :=
  if s.scan.lantern ∧ (lanternPixel p.look true sec x line).isNone then 0
  else
    let m := s.mode
    dither (opt p.look 0x1800 0 8 1 == 1) (if s.scan.lantern then p.field else p.frame) (sec % max 1 m.cols * 4096 + x)
      (sec / max 1 m.cols * 2048 + line) ch (gamma p.look ch (s.subpixel p sec line x ch))

/-- R272: the codes of a sector line: R, G and B of each pixel. -/
def State.lineCodes (s : State) (p : Plan) (sec line : Nat) : List Nat :=
  (List.range 4096).flatMap (fun x => (List.range 3).map (fun ch => s.code p sec line x ch))

end Sys2Proof.Machine
end

