-- ==== Sys2Proof/Machine/Lines.lean ====
section
/-! DEFINITION. What happens line by line in scan-out (R278 to R281, R464 to R469, R286, R185 to R187): lines, overlay
fetch and underrun, backlight zones, TE captures and blanking windows. -/

namespace Sys2Proof.Machine

/-! ## Sectors that carry a field -/

/-- R186: field `n` is dropped in a sector. -/
def State.drops (s : State) (n sec : Nat) : Bool :=
  let p := if s.harbour.next.field = n then s.harbour.next else s.planOf n
  (p.field == n && p.dropped.contains sec) || (s.droppedIn n).contains sec

/-- R305, R186, R284: a sector's link carries the video of field `n`. -/
def State.carries (s : State) (n sec : Nat) : Bool :=
  s.fieldShown n && s.usedPorts.contains sec && (s.port sec).state == 3 &&
  (match (s.port sec).planFrom with | some f => decide (f ≤ n) | none => false) && !s.drops n sec

/-- R284, R341: lines run: ticks are raised and a raster mode or Lantern is in force. -/
def State.linesRun (s : State) : Bool := s.serving && s.ticksOn && (s.scan.mode != 0 || s.scan.lantern)

/-! ## Underruns (R278 to R280, R177) -/

/-- R278, R279, R280, R177, R511: an underrun of plane `j` (0 light field, 1 and 2 the overlays) in a sector, on a line of
field `n`: the plane is off for the rest of the field. -/
def State.underrun (s : State) (n sec j line : Nat) : State :=
  let s := if nth (s.sector sec).counted j false then s else s.tally (T.SCN_UNDERRUN_LF + j)
  let on (l : List Bool) : List Bool := if j = 0 then l else modAt l (j - 1) (fun _ => true)
  let s := s.modSector sec (fun x => { x with
    counted := modAt x.counted j (fun _ => true), lastLine := line, underLf := x.underLf || j == 0, lfOff := x.lfOff || j == 0,
    underOv := on x.underOv, ovOff := on x.ovOff })
  let h := { s.harbour with fieldUnder := modAt s.harbour.fieldUnder j (fun _ => true), frameClean := false }
  let s := if s.darkFrame n then s else { s with harbour := h }
  s.wakeRec 0x0002 (le 8 n ++ [1, byte sec, byte (line / 32), byte j] ++ le 4 0 ++ le 2 0)

/-- R46, R278: scan-out reaches line 32k of field `n`: a sector whose tile row k is not complete underruns. -/
def State.rowTest (s : State) (n k : Nat) : State :=
  if s.scan.lantern then s
  else s.usedPorts.foldl (fun s sec =>
    if s.carries n sec ∧ ¬ (s.sector sec).lfOff ∧ ¬ s.rowComplete n sec k then s.underrun n sec 0 (32 * k) else s) s

/-! ## Line 0 (R178, R278, R279, R535) -/

/-- R178: the latency target of the effective mode holds for a latency in ns. -/
def State.inTarget (s : State) (lat : Int) : Bool :=
  let fields := if s.harbour.effMode = 1 then s.scan.k + 1 else 2 * s.scan.k
  decide (lat * s.scan.rate ≤ fields * 1000000000)

/-- R178: LATENCY, µs, of a latency in ns; the manual gives no value for one that 32 bits do not hold. -/
def State.latencyUs (s : State) (lat : Int) : Nat :=
  let us := fdiv (lat + 500) 1000
  if 0 ≤ us ∧ us < 2 ^ 32 then us.toNat else Config.measured s.time.freeCount 32 % 2 ^ 32

/-- R178: a lit field ends the measurements that its line 0 is the first to reach. -/
def State.endLatency (s : State) (n : Nat) : State :=
  let ended := s.harbour.captures.filter (fun e => decide (e.2 ≤ n))
  let lats := ended.map (fun e => s.lineNs n 0 - e.1)
  match lats with
  | [] => s
  | l :: r =>
    let above := (lats.filter (fun x => !s.inTarget x)).length
    let h := { s.harbour with captures := s.harbour.captures.filter (fun e => decide (n < e.2)), latency := s.latencyUs (r.foldl max l),
                              latencyOver := s.harbour.latencyOver || above != 0 }
    let s := ({ s with harbour := h } : State).took
    if above = 0 then s else s.tallyBy T.HM_LATENCY_OVER above

/-- R468: the schedule lights some zone in field `n`. -/
def State.litIn (s : State) (n : Nat) : Bool := s.scan.sched.any (fun e => e.2.1 == n)

/-- R278, R279, R178, R535: line 0 of field `n`: every plane is on again, and a field whose schedule lights a zone ends
measurements of latency. -/
def State.enterField (s : State) (n : Nat) : State :=
  if s.scan.scanned = some n then s
  else
    let fresh (x : SectorScan) : SectorScan := { x with lfOff := false, ovOff := [false, false], counted := [false, false, false] }
    let s := { s with scan := { s.scan with scanned := some n, sectors := s.scan.sectors.map fresh } }
    if ¬ s.litIn n then s
    else
      let s := if s.scan.lantern then s else s.endLatency n
      if s.start.linkSteps ∧ s.start.tFirst = 0 then { s with start := { s.start with tFirst := s.msSinceReset } } else s

/-! ## SLACK (R281) -/

/-- R281, R268: the first pixel of overlay plane `p` in a sector from a sector line on: (line, pixel). -/
def State.firstOverlay (s : State) (p sec row : Nat) : Option (Nat × Nat) :=
  let q := nth s.scan.planes p {}
  match s.surf q.surface with
  | none => none
  | some f =>
    let left := sec % max 1 s.mode.cols * 4096
    let top := sec / max 1 s.mode.cols * 2048
    let x := visibleSpan (q.offX - left) f.width 4096
    let y := visibleSpan (q.offY - top) f.height 2048
    let x0 := (max 0 (q.offX - left)).toNat
    let y0 := (max 0 (q.offY - top)).toNat
    if x.2 = 0 ∨ y.2 = 0 ∨ y0 + y.2 ≤ row then none else some (max y0 row, x0)

/-- R299: the instant, ns, of pixel `x` of a line of a field. -/
def State.pixelNs (s : State) (n line x : Nat) : Int := s.lineNs n line + (x * 1000000000 / (4400 * 2088 * s.scan.rate) : Nat)

/-- R281: when the first overlay pixel of a plane in a sector is due that the sector's link carries and whose data is not in
its FIFO: in the field scanned, or to be scanned next, or in the one after it. -/
def State.overlayDueNs (s : State) (p sec : Nat) : Option Int :=
  let now := s.lineNow
  let live := decide (now.2 < 2048)
  let n := if live then now.1 else now.1 + 1
  let x := s.sector sec
  let row := if ¬ live ∧ now.2 < 2064 then 0 else nth x.fifoRows p 0
  let this := if (live ∧ nth x.ovOff p false) ∨ ¬ s.carries n sec then none else s.firstOverlay p sec row
  match this with
  | some e => some (s.pixelNs n e.1 e.2)
  | none => if s.carries (n + 1) sec then (s.firstOverlay p sec 0).map (fun e => s.pixelNs (n + 1) e.1 e.2) else none

/-- R281: SLACK as reported now. -/
def State.slackNow (s : State) : Nat :=
  let due := s.usedPorts.flatMap (fun k => [0, 1].filterMap (fun p => s.overlayDueNs p k))
  match due with
  | [] => 65535
  | d :: r => (sat (fdiv (r.foldl min d - s.ns) 100) 0 65535).toNat

/-- R281, R383: SLACK reported to the DRAM controller. -/
def State.reportSlack (s : State) : State := State.slackWakes { s with scan := { s.scan with slack := s.slackNow } }

/-! ## Lines (R537, R272, R299) -/

/-- R299: a pixel of a line lies in the horizontal sync: 48 pixels of front porch, 32 of sync, 224 of back porch follow the
4,096 active ones. -/
def hsync (x : Nat) : Bool := decide (4096 + 48 ≤ x ∧ x < 4096 + 48 + 32)

/-- R299: a line of a field lies in the vertical sync: lines 2,048 to 2,050 are front porch, 2,051 to 2,055 sync, 2,056 to
2,087 back porch. -/
def vsync (line : Nat) : Bool := decide (2051 ≤ line ∧ line ≤ 2055)

/-- R300, R284, R186: a sector's link sends the raster of R299 in field `n`. -/
def State.streams (s : State) (n sec : Nat) : Bool := (s.port sec).state == 3 && !s.drops n sec

/-- R272, R284, R303, R305, R341: the codes that a sector sends on a line of field `n`: none where its link carries no active
video, all 0 while it waits for its first plan, within the window of a change as after it. -/
def State.sectorCodes (s : State) (n sec line : Nat) : List Nat :=
  if ¬ s.streams n sec ∨ 2048 ≤ line then []
  else if s.carries n sec then s.lineCodes (s.planOf n) sec line
  else List.replicate 12288 0

/-- R537: a line begins in every sector. -/
def State.beginLine (s : State) (n line : Nat) : State :=
  let s := { s with scan := { s.scan with line := some (n, line) } }
  let s := if line < 2048 then s.enterField n else s
  let s := if line < 2048 ∧ line % 32 = 0 then s.rowTest n (line / 32) else s
  let s : State := s.usedPorts.foldl (fun (s : State) sec =>
    s.modSector sec (fun x => { x with codes := s.sectorCodes n sec line, vsync := s.streams n sec && vsync line })) s
  s.reportSlack.took

/-- R299: what a sector's stream carries at pixel `x` of its line, 0 to 4,399: the two syncs, active high, and the codes of an
active pixel. -/
def SectorScan.pixel (q : SectorScan) (x : Nat) : Bool × Bool × List Nat := (hsync x, q.vsync, (q.codes.drop (3 * x)).take 3)

/-- LINE_START (R537): the line whose instant has come begins. -/
def execLineStart (t : Cyc) (s : State) : Host.Outcome State Fault Refusal :=
  let s := s.at t
  let p := s.lineNow
  if ¬ s.linesRun ∨ s.scan.line = some p ∨ s.lineNs p.1 p.2 ≤ s.scan.notBefore then nextOf s
  else nextOf (s.beginLine p.1 p.2)

/-! ## Overlay fetch (R274, R279, R281) -/

/-- OVERLAY_PREFETCH_START (R274): at line 2,064 scan-out begins to fetch the rows of the next field. -/
def execOverlayPrefetchStart (t : Cyc) (s : State) : Host.Outcome State Fault Refusal :=
  let s := s.at t
  if s.linesRun ∧ ¬ s.scan.lantern ∧ 2064 ≤ s.lineNow.2 then
    nextOf (State.reportSlack { s with scan := { s.scan with sectors := s.scan.sectors.map (fun x => { x with fifoRows := [0, 0], ovBad := [[], []] }) } })
  else nextOf s

/-- R279: the first pixel of an overlay plane on the sector line under way is due, and its data is not in the FIFO. -/
def State.starves (s : State) (sec plane : Nat) : Bool :=
  let p := s.lineNow
  s.linesRun && !s.scan.lantern && decide (plane < 2 ∧ p.2 < 2048) && s.carries p.1 sec &&
  !(nth (s.sector sec).ovOff plane false) && decide (nth (s.sector sec).fifoRows plane 0 ≤ p.2) &&
  (match s.firstOverlay plane sec p.2 with
   | some e => e.1 == p.2 && decide (s.pixelNs p.1 e.1 e.2 ≤ s.ns)
   | none => false)

/-- R279: a plane that starves is off from that pixel on. The line's codes hold it transparent already: none of its data
on that line was in the FIFO. -/
def State.starved (s : State) (sec plane : Nat) : State :=
  if s.starves sec plane then s.underrun s.lineNow.1 sec (1 + plane) s.lineNow.2 else s

/-- R272, R279: the codes of the line under way taken anew for the pixels not sent yet: the line has been sent up to its pixel
of the present instant. -/
def State.renewLine (s : State) (sec : Nat) : State :=
  let p := s.lineNow
  if s.scan.line ≠ some p then s
  else
    let x := ((s.ns : Int) - s.lineNs p.1 p.2).toNat * (4400 * 2088 * s.scan.rate) / 1000000000 + 1
    let rest := (s.sectorCodes p.1 sec p.2).drop (3 * x)
    s.modSector sec (fun q => { q with codes := q.codes.take (3 * x) ++ rest })

/-- OVERLAY_FETCH_RETURN (R281, R279, R385): the data of a sector's overlay row has arrived; pixels not yet sent show it. Units read
with an uncorrectable error are zero bytes. -/
def execOverlayFetchReturn (t : Cyc) (sec plane : Nat) (row : ReadBy) (s : State) : Host.Outcome State Fault Refusal :=
  let s := s.at t
  if s.linesRun ∧ ¬ s.scan.lantern ∧ plane < 2 ∧ (s.surf (nth s.scan.planes plane {}).surface).isSome then
    let s := s.starved sec plane
    let got (x : SectorScan) : SectorScan :=
      { x with fifoRows := modAt x.fifoRows plane (fun r => max r (row.k + 1)), ovBad := modAt x.ovBad plane (· ++ row.bad) }
    let s := s.modSector sec got
    nextOf (if row.k = s.lineNow.2 then s.renewLine sec else s).reportSlack
  else nextOf s

/-- OVERLAY_UNDERRUN (R279): a pixel of an overlay plane is due and its data is not in the FIFO: from that pixel on the
plane is transparent. -/
def execOverlayUnderrun (t : Cyc) (sec plane : Nat) (s : State) : Host.Outcome State Fault Refusal :=
  nextOf ((s.at t).starved sec plane)


/-! ## Backlight zones (R464 to R469) -/

/-- R465: the group code of field `n`. -/
def State.groupCode (s : State) (n : Nat) : Nat :=
  if s.scan.lantern then s.latchv F.LANTERN_GROUPS
  else match s.scan.k with
    | 4 => 2 ^ (n % 4)
    | 2 => if n % 2 = 0 then 3 else 12
    | _ => 15

/-- R468, R464: zone `z` is lit for field `n`: each of its sectors is ACTIVE at the latch and not dark in the field. A port in a test
is in state TEST (R300, R313). -/
def State.zoneLit (s : State) (n z : Nat) : Bool :=
  let secs := idxs 16 (fun k => bit (s.latchv (F.ZONE_SECTORS z)) k)
  let ready (k : Nat) : Bool :=
    s.usedPorts.contains k && (s.port k).state == 3 && (s.port k).planFrom.isSome && decide ((s.port k).litFrom ≤ n) &&
    !(s.harbour.cur.field == n && s.harbour.cur.dropped.contains k)
  let window := !s.scan.lantern ||
    (secs.contains (s.cutv F.LN_SECTOR) && decide (s.latchv (F.FIRST_LINE z) ≤ s.cutv F.LN_Y0 + s.cutv F.LN_H_M1) &&
      decide (s.cutv F.LN_Y0 ≤ s.latchv (F.LAST_LINE z)))
  s.fieldLit n && !secs.isEmpty && secs.all ready && window && s.latchv F.DUTY != 0

/-- R468, R466: the schedule of field `n` fixed at its commit latch, with BacklightConfig as it stands there. -/
def State.schedule (s : State) (n : Nat) : State :=
  let s := { s with cfg := { s.cfg with latchBl := s.obj 0x1E10 } }
  let entry (z : Nat) : Nat × Nat × Nat × Nat × Nat :=
    let on := s.latchv (F.LAST_LINE z) + 1 + s.latchv F.SETTLE
    (z, n, (s.lineNs n on).toNat, (s.lineNs n (on + s.latchv F.DUTY)).toNat, s.groupCode n)
  { s with scan := { s.scan with sched := s.scan.sched ++ (idxs 16 (fun z => s.zoneLit n z)).map entry } }

/-- BACKLIGHT_ZONE_RISE (R466, R467): a zone whose rise has come is lit, BL_GRP holding the code of its field. -/
def execBacklightZoneRise (t : Cyc) (zone : Nat) (s : State) : Host.Outcome State Fault Refusal :=
  let s := s.at t
  match s.scan.sched.find? (fun e => e.1 == zone) with
  | some (z, n, rise, fall, grp) =>
    if rise ≤ s.ns ∧ s.ticksOn then
      nextOf { s with scan := { s.scan with
        zones := modAt s.scan.zones zone (fun _ => true), blGrp := grp,
        zoneFall := s.scan.zoneFall.filter (fun e => e.1 != zone) ++ [(zone, fall)],
        sched := s.scan.sched.filter (fun e => e != (z, n, rise, fall, grp)) } }
    else nextOf s
  | none => nextOf s

/-- BACKLIGHT_ZONE_FALL (R466): a lit zone whose fall has come goes dark. -/
def execBacklightZoneFall (t : Cyc) (zone : Nat) (s : State) : Host.Outcome State Fault Refusal :=
  let s := s.at t
  match s.scan.zoneFall.find? (fun e => e.1 == zone) with
  | some (_, fall) =>
    if fall ≤ s.ns then
      nextOf { s with scan := { s.scan with zones := modAt s.scan.zones zone (fun _ => false),
                                            zoneFall := s.scan.zoneFall.filter (fun e => e.1 != zone) } }
    else nextOf s
  | none => nextOf s

/-! ## TE (R286, R348) -/

/-- R286: E(n). -/
def State.teExpected (s : State) (n : Nat) : Int := s.lineNs n 0 + s.cutv F.TE_DELAY

/-- R286: P in ns. -/
def State.fieldPeriod (s : State) : Nat := 1000000000 / s.scan.rate

/-- R286: the field to which an edge at the present local time belongs. -/
def State.teFieldNow (s : State) : Option Nat :=
  let n := s.lineNow.1
  let half := fdiv s.fieldPeriod 2
  [n - 1, n, n + 1].find? (fun f => decide (s.teExpected f - half ≤ s.ns ∧ (s.ns : Int) < s.teExpected f + half))

/-- TE_EDGE (R286, R348): a rising edge of a TE input is captured; the first of a field gives TE_PHASE. -/
def execTeEdge (t : Cyc) (port : Nat) (s : State) : Host.Outcome State Fault Refusal :=
  let s := s.at t
  if ¬ s.serving ∨ 16 ≤ port then nextOf s
  else
    let s := if fifoRoom (nth s.time.te port []) then
        { s with time := { s.time with te := modAt s.time.te port (fun l => l ++ [s.capture false]) } }
      else State.captureLost { s with time := { s.time with teLost := modAt s.time.teLost port (· + 1) } }
    match s.ticksOn, s.teFieldNow with
    | true, some n =>
      nextOf (if (s.sector port).teField = some n then s
        else s.modSector port (fun x => { x with teField := some n, teValid := true, tePhase := (s.ns : Int) - s.teExpected n }))
    | _, _ => nextOf s

/-- TE_WINDOW_END (R286): the last instant at which an edge can belong to a field has passed: a field without an edge is
missing its TE. -/
def execTeWindowEnd (t : Cyc) (port : Nat) (s : State) : Host.Outcome State Fault Refusal :=
  let s := s.at t
  let half := fdiv s.fieldPeriod 2
  let n := s.lineNow.1
  match [n, n - 1].find? (fun f => decide (s.teExpected f + half ≤ s.ns)) with
  | some f =>
    if ¬ s.serving ∨ ¬ s.ticksOn ∨ 16 ≤ port ∨ (s.sector port).teJudged = some f then nextOf s
    else
      let s := { s with time := { s.time with te := modAt s.time.te port (fun _ => []) } }
      let s := s.modSector port (fun x => { x with teJudged := some f })
      nextOf (if (s.sector port).teField = some f then s
        else (s.modSector port (fun x => { x with teValid := false, teMissing := true })).tally T.SCN_TE_MISSING)
  | none => nextOf s

/-! ## Blanking windows (R185 to R187, R307, R536) -/

/-- R185: the field whose blanking window of a port is running. -/
def State.windowField (s : State) (p : Nat) : Option Nat :=
  let now := s.lineNow
  if s.linesRun ∧ 2050 ≤ now.2 ∧ now.2 < 2085 ∧ s.scan.changeT0.isNone ∧ s.usedPorts.contains p ∧ (s.port p).state = 3 then some now.1
  else none

/-- R185: the ns of a window that have passed, or are given out on a port: what is free of it starts there. -/
def State.windowFrom (s : State) (p : Nat) : Nat :=
  max (nth s.harbour.window.2 p 0) ((s.ns : Int) - s.lineNs s.harbour.window.1 2050).toNat

/-- R185, R307: what is taken of a port's window, with what a promoted BG3 unit is still to take of it. -/
def State.windowUsed (s : State) (p : Nat) : Nat :=
  s.windowFrom p + (if nth s.harbour.promoted 3 false ∧ (s.port p).newPresets.isSome then 2000 else 0)

/-- R185: ns of a port's window given out. -/
def State.takeWindow (s : State) (p ns : Nat) : State :=
  let til := s.windowFrom p + ns
  { s with harbour := { s.harbour with window := (s.harbour.window.1, modAt s.harbour.window.2 p (fun _ => til)) } }

/-- R307: a preset change applied in a port's window, where 2 µs of it are free. -/
def State.applyPresets (s : State) (p : Nat) : State :=
  match (s.port p).newPresets with
  | some l =>
    if s.inLines (s.windowFrom p + 2000) 35 then
      (s.takeWindow p 2000).modPort p (fun x => { x with presets := l, newPresets := none })
    else s
  | none => s

/-- R536: the scan-out path test of some sectors. -/
def State.pathTest (s : State) (r : TestReq) (sectors field : Nat) : State :=
  let bad := sumN ((idxs 16 (fun k => bit sectors k && s.pathBad s.harbour.cur s.time.freeCount k)).map (fun k => 2 ^ k))
  s.took.finalEvent r.slot r.tag 0x0F01 (if bad = 0 then Status.OK else Status.CHECK_FAILED)
    ([byte (if bad = 0 then 0 else 1), 0, 0, 0] ++ le 8 field ++ le 4 bad)

/-- R185: a request leaves the queue and runs; `field` is the one its completion reports. -/
def State.runReq (s : State) (i : Nat) (r : TestReq) (field : Nat) : State :=
  let s := { s with harbour := { s.harbour with requests := s.harbour.requests.eraseIdx i } }
  match r.kind with
  | .linkTest .. => s.beginTest r field
  | .memCal channels mode => s.beginCal r channels mode field
  | .selfTest sectors => s.pathTest r sectors field

/-- R185, R186: a request can run in the window of field `n`: its dropped field is the next, or the window began after its
acceptance and it fits the free time on every port it uses. -/
def State.reqFits (s : State) (n p : Nat) (r : TestReq) : Bool :=
  let ports := r.kind.ports s
  let cal : Bool := match r.kind with | .memCal .. => s.dram.cal.isNone && !s.scan.lantern | _ => true
  ports.contains p && ports.all (fun q => (s.port q).state == 3) && cal &&
  (if r.kind.drops s then r.drop == some (n + 1)
   else decide ((r.acceptNs : Int) ≤ s.lineNs n 2050) && ports.all (fun q => s.inLines (s.windowUsed q + r.kind.dur) 35))

/-- R185: the queued requests that the windows of field `n` can carry, in order of arrival. `i` is the next one to judge. -/
def State.runReqs (s : State) (n p : Nat) : Nat → Nat → State
  | 0, _ => s
  | m + 1, i =>
    match s.harbour.requests[i]? with
    | none => s
    | some r =>
      if s.reqFits n p r then
        let drops := r.kind.drops s
        let ports := r.kind.ports s
        let s := s.runReq i r (if drops then n + 1 else n)
        let s : State := if drops then s else ports.foldl (fun (s : State) q => s.takeWindow q r.kind.dur) s
        s.runReqs n p m i
      else s.runReqs n p m (i + 1)

/-- R185: the window of a port of field `n` given out: a promoted BG3 unit, queued requests, another BG3 unit. -/
def State.serveWindow (s : State) (n p : Nat) : State :=
  let h := s.harbour
  let h := if h.window.1 = n ∧ h.window.2 ≠ [] then h else { h with window := (n, List.replicate 16 0) }
  let s := { s with harbour := h }
  let s := if nth s.harbour.promoted 3 false then s.applyPresets p else s
  let s := s.runReqs n p s.harbour.requests.length 0
  if (s.port p).state = 3 then s.applyPresets p else s

/-- BLANKING_WINDOW (R185): the blanking window of a port. -/
def execBlankingWindow (t : Cyc) (port : Nat) (s : State) : Host.Outcome State Fault Refusal :=
  let s := s.at t
  match s.windowField port with
  | some n => nextOf (s.serveWindow n port)
  | none => nextOf s

end Sys2Proof.Machine
end

