-- ==== Sys2Proof/Machine/Scanout.lean ====
section
/-! DEFINITION. The commands of the Harbourmaster (R188, R189) and of scan-out (R273 to R277, R282, R285, R288, R293 to
R295). -/

namespace Sys2Proof.Machine

/-! ## Service -/

/-- R188: ServiceConfig within its ranges. -/
def serviceOk (ws : List Word) : Bool :=
  wordsOk 0x1300 ws && decide (fieldOf ws 0 0 3 ≤ 3 ∧ fieldOf ws 0 4 3 ≤ 4 ∧ 1 ≤ fieldOf ws 0 8 3 ∧ fieldOf ws 0 8 3 ≤ 6 ∧
    1 ≤ fieldOf ws 1 16 16 ∧ 5 ≤ fieldOf ws 2 0 8 ∧ fieldOf ws 2 0 8 ≤ 100)

/-- SERVICE_CONFIGURE (R188, R176, R177). A host write of SERVICE_MODE clears DEMOTED. -/
def cardServiceConfigure : Card where
  opcode := 0x0401
  deferred := false
  lenOk := lenIs 12
  params := fun _ _ pl => serviceOk (toWords 3 pl)
  judge := fun s _ pl => if bits (num pl 0 4) 0 3 = 3 ∧ ¬ s.lanternConfigured then Status.BAD_STATE else Status.OK
  run := fun s _ pl =>
    let s := s.setObj 0x1300 (toWords 3 pl)
    done { s with harbour := { s.harbour with modeWrite := true, demoted := false } }

/-- PLAN_QUERY (R188, R189, R190). -/
def cardPlanQuery : Card where
  opcode := 0x0402
  deferred := false
  lenOk := lenIs 0
  params := fun _ _ _ => true
  run := fun s _ _ =>
    (s, Status.OK, ofWords (s.settingAt 0x1300) ++ slice (s.statusBytes 0x2300) 0 64 ++ slice (s.statusBytes 0x2301) 0 16)

/-! ## Panel modes -/

/-- R293: ScanoutConfig within its ranges. -/
def scanoutOk (ws : List Word) : Bool :=
  wordsOk 0x1800 ws && (modeOf? (fieldOf ws 0 0 8)).isSome && decide (fieldOf ws 1 0 32 ≤ 1000000)

/-- R285: a change of PANEL_MODE is pending or a change is running. -/
def State.modeBusy (s : State) : Bool := s.get F.PANEL_MODE != s.scan.mode || s.scan.change.isSome

/-- SCANOUT_CONFIGURE: KIND of its final event. -/
def State.changeKind (s : State) (new : Nat) : Nat :=
  if new = s.get F.PANEL_MODE then 0 else if softPair s.scan.mode new then 1 else 2

/-- SCANOUT_CONFIGURE (R282, R285, R293, R390). -/
def cardScanoutConfigure : Card where
  opcode := 0x0501
  deferred := true
  lenOk := lenIs 72
  params := fun _ _ pl => scanoutOk (toWords 18 pl)
  judge := fun s _ pl =>
    let new := num pl 0 1
    let changes := new != s.get F.PANEL_MODE
    if changes ∧ s.modeBusy then Status.BUSY
    else if ¬ modeAllowed new s.presentCount then Status.NO_RESOURCE
    else if changes ∧ s.lanternWanted then Status.BAD_STATE
    else Status.OK
  run := fun s c pl =>
    let kind := s.changeKind (num pl 0 1)
    let s := s.setObj 0x1800 (toWords 18 pl)
    done { s with scan := { s.scan with cfgCmds := s.scan.cfgCmds ++ [(c.owner, c.tag, kind)] } }

/-! ## Overlay commits (R273 to R277) -/

/-- R273: the target field of a commit stamped now: the field whose latch is the first strictly after the stamp. -/
def State.targetField (s : State) : Nat := let now := s.lineNow; if now.2 < 2048 then now.1 + 1 else now.1 + 2

/-- R276: the fetch of a commit together with the other plane's exceeds the limit. -/
def State.fetchOver (s : State) (plane surface : Nat) (offX offY : Int) : Bool :=
  decide (overlayLimit s.mode.rate s.presentCount <
    s.ovFetch s.mode surface offX offY + (nth s.scan.planes (1 - plane) {}).lastFetch)

/-- OVERLAY_COMMIT (R273 to R277): the front end carries it out. -/
def cardOverlayCommit : Card where
  opcode := 0x0502
  deferred := true
  lenOk := lenIs 12
  params := fun _ _ pl =>
    decide (num pl 0 1 ≤ 1) && zeroAt pl 1 1 && (decide (num pl 2 2 ≤ 1023) || num pl 2 2 == 0xFFFF) &&
    decide (-65536 ≤ snum pl 4 4 ∧ snum pl 4 4 ≤ 65535 ∧ -8192 ≤ snum pl 8 4 ∧ snum pl 8 4 ≤ 8191)
  judge := fun s _ pl =>
    let id := num pl 2 2
    let missing : Bool := id != 0xFFFF && (match s.surf id with | some f => f.format != 0 | none => true)
    let clearing : Bool := match s.surf id with | some f => f.clearing | none => false
    let busy : Bool := match s.scan.change with | some c => !(c.enters && s.scan.lantern) | none => false
    if busy then Status.BUSY
    else if s.scan.lantern then Status.BAD_STATE
    else if s.scan.mode = 0 ∨ missing then Status.BAD_STATE
    else if clearing then Status.BUSY
    else if s.fetchOver (num pl 0 1) id (snum pl 4 4) (snum pl 8 4) then Status.NO_RESOURCE
    else Status.OK
  ack := fun s _ _ => le 8 s.ns ++ le 8 s.targetField
  run := fun s c pl =>
    let x : OvCommit := { surface := num pl 2 2, offX := snum pl 4 4, offY := snum pl 8 4, stamp := s.ns, order := s.scan.commitOrder,
                          target := s.targetField, slot := c.owner, tag := c.tag }
    let s := s.modPlane (num pl 0 1) (fun q => { q with pending := q.pending ++ [x], lastFetch := s.ovFetch s.mode x.surface x.offX x.offY })
    done { s with scan := { s.scan with commitOrder := s.scan.commitOrder + 1 } }

/-! ## Gamma -/

/-- R294: the words of a gamma table with entries replaced from `first` on. -/
def putGamma (ws : List Word) (first : Nat) (entries : List Nat) : List Word :=
  (List.range ws.length).map (fun w =>
    let old (i : Nat) : Nat := fieldOf ws w (16 * i) 16
    let e (i : Nat) : Nat := if first ≤ 2 * w + i ∧ 2 * w + i < first + entries.length then nth entries (2 * w + i - first) 0 else old i
    BitVec.ofNat 32 (e 0 + 65536 * e 1))

/-- GAMMA_SET: its entries. -/
def gammaEntries (pl : List Byte) : List Nat := (List.range (num pl 4 2)).map (fun i => num pl (8 + 2 * i) 2)

/-- GAMMA_SET (R270, R294). -/
def cardGammaSet : Card where
  opcode := 0x0503
  deferred := false
  lenOk := fun pl => decide (8 ≤ pl.length) && pl.length == 4 * cdiv (8 + 2 * num pl 4 2) 4
  params := fun _ _ pl =>
    decide (num pl 0 1 ≤ 2 ∧ 1 ≤ num pl 4 2 ∧ num pl 4 2 ≤ 512 ∧ num pl 2 2 + num pl 4 2 ≤ 1025) && zeroAt pl 1 1 && zeroAt pl 6 2 &&
    (gammaEntries pl).all (fun g => decide (g ≤ 65472))
  run := fun s _ pl =>
    let id := 0x1801 + num pl 0 1
    done (s.setObj id (putGamma (s.obj id) (num pl 2 2) (gammaEntries pl)))

/-! ## Lantern (R288, R295) -/

/-- R288, R295: LanternConfig sets no reserved bit, and its window lies in its sector. -/
def lanternOk (ws : List Word) : Bool :=
  wordsOk 0x1804 ws && decide (fieldOf ws 1 0 12 + fieldOf ws 2 0 10 < 4096 ∧ fieldOf ws 1 16 11 + fieldOf ws 2 16 8 < 2048)

/-- LANTERN_CONFIGURE (R288, R295). -/
def cardLanternConfigure : Card where
  opcode := 0x0504
  deferred := false
  lenOk := lenIs 44
  params := fun _ _ pl => lanternOk (toWords 11 pl)
  judge := fun s _ pl =>
    let w := num pl 0 4
    let off := s.get F.LN_ENABLE == 1 && bits w 0 1 == 0
    if s.lanternWanted ∧ (off ∨ bits w 2 4 ≠ s.get F.LN_SECTOR) then Status.BAD_STATE else Status.OK
  run := fun s _ pl => done (s.setObj 0x1804 (toWords 11 pl))

/-- R295: words with bytes laid over them from a byte offset on. -/
def putBytes (ws : List Word) (off : Nat) (bs : List Byte) : List Word :=
  let first := off / 4
  let n := (off + bs.length + 3) / 4 - first
  let old := ofWords ((ws.drop first).take n)
  let k := off % 4
  overlayWords ws first (toWords n (old.take k ++ bs ++ old.drop (k + bs.length)))

/-- LANTERN_WRITE (R288, R295). -/
def cardLanternWrite : Card where
  opcode := 0x0505
  deferred := false
  lenOk := fun pl =>
    let n := num pl 4 2
    decide (8 ≤ pl.length) && decide (1 ≤ n ∧ n ≤ 1024) && pl.length == 4 * cdiv (8 + n) 4
  params := fun _ _ pl => decide (num pl 0 4 + num pl 4 2 ≤ 98304) && zeroAt pl 6 2
  run := fun s _ pl => done (s.setObj 0x1805 (putBytes (s.obj 0x1805) (num pl 0 4) (slice pl 8 (num pl 4 2))))

end Sys2Proof.Machine
end

