-- ==== Sys2Proof/Machine/Field.lean ====
section
/-! DEFINITION. The field: the scene cut (R40, R31, R112, R176, R177, R282 to R292), the tick (R35, R43, R38, R287), tide
marks with escalation (R46, R173, R174) and the commit latch (R273, R275, R284, R468). -/

namespace Sys2Proof.Machine

/-! ## Moorings at a cut (R112) -/

/-- R112: the moorings whose configuration or state is not at reset. -/
def State.cutMoors (s : State) : List Nat :=
  let named := (s.cfg.cut.filter (fun e => decide (0x1400 ≤ e.1 ∧ e.1 < 0x1800))).map (fun e => e.1 - 0x1400)
  sortBy (fun a b => decide (a < b)) (named ++ ((s.moors.map (·.1)).filter (fun n => !named.contains n)))

/-- R112: the state of an enabled mooring without a session. -/
def State.idleState (s : State) (n : Nat) : Nat := if s.cutI F.M_LIBRARY n = 1 then 4 else 1

/-- The final events of the MOORING_RESETs of a mooring. -/
def State.resetsEnd (s : State) (n status : Nat) : State :=
  let cmds := (s.moor n).resetCmd
  cmds.foldl (fun s c => s.finalEvent c.1 c.2 0x0202 status []) (s.modMoor n (fun m => { m with resetCmd := [], resetBegun := 0 }))

/-- R112: a disabling: pending frames are abandoned, and the device's own SCENE_CLOSE is due. -/
def State.disableMoor (s : State) (n field : Nat) : State :=
  let s := (s.abandonAll n field none).modMoor n (fun m => { m with state := 0, close := true })
  (s.dropLib n).resetsEnd n Status.BAD_STATE

/-- R112: pending frames without a commit abandoned, oldest first, until PENDING_MAX holds. -/
def State.trimPending (s : State) (n field : Nat) : Nat → State
  | 0 => s
  | k + 1 =>
    let m := s.moor n
    if m.frames.length ≤ s.cutI F.M_PENDING_MAX n then s
    else match m.ordered.find? (fun x => x.commit.isNone) with
      | some x => (s.abandonFrame n x.id field none).trimPending n field k
      | none => s

/-- R112: a mooring's configuration sampled at the cut of a field, and the first step of a MOORING_RESET. -/
def State.sampleMoor (s : State) (n field : Nat) : State :=
  let on := s.cutI F.M_ENABLE n == 1
  let st := (s.moor n).state
  let s := if ¬ on ∧ st ≠ 0 then s.disableMoor n field
    else if on ∧ st = 0 then s.modMoor n (fun m => { m with state := s.idleState n })
    else s
  let s := s.trimPending n field 8
  -- step 1 of the resets accepted since the last cut, once
  if (s.moor n).resetCmd.length ≤ (s.moor n).resetBegun then s
  else ((s.abandonAll n field none).dropLib n).modMoor n (fun m => { m with resetBegun := m.resetCmd.length })

/-- R112: the device's own SCENE_CLOSE at a frame-tick cut, from a disabling or a MOORING_RESET. -/
def State.closeMoor (s : State) (n field : Nat) : State :=
  let m := s.moor n
  let s := if m.close then
      s.modMoor n (fun m => { m.ownClose field with close := false, session := if m.state = 2 then m.session else 0 })
    else s
  -- chunks received since step 1 of a reset stay pending (log entry 118)
  if 0 < m.resetBegun then
    ((s.dropLib n).modMoor n (fun m => { m.ownClose field with session := 0, state := s.idleState n })).resetsEnd n Status.OK
  else s

/-! ## Service mode and panel mode at a cut (R176, R177, R282 to R292) -/

/-- R284: the end of a change at the cut of tick m: field m is the first of the new mode, dark for a frame, in Lantern lit. -/
def State.endChange (s : State) (n : Nat) : State :=
  let vis := if s.scan.lantern then n else n + s.scan.k
  let s := { s with scan := { s.scan with change := none, changeT0 := none, firstTick := some n, visible := some vis } }
  s.usedPorts.foldl (fun s p =>
    if (s.port p).state = 3 ∧ ¬ (s.port p).rejoining then s.modPort p (fun q => { q with planFrom := some n, litFrom := vis }) else s) s

/-- R305: the ports that wait for tick m rejoin. -/
def State.rejoin (s : State) (n : Nat) : State :=
  s.usedPorts.foldl (fun s p =>
    if (s.port p).state = 3 ∧ (s.port p).rejoining then
      s.modPort p (fun q => { q with planFrom := some n, litFrom := n + s.scan.k, activeField := n + s.scan.k, rejoining := false })
    else s) s

/-- R177: one demotion step on top of the mode that step 2 has given; in Frugal it only counts. -/
def State.demote (s : State) : State :=
  if ¬ s.harbour.demoteDue ∨ 2 < s.harbour.effMode then s
  else
    let h := { s.harbour with demoteDue := false }
    if s.harbour.effMode = 2 then ({ s with harbour := h } : State).tally T.HM_DEMOTION_FLOOR
    else ({ s with harbour := { h with effMode := h.effMode + 1, demotion := true } } : State).tally T.HM_DEMOTION

/-- R177: one step back toward the requested mode. -/
def State.restore (s : State) : State :=
  let frames := s.cutv F.RESTORE_FRAMES
  let h := s.harbour
  if frames ≠ 0 ∧ frames ≤ h.cleanFrames ∧ h.reqMode < h.effMode ∧ h.effMode ≤ 2 then
    { s with harbour := { h with effMode := h.effMode - 1, restored := true, cleanFrames := 0 } }
  else s

/-- R176, R177, R40: steps 2 and 3 for the service mode at a frame-tick cut outside Lantern; Lantern is not entered here. -/
def State.serviceMode (s : State) : State :=
  let h := s.harbour
  let req := s.cutv F.SERVICE_MODE
  let asked := h.modeWrite || req != h.reqMode
  let before := h.lateMode.getD h.effMode
  let eff := if asked ∧ req ≤ 2 then req else if before ≤ 2 then before else min req 2
  let s := { s with harbour := { h with reqMode := req, modeWrite := false, lateMode := none, effMode := eff } }
  let due := s.harbour.demoteDue
  let s := s.demote
  let s := if due then s else s.restore
  { s with harbour := { s.harbour with demoted := decide (s.harbour.reqMode < s.harbour.effMode) } }

/-- R176, R288, R291: Lantern is requested, a window is configured and no change runs. -/
def State.entersLantern (s : State) : Bool :=
  !s.scan.lantern && s.cutv F.SERVICE_MODE == 3 && s.scan.change.isNone && s.lanternConfigured

/-- R284, R291, R292: a change sampled at the cut of field `n`. -/
def State.sampleChange (s : State) (c : Change) (eff : Nat) : State :=
  { s with scan := { s.scan with change := some c },
           harbour := { s.harbour with effMode := eff, reqMode := s.cutv F.SERVICE_MODE, modeWrite := false, demoted := false,
                                       lateMode := none, demoteDue := false } }

/-- R282, R283: a soft change at the cut of field `n`. -/
def State.softChange (s : State) (new n : Nat) : State :=
  let k := (modeOf new).k
  -- R287: the second frame tick after an update is now a tick of the new K
  let g (e : Int × Nat) : Int × Nat := if n < e.2 then (e.1, n + k) else e
  ({ s with scan := { s.scan with mode := new, k := k, phiNext := s.scan.phiNext.map g },
            harbour := { s.harbour with schedule := [] } } : State).tally T.SCN_MODE_SOFT

/-- R40, R176, R283 to R285, R291, R292: the service and panel modes at a frame-tick cut. Where both are sampled, Lantern
entry wins. -/
def State.sampleModes (s : State) (n : Nat) : State :=
  let new := s.cutv F.PANEL_MODE
  let s := { s with harbour := { s.harbour with profile := s.cutv F.PROFILE } }
  if s.scan.lantern then
    if s.cutv F.SERVICE_MODE ≠ 3 ∧ s.scan.change.isNone then s.sampleChange (.lanternExit new n) (s.cutv F.SERVICE_MODE) else s
  else if s.entersLantern then s.sampleChange (.lanternEntry n) 3
  else
    let s := s.serviceMode
    if new = s.scan.mode ∨ s.scan.change.isSome then s
    else if softPair s.scan.mode new then (if n % max s.scan.k (modeOf new).k = 0 then s.softChange new n else s)
    else if s.start.linksBegun then { s with scan := { s.scan with change := some (.hard new n) } }
    else s

/-! ## Cost coefficients (R159, R161) -/

/-- R159: a coefficient moved toward a measurement, within a range. -/
def smooth (a m : Nat) (shift lo hi : Nat) : Nat := (sat (a + rnd ((m : Int) - a) shift) lo hi).toNat

/-- R159: a measured coefficient, whose clocks no rule ties to a tally; below 4,096 counts it is unchanged. -/
def State.coefNow (s : State) (a nominal count which : Nat) : Nat :=
  if count < 4096 then a
  else smooth a (Config.measured s.time.freeCount which * 65536 / count) (s.cutv F.SMOOTH_SHIFT) nominal (8 * nominal)

/-- R159, R161, R40: the coefficients at the cut of field `n`: outside Lantern from the counts of field n-2, and from the last
round. -/
def State.measureCoefs (s : State) : State :=
  let c := s.harbour.coefs
  let sum (f : GangCount → Nat) : Nat := gangSum s.harbour.counts1 f
  let counted : Coefs :=
    { c with aRay := s.coefNow c.aRay 256 (sum (·.rays)) 0, aSamp := s.coefNow c.aSamp 1024 (sum (·.samples)) 1,
             aRef := s.coefNow c.aRef 256 (sum (·.refines)) 2, aMiss := s.coefNow c.aMiss 524288 (sum (·.miss)) 3 }
  let c := if s.scan.lantern then c else counted
  let shift := s.cutv F.SMOOTH_SHIFT
  let c := match s.harbour.energy with
    | some (trowel, mem, total, clocks, bytes) =>
      { c with eClk := if clocks < 4096 then c.eClk else smooth c.eClk (trowel * 10000000 / clocks) shift 1 65535,
               eByte := if bytes < 4096 then c.eByte else smooth c.eByte (mem * 10000000 / bytes) shift 1 65535,
               pFix := smooth c.pFix (total - trowel - mem) shift 1 65535 }
    | none => c
  ({ s with harbour := { s.harbour with coefs := c, energy := none } } : State).took

/-! ## Background classes (R182, R184) -/

/-- R180: URGENCY of BG0 to BG5, ms. -/
def urgency : List Nat := [2000, 1000, 250, 1000, 50, 60000]

/-- R182, R184: promotions and the slice at a cut. A class that Lantern stops keeps its promotion with its age, but takes no
slice. -/
def State.promote (s : State) : State :=
  let runs (j : Nat) : Bool := !s.scan.lantern || j == 0 || j == 3
  let up := (List.range 6).map (fun j => decide (nth urgency j 1 ≤ s.age j))
  let fresh := (idxs 6 (fun j => nth up j false && !(nth s.harbour.promoted j false))).length
  let key (j : Nat) : Nat := s.age j * 256 / nth urgency j 1
  let slice := (minBy? (fun a b => decide (key b < key a)) (idxs 6 (fun j => runs j && nth up j false))).getD 7
  let s := { s with harbour := { s.harbour with promoted := up, slice := slice, bgPromoted := s.harbour.bgPromoted || fresh != 0 } }
  if fresh = 0 then s else s.tallyBy T.HM_BG_PROMOTED fresh

/-! ## The plan of a cut (R40, R152, R207, R267) -/

/-- R267, R31: the objects of scan-out that a cut samples for a field. -/
def lookIds : List Nat := [0x1800, 0x1801, 0x1802, 0x1803, 0x1804, 0x1805]

/-- R391: the calibrations that the dropped fields and windows of field `n` carry: (channels, ns). -/
def State.calsIn (s : State) (n : Nat) : List (Nat × Nat) :=
  s.harbour.requests.filterMap (fun r =>
    match r.kind with
    | .memCal channels _ => if r.drop = some n ∨ ¬ r.kind.drops s then some (channels, r.kind.dur) else none
    | _ => none)

/-- R40, R152, R162: what the cut of field `n` samples for it, and the plan built on it. No plan is built in PANEL_MODE
0x00, in Lantern or while a change keeps the field dark. -/
def State.planFor (s : State) (n : Nat) : Plan :=
  let shown := s.fieldShown n
  let p : Plan :=
    { field := n, mode := s.scan.mode, effMode := s.harbour.effMode, collapseM := s.cutv F.SWIFT_COLLAPSE_M, limit := s.powerLimit s.harbour.effMode,
      scenes := (s.moors.map (fun e => (e.1, e.2.scene))).filter (fun e => e.2.coats != []),
      optics := sampleOptics s.cfg.cut, corr := s.corrUsed, look := lookIds.map (fun id => (id, objIn s.cfg.cut id)),
      slice := s.harbour.slice, cal := s.calsIn n, dropped := s.droppedIn n, shown := shown }
  if s.scan.lantern then p
  else if shown then s.buildPlan p
  else { p with lanes := s.assignLanes.1 }

/-- SCANOUT_CONFIGURE: the final events due at the cut of field `n`. -/
def State.configured (s : State) (n : Nat) : State :=
  let settled := s.scan.change.isNone && s.scan.mode == s.cutv F.PANEL_MODE
  let due (c : Nat × Nat × Nat) : Bool := c.2.2 == 0 || settled
  let cmds := s.scan.cfgCmds.filter due
  cmds.foldl (fun s c => s.finalEvent c.1 c.2.1 0x0501 Status.OK (le 8 n ++ [byte c.2.2]))
    { s with scan := { s.scan with cfgCmds := s.scan.cfgCmds.filter (fun c => !due c) } }

/-- R40, R31: configuration at the cut of field `n`: every object, the correction map, the channels, a change that ends, the
moorings. -/
def State.cutConfig (s : State) (n : Nat) : State :=
  let s := s.applyReload
  let s := { s with cfg := { s.cfg with cut := s.cfg.work } }
  let s := (s.reportGroups.corrActivate n).loseFailed n
  let s := if s.scan.changeT0.isSome ∧ s.scan.trained ∧ s.frameTick n then s.endChange n else s
  s.cutMoors.foldl (fun s m => s.sampleMoor m n) s

/-- R122, R123, R144: a mooring at a frame-tick cut: its frames are run, and a session that has changed ends its library
read. -/
def State.runMoor (s : State) (m n : Nat) : State :=
  let was := (s.moor m).scene.session
  let s := (s.modMoor m Mooring.countCut).runCut m n
  if (s.moor m).scene.session = was then s else s.dropLib m

/-- R40, R112, R123: the scene at a frame-tick cut: the device's own closes, and eligibility outside Lantern. -/
def State.cutScene (s : State) (n : Nat) : State :=
  let s : State := s.cutMoors.foldl (fun (s : State) m => s.closeMoor m n) s
  -- R122: a frame-tick cut counts in Lantern too
  if s.scan.lantern then s.cutMoors.foldl (fun s m => s.modMoor m Mooring.countCut) s
  else s.cutMoors.foldl (fun s m => s.runMoor m n) s

/-- R40: the cut of field `n`. -/
def State.takeCut (s : State) (n : Nat) : State :=
  let s := s.cutConfig n
  let s := if s.frameTick n then s.sampleModes n else s
  let s := s.corrHold
  let s := if s.frameTick n then s.cutScene n else s
  let s := if s.frameTick n ∧ s.scan.changeT0.isNone then s.rejoin n else s
  let s := s.measureCoefs
  let s := s.promote.fixDrops n
  let p := s.planFor n
  let s := { s with harbour := { s.harbour with next := p, cold := s.harbour.cold && !p.built, lastCut := some n } }
  (s.configured n).extraHeartbeat

/-- R40, R37: the scene cut that is due has not been taken. -/
def State.cutReady (s : State) : Bool :=
  let n := s.dueCut
  s.serving && s.ticksOn && s.harbour.lastCut != some n && !(s.scan.ticked && decide (n ≤ s.scan.field)) &&
  decide ((s.scan.notBefore : Int) ≤ s.cutNs n)

/-- SCENE_CUT (R40): 800,000 ns before the tick of a field. -/
def execSceneCut (t : Cyc) (s : State) : Host.Outcome State Fault Refusal :=
  let s := s.at t
  nextOf (if s.cutReady then s.takeCut s.dueCut else s)

/-- PLAN_COMPLETE (R162, R43): the plan of the next field is complete. -/
def execPlanComplete (t : Cyc) (s : State) : Host.Outcome State Fault Refusal :=
  let s := s.at t
  nextOf (if s.serving ∧ s.harbour.next.built then
    { s with harbour := { s.harbour with next := { s.harbour.next with complete := true } } } else s)

/-! ## The tick (R35 to R38, R43) -/

/-- R43, R207: the substitute for a late plan: the placement and scenes of the field before, every tile one step up, under the
optics sampled for the field; cost, fetches and predictions follow. -/
def State.substitute (s : State) (n : Nat) : Plan :=
  let h := s.harbour
  let src := if h.next.field = n then h.next else h.cur
  let p := { h.cur with field := n, mode := s.scan.mode, complete := false, overPlan := false, optics := src.optics, corr := src.corr,
                        look := src.look, limit := src.limit, slice := src.slice, cal := src.cal, dropped := src.dropped,
                        lanes := src.lanes, shown := true }
  let on := s.planSectors p
  let b := tanBounds p.optics
  let coats := p.coats
  -- every tile for the position of field n: its handling, its coats and its cost (R157, R221)
  let raise (t : TilePlan) : TilePlan :=
    let m := modeOf p.mode
    s.judged p b coats { t with step := min 4 (t.step + 1),
                                fans := tileFans p.optics p.corr (tilePx m t.sector t.col) (tilePy m t.sector t.row) }
  let q := { p with tiles := (p.tiles.filter (fun t => on.contains t.sector)).map raise }
  let f := s.fetchAll q b
  s.withLoad f.1 (s.predict f.1 f.2)

/-- R35, R43, R176: the plan of field `n` comes into force at its tick; a late one is replaced. -/
def State.plansTick (s : State) (n : Nat) : State :=
  let h := s.harbour
  let late := s.fieldShown n && !s.scan.lantern && !(h.next.field == n && h.next.complete)
  let p := if late then s.substitute n else if h.next.field = n then h.next else { field := n }
  let h := { h with prev := h.cur, cur := p, next := {}, lateNow := late, planLate := h.planLate || late,
                    overPlan := h.overPlan || p.overPlan }
  let h := if late then { h with lateMode := if s.frameTick n then some h.effMode else h.lateMode, effMode := p.effMode } else h
  let s : State := { s with harbour := h }
  let s := if late then s.tally T.HM_PLAN_LATE else s
  if p.overPlan then s.tally T.HM_OVER_PLAN else s

/-- R163, R164, R167: the gangs and the decompression lanes take what the plan of field `n` gives them; the preload lists begin
after the tiles that are resident already. -/
def State.workTick (s : State) (n : Nat) : State :=
  let p := s.harbour.cur
  let take (g : Nat) (q : Gang) : Gang :=
    { q with queue := q.queue ++ (p.ofGang g).map (fun i => (n, i)), done := [], skipped := [],
             todo := nth p.preload g [], bad := q.bad.filter (fun e => decide (n ≤ e.1 + 1)) }.settleList n p.lineGen
  let s := { s with synth := { s.synth with gangs := (List.range 16).map (fun g => take g (s.gang g)) } }
  p.lanes.foldl (fun (s : State) e => s.modMoor e.1 (fun m => { m with lane := e.2, laneSet := true })) s

/-- R242, R243, R189, R151, R262: the counts of the fields before move on at the tick of field `n`. -/
def State.countsTick (s : State) (n : Nat) : State :=
  let h := s.harbour
  let busiest := maxN (h.counts.map (·.clocks))
  let h := { h with counts2 := h.counts1, counts2Field := n - 2, counts1 := h.counts, counts := List.replicate 16 {},
                    loadAct := satN (busiest * 1000 / max 1 (clkField s.scan.rate)) 16, escalatedPrev := satN h.escalated 16,
                    escalated := 0, tickCyc := s.time.cyc }
  { s with harbour := h,
           skim := { s.skim with bytesPrev := satN s.skim.bytesNow 32, bytesNow := 0 },
           codec := { s.codec with dOutPrev := s.codec.dOut, dOut := List.replicate 8 0, cInPrev := s.codec.cIn, cIn := [0, 0] } }

/-- R322: the error counters of the backbone ports that are not DOWN move on by what has arrived since the last field tick
(log entry 134). -/
def State.bbCounts (s : State) : State :=
  let c := s.time.freeCount
  (List.range 2).foldl (fun (s : State) b =>
    let fec := s.getI F.BB_FEC b != 0
    s.modBb b (fun x => if x.link = 0 then x else
      { x with blockErr := satN (x.blockErr + Config.blockErrors c b) 32,
               fecCorr := if fec then satN (x.fecCorr + Config.fecCorrected c b) 32 else x.fecCorr,
               fecUncorr := if fec then satN (x.fecUncorr + Config.fecUncorrectable c b) 32 else x.fecUncorr })) s.took

/-- R287: the newest φ, which an update starts from. -/
def Scanout.newestPhi (x : Scanout) : Int := match x.phiNext.getLast? with | some e => e.1 | none => x.phi

/-- R287: φ at frame tick `n`, on a device that is lead or in no group. -/
def State.phiTick (s : State) (n : Nat) : State :=
  if s.get F.GROUP_EN = 1 ∧ ¬ s.group.lead then s
  else
    let phi := s.scan.newestPhi
    let q := fdiv s.fieldPeriod 4
    let x := s.sector 0
    let paced := s.cutv F.PANEL_PACED == 1
    let on := x.teValid && s.scan.mode != 0 && s.usedPorts.contains 0
    let raw := phi + sat x.tePhase (-1000) 1000
    let new := if ¬ paced then 0 else if on then sat raw (-q) q else phi
    let s := if new = phi then s
      else { s with scan := { s.scan with phiNext := s.scan.phiNext ++ [(new, n + 2 * s.scan.k)] } }
    if paced ∧ on ∧ raw ≠ new then ({ s with scan := { s.scan with paceLimit := true } } : State).tally T.SCN_PACE_LIMIT else s

/-- R511: the PLAN record of the plan in force. -/
def State.planRec (s : State) : State :=
  let p := s.harbour.cur
  if ¬ p.shown ∨ s.scan.lantern then s
  else
    let flags := b2n s.harbour.lateNow + 2 * b2n p.overPlan
    let load (g : Nat) : Nat := satN (p.load g * 1000 / max 1 (gBudget s.scan.rate)) 16
    s.wakeRec 0x0001 (le 8 p.field ++ [byte p.effMode, byte p.limit] ++ le 2 flags ++
      (List.range 5).flatMap (fun k => le 2 (p.atStep k)) ++ (List.range 16).flatMap (fun g => le 2 (load g)))

/-- R38, R508: the snapshot of the tick of field `n`. -/
def State.snapTick (s : State) (n : Nat) : State :=
  let snap := s.snapshot
  { s with obs := { s.obs with snap := snap, snapTally := s.obs.tallies, snapField := n } }

/-- R35: the tick of field `n`, all but the commands that wait for a pilot. -/
def State.takeTick (s : State) (n : Nat) : State :=
  let s := { s with scan := { s.scan with field := n, ticked := true, phi := phiAt s.scan.phi s.scan.phiNext n,
                                          phiNext := s.scan.phiNext.filter (fun e => decide (n < e.2)) },
                    cfg := { s.cfg with tickMem := s.obj 0x1D00 } }
  if ¬ s.serving then s
  else
    let s := (((s.plansTick n).workTick n).countsTick n).bbCounts
    let s := if s.frameTick n then s.groupTick.phiTick n else s
    let s := (s.planRec.snapTick n).tallyTick
    s.pilotTick n

/-- R35, R37: the field whose tick is due, if it has not been raised. -/
def State.tickDue (s : State) : Option Nat :=
  let n := s.dueTick
  if s.ticksOn ∧ ¬ (s.scan.ticked ∧ n ≤ s.scan.field) ∧ (s.scan.notBefore : Int) < s.tickNs n then some n else none

/-! ## Tide marks (R46, R173, R174) -/

/-- R46: the tide mark that has passed last: (field, k). -/
def State.tideNow (s : State) : Nat × Nat := let p := s.lineNow; (p.1, min (p.2 / 32) 64)

/-- R174: in a sector whose light-field plane is off for the rest of field `f`, its tiles not yet started are skipped. -/
def State.skipTiles (s : State) (f : Nat) : State :=
  let p := s.planOf f
  let gone (e : Nat × Nat) : Bool := e.1 == f && (match p.tiles[e.2]? with | some t => (s.sector t.sector).lfOff | none => false)
  (List.range 16).foldl (fun s g =>
    let out := (s.gang g).queue.filter gone
    if out = [] then s
    else
      let here := if s.harbour.cur.field = f then out.map (·.2) else []
      (s.modGang g (fun q => { q with queue := q.queue.filter (fun (e : Nat × Nat) => !gone e), skipped := q.skipped ++ here })).countTile f g
        { skipped := out.length }) s

/-- R173: S of a gang in the field being rendered: clocks since the tick, less the predicted cost of completed tiles and of the
oldest one in progress. -/
def State.lateness (s : State) (g : Nat) : Int :=
  let gg := s.gang g
  let cost (f i : Nat) : Nat := match (s.planOf f).tiles[i]? with | some t => t.cost | none => 0
  let n := s.harbour.cur.field
  let old := gg.running.any (fun r => r.1 != n) || gg.queue.any (fun e => e.1 != n)
  let done := if old then 0 else sumN (gg.done.map (cost n))
  let cur := match gg.running with | (f, i, _) :: _ => cost f i | [] => 0
  (3 * (s.time.cyc - s.harbour.tickCyc) : Nat) - (done : Int) - cur

/-- R173: tiles of a gang not started raised until their predicted costs have fallen by `left`; how many were raised. -/
def State.raiseTiles (s : State) (g : Nat) (left : Int) : Nat → State × Nat
  | 0 => (s, 0)
  | k + 1 =>
    let p := s.harbour.cur
    let cand := (s.gang g).queue.filterMap (fun e =>
      if e.1 = p.field then (match p.tiles[e.2]? with | some t => if t.step < 4 then some (e.2, t) else none | none => none) else none)
    if left ≤ 0 then (s, 0)
    else match pickTile (modeOf p.mode) cand with
      | none => (s, 0)
      | some (i, t) =>
        let u := s.judged p (tanBounds p.optics) p.coats { t with step := t.step + 1 }
        let r := (s.modTile p.field i (fun _ => u)).raiseTiles g (left - ((t.cost : Int) - u.cost)) k
        (r.1, r.2 + 1)

/-- R173, R511: the escalation check of a gang at tide mark `k`. -/
def State.escalate (s : State) (k g : Nat) : State :=
  let late := s.lateness g
  let margin := s.cutv F.LATE_MARGIN * clkField s.scan.rate / 1000
  let gg := s.gang g
  if (gg.running = [] ∧ gg.queue = []) ∨ late ≤ margin then s
  else
    let r : State × Nat := s.raiseTiles g late (4 * gg.queue.length + 1)
    if r.2 = 0 then r.1
    else
      let s := (r.1).tallyBy T.HM_ESCALATED r.2
      let s := { s with harbour := { s.harbour with escalation := true, escalated := s.harbour.escalated + r.2 } }
      s.wakeRec 0x0002 (le 8 s.harbour.cur.field ++ [0, byte g, byte (min k 63), 0] ++ le 4 late.toNat ++ le 2 (satN r.2 16))

/-- R257: surface contents that no line can show any more are forgotten at a tide mark. -/
def Surface.prune (f : Surface) (ns : Int) : Surface :=
  { f with older := f.older.dropWhile (fun w => match w.visible with | some v => decide (v < ns) | none => false) }

/-- R46, R173, R174, R255, R256: tide mark `k` of field `f`: the underrun test first, then skips and escalation, then bollards. -/
def State.takeTide (s : State) (f k : Nat) : State :=
  let s := { s with scan := { s.scan with tide := some (f, k) } }
  let s := if k < 64 then (s.enterField f).rowTest f k else s
  let s := s.skipTiles f
  let s : State := if s.harbour.cur.built then (List.range 16).foldl (fun (s : State) g => s.escalate k g) s else s
  let mark := s.lineNs f (32 * k)
  let before := if k = 0 then s.lineNs (f - 1) 2048 else s.lineNs f (32 * (k - 1))
  let stamp := (List.range 16).map (fun c => if s.usedPorts.contains c then (f, 32 * k) else nth s.skim.stamp c (0, 0))
  let kept : Tab Surface := s.skim.surfaces.map (fun (e : Nat × Surface) => (e.1, e.2.prune before))
  let s := { s with skim := { s.skim with stamp := stamp, surfaces := kept } }
  s.tideReleases k mark

/-- R46, R37: the tide mark that has passed last has not been taken. -/
def State.tideReady (s : State) : Bool :=
  let m := s.tideNow
  s.linesRun && !s.scan.lantern && s.scan.changeT0.isNone && s.scan.tide != some m &&
  decide ((s.scan.notBefore : Int) < s.lineNs m.1 (32 * m.2))

/-- TIDE_MARK (R46). -/
def execTideMark (t : Cyc) (s : State) : Host.Outcome State Fault Refusal :=
  let s := s.at t
  nextOf (if s.tideReady then s.takeTide s.tideNow.1 s.tideNow.2 else s)

/-! ## The commit latch (R273, R275, R177, R284, R468) -/

/-- R177: the underruns of the field that a latch ends, and the frame it ends. -/
def State.endFieldCounts (s : State) (n : Nat) : State :=
  let h := s.harbour
  let counts := (List.range 3).map (fun j => if nth h.fieldUnder j false then nth h.underruns j 0 + 1 else 0)
  let due := counts.any (fun c => decide (3 ≤ c))
  let frame := s.frameTick n
  let clean := if ¬ frame then h.cleanFrames else if h.frameClean then satN (h.cleanFrames + 1) 16 else 0
  { s with harbour := { h with underruns := if due then [0, 0, 0] else counts, fieldUnder := [false, false, false],
                               demoteDue := h.demoteDue || due, cleanFrames := clean, frameClean := h.frameClean || frame } }

/-- R275: a commit displaces another of its plane: a later target, then a later stamp, then a later reception. -/
def OvCommit.beats (a b : OvCommit) : Bool :=
  decide (b.target < a.target) || (a.target == b.target && (decide (b.stamp < a.stamp) || (a.stamp == b.stamp && decide (b.order < a.order))))

/-- R273, R275: the commits of a plane whose latch has come. -/
def State.latchPlane (s : State) (n p : Nat) : State :=
  let due := (nth s.scan.planes p {}).pending.filter (fun c => decide (c.target ≤ n))
  match minBy? OvCommit.beats due with
  | none => s
  | some w =>
    let s := s.modPlane p (fun q => { q with surface := w.surface, tag := w.tag, offX := w.offX, offY := w.offY, field := w.target,
                                             pending := q.pending.filter (fun c => decide (n < c.target)) })
    due.foldl (fun s c =>
      if c = w then s.finalEvent c.slot c.tag 0x0502 Status.OK (commitBytes 0 c.target)
      else (s.tally T.SCN_COMMIT_SUPERSEDED).finalEvent c.slot c.tag 0x0502 Status.OK (commitBytes 1 0)) s

/-- R284, R525: the change whose t0 is the latch of field `n`; a restart begins none. -/
def State.changeDue (s : State) (n : Nat) : Option Change :=
  match s.scan.change, s.scan.changeT0 with
  | some c, none => if c.field ≤ n ∧ s.start.phase ≠ .restarting then some c else none
  | _, _ => none

/-- R273, R284, R468: the commit latch of field `n`: the field before ends; a change begins; overlay commits take effect; the
zone schedule is fixed. -/
def State.takeLatch (s : State) (n : Nat) : State :=
  let s := if s.fieldShown (n - 1) ∧ ¬ s.scan.lantern then s.endFieldCounts n else s
  let s := match s.changeDue n with
    | some c => s.beginChange c false
    | none => { s with scan := { s.scan with latchField := some n } }
  (((s.latchPlane n 0).latchPlane n 1)).schedule n

/-- R273: the field whose commit latch has passed last. -/
def State.latchNow (s : State) : Nat := let p := s.lineNow; if 2048 ≤ p.2 then p.1 + 1 else p.1

/-- R273, R37: the commit latch that is due has not been taken. -/
def State.latchReady (s : State) : Bool :=
  let n := s.latchNow
  s.serving && s.ticksOn && s.scan.latchField != some n && decide ((s.scan.notBefore : Int) < s.lineNs (n - 1) 2048)

/-- COMMIT_LATCH (R273): line 2,048 of the field before. -/
def execCommitLatch (t : Cyc) (s : State) : Host.Outcome State Fault Refusal :=
  let s := s.at t
  nextOf (if s.latchReady then s.takeLatch s.latchNow else s)

end Sys2Proof.Machine
end

