-- ==== Sys2Proof/Machine/Ingest.lean ====
section
/-! DEFINITION. Ingest (R95 step 1, R101, R103, R111 to R114, R126): the chunks of the Quay, spilling, the CRC units and
the commands of the moorings. -/

namespace Sys2Proof.Machine

/-- R95: the next chunk of the oldest datagram in the Quay; a datagram whose chunks are all checked leaves it (R101). -/
def State.nextChunk (s : State) : State :=
  match s.ingest.quay with
  | [] => s
  | e :: rest =>
    let bs := e.d.payload.drop e.offset
    let gone := { s with ingest := { s.ingest with quay := rest } }
    if ¬ framed bs then gone.tally T.LSF_FRAMING
    else
      let len := num bs 4 2
      let c := bs.take len
      let p := checkedPart c
      let r := crcRun 0xFFFFFFFF p
      let s := if bs.length = len then gone
        else { s with ingest := { s.ingest with quay := { e with offset := e.offset + len } :: rest } }
      -- CU0 to CU7 take the chunks in turn (log entry 115)
      (s.setCrc (s.ingest.order % 8) r p.length).chunk (.backbone e.d.srcIp) .quay (r ^^^ 0xFFFFFFFF) c

/-- R103: the occupancy at which the Quay spills. -/
def spillAt : Nat := 6144 * 1024

/-- R103: a chunk whose lane transfer has started. -/
def Mooring.transferred (m : Mooring) (c : Chunk) : Bool :=
  m.tiles.any (fun t => t.frame == c.frame && t.frags.any (fun g => g.2.1 == c.seq) &&
    (match t.state with | .running _ => true | _ => false))

/-- R103: the checked chunks that the Quay holds and may move: (arrival order, mooring, frame, sequence, length). -/
def State.spillable (s : State) : List (Nat × Nat × Nat × Nat × Nat) :=
  let l := s.moors.flatMap (fun p => (p.2.chunks.filter (fun c => c.loc == .quay && !(p.2.transferred c))).map
    (fun c => (c.order, p.1, c.frame, c.seq, c.length)))
  sortBy (fun a b => decide (a.1 < b.1)) l

/-- R103: a chunk moved into the spill pool. -/
def State.spillOne (s : State) (n frame seq : Nat) : State :=
  s.modMoor n (fun m => { m with chunks := m.chunks.map (fun c =>
    if c.frame = frame ∧ c.seq = seq then { c with loc := .spill } else c) })

/-- R103: chunks moved into the spill pool, oldest arrival first, while the Quay is at its mark; at the first one that the
pool has no room for, spilling stops. A chunk that a lead keeps lies there already (R359). -/
def State.spill (s : State) : List (Nat × Nat × Nat × Nat × Nat) → State
  | [] => s
  | (_, n, frame, seq, len) :: r =>
    let u := s.spillOne n frame seq
    -- R57: within the ingest ceiling (log entry 124)
    if spillAt ≤ s.quayUsed ∧ u.spillUsed ≤ spillPool ∧ s.ingestRoom len then (u.ingestWrote len).spill r else s

/-- QUAY_SPILL (R103). -/
def execQuaySpill (t : Cyc) (s : State) : Host.Outcome State Fault Refusal :=
  let s := s.at t
  nextOf (s.spill s.spillable)

/-! ## Commands -/

/-- R111: MooringConfig within its ranges. -/
def mooringOk (ws : List Word) : Bool :=
  let delay := fieldOf ws 1 0 16; let int := fieldOf ws 1 16 16
  wordsOk 0x1400 ws && fieldOf ws 0 8 3 != 0 && decide (50 ≤ delay ∧ delay ≤ 4000 ∧ 250 ≤ int ∧ int ≤ 16000) &&
  decide (fieldOf ws 3 0 6 ≤ 32)

/-- MOORING_CONFIGURE (R111, R112). -/
def cardMooringConfigure : Card where
  opcode := 0x0201
  deferred := false
  lenOk := lenIs 20
  params := fun _ _ pl => decide (num pl 0 2 ≤ 1023) && zeroAt pl 2 2 && mooringOk (toWords 4 (pl.drop 4))
  judge := fun s _ pl =>
    let id := 0x1400 + num pl 0 2
    let ws := toWords 4 (pl.drop 4)
    let old := s.obj id
    if fieldOf old 0 1 1 ≠ fieldOf ws 0 1 1 ∧ (fieldOf old 0 0 1 = 1 ∨ fieldOf ws 0 0 1 = 1) then Status.BAD_STATE
    else if 53248 < reserveSum (Tab.put s.cfg.work id ws) then Status.NO_RESOURCE
    else Status.OK
  run := fun s _ pl => (s.setObj (0x1400 + num pl 0 2) (toWords 4 (pl.drop 4)), Status.OK, le 2 (num pl 0 2) ++ [0, 0])

/-- MOORING_RESET (R112). -/
def cardMooringReset : Card where
  opcode := 0x0202
  deferred := true
  lenOk := lenIs 4
  params := fun _ _ pl => decide (num pl 0 2 ≤ 1023) && zeroAt pl 2 2
  judge := fun s _ pl => if (s.moor (num pl 0 2)).state = 0 then Status.BAD_STATE else Status.OK
  run := fun s c pl => done (s.modMoor (num pl 0 2) (fun m => { m with resetCmd := m.resetCmd ++ [(c.owner, c.tag)] }))

/-- MOORING_QUERY (R114). -/
def cardMooringQuery : Card where
  opcode := 0x0203
  deferred := false
  lenOk := lenIs 4
  params := fun _ _ pl => decide (num pl 0 2 ≤ 1023) && zeroAt pl 2 2
  run := fun s _ pl => (s, Status.OK, ofWords (s.obj (0x1400 + num pl 0 2)) ++ s.statusBytes (0x2400 + num pl 0 2))

/-- INGEST_CONFIGURE (R113). -/
def cardIngestConfigure : Card where
  opcode := 0x0204
  deferred := false
  lenOk := lenIs 36
  params := fun s _ pl =>
    let ws := toWords 9 pl
    let port := fieldOf ws 0 0 16
    wordsOk 0x1100 ws && port != 0 && port != s.get F.GANGWAY_PORT && port != s.get F.GROUP_PORT &&
    (ws.drop 1).all (fun w => w == 0 || isMcast w.toNat)
  run := fun s _ pl => done (s.setObj 0x1100 (toWords 9 pl))

/-- CRC_COMPUTE (R126), on CU15. -/
def cardCrcCompute : Card where
  opcode := 0x0205
  deferred := false
  lenOk := fun pl =>
    let n := num pl 4 2
    decide (8 ≤ pl.length) && decide (1 ≤ n ∧ n ≤ 1024) && decide (pl.length = 4 * cdiv (8 + n) 4)
  params := fun _ _ pl => zeroAt pl 6 2
  run := fun s _ pl =>
    let n := num pl 4 2
    let r := crcRun (num pl 0 4) (slice pl 8 n)
    (s.setCrc 15 r n, Status.OK, le 4 r ++ le 4 (r ^^^ 0xFFFFFFFF))

end Sys2Proof.Machine
end

