-- ==== Sys2Proof/Machine/Startup.lean ====
section
/-! DEFINITION. Reset, start-up and restart (R516 to R525): reset release, the ROM's steps, the slot that boots (R444, R450,
R453), the stored settings taken (R434, R435), DRAM training (R370), the carry that ends carry format (R333, R341, R342),
the start of the links (R523), and what reset and the loss of power leave (R518, R519, R441). -/

namespace Sys2Proof.Machine

/-! ## Reset -/

/-- R516, R518, R526: the device in reset: everything but the MRAM is as at power-on. The command queue is not the device's
own, and cycles and free values count on. -/
def State.intoReset (s : State) (source cause : Nat) : State :=
  { State.reset with
    mram := s.mram, pending := s.pending, time := { cyc := s.time.cyc, freeCount := s.time.freeCount },
    start := { source := source, restartFor := cause, restartAt := s.time.cyc } }

/-- R516: the device is held in reset and may leave it: at once, but after a restart 1 ms after it entered (R525). -/
def State.releasable (s : State) : Bool :=
  match s.start.phase with
  | .unpowered => true
  | .held => s.start.source != 2 || decide (s.start.restartAt + msCyc 1 ≤ s.time.cyc)
  | _ => false

/-- R406, R409: the session of a pairing record at a start. -/
def sessionOf (r : FixedRec) : Session :=
  match r.read.1 with
  | some c =>
    if num c.2 0 1 = 1 then newSession (num c.2 1 4) (num c.2 5 4) (num c.2 9 2) (slice c.2 11 16) 0 0
    else {}
  | none => {}

/-- R405, R442: what the front end and the ROM take from the MRAM at a start: the pairings, by which a command that comes
before the end of start-up is judged (R403 steps 4 and 5, R522), and the security counter where its record is unusable. -/
def State.takeSecurity (s : State) : State :=
  { s with gw := { s.gw with sessions := s.mram.pairings.map sessionOf },
           nvm := { s.nvm with counterAt := max (s.secVersion 0) (s.secVersion 1) } }

/-- RESET_RELEASE (R516, R520): step 1 begins. RECOVER_N is read at this instant, and the MAC address comes into force. -/
def execResetRelease (t : Cyc) (recoverLow : Bool) (s : State) : Host.Outcome State Fault Refusal :=
  let s := s.at t
  if s.releasable then
    let s := s.takeSecurity
    nextOf { s with start := { s.start with phase := .rom, recoverLow := recoverLow },
                    time := { s.time with releaseCyc := s.time.cyc }, bridge := { s.bridge with mac := s.macStored } }
  else nextOf s

/-- RESET_ASSERT (R518, R516, R519): reset acts at once, after the MRAM record in progress. It never ends a latched
shutdown. -/
def execResetAssert (t : Cyc) (cause : ResetCause) (s : State) : Host.Outcome State Fault Refusal :=
  let s := s.at t
  let source := match cause with | .pin => 1 | .brownOut => 0
  match s.start.phase with
  | .unpowered | .shuttingDown | .halted => nextOf s
  | .held => nextOf (if source = 0 then { s with start := { s.start with source := 0, restartFor := 0 } } else s)
  | _ => nextOf (s.finishRecord.intoReset source 0)

/-- R441: what the loss of power leaves of a write in progress: any number of its bytes. A fixed record's copy that is not
whole is not usable (R429), and a page is released or not. -/
def State.tearStep (s : State) (x : Txn) (st : WriteStep) : State :=
  let k := Config.tornBytes s.time.freeCount
  let s := s.took
  match st with
  | .record kind gen obj part payload => s.appendRecord ((recordBytes kind gen x.txn obj part payload).take k)
  | .page => match s.pageToOpen with
    | some (n, serial) => if k = 0 then s else s.writeHeader n ((headerBytes serial).take k)
    | none => s
  | .fixed which content copyB =>
    let r := fixedRec s.mram which
    let torn : FixedRec := if copyB then { r with b := none } else { r with a := none }
    let left := if k = 0 then r else if content.length < k then r.writeCopy content copyB else torn
    { s with mram := putFixed s.mram which left }
  | .release _ => if k = 0 then s else s.runStep x st

/-- R441: the write in progress torn. -/
def State.tear (s : State) : State :=
  match s.nvm.queue with
  | x :: _ => if x.begun then (match s.recordLeft x with | st :: _ => s.tearStep x st | [] => s) else s
  | [] => s

/-- SUPPLY_REMOVED (R519, R441): the supplies are gone; a latched shutdown ends with them. -/
def execSupplyRemoved (t : Cyc) (s : State) : Host.Outcome State Fault Refusal :=
  let s := (s.at t).tear.intoReset 0 0
  nextOf { s with start := { s.start with phase := .unpowered } }

/-- RESTART_RESET (R525): step 4: the last enable is low and 20 ms have passed. -/
def execRestartReset (t : Cyc) (s : State) : Host.Outcome State Fault Refusal :=
  let s := s.at t
  if s.start.phase = .restarting ∧ s.power.rails.all (fun r => !r.enable) ∧ s.start.restartAt + msCyc 20 ≤ s.time.cyc then
    nextOf (s.finishRecord.intoReset 2 s.start.restartFor)
  else nextOf s

/-! ## The ROM (R520, R450, R453) -/

/-- R453, R522: the ROM enters recovery; commands that wait in the berths are discarded. -/
def State.enterRecovery (s : State) : State :=
  { s with start := { s.start with phase := .recovery, rstate := 0 }, gw := { s.gw with waiting := [] }, nvm := { s.nvm with bootSlot := none } }

/-- R440, R442: the boot record written by the ROM while the temperature window allows. -/
def State.romBoot (s : State) (run trial boots : Nat) : State := if s.inWindow then s.putBoot .rom run trial boots else s

/-- The slot that the ROM is to check, with BOOT_CAUSE; a start that follows ROM recovery reports it (R456). -/
def State.toCheck (s : State) (k cause : Nat) : State :=
  { s with nvm := { s.nvm with bootSlot := some k, bootCause := if s.start.restartFor = 4 then 4 else cause } }

/-- R450, R442: step 4: the slot that boots. After the restart that ends a trial boot RUN_SLOT boots, and a trial that could
not be cleared before it is cleared now. -/
def State.selectSlot (s : State) : State :=
  match s.bootRec with
  | none => s.toCheck 0 s.start.restartFor
  | some (run, trial, boots) =>
    if 2 ≤ trial then s.toCheck (run % 2) s.start.restartFor
    else if s.start.restartFor = 5 then (s.romBoot run 2 0).toCheck (run % 2) 5
    else if boots < 3 then ((s.romBoot run trial (boots + 1)).tally T.FW_TRIAL_BOOT).toCheck trial 2
    else (s.romBoot run 2 0).toCheck (run % 2) 3

/-- R520: step 4 begins once steps 1 and 3 have ended. -/
def State.beginSlot (s : State) : State :=
  if s.start.phase ≠ .bridge ∨ (s.start.recoverLow ∧ ¬ s.start.sampled) ∨ s.nvm.bootSlot.isSome then s
  else if s.start.recover then s.enterRecovery
  else s.selectSlot

/-- SRAM_TEST_DONE (R520, R524): step 1 ends and the bridge forwards; without a repair the ROM stays there. -/
def execSramTestDone (t : Cyc) (repaired fault : Bool) (s : State) : Host.Outcome State Fault Refusal :=
  let s := s.at t
  if s.start.phase ≠ .rom then nextOf s
  else
    let s := { s with start := { s.start with repaired := repaired, sramFault := fault, phase := if fault then .sramFault else .bridge } }
    nextOf s.beginSlot

/-- RECOVERY_PRESENCE_SAMPLE (R453): presence sampled 20 ms after reset release. -/
def execRecoveryPresenceSample (t : Cyc) (s : State) : Host.Outcome State Fault Refusal :=
  let s := s.at t
  let early : Bool := match s.start.phase with | .rom | .bridge => true | _ => false
  if ¬ early ∨ ¬ s.start.recoverLow ∨ s.start.sampled ∨ s.time.cyc < s.time.releaseCyc + msCyc 20 then nextOf s
  else
    let p2 := s.presence == 2
    let s := { s with start := { s.start with sampled := true, recover := p2 },
                      nvm := { s.nvm with recoveryDenied := s.nvm.recoveryDenied || !p2 } }
    nextOf s.beginSlot

/-- R458: a slot that is neither running nor on trial any more. -/
def SlotState.retire (x : SlotState) : SlotState :=
  match x with | .running | .trial | .fallback => .valid | y => y

/-- R450: the slot that boots is the trial slot of the boot record. -/
def State.isTrialBoot (s : State) (k : Nat) : Bool :=
  match s.bootRec with | some (_, trial, _) => trial == k && s.start.restartFor != 5 | none => false

/-- R444, R458: a slot whose check has passed boots. -/
def State.bootPassed (s : State) (k : Nat) : State :=
  let trial := s.isTrialBoot k
  let s := s.setSlot k (if trial then .trial else .running)
  let s := s.modSlot (1 - k) (fun x => { x with state := if trial ∧ x.state.good then .fallback else x.state.retire })
  { s with start := { s.start with phase := .pilotBoot },
           nvm := { s.nvm with runSlot := k, pilot := 0, bootSlot := none, liveTrial := false, phase := if trial then .trial else .none } }

/-- R450, R453, R442: a slot whose check has failed: the other is checked, a trial being cleared; with no slot left the ROM
enters recovery. A boot record that is not usable takes the slot that is valid. -/
def State.bootFailed (s : State) (k : Nat) : State :=
  let s := if (s.slot k).state = .empty then s else s.setSlot k .invalid
  let s := { s with nvm := { s.nvm with bootTried := k :: s.nvm.bootTried } }
  if s.nvm.bootTried.contains (1 - k) then s.enterRecovery
  else
    let s := if s.isTrialBoot k then s.romBoot (1 - k) 2 0 else s
    s.toCheck (1 - k) (if s.bootRec.isNone then s.start.restartFor else 3)

/-- SLOT_CHECK_DONE (R444): the check of the slot being booted ends, at a start or in an activation (R446). -/
def execSlotCheckDone (t : Cyc) (s : State) : Host.Outcome State Fault Refusal :=
  let s := s.at t
  if s.start.phase = .bridge ∧ s.nvm.queue.isEmpty then
    match s.nvm.bootSlot with
    | some k => nextOf (if s.checkSlot k = SlotCheck.ok then s.bootPassed k else s.bootFailed k)
    | none => nextOf s
  else if s.serving ∧ s.nvm.phase = .booting ∧ (s.slot s.otherSlot).state = .trial then nextOf s.activationCheck
  else nextOf s

/-! ## The end of start-up (R521, R522) -/

/-- R429, R442: the fixed records read at a start. -/
def fixedReads (m : Mram) : List (Option (Nat × List Byte) × Bool) := (List.range 22).map (fun k => (fixedRec m k).read)

/-- R429, R433, R434: what decoding the MRAM at a start tallies, and the serials that follow the newest in the journal. -/
def State.readMram (s : State) : State :=
  let js := journal s.mram
  let c := committedIn js
  let newest (l : List Nat) : Option Nat :=
    l.foldl (fun m t => match m with | none => some t | some q => if newer32 t q then some t else some q) none
  let s := s.tallyRecords js
  let fixed := fixedReads s.mram
  let one := (fixed.filter (·.2)).length
  let lost := (fixed.filter (fun r => r.1.isNone)).length
  let s := if one = 0 then s else s.tallyBy T.NVM_ONE_COPY one
  let s := if lost = 0 then s else s.tallyBy T.NVM_RECORD_LOST lost
  let next := match newest (js.map (·.txn)) with | some x => (x + 1) % 2 ^ 32 | none => 1
  { s with nvm := { s.nvm with recordLost := s.nvm.recordLost || lost != 0, txnDiscarded := js.any (fun r => !c.contains r.txn),
                               lastTxn := (newest c).getD 0, nextTxn := next, tokens := 8, pageOpen := false } }

/-- R435, R437, R500: the working copies at a start, from a generation, and FasciaLast with its stored RO fields. -/
def State.takeSettings (s : State) (g : Nat) : State :=
  let last := storedObj (journal s.mram) g 0x1F02
  let inProgress := fieldOf last 0 0 1 == 1
  { s with cfg := { work := s.loaded g, cut := s.loaded g, startMem := objIn (s.loaded g) 0x1D00, tickMem := objIn (s.loaded g) 0x1D00 },
           fascia := { s.fascia with inProgress := inProgress, last := ofWords (last.drop 1), restoreDue := inProgress } }

/-- R521: the lane settings that a backbone port has from step 2 on, as R315 compares them. -/
def State.romLane (s : State) (b : Nat) : Nat :=
  let w := s.recoveryRec.2
  1 + 2 * bits w (8 * b) 1 + 4 * bits w (8 * b + 1) 2

/-- R521: the stored settings of the bridge and the lanes apply at the end of step 5. -/
def State.bridgeSettings (s : State) : State :=
  let gate (b : Nat) : Gates := { cur := s.obj (0x1A10 + b) }
  let s := { s with bridge := { s.bridge with gates := [gate 0, gate 1] } }
  let lane (s : State) (b : Nat) : State := if bbKey (s.obj (0x1910 + b)) = s.romLane b then s else s.bbDown b
  (lane (lane s 0) 1).reportAll

/-- R346: the stored configurations of the TRIG outputs apply, with no edge before the present. -/
def State.trigSettings (s : State) : State :=
  let trig (k : Nat) : Trig := { cfg := s.obj (0x1B10 + k), lastEdge := some (s.ns : Int) }
  { s with time := { s.time with trigs := (List.range 4).map trig } }

/-- R415: a debounced state of the seal loop, found or changed to before the end of start-up, recorded when it differs from
the last one. -/
def State.sealReplay (s : State) (e : Nat × Bool) : State := if s.sealBase.2.2 = e.2 then s else s.sealChange e.2 e.1

/-- R415: at a start a loop found open against a stored state of closed is recorded as a break, and one found closed against
a stored state of open as closed; the changes seen since the release follow (log entry 157). -/
def State.sealStart (s : State) : State :=
  let early := s.gw.sealEarly
  let found := early.head?.any (fun e => e.1 == 0)
  ((0, found) :: early).foldl State.sealReplay { s with gw := { s.gw with sealEarly := [] } }

/-- R445: at a start the image migrates where it must. -/
def State.startMigration (s : State) : State :=
  let r := s.beginMigration s.nvm.runSlot
  if r.2 then r.1 else { r.1 with nvm := { r.1.nvm with migrationFailed := true } }

/-- R445, R450, R437: the settings that the image runs with: those of the generation it has loaded or migrates from, and the
Reset values after a migration that failed. -/
def State.startSettings (s : State) : State :=
  if s.nvm.migrationFailed then s.takeSettings 0
  else s.takeSettings ((s.sourceGen s.nvm.runSlot).getD (s.writeGen s.nvm.runSlot))

/-- R449: at a start without a trial, the generation of a former image whose records the running image does not read: its next
STORE begins with a DISCARD of it (log entry 159). -/
def State.findDiscard (s : State) : State :=
  let k := s.otherSlot
  let g := s.writeGen k
  let gone := (s.slot k).state.good && g != s.runGen && !(s.readGens s.nvm.runSlot).contains g &&
    !(candidates (journal s.mram) g).isEmpty
  if s.nvm.phase = .none ∧ gone then { s with nvm := { s.nvm with discardNext := some g } } else s

/-- R522, R450, R342: the end of start-up, all but the commands that wait. -/
def State.endStartup (s : State) : State :=
  let now := s.time.cyc
  let trial : Bool := s.nvm.phase == .trial
  let nvm := { s.nvm with interpreting := true, trialSince := now, deadline := if trial then some (now + msCyc 60000) else none }
  let s := { s with start := { s.start with phase := .running, tPilot := s.msSinceReset }, nvm := nvm,
                    time := { s.time with acquireOn := true, acquireAt := now },
                    harbour := { s.harbour with bgDone := List.replicate 6 s.ns },
                    gw := { s.gw with sessions := s.gw.sessions.map (fun (e : Session) => { e with fresh := true }) } }
  let s := s.startSettings.findDiscard
  let s : State := (s.bridgeSettings.trigSettings).sealStart.irq
  -- a trial boot whose migration fails is over (R450)
  if trial ∧ s.nvm.migrationFailed then s.trialBootEnds else s

/-! ## DRAM training (R370, R387, R390) -/

/-- R370: a step of training that fails is tried up to three times more. -/
def stepOk (fails : Nat) : Bool := decide (fails ≤ 3)

/-- R371: what the full sweeps of the four lanes find: set-points and run lengths; none where a lane has no eye. -/
def sweepSets (l : List SweepLane) : Option (List (Nat × Nat)) :=
  allSome ((List.range 4).map (fun k => eyeOf (nth l k { firstCode := 0, passes := [] })))

/-- R370: the six steps of training at one set-point, in order: the cause of the first that fails, or what its sweeps find.
`tries` is how often each step failed to answer. -/
def trainAt (density : Nat) (tries : List Nat) (sweeps : List SweepLane) : Nat × List (Nat × Nat) :=
  let ok (k : Nat) : Bool := stepOk (nth tries k 4)
  if ¬ ok 0 then (1, [])
  else if density = 0 ∨ 3 < density then (3, [])
  else if ¬ ok 1 ∨ ¬ ok 2 then (1, [])
  else match sweepSets sweeps with
    | none => (2, [])
    | some l => if ¬ ok 3 ∨ ¬ ok 4 then (2, []) else if ¬ ok 5 then (1, []) else (0, l)

/-- R370, R387: a channel after training at FSP_L and then at FSP_H: present with what was found, or absent with the cause. -/
def trained (r : ChannelTraining) : Channel :=
  let low := trainAt r.density (r.tries.take 6) r.sweepsL
  let high := trainAt r.density (r.tries.drop 6) r.sweepsH
  if low.1 = 0 ∧ high.1 = 0 then
    { state := 1, density := r.density, rfmNeed := r.rfm, setH := high.2.map (·.1), setL := low.2.map (·.1),
      eyeMin := (high.2.map (·.2)).foldl min 128, mr4 := r.mr4 % 8, fsp := 0 }
  else { cause := if low.1 = 0 then high.1 else low.1, density := if 1 ≤ r.density ∧ r.density ≤ 3 then r.density else 0 }

/-- R374, R384, R523: every present channel at FSP_L and in self-refresh. -/
def Dram.toLantern (d : Dram) : Dram :=
  { d with channels := d.channels.map (fun c => if c.present then { c with fsp := 1, state := 3 } else c), target := 1, selfRefresh := true }

/-- R390, R24: the working copy's PANEL_MODE replaced by 0x00. -/
def State.noMode (s : State) : State :=
  let f := F.PANEL_MODE
  let ws := modAt (s.obj f.obj) f.word (fun w => BitVec.ofNat 32 (w.toNat - bits w.toNat f.lo f.w * 2 ^ f.lo))
  { s with cfg := { s.cfg with work := Tab.put s.cfg.work f.obj ws, cut := Tab.put s.cfg.cut f.obj ws },
           dram := { s.dram with refused := true } }

/-- R523, R288: the stored service mode is Lantern and a window is configured. -/
def State.storedLantern (s : State) : Bool :=
  s.get F.SERVICE_MODE == 3 && s.get F.LN_ENABLE == 1 && decide (s.get F.LN_SECTOR < (modeOf (s.get F.PANEL_MODE)).sectors)

/-- R366, R390, R520, R523: what follows the training of the channels: steps 8 to 10, or none of them. -/
def State.dramTrained (s : State) (result : List ChannelTraining) : State :=
  let chans := (List.range 16).map (fun c => trained (nth result c { density := 0, rfm := false, tries := [], sweepsL := [], sweepsH := [], mr4 := 0 }))
  let found := (chans.filter Channel.present).map (·.density)
  let mixed := match found with | [] => false | d :: r => r.any (· != d)
  let buffers : Stripe := { chans := idxs 16 (fun c => (nth chans c {}).present) }
  let s := { s with dram := { s.dram with channels := chans, mismatch := mixed, density := match found with | [] => 0 | d :: r => r.foldl min d,
                                          replay := buffers, lists := buffers, maps := buffers },
                    start := { s.start with dramDone := true, tDram := s.msSinceReset } }
  let s : State := if modeAllowed (s.get F.PANEL_MODE) s.presentCount then s else s.noMode
  let s : State := if s.storedLantern then { s with dram := s.dram.toLantern } else s
  if s.get F.PANEL_MODE = 0 then { s with start := { s.start with linksBegun := true } }
  else
    let s := ({ s with start := { s.start with linkSteps := true } } : State).startSeq true
    if s.power.railSeq = 2 then s.upDone else s

/-- DRAM_TRAINING_DONE (R370, R520): step 6 ends. -/
def execDramTrainingDone (t : Cyc) (result : List ChannelTraining) (s : State) : Host.Outcome State Fault Refusal :=
  let s := s.at t
  if s.start.phase = .running ∧ ¬ s.start.dramDone then nextOf (s.dramTrained result) else nextOf s

/-! ## Carries (R333, R341, R342) -/

/-- R341: tick m after a time fault: the first frame tick whose scene cut falls after the carry. -/
def State.faultTick (s : State) (carry : Nat) : Nat :=
  cdiv (tickIn ((carry : Int) + 800000) s.scan.rate s.scan.newestPhi [] + 1) (max 1 s.scan.k) * max 1 s.scan.k

/-- The panel change re-dated to the first field after a time fault, when its t0 has not come. -/
def Change.redate (c : Change) : Change :=
  match c with | .hard m _ => .hard m 0 | .lanternEntry _ => .lanternEntry 0 | .lanternExit m _ => .lanternExit m 0

/-- R341: what scan-out forgets at the carry that ends a time fault, fields being numbered anew. -/
def Scanout.afterFault (x : Scanout) (carry m : Nat) : Scanout :=
  { x with notBefore := carry, ticked := false, latchField := none, line := none, scanned := none, tide := none, phi := x.newestPhi,
           phiNext := [], change := if x.changeT0.isSome then x.change else x.change.map Change.redate,
           firstTick := if x.changeT0.isSome then none else some m, visible := if x.changeT0.isSome then none else some (m + x.k) }

/-- R341: what the Harbourmaster forgets at that carry. -/
def Harbour.afterFault (h : Harbour) : Harbour :=
  { h with next := {}, cur := {}, prev := {}, lastCut := none, lateNow := false, counts := List.replicate 16 {},
           counts1 := List.replicate 16 {}, window := (0, []), requests := h.requests.map (fun (r : TestReq) => { r with drop := none }),
           schedule := [], captures := h.captures.map (fun e => (e.1, 0)) }

/-- R341: ticks and rasters resume after a time fault. -/
def State.resumeTicks (s : State) (carry : Nat) : State :=
  let m := s.faultTick carry
  let port (p : Port) : Port := if p.planFrom.isSome then { p with planFrom := some m, litFrom := m + s.scan.k } else p
  { s with scan := s.scan.afterFault carry m, harbour := s.harbour.afterFault, ports := s.ports.map port,
           synth := { s.synth with gangs := s.synth.gangs.map (fun (g : Gang) => g.enter false) },
           time := { s.time with dark := false } }

/-- R341, R342, R335: the clock's state after a carry that ends carry format. After a time fault it is LOCKED, or holds over
when the domain has been lost since. -/
def State.carryState (s : State) (lock : Bool) : State :=
  if s.time.state = .recovery then
    if s.tracks s.time.selected then s.setClock .locked else (s.setClock .holdover).elect
  else if lock then (if s.tracks s.time.selected then s.setClock .locked else (s.setClock .holdover).elect)
  else if s.time.state = .free then s.elect
  else s

/-- R333, R334, R341, R342, R535: a carry at which the clock takes normal format. -/
def State.carry (s : State) : State :=
  let lock := s.time.lockAtCarry
  let fault : Bool := s.time.state == .recovery
  let s := { s with time := { s.time with carryFmt := false, clk := s.time.clk % 2 ^ 96, toNormal := false, lockAtCarry := false, switchTo := if lock then none else s.time.switchTo },
                    start := { s.start with tTime := if s.start.tTime = 0 then s.msSinceReset else s.start.tTime } }
  let s := s.carryState lock
  let s := if fault then s.resumeTicks (s.sec * 1000000000) else s
  s.beginLinks

/-- CLOCK_CARRY (R333): NSEC has passed 1,000,000,000 since the change of format became pending. -/
def execClockCarry (t : Cyc) (s : State) : Host.Outcome State Fault Refusal :=
  let s := s.at t
  if s.serving ∧ s.time.carryFmt ∧ s.time.toNormal ∧ s.time.pendSec < s.sec then nextOf s.carry else nextOf s

/-! ## Rails -/

/-- RAIL_PG_RISE (R460): a power-good goes high. -/
def execRailPgRise (t : Cyc) (rail : Nat) (s : State) : Host.Outcome State Fault Refusal :=
  let s := s.at t
  if s.alive then nextOf (s.pgRise rail) else nextOf s

end Sys2Proof.Machine
end

