-- ==== Sys2Proof/Machine/Recovery.lean ====
section
/-! DEFINITION. ROM recovery (R453 to R456): images over TFTP (RFC 1350) and over the SPI pins, their verification and the
restart that follows. -/

namespace Sys2Proof.Machine

/-! ## Writing and verifying -/

/-- R453: the ROM is in recovery, and no restart is due or waits for its boot record. -/
def State.recovering (s : State) : Bool :=
  s.start.phase == .recovery && s.start.restartDue.isNone && !s.nvm.queue.any (fun x => x.purpose == .recovered)

/-- R454, R455, R440: bytes written to a slot while the temperature window allows; the slot is LOADED. -/
def State.slotWrite (s : State) (k off : Nat) (data : List Byte) : State :=
  if s.inWindow then
    s.modSlot k (fun x => { x with bytes := Memory.writeAll none x.bytes off (data.take (8388608 - off)), state := .loaded })
  else s

/-- R454, R455: the verification of a slot begins. -/
def State.beginVerify (s : State) (k size : Nat) : State :=
  { s with start := { s.start with recSlot := some (k, size), rstate := 2 } }

/-! ## TFTP (R454, RFC 1350) -/

/-- RFC 1350: an ACK packet. -/
def tftpAck (block : Nat) : List Byte := be 2 4 ++ be 2 block

/-- RFC 2347, RFC 2348: the acknowledgement of a blksize option. -/
def tftpOack (size : Nat) : List Byte := be 2 6 ++ textBytes "blksize" ++ [0] ++ textBytes (toString size) ++ [0]

/-- R454: a packet to the client of the transfer. -/
def State.tftpSend (s : State) (data : List Byte) : State :=
  match s.start.tftp with
  | some (ip, port, _, _, _) => s.romReply s.start.tftpTid ip port data
  | none => s

/-- R454: the slot that a file name names. -/
def tftpSlot (name : List Byte) : Option Nat :=
  if name = textBytes "slot-a" then some 0 else if name = textBytes "slot-b" then some 1 else none

/-- RFC 1350: a mode is "octet" in any mixture of cases. -/
def isOctet (mode : List Byte) : Bool :=
  mode.map (fun b => if 65 ≤ b.toNat ∧ b.toNat ≤ 90 then b + 32 else b) == textBytes "octet"

/-- R454: another client's transfer, or a verification, is in progress. -/
def State.tftpBusy (s : State) (ip port : Nat) : Bool :=
  s.start.recSlot.isSome || (match s.start.tftp with | some (a, b, _, _, _) => a != ip || b != port | none => false)

/-- TFTP_WRITE_REQUEST (R454): accepted for a slot in mode octet, one transfer at a time; anything else is an error. -/
def execTftpWriteRequest (t : Cyc) (srcIp srcPort : Nat) (name mode : List Byte) (blksize : Option Nat) (s : State) :
    Host.Outcome State Fault Refusal :=
  let s := s.at t
  if ¬ s.recovering then nextOf s
  else match tftpSlot name with
    | none => nextOf (s.romRefuse srcIp srcPort (tftpError 4 ""))
    | some k =>
      if ¬ isOctet mode ∨ s.tftpBusy srcIp srcPort then nextOf (s.romRefuse srcIp srcPort (tftpError 4 ""))
      else
        let size := match blksize with | some n => if 512 ≤ n ∧ n ≤ 1428 then some n else none | none => none
        let tid := (Config.tftpTid s.time.freeCount).toNat
        let st := { s.start with tftp := some (srcIp, srcPort, k, size.getD 512, 1), tftpTid := tid, tftpLast := false, rstate := 1 }
        let s := ({ s with start := st } : State).took
        nextOf (s.tftpSend (match size with | some n => tftpOack n | none => tftpAck 0))

/-- R454: the transfer is over. -/
def State.tftpEnd (s : State) : State := { s with start := { s.start with tftp := none, tftpLast := false } }

/-- R454: block `next` of the transfer into slot `k`: written, and acknowledged unless it is the last. -/
def State.tftpTake (s : State) (k size next : Nat) (data : List Byte) : State :=
  let off := (next - 1) * size
  if 8388608 < off + data.length then
    let s := (s.tftpSend (tftpError 3 "")).tftpEnd
    { s with start := { s.start with rstate := 0 } }
  else
    let s := s.slotWrite k off data
    let st := { s.start with tftp := s.start.tftp.map (fun (e : Nat × Nat × Nat × Nat × Nat) => (e.1, e.2.1, e.2.2.1, e.2.2.2.1, next + 1)) }
    let s := { s with start := st }
    if data.length < size then ({ s with start := { s.start with tftpLast := true } } : State).beginVerify k 0
    else s.tftpSend (tftpAck next)

/-- TFTP_DATA_BLOCK (R454, RFC 1350): the next block is taken, and one seen before acknowledged again. -/
def execTftpDataBlock (t : Cyc) (srcIp srcPort block : Nat) (data : List Byte) (s : State) : Host.Outcome State Fault Refusal :=
  let s := s.at t
  if ¬ s.recovering then nextOf s
  else match s.start.tftp with
    | none => nextOf (s.romRefuse srcIp srcPort (tftpError 5 ""))
    | some (ip, port, k, size, next) =>
      if ip ≠ srcIp ∨ port ≠ srcPort then nextOf (s.romRefuse srcIp srcPort (tftpError 5 ""))
      else if s.start.recSlot.isSome ∨ size < data.length then nextOf s
      else if block = next % 65536 then nextOf (s.tftpTake k size next data)
      else if 2 ≤ next ∧ block = (next - 1) % 65536 then nextOf (s.tftpSend (tftpAck (next - 1)))
      else nextOf s

/-! ## SPI (R455) -/

/-- RECOVERY_SPI_WRITE (R455). -/
def execRecoverySpiWrite (t : Cyc) (slot offset : Nat) (data : List Byte) (s : State) : Host.Outcome State Fault Refusal :=
  let s := s.at t
  if ¬ s.recovering ∨ s.start.recSlot.isSome then nextOf s
  else
    let s := { s with start := { s.start with rstate := if s.inWindow then 1 else 6 } }
    nextOf (s.slotWrite slot offset data)

/-- RECOVERY_SPI_STATUS (R455): RSTATE is returned and GW_IRQ_N goes high. -/
def execRecoverySpiStatus (t : Cyc) (s : State) : Host.Outcome State Fault Refusal :=
  let s := s.at t
  if s.start.phase = .recovery then
    nextOf { s with gw := { s.gw with irqN := true, miso := [0xFF, 0xFF, 0xFF, 0xFF] ++ le 4 s.start.rstate } }
  else nextOf s

/-- RECOVERY_SPI_FINISH (R455): the verification of a slot's first SIZE bytes begins. -/
def execRecoverySpiFinish (t : Cyc) (slot size : Nat) (s : State) : Host.Outcome State Fault Refusal :=
  let s := s.at t
  if ¬ s.recovering ∨ s.start.recSlot.isSome then nextOf s else nextOf (s.beginVerify slot size)

/-! ## The end of a verification (R454 to R456) -/

/-- R455: the RSTATE that a verification ends with. Over SPI the image is as long as FINISH says. -/
def State.verified (s : State) (k size : Nat) : Nat :=
  if ¬ s.inWindow then 6
  else match s.checkSlot k with
    | .ok => if s.start.tftpLast ∨ s.imageSize k = size then 3 else 4
    | .fault => 4
    | .rollback => 5

/-- R454: what the client hears of a verification. -/
def State.tftpVerified (s : State) (result : Nat) : State :=
  let last := match s.start.tftp with | some (_, _, _, _, n) => n - 1 | none => 0
  let msg := match result with
    | 3 => tftpAck last
    | 5 => tftpError 0 "rollback"
    | 6 => tftpError 0 "temp"
    | _ => tftpError 0 "verify"
  (s.tftpSend msg).tftpEnd

/-- R456: the slot written is to boot: on trial when the other slot is valid. The restart falls due within 100 ms, once the
boot record is written. -/
def State.recovered (s : State) (k : Nat) : State :=
  let due := s.time.cyc + Config.recoveryDelay s.time.freeCount % (msCyc 100 + 1)
  let s := ({ s with start := { s.start with restartFor := 4 }, nvm := { s.nvm with recoverDue := due } } : State).took
  if s.checkSlot (1 - k) = SlotCheck.ok then s.putBoot .recovered (1 - k) k 1 else s.putBoot .recovered k 2 0

/-- RECOVERY_VERIFY_DONE (R454, R455, R456). -/
def execRecoveryVerifyDone (t : Cyc) (s : State) : Host.Outcome State Fault Refusal :=
  let s := s.at t
  match s.start.recSlot with
  | none => nextOf s
  | some (k, size) =>
    if ¬ s.recovering then nextOf s
    else
      let r := s.verified k size
      let s := if r = 3 then s.setSlot k .valid else if r = 6 then s else s.setSlot k .invalid
      let s := { s with start := { s.start with recSlot := none, rstate := r }, gw := { s.gw with irqN := false } }
      let s := if s.start.tftpLast then s.tftpVerified r else s
      nextOf (if r = 3 then s.recovered k else s)

end Sys2Proof.Machine
end

