-- ==== Sys2Proof/Machine/Inbox.lean ====
section
/-! DEFINITION. The opcode index (R426): the card of an opcode; and when waiting commands are taken (R405): at the field tick
(R446, R449), the end of start-up (R522) and the takeover (R451). -/

namespace Sys2Proof.Machine

/-! ## The opcode index (R426) -/

/-- The cards of the Gangway, of ingest, of the codec and of the Harbourmaster. -/
def cardsA : List Card :=
  [cardPair, cardUnpair, cardSessionQuery, cardEventAck, cardDeviceInfo, cardSessionSubscribe, cardGangwayConfigure,
   cardMooringConfigure, cardMooringReset, cardMooringQuery, cardIngestConfigure, cardCrcCompute, cardCodecConfigure,
   cardCodecQuery, cardCodecDecompress, cardCodecCompress, cardServiceConfigure, cardPlanQuery]

/-- The cards of scan-out, of the optics and of Skim. -/
def cardsB : List Card :=
  [cardScanoutConfigure, cardOverlayCommit, cardGammaSet, cardLanternConfigure, cardLanternWrite, cardOpticsSet,
   cardCorrMapLoad, cardCorrMapCommit, cardFanConfigure, cardLathEvaluate, cardSurfaceCreate, cardSurfaceDestroy,
   cardSurfaceWrite, cardSkimListWrite, cardSkimSubmit]

/-- The cards of the links, the bridge, time, groups and memory. -/
def cardsC : List Card :=
  [cardLinkConfigure, cardLinkRetrain, cardLinkTest, cardBbConfigure, cardBbTest, cardLinkQuery, cardBridgeSet,
   cardTimeConfigure, cardTriggerConfigure, cardTimeStep, cardGroupConfigure, cardMemConfigure, cardMemQuery, cardMemCalibrate]

/-- The cards of stored settings, firmware, power, the fascia and observation. -/
def cardsD : List Card :=
  [cardStore, cardSettingsRevert, cardSettingsErase, cardFactoryWrite, cardNvmQuery, cardImageLoad, cardImageVerify,
   cardImageActivate, cardFirmwareQuery, cardDeviceRestart, cardPowerConfigure, cardBacklightConfigure, cardRailProfileSet,
   cardThermalQuery, cardFasciaConfigure, cardFasciaImage, cardFasciaQuery, cardObjectRead, cardTallyRead, cardWakeConfigure,
   cardWakeSubscribe, cardTallyExport, cardSelfTest, cardGangwayEcho]

/-- R426: every command of the opcode index. -/
def cards : List Card := cardsA ++ cardsB ++ cardsC ++ cardsD

/-- R403 step 6: the card of an opcode; none for one that is unassigned or a notification. -/
def cardOf (opcode : Nat) : Option Card := cards.find? (fun c => c.opcode == opcode)

/-! ## Waiting commands (R405) -/

/-- R405, R414: a command that waited interpreted, presence judged as it was at its arrival. -/
def State.serveWaiting (s : State) (w : Waiting) : State :=
  s.interpretAny (cardOf w.opcode) w.opcode w.packet { s.callerOf w.packet w.slot with key := w.key, sealOpen := w.sealOpen }

/-- R405, R407: the next command that waits is interpreted, or waits on behind a PAIR or UNPAIR whose record is being
written. -/
def State.serveNext (s : State) (w : Waiting) : State :=
  if s.nvm.held.isSome ∨ ¬ s.gw.waiting.isEmpty then { s with gw := { s.gw with waiting := s.gw.waiting ++ [w] } }
  else s.serveWaiting w

/-- R405, R522: the commands that wait are taken in order of arrival while the pilot interprets. -/
def State.drain (s : State) : State :=
  if s.serving ∧ s.nvm.interpreting then s.gw.waiting.foldl State.serveNext { s with gw := { s.gw with waiting := [] } }
  else s

/-- FIELD_TICK (R35, R38, R43, R446, R449). -/
def execFieldTick (t : Cyc) (s : State) : Host.Outcome State Fault Refusal :=
  let s := s.at t
  match s.tickDue with
  | some n => nextOf (s.takeTick n).drain
  | none => nextOf s

/-- PILOT_BOOT_DONE (R522, R520): the pilot has booted and decoded the journal. A migration that can be written is part of
step 5, which ends with its commit; the window's refusal leaves it to be retried, and step 5 ends (log entry 158). -/
def execPilotBootDone (t : Cyc) (s : State) : Host.Outcome State Fault Refusal :=
  let s := s.at t
  if s.start.phase ≠ .pilotBoot ∨ s.nvm.queue.any (fun x => x.purpose == .migration) then nextOf s
  else
    let s := s.readMram.startMigration
    if s.nvm.queue.any (·.begun) then nextOf s else nextOf s.endStartup.drain

/-- What follows the end of a transaction. -/
def State.afterTxn (s : State) (x : Txn) : State :=
  let s := (s.committed x).txnEnd x
  let s := if s.start.phase = .pilotBoot ∧ x.purpose = .migration then s.endStartup else s
  let s := match s.start.restartTag with
    | some (owner, tag) => s.restartSoon owner tag
    | none => s
  s.beginHead.drain

/-- MRAM_RECORD_DONE (R428): a record write completes. In a shutdown or a restart it is the last (R441, R525). -/
def execMramRecordDone (t : Cyc) (s : State) : Host.Outcome State Fault Refusal :=
  let s := s.at t
  let r := s.recordDone
  match s.start.phase, r.2 with
  | .running, none | .pilotBoot, none | .bridge, none | .recovery, none => nextOf r.1.beginHead
  | .running, some x | .pilotBoot, some x | .bridge, some x | .recovery, some x => nextOf (r.1.afterTxn x)
  | _, _ => nextOf r.1

/-- PILOT_TAKEOVER (R451): the other pilot interprets commands, within 1,000 ms of the expiry. -/
def execPilotTakeover (t : Cyc) (s : State) : Host.Outcome State Fault Refusal :=
  let s := s.at t
  if s.serving ∧ s.nvm.takeover then nextOf s.takeoverDone.drain else nextOf s

end Sys2Proof.Machine
end

