-- ==== Sys2Proof/Machine/Hosts.lean ====
section
/-! DEFINITION. What a host or another device sends: command packets (R395 to R426), scene datagrams and chunks (R95, R100),
group messages (R350). Where one falls on the first cycle of a cut, a tick or a latch, the device takes that first (R9). -/

namespace Sys2Proof.Machine

/-! ## The device first (R9) -/

/-- R9, R35, R40, R537: a scene cut, a tick or a commit latch whose instant has come, so that the present cycle is the first
at which NS has reached it or a later one, and that has not been taken is taken before anything a host does. -/
def State.deviceFirst (s : State) : State :=
  let s : State := if s.cutReady then s.takeCut s.dueCut else s
  let s : State := match s.tickDue with
    | some n => (s.takeTick n).drain
    | none => s
  if s.latchReady then s.takeLatch s.latchNow else s

/-- R8, R9: the state in which something that a host sends acts at cycle `t`. -/
def State.hostAt (s : State) (t : Cyc) : State := (s.at t).deviceFirst

/-! ## Command packets (R403) -/

/-- The state in which a packet is judged: time has come to the packet's last byte, what the device does at that instant is
done (R9), and an SPI WRITE has been clocked. -/
def State.heard (s0 : State) (p : Packet) : State :=
  let s := s0.hostAt p.t
  if ¬ p.spi then s else if s.spiAnswers then s.misoWrite p.count else s.misoOff

/-- A command packet of an opcode arrives (R403): `card` is what the opcode index gives for it. -/
def State.arrive (s0 : State) (card : Option Card) (opcode : Nat) (p : Packet) : State :=
  let s := s0.heard p
  match s.front p with
  | .silent => s
  | .port => s.tally T.ING_PORT
  | .quay => s.quayDrop .command []
  | .group => if s.get F.GROUP_EN = 1 then s.tally T.GRP_BAD else s
  | .scene =>
    match p.via with
    | .udp a b c d opts frag bad =>
      let pl := commandBytes opcode p ++ le 4 p.crc.toNat
      s.sceneAdmit { srcIp := a, srcPort := b, dstIp := c, dstPort := d, ipLen := 28 + p.count, ipOptions := opts,
                     fragment := frag, badChecksum := bad, payload := pl }
    | .spi _ => s
  | .framing => s.tally T.GW_FRAMING
  | .pass =>
    if ¬ headerOk p then s.tally T.GW_FRAMING
    else if p.crc.toNat ≠ commandCrc opcode p then s.tally T.GW_CRC_FAIL
    else s.take card opcode p

/-- A command row: its packet arrives with the row's card. -/
def runCommand (k : Card) (p : Packet) (s : State) : Host.Outcome State Fault Refusal :=
  nextOf (s.arrive (some k) k.opcode p)

/-- BAD_OPCODE (R403 step 6, R426): an opcode that the index does not list as a command. -/
def execUnassignedOpcode (opcode : BitVec 16) (p : Packet) (s : State) : Host.Outcome State Fault Refusal :=
  nextOf (s.arrive none opcode.toNat p)

/-- R400, R401, R402: a READ of `n` bytes after the first. The head packet is removed when every byte of it is clocked
out; removing an event acknowledges it (R417). -/
def execSpiRead (t : Cyc) (n : Nat) (s : State) : Host.Outcome State Fault Refusal :=
  let s := s.hostAt t
  if ¬ s.spiAnswers then nextOf s.misoOff else
  let head := (s.outbound.head?).getD []
  let stream := [0xFF, 0xFF, 0xFF, 0xFF] ++ le 2 head.length ++ head
  let out := (stream ++ List.replicate n 0xFF).take (n + 1)
  let s := { s with gw := { s.gw with miso := out } }
  if head ≠ [] ∧ stream.length ≤ n + 1 then
    match s.gw.spiReplies with
    | _ :: r => nextOf (State.irq { s with gw := { s.gw with spiReplies := r } })
    | [] => nextOf (s.modSess 15 (fun e => { e with unacked := e.unacked.drop 1 })).irq
  else nextOf s

/-- R400: a STATUS transaction of `n` bytes after the first. -/
def execSpiStatus (t : Cyc) (n : Nat) (s : State) : Host.Outcome State Fault Refusal :=
  let s := s.hostAt t
  if ¬ s.spiAnswers then nextOf s.misoOff else
  let head := (s.outbound.head?).getD []
  let word := le 2 head.length ++ [byte (min 255 s.outbound.length), 0]
  let out := ([0xFF, 0xFF, 0xFF, 0xFF] ++ word ++ List.replicate n 0xFF).take (n + 1)
  nextOf { s with gw := { s.gw with miso := out } }

/-- R395, R396, R399: the packet that a command datagram carries; bytes that are not there read as 0, and its LENGTH then
differs from what was carried. -/
def Datagram.packet (d : Datagram) (t : Cyc) : Packet :=
  let b := d.payload
  let len := num b 6 2
  { t := t, via := .udp d.srcIp d.srcPort d.dstIp d.dstPort d.ipOptions d.fragment d.badChecksum, count := b.length,
    magic := byte (num b 0 1), version := byte (num b 1 1), tag := byte (num b 4 1), seq := byte (num b 5 1),
    length := BitVec.ofNat 16 len, token := BitVec.ofNat 64 (num b 8 8), payload := (b.drop 16).take (len - 20),
    crc := BitVec.ofNat 32 (num b (len - 4) 4) }

/-- SCENE_DATAGRAM (R100, R104, R329): a datagram that the bridge has delivered to BBI classified by port and address; with
DEV_IP 0 none is delivered. -/
def execSceneDatagram (t : Cyc) (d : Datagram) (s : State) : Host.Outcome State Fault Refusal :=
  let s := s.hostAt t
  if ¬ s.serving ∨ s.get F.DEV_IP = 0 then nextOf s
  else match s.traffic d.dstIp d.dstPort with
    | .scene => nextOf (s.sceneAdmit d)
    | .command => nextOf (s.arrive (cardOf (num d.payload 2 2)) (num d.payload 2 2) (Datagram.packet d t))
    | .group => nextOf (s.groupIn d)
    | .other => nextOf (s.tally T.ING_PORT)

/-- GANGWAY_RETRANSMISSION (R410): a command that matches a kept one is answered from it; any other is judged as it comes. -/
def execGangwayRetransmission (opcode : BitVec 16) (p : Packet) (s : State) : Host.Outcome State Fault Refusal :=
  nextOf (s.arrive (cardOf opcode.toNat) opcode.toNat p)

/-! ## Chunks and group messages -/

/-- SCENE_CHUNK (R95). -/
def execSceneChunk (t : Cyc) (s : State) : Host.Outcome State Fault Refusal :=
  let s := s.hostAt t
  if s.serving then nextOf s.nextChunk.extraHeartbeat else nextOf s

/-- A group message received: time passes, and a datagram that is group traffic is handled. -/
def State.groupArrives (s : State) (t : Cyc) (d : Datagram) : State :=
  let s := s.hostAt t
  if s.serving ∧ s.get F.DEV_IP ≠ 0 ∧ s.traffic d.dstIp d.dstPort = .group then s.groupIn d else s

/-- HEARTBEAT_RECEIVED (R355). -/
def execHeartbeatReceived (t : Cyc) (d : Datagram) (s : State) : Host.Outcome State Fault Refusal := nextOf (s.groupArrives t d)
/-- GROUP_COMMIT_RECEIVED (R357). -/
def execGroupCommitReceived (t : Cyc) (d : Datagram) (s : State) : Host.Outcome State Fault Refusal := nextOf (s.groupArrives t d)
/-- REPAIR_REQ_RECEIVED (R359). -/
def execRepairReqReceived (t : Cyc) (d : Datagram) (s : State) : Host.Outcome State Fault Refusal := nextOf (s.groupArrives t d)
/-- REPAIR_RECEIVED (R359). -/
def execRepairReceived (t : Cyc) (d : Datagram) (s : State) : Host.Outcome State Fault Refusal := nextOf (s.groupArrives t d)

/-! ## The Gangway (R403 to R426) -/

/-- PAIR creates a session (R407). -/
def execPair (p : Packet) (s : State) : Host.Outcome State Fault Refusal := runCommand cardPair p s
/-- UNPAIR removes a pairing (R408). -/
def execUnpair (p : Packet) (s : State) : Host.Outcome State Fault Refusal := runCommand cardUnpair p s
/-- SESSION_QUERY reads a session's status (R424). -/
def execSessionQuery (p : Packet) (s : State) : Host.Outcome State Fault Refusal := runCommand cardSessionQuery p s
/-- EVENT_ACK acknowledges events (R417). -/
def execEventAck (p : Packet) (s : State) : Host.Outcome State Fault Refusal := runCommand cardEventAck p s
/-- DEVICE_INFO (R426). -/
def execDeviceInfo (p : Packet) (s : State) : Host.Outcome State Fault Refusal := runCommand cardDeviceInfo p s
/-- SESSION_SUBSCRIBE replaces the session's NOTIFY_MASK (R419). -/
def execSessionSubscribe (p : Packet) (s : State) : Host.Outcome State Fault Refusal := runCommand cardSessionSubscribe p s
/-- GANGWAY_CONFIGURE writes GangwayConfig (R422). -/
def execGangwayConfigure (p : Packet) (s : State) : Host.Outcome State Fault Refusal := runCommand cardGangwayConfigure p s
/-- GANGWAY_ECHO (R426). -/
def execGangwayEcho (p : Packet) (s : State) : Host.Outcome State Fault Refusal := runCommand cardGangwayEcho p s

/-! ## Moorings and ingest -/

/-- MOORING_CONFIGURE writes a MooringConfig (R111). -/
def execMooringConfigure (p : Packet) (s : State) : Host.Outcome State Fault Refusal := runCommand cardMooringConfigure p s
/-- MOORING_RESET abandons a mooring's frames and closes its scene (R112). -/
def execMooringReset (p : Packet) (s : State) : Host.Outcome State Fault Refusal := runCommand cardMooringReset p s
/-- MOORING_QUERY reads a mooring's configuration and status (R114). -/
def execMooringQuery (p : Packet) (s : State) : Host.Outcome State Fault Refusal := runCommand cardMooringQuery p s
/-- INGEST_CONFIGURE writes IngestConfig (R113). -/
def execIngestConfigure (p : Packet) (s : State) : Host.Outcome State Fault Refusal := runCommand cardIngestConfigure p s
/-- CRC_COMPUTE runs a CRC unit (R126). -/
def execCrcCompute (p : Packet) (s : State) : Host.Outcome State Fault Refusal := runCommand cardCrcCompute p s

/-! ## The codec -/

/-- CODEC_CONFIGURE writes CodecConfig (R150). -/
def execCodecConfigure (p : Packet) (s : State) : Host.Outcome State Fault Refusal := runCommand cardCodecConfigure p s
/-- CODEC_QUERY reads CodecConfig and CodecStatus (R151). -/
def execCodecQuery (p : Packet) (s : State) : Host.Outcome State Fault Refusal := runCommand cardCodecQuery p s
/-- CODEC_DECOMPRESS runs a trial decompression (R135). -/
def execCodecDecompress (p : Packet) (s : State) : Host.Outcome State Fault Refusal := runCommand cardCodecDecompress p s
/-- CODEC_COMPRESS runs a trial compression (R145). -/
def execCodecCompress (p : Packet) (s : State) : Host.Outcome State Fault Refusal := runCommand cardCodecCompress p s

/-! ## The Harbourmaster, scan-out and Lantern -/

/-- SERVICE_CONFIGURE writes ServiceConfig (R188). -/
def execServiceConfigure (p : Packet) (s : State) : Host.Outcome State Fault Refusal := runCommand cardServiceConfigure p s
/-- PLAN_QUERY reads ServiceConfig, PlanStatus and BackgroundStatus (R189, R190). -/
def execPlanQuery (p : Packet) (s : State) : Host.Outcome State Fault Refusal := runCommand cardPlanQuery p s
/-- SCANOUT_CONFIGURE writes ScanoutConfig (R282, R293). -/
def execScanoutConfigure (p : Packet) (s : State) : Host.Outcome State Fault Refusal := runCommand cardScanoutConfigure p s
/-- OVERLAY_COMMIT commits a surface to a plane (R273). -/
def execOverlayCommit (p : Packet) (s : State) : Host.Outcome State Fault Refusal := runCommand cardOverlayCommit p s
/-- GAMMA_SET writes entries of a gamma table (R294). -/
def execGammaSet (p : Packet) (s : State) : Host.Outcome State Fault Refusal := runCommand cardGammaSet p s
/-- LANTERN_CONFIGURE writes LanternConfig (R288). -/
def execLanternConfigure (p : Packet) (s : State) : Host.Outcome State Fault Refusal := runCommand cardLanternConfigure p s
/-- LANTERN_WRITE writes image bytes (R288). -/
def execLanternWrite (p : Packet) (s : State) : Host.Outcome State Fault Refusal := runCommand cardLanternWrite p s

/-! ## Optics -/

/-- OPTICS_SET writes an object of the panel profile (R210, R211). -/
def execOpticsSet (p : Packet) (s : State) : Host.Outcome State Fault Refusal := runCommand cardOpticsSet p s
/-- CORR_MAP_LOAD writes staging bytes (R201). -/
def execCorrMapLoad (p : Packet) (s : State) : Host.Outcome State Fault Refusal := runCommand cardCorrMapLoad p s
/-- CORR_MAP_COMMIT starts the check of the staging buffer (R202). -/
def execCorrMapCommit (p : Packet) (s : State) : Host.Outcome State Fault Refusal := runCommand cardCorrMapCommit p s
/-- FAN_CONFIGURE writes FanConfig (R205). -/
def execFanConfigure (p : Packet) (s : State) : Host.Outcome State Fault Refusal := runCommand cardFanConfigure p s
/-- LATH_EVALUATE computes the lath map for one subpixel (R194). -/
def execLathEvaluate (p : Packet) (s : State) : Host.Outcome State Fault Refusal := runCommand cardLathEvaluate p s

/-! ## Skim -/

/-- SURFACE_CREATE makes a surface and queues its clearing (R245). -/
def execSurfaceCreate (p : Packet) (s : State) : Host.Outcome State Fault Refusal := runCommand cardSurfaceCreate p s
/-- SURFACE_DESTROY removes a surface (R246). -/
def execSurfaceDestroy (p : Packet) (s : State) : Host.Outcome State Fault Refusal := runCommand cardSurfaceDestroy p s
/-- SURFACE_WRITE writes bytes of a surface (R246). -/
def execSurfaceWrite (p : Packet) (s : State) : Host.Outcome State Fault Refusal := runCommand cardSurfaceWrite p s
/-- SKIM_LIST_WRITE writes entries of a list (R247). -/
def execSkimListWrite (p : Packet) (s : State) : Host.Outcome State Fault Refusal := runCommand cardSkimListWrite p s
/-- SKIM_SUBMIT checks and queues a list (R250, R258). -/
def execSkimSubmit (p : Packet) (s : State) : Host.Outcome State Fault Refusal := runCommand cardSkimSubmit p s

/-! ## Links -/

/-- LINK_CONFIGURE writes PanelLinkConfig of a port (R320). -/
def execLinkConfigure (p : Packet) (s : State) : Host.Outcome State Fault Refusal := runCommand cardLinkConfigure p s
/-- LINK_RETRAIN trains a port (R302). -/
def execLinkRetrain (p : Packet) (s : State) : Host.Outcome State Fault Refusal := runCommand cardLinkRetrain p s
/-- LINK_TEST starts or queues a test (R310 to R313). -/
def execLinkTest (p : Packet) (s : State) : Host.Outcome State Fault Refusal := runCommand cardLinkTest p s
/-- BB_CONFIGURE writes BackboneLaneConfig of a port (R322). -/
def execBbConfigure (p : Packet) (s : State) : Host.Outcome State Fault Refusal := runCommand cardBbConfigure p s
/-- BB_TEST starts a test of a backbone lane (R319). -/
def execBbTest (p : Packet) (s : State) : Host.Outcome State Fault Refusal := runCommand cardBbTest p s
/-- LINK_QUERY reads a port's configuration and status (R321, R322). -/
def execLinkQuery (p : Packet) (s : State) : Host.Outcome State Fault Refusal := runCommand cardLinkQuery p s

/-! ## The bridge -/

/-- BRIDGE_SET writes an object of the bridge (R360). -/
def execBridgeSet (p : Packet) (s : State) : Host.Outcome State Fault Refusal := runCommand cardBridgeSet p s

/-! ## Time -/

/-- TIME_CONFIGURE writes TimeConfig (R362). -/
def execTimeConfigure (p : Packet) (s : State) : Host.Outcome State Fault Refusal := runCommand cardTimeConfigure p s
/-- TRIGGER_CONFIGURE writes a TriggerConfig (R346). -/
def execTriggerConfigure (p : Packet) (s : State) : Host.Outcome State Fault Refusal := runCommand cardTriggerConfigure p s
/-- TIME_STEP sets the clock and puts it in TEST (R335). -/
def execTimeStep (p : Packet) (s : State) : Host.Outcome State Fault Refusal := runCommand cardTimeStep p s

/-! ## Groups -/

/-- GROUP_CONFIGURE writes GroupConfig (R363). -/
def execGroupConfigure (p : Packet) (s : State) : Host.Outcome State Fault Refusal := runCommand cardGroupConfigure p s

/-! ## Memory -/

/-- MEM_CONFIGURE writes MemoryConfig (R392). -/
def execMemConfigure (p : Packet) (s : State) : Host.Outcome State Fault Refusal := runCommand cardMemConfigure p s
/-- MEM_QUERY reads MemoryConfig, MemoryStatus and a ChannelStatus (R393, R394). -/
def execMemQuery (p : Packet) (s : State) : Host.Outcome State Fault Refusal := runCommand cardMemQuery p s
/-- MEM_CALIBRATE queues a calibration (R391). -/
def execMemCalibrate (p : Packet) (s : State) : Host.Outcome State Fault Refusal := runCommand cardMemCalibrate p s

/-! ## Stored settings -/

/-- STORE writes the dirty parts (R438). -/
def execStore (p : Packet) (s : State) : Host.Outcome State Fault Refusal := runCommand cardStore p s
/-- SETTINGS_ERASE discards the running generation (R433). -/
def execSettingsErase (p : Packet) (s : State) : Host.Outcome State Fault Refusal := runCommand cardSettingsErase p s
/-- FACTORY_WRITE (R427). -/
def execFactoryWrite (p : Packet) (s : State) : Host.Outcome State Fault Refusal := runCommand cardFactoryWrite p s
/-- NVM_QUERY (R457). -/
def execNvmQuery (p : Packet) (s : State) : Host.Outcome State Fault Refusal := runCommand cardNvmQuery p s

/-! ## Firmware -/

/-- SETTINGS_REVERT returns working copies to their stored values (R437). -/
def execSettingsRevert (p : Packet) (s : State) : Host.Outcome State Fault Refusal := runCommand cardSettingsRevert p s
/-- IMAGE_LOAD writes bytes of an image (R427). -/
def execImageLoad (p : Packet) (s : State) : Host.Outcome State Fault Refusal := runCommand cardImageLoad p s
/-- IMAGE_VERIFY starts a check (R444). -/
def execImageVerify (p : Packet) (s : State) : Host.Outcome State Fault Refusal := runCommand cardImageVerify p s
/-- IMAGE_ACTIVATE with ACTION 0 (R446). -/
def execImageActivate (p : Packet) (s : State) : Host.Outcome State Fault Refusal := runCommand cardImageActivate p s
/-- IMAGE_ACTIVATE with ACTION 1 (R448). -/
def execImageActivateConfirm (p : Packet) (s : State) : Host.Outcome State Fault Refusal := runCommand cardImageActivate p s
/-- IMAGE_ACTIVATE with ACTION 2 (R449). -/
def execImageActivateAbandon (p : Packet) (s : State) : Host.Outcome State Fault Refusal := runCommand cardImageActivate p s
/-- FIRMWARE_QUERY (R458). -/
def execFirmwareQuery (p : Packet) (s : State) : Host.Outcome State Fault Refusal := runCommand cardFirmwareQuery p s
/-- DEVICE_RESTART (R525). -/
def execDeviceRestart (p : Packet) (s : State) : Host.Outcome State Fault Refusal := runCommand cardDeviceRestart p s
/-- SELF_TEST with TEST 0 (R536). -/
def execSelfTestMramScan (p : Packet) (s : State) : Host.Outcome State Fault Refusal := runCommand cardSelfTest p s
/-- SELF_TEST with TEST 1 (R536). -/
def execSelfTestScanoutPath (p : Packet) (s : State) : Host.Outcome State Fault Refusal := runCommand cardSelfTest p s

/-! ## Power and backlight -/

/-- POWER_CONFIGURE writes PowerConfig, ThermalConfig or NtcTable (R489, R490). -/
def execPowerConfigure (p : Packet) (s : State) : Host.Outcome State Fault Refusal := runCommand cardPowerConfigure p s
/-- BACKLIGHT_CONFIGURE writes BacklightConfig (R488). -/
def execBacklightConfigure (p : Packet) (s : State) : Host.Outcome State Fault Refusal := runCommand cardBacklightConfigure p s
/-- RAIL_PROFILE_SET writes RailProfile (R487). -/
def execRailProfileSet (p : Packet) (s : State) : Host.Outcome State Fault Refusal := runCommand cardRailProfileSet p s
/-- THERMAL_QUERY (R491). -/
def execThermalQuery (p : Packet) (s : State) : Host.Outcome State Fault Refusal := runCommand cardThermalQuery p s

/-! ## The fascia -/

/-- FASCIA_CONFIGURE (R504, R505). -/
def execFasciaConfigure (p : Packet) (s : State) : Host.Outcome State Fault Refusal := runCommand cardFasciaConfigure p s
/-- FASCIA_IMAGE (R502). -/
def execFasciaImage (p : Packet) (s : State) : Host.Outcome State Fault Refusal := runCommand cardFasciaImage p s
/-- FASCIA_QUERY (R506). -/
def execFasciaQuery (p : Packet) (s : State) : Host.Outcome State Fault Refusal := runCommand cardFasciaQuery p s

/-! ## Observation -/

/-- OBJECT_READ (R426). -/
def execObjectRead (p : Packet) (s : State) : Host.Outcome State Fault Refusal := runCommand cardObjectRead p s
/-- TALLY_READ (R508). -/
def execTallyRead (p : Packet) (s : State) : Host.Outcome State Fault Refusal := runCommand cardTallyRead p s
/-- WAKE_CONFIGURE (R515). -/
def execWakeConfigure (p : Packet) (s : State) : Host.Outcome State Fault Refusal := runCommand cardWakeConfigure p s
/-- WAKE_SUBSCRIBE (R514). -/
def execWakeSubscribe (p : Packet) (s : State) : Host.Outcome State Fault Refusal := runCommand cardWakeSubscribe p s
/-- TALLY_EXPORT (R514). -/
def execTallyExport (p : Packet) (s : State) : Host.Outcome State Fault Refusal := runCommand cardTallyExport p s

end Sys2Proof.Machine
end

