-- ==== Sys2Proof/Machine/Dispatch.lean ====
section
/-! DEFINITION. One arm per command of the block: what each does to everything but the queue. -/

namespace Sys2Proof.Machine

/-- The effect of a command (every row of spec/opcode_table.json). -/
def exec (i : Instr) (s : State) : Host.Outcome State Fault Refusal :=
  match i with
  | .pair p => Sys2Proof.Machine.execPair p s
  | .unpair p => Sys2Proof.Machine.execUnpair p s
  | .sessionQuery p => Sys2Proof.Machine.execSessionQuery p s
  | .eventAck p => Sys2Proof.Machine.execEventAck p s
  | .deviceInfo p => Sys2Proof.Machine.execDeviceInfo p s
  | .sessionSubscribe p => Sys2Proof.Machine.execSessionSubscribe p s
  | .gangwayConfigure p => Sys2Proof.Machine.execGangwayConfigure p s
  | .mooringConfigure p => Sys2Proof.Machine.execMooringConfigure p s
  | .mooringReset p => Sys2Proof.Machine.execMooringReset p s
  | .mooringQuery p => Sys2Proof.Machine.execMooringQuery p s
  | .ingestConfigure p => Sys2Proof.Machine.execIngestConfigure p s
  | .crcCompute p => Sys2Proof.Machine.execCrcCompute p s
  | .codecConfigure p => Sys2Proof.Machine.execCodecConfigure p s
  | .codecQuery p => Sys2Proof.Machine.execCodecQuery p s
  | .codecDecompress p => Sys2Proof.Machine.execCodecDecompress p s
  | .codecCompress p => Sys2Proof.Machine.execCodecCompress p s
  | .serviceConfigure p => Sys2Proof.Machine.execServiceConfigure p s
  | .planQuery p => Sys2Proof.Machine.execPlanQuery p s
  | .scanoutConfigure p => Sys2Proof.Machine.execScanoutConfigure p s
  | .overlayCommit p => Sys2Proof.Machine.execOverlayCommit p s
  | .gammaSet p => Sys2Proof.Machine.execGammaSet p s
  | .lanternConfigure p => Sys2Proof.Machine.execLanternConfigure p s
  | .lanternWrite p => Sys2Proof.Machine.execLanternWrite p s
  | .opticsSet p => Sys2Proof.Machine.execOpticsSet p s
  | .corrMapLoad p => Sys2Proof.Machine.execCorrMapLoad p s
  | .corrMapCommit p => Sys2Proof.Machine.execCorrMapCommit p s
  | .fanConfigure p => Sys2Proof.Machine.execFanConfigure p s
  | .lathEvaluate p => Sys2Proof.Machine.execLathEvaluate p s
  | .surfaceCreate p => Sys2Proof.Machine.execSurfaceCreate p s
  | .surfaceDestroy p => Sys2Proof.Machine.execSurfaceDestroy p s
  | .surfaceWrite p => Sys2Proof.Machine.execSurfaceWrite p s
  | .skimListWrite p => Sys2Proof.Machine.execSkimListWrite p s
  | .skimSubmit p => Sys2Proof.Machine.execSkimSubmit p s
  | .linkConfigure p => Sys2Proof.Machine.execLinkConfigure p s
  | .linkRetrain p => Sys2Proof.Machine.execLinkRetrain p s
  | .linkTest p => Sys2Proof.Machine.execLinkTest p s
  | .bbConfigure p => Sys2Proof.Machine.execBbConfigure p s
  | .bbTest p => Sys2Proof.Machine.execBbTest p s
  | .linkQuery p => Sys2Proof.Machine.execLinkQuery p s
  | .bridgeSet p => Sys2Proof.Machine.execBridgeSet p s
  | .timeConfigure p => Sys2Proof.Machine.execTimeConfigure p s
  | .triggerConfigure p => Sys2Proof.Machine.execTriggerConfigure p s
  | .timeStep p => Sys2Proof.Machine.execTimeStep p s
  | .groupConfigure p => Sys2Proof.Machine.execGroupConfigure p s
  | .memConfigure p => Sys2Proof.Machine.execMemConfigure p s
  | .memQuery p => Sys2Proof.Machine.execMemQuery p s
  | .memCalibrate p => Sys2Proof.Machine.execMemCalibrate p s
  | .store p => Sys2Proof.Machine.execStore p s
  | .settingsRevert p => Sys2Proof.Machine.execSettingsRevert p s
  | .settingsErase p => Sys2Proof.Machine.execSettingsErase p s
  | .factoryWrite p => Sys2Proof.Machine.execFactoryWrite p s
  | .nvmQuery p => Sys2Proof.Machine.execNvmQuery p s
  | .imageLoad p => Sys2Proof.Machine.execImageLoad p s
  | .imageVerify p => Sys2Proof.Machine.execImageVerify p s
  | .imageActivate p => Sys2Proof.Machine.execImageActivate p s
  | .imageActivateConfirm p => Sys2Proof.Machine.execImageActivateConfirm p s
  | .imageActivateAbandon p => Sys2Proof.Machine.execImageActivateAbandon p s
  | .firmwareQuery p => Sys2Proof.Machine.execFirmwareQuery p s
  | .deviceRestart p => Sys2Proof.Machine.execDeviceRestart p s
  | .powerConfigure p => Sys2Proof.Machine.execPowerConfigure p s
  | .backlightConfigure p => Sys2Proof.Machine.execBacklightConfigure p s
  | .railProfileSet p => Sys2Proof.Machine.execRailProfileSet p s
  | .thermalQuery p => Sys2Proof.Machine.execThermalQuery p s
  | .fasciaConfigure p => Sys2Proof.Machine.execFasciaConfigure p s
  | .fasciaImage p => Sys2Proof.Machine.execFasciaImage p s
  | .fasciaQuery p => Sys2Proof.Machine.execFasciaQuery p s
  | .objectRead p => Sys2Proof.Machine.execObjectRead p s
  | .tallyRead p => Sys2Proof.Machine.execTallyRead p s
  | .wakeConfigure p => Sys2Proof.Machine.execWakeConfigure p s
  | .wakeSubscribe p => Sys2Proof.Machine.execWakeSubscribe p s
  | .tallyExport p => Sys2Proof.Machine.execTallyExport p s
  | .selfTestMramScan p => Sys2Proof.Machine.execSelfTestMramScan p s
  | .selfTestScanoutPath p => Sys2Proof.Machine.execSelfTestScanoutPath p s
  | .gangwayEcho p => Sys2Proof.Machine.execGangwayEcho p s
  | .gangwayRetransmission opcode p => Sys2Proof.Machine.execGangwayRetransmission opcode p s
  | .spiRead t bytes => Sys2Proof.Machine.execSpiRead t bytes s
  | .spiStatus t bytes => Sys2Proof.Machine.execSpiStatus t bytes s
  | .eventResend t slot => Sys2Proof.Machine.execEventResend t slot s
  | .keyDebounced t turned => Sys2Proof.Machine.execKeyDebounced t turned s
  | .sealDebounced t opened => Sys2Proof.Machine.execSealDebounced t opened s
  | .sceneDatagram t d => Sys2Proof.Machine.execSceneDatagram t d s
  | .sceneChunk t => Sys2Proof.Machine.execSceneChunk t s
  | .quaySpill t => Sys2Proof.Machine.execQuaySpill t s
  | .nackDue t mooring => Sys2Proof.Machine.execNackDue t mooring s
  | .decompressionJobStart t lane => Sys2Proof.Machine.execDecompressionJobStart t lane s
  | .decompressionJobEnd t lane => Sys2Proof.Machine.execDecompressionJobEnd t lane s
  | .decompressionResume t mooring => Sys2Proof.Machine.execDecompressionResume t mooring s
  | .libraryPieceRelease t mooring => Sys2Proof.Machine.execLibraryPieceRelease t mooring s
  | .librarySegmentRead t mooring frame segment size => Sys2Proof.Machine.execLibrarySegmentRead t mooring frame segment size s
  | .compressionBlockDone t lane => Sys2Proof.Machine.execCompressionBlockDone t lane s
  | .compressionPreempt t lane => Sys2Proof.Machine.execCompressionPreempt t lane s
  | .sceneCut t => Sys2Proof.Machine.execSceneCut t s
  | .planComplete t => Sys2Proof.Machine.execPlanComplete t s
  | .fieldTick t => Sys2Proof.Machine.execFieldTick t s
  | .imageReady t => Sys2Proof.Machine.execImageReady t s
  | .healthDeadline t => Sys2Proof.Machine.execHealthDeadline t s
  | .healthConfirm t => Sys2Proof.Machine.execHealthConfirm t s
  | .pilotWatchdogExpiry t => Sys2Proof.Machine.execPilotWatchdogExpiry t s
  | .tideMark t => Sys2Proof.Machine.execTideMark t s
  | .commitLatch t => Sys2Proof.Machine.execCommitLatch t s
  | .overlayPrefetchStart t => Sys2Proof.Machine.execOverlayPrefetchStart t s
  | .lineStart t => Sys2Proof.Machine.execLineStart t s
  | .overlayFetchReturn t sector plane row => Sys2Proof.Machine.execOverlayFetchReturn t sector plane row s
  | .overlayUnderrun t sector plane => Sys2Proof.Machine.execOverlayUnderrun t sector plane s
  | .backlightZoneRise t zone => Sys2Proof.Machine.execBacklightZoneRise t zone s
  | .backlightZoneFall t zone => Sys2Proof.Machine.execBacklightZoneFall t zone s
  | .blankingWindow t port => Sys2Proof.Machine.execBlankingWindow t port s
  | .testRequestTimeout t => Sys2Proof.Machine.execTestRequestTimeout t s
  | .teEdge t port => Sys2Proof.Machine.execTeEdge t port s
  | .teWindowEnd t port => Sys2Proof.Machine.execTeWindowEnd t port s
  | .tileStart t gang => Sys2Proof.Machine.execTileStart t gang s
  | .tileFinish t gang => Sys2Proof.Machine.execTileFinish t gang s
  | .cacheLineFill t gang mooring coat relief col row line bad => Sys2Proof.Machine.execCacheLineFill t gang mooring coat relief col row line bad s
  | .skimPieceStart t => Sys2Proof.Machine.execSkimPieceStart t s
  | .skimEntryDone t badUnits => Sys2Proof.Machine.execSkimEntryDone t badUnits s
  | .bollardComplete t => Sys2Proof.Machine.execBollardComplete t s
  | .surfaceClearDone t => Sys2Proof.Machine.execSurfaceClearDone t s
  | .corrMapCheckDone t => Sys2Proof.Machine.execCorrMapCheckDone t s
  | .hpdHigh t port => Sys2Proof.Machine.execHpdHigh t port s
  | .hpdUnplug t port => Sys2Proof.Machine.execHpdUnplug t port s
  | .irqHpd t port status => Sys2Proof.Machine.execIrqHpd t port status s
  | .trainingPhaseDone t port => Sys2Proof.Machine.execTrainingPhaseDone t port s
  | .trainingPhaseTimeout t port => Sys2Proof.Machine.execTrainingPhaseTimeout t port s
  | .auxReply t port answer => Sys2Proof.Machine.execAuxReply t port answer s
  | .auxTimeout t port => Sys2Proof.Machine.execAuxTimeout t port s
  | .linkRecalUnit t port status => Sys2Proof.Machine.execLinkRecalUnit t port status s
  | .linkTestEnd t port errors sinkErr readable status => Sys2Proof.Machine.execLinkTestEnd t port errors sinkErr readable status s
  | .bbTestEnd t port errors => Sys2Proof.Machine.execBbTestEnd t port errors s
  | .bbPortUp t port => Sys2Proof.Machine.execBbPortUp t port s
  | .bbPortDown t port => Sys2Proof.Machine.execBbPortDown t port s
  | .adaptFreeze t port => Sys2Proof.Machine.execAdaptFreeze t port s
  | .adaptResume t port => Sys2Proof.Machine.execAdaptResume t port s
  | .lpiEntry t port => Sys2Proof.Machine.execLpiEntry t port s
  | .lpiWake t port => Sys2Proof.Machine.execLpiWake t port s
  | .linePortFrame t port f => Sys2Proof.Machine.execLinePortFrame t port f s
  | .egressTransmit t port => Sys2Proof.Machine.execEgressTransmit t port s
  | .gateEntryChange t port => Sys2Proof.Machine.execGateEntryChange t port s
  | .addressAgeOut t => Sys2Proof.Machine.execAddressAgeOut t s
  | .syncReceived t port m => Sys2Proof.Machine.execSyncReceived t port m s
  | .announceReceived t port m => Sys2Proof.Machine.execAnnounceReceived t port m s
  | .pdelayReqReceived t port sequenceId requester => Sys2Proof.Machine.execPdelayReqReceived t port sequenceId requester s
  | .pdelayReqSend t port => Sys2Proof.Machine.execPdelayReqSend t port s
  | .pdelayRespReceived t port sequenceId t2 t3 ratio => Sys2Proof.Machine.execPdelayRespReceived t port sequenceId t2 t3 ratio s
  | .followUpTimeout t => Sys2Proof.Machine.execFollowUpTimeout t s
  | .syncTimeout t domain => Sys2Proof.Machine.execSyncTimeout t domain s
  | .announceTimeout t domain => Sys2Proof.Machine.execAnnounceTimeout t domain s
  | .switchInstant t => Sys2Proof.Machine.execSwitchInstant t s
  | .slewEnd t => Sys2Proof.Machine.execSlewEnd t s
  | .clockCarry t => Sys2Proof.Machine.execClockCarry t s
  | .acquireTimeout t => Sys2Proof.Machine.execAcquireTimeout t s
  | .trigRise t k => Sys2Proof.Machine.execTrigRise t k s
  | .trigFall t k => Sys2Proof.Machine.execTrigFall t k s
  | .evtCapture t k falling => Sys2Proof.Machine.execEvtCapture t k falling s
  | .heartbeatReceived t d => Sys2Proof.Machine.execHeartbeatReceived t d s
  | .rankDead t rank => Sys2Proof.Machine.execRankDead t rank s
  | .groupJoined t => Sys2Proof.Machine.execGroupJoined t s
  | .groupCommitSend t => Sys2Proof.Machine.execGroupCommitSend t s
  | .groupCommitReceived t d => Sys2Proof.Machine.execGroupCommitReceived t d s
  | .repairReqSend t mooring => Sys2Proof.Machine.execRepairReqSend t mooring s
  | .repairReqReceived t d => Sys2Proof.Machine.execRepairReqReceived t d s
  | .repairReceived t d => Sys2Proof.Machine.execRepairReceived t d s
  | .refreshDue t ch => Sys2Proof.Machine.execRefreshDue t ch s
  | .refpbIssue t ch => Sys2Proof.Machine.execRefpbIssue t ch s
  | .mr4Read t ch rate => Sys2Proof.Machine.execMr4Read t ch rate s
  | .rowActivation t ch bank row requester => Sys2Proof.Machine.execRowActivation t ch bank row requester s
  | .breakwaterWindowClear t => Sys2Proof.Machine.execBreakwaterWindowClear t s
  | .dramLineRead t ch line requester read => Sys2Proof.Machine.execDramLineRead t ch line requester read s
  | .powerDownEntry t ch kind => Sys2Proof.Machine.execPowerDownEntry t ch kind s
  | .lowPowerExit t ch => Sys2Proof.Machine.execLowPowerExit t ch s
  | .frequencyChangeStart t ch => Sys2Proof.Machine.execFrequencyChangeStart t ch s
  | .frequencySwitchDone t ch => Sys2Proof.Machine.execFrequencySwitchDone t ch s
  | .dramSweepDone t ch lanes => Sys2Proof.Machine.execDramSweepDone t ch lanes s
  | .patrolScrubUnit t corrected bad => Sys2Proof.Machine.execPatrolScrubUnit t corrected bad s
  | .dramRecalUnit t => Sys2Proof.Machine.execDramRecalUnit t s
  | .journalCompactionUnit t => Sys2Proof.Machine.execJournalCompactionUnit t s
  | .wakeDrainUnit t => Sys2Proof.Machine.execWakeDrainUnit t s
  | .libraryCompressionUnit t block => Sys2Proof.Machine.execLibraryCompressionUnit t block s
  | .mramRecordDone t => Sys2Proof.Machine.execMramRecordDone t s
  | .storeTokenRefill t => Sys2Proof.Machine.execStoreTokenRefill t s
  | .nvmWindowRetry t => Sys2Proof.Machine.execNvmWindowRetry t s
  | .housekeepingRoundStart t => Sys2Proof.Machine.execHousekeepingRoundStart t s
  | .housekeepingRoundEnd t r => Sys2Proof.Machine.execHousekeepingRoundEnd t r s
  | .shutdownHalt t => Sys2Proof.Machine.execShutdownHalt t s
  | .avsCriticalMargin t r => Sys2Proof.Machine.execAvsCriticalMargin t r s
  | .railUpStep t => Sys2Proof.Machine.execRailUpStep t s
  | .railPgRise t rail => Sys2Proof.Machine.execRailPgRise t rail s
  | .railPgTimeout t => Sys2Proof.Machine.execRailPgTimeout t s
  | .railPgLost t rail => Sys2Proof.Machine.execRailPgLost t rail s
  | .railDownStep t => Sys2Proof.Machine.execRailDownStep t s
  | .railRetry t => Sys2Proof.Machine.execRailRetry t s
  | .fasciaFrame t => Sys2Proof.Machine.execFasciaFrame t s
  | .fasciaUpdateStart t => Sys2Proof.Machine.execFasciaUpdateStart t s
  | .wakePinExport t => Sys2Proof.Machine.execWakePinExport t s
  | .resetRelease t recoverLow => Sys2Proof.Machine.execResetRelease t recoverLow s
  | .resetAssert t cause => Sys2Proof.Machine.execResetAssert t cause s
  | .supplyRemoved t => Sys2Proof.Machine.execSupplyRemoved t s
  | .sramTestDone t repaired fault => Sys2Proof.Machine.execSramTestDone t repaired fault s
  | .recoveryPresenceSample t => Sys2Proof.Machine.execRecoveryPresenceSample t s
  | .slotCheckDone t => Sys2Proof.Machine.execSlotCheckDone t s
  | .pilotBootDone t => Sys2Proof.Machine.execPilotBootDone t s
  | .dramTrainingDone t result => Sys2Proof.Machine.execDramTrainingDone t result s
  | .imageVerifyDone t => Sys2Proof.Machine.execImageVerifyDone t s
  | .restartReset t => Sys2Proof.Machine.execRestartReset t s
  | .tftpWriteRequest t srcIp srcPort name mode blksize => Sys2Proof.Machine.execTftpWriteRequest t srcIp srcPort name mode blksize s
  | .tftpDataBlock t srcIp srcPort block data => Sys2Proof.Machine.execTftpDataBlock t srcIp srcPort block data s
  | .recoverySpiWrite t slot offset data => Sys2Proof.Machine.execRecoverySpiWrite t slot offset data s
  | .recoverySpiStatus t => Sys2Proof.Machine.execRecoverySpiStatus t s
  | .recoverySpiFinish t slot size => Sys2Proof.Machine.execRecoverySpiFinish t slot size s
  | .recoveryVerifyDone t => Sys2Proof.Machine.execRecoveryVerifyDone t s
  | .unassignedOpcode opcode p => Sys2Proof.Machine.execUnassignedOpcode opcode p s
  | .receiveQuietStart t port => Sys2Proof.Machine.execReceiveQuietStart t port s
  | .receiveQuietEnd t port => Sys2Proof.Machine.execReceiveQuietEnd t port s
  | .mramScanDone t => Sys2Proof.Machine.execMramScanDone t s
  | .pilotTakeover t => Sys2Proof.Machine.execPilotTakeover t s
  | .laneEqPoll t port status => Sys2Proof.Machine.execLaneEqPoll t port status s

end Sys2Proof.Machine
end

