-- ==== Sys2Proof/Safety.lean ====
section
/-! DEFINITION. What a safe run is (no step of it stops), and the words in which the statements about the block are put: the
instant of a command, the parts of the state that something changes, the state without what waits to be sent, and when a
command packet passes every check of R403. -/

namespace Sys2Proof.Machine

/-- A step that answers a next state. -/
def safeStep (s : State) : Prop := ∃ t, step s = .next t

/-- A run of `n` steps none of which stops: as long as commands wait, each has its effect. -/
def safeRun (s : State) : Nat → Prop
  | 0 => True
  | n + 1 => ∃ t, step s = .next t ∧ safeRun t n

/-! ## What changes -/

/-- The parts of the state, the queue among them. -/
inductive Part where
  | time | gw | cfg | mram | nvm | start | wake | obs | ingest | codec | harbour | optics | synth | skim | scan | ports | bb
  | bridge | group | dram | power | fascia | pending
  deriving DecidableEq, Repr

/-- A part is the same in two states. -/
def Part.same (a b : State) : Part → Prop
  | .time => b.time = a.time
  | .gw => b.gw = a.gw
  | .cfg => b.cfg = a.cfg
  | .mram => b.mram = a.mram
  | .nvm => b.nvm = a.nvm
  | .start => b.start = a.start
  | .wake => b.wake = a.wake
  | .obs => b.obs = a.obs
  | .ingest => b.ingest = a.ingest
  | .codec => b.codec = a.codec
  | .harbour => b.harbour = a.harbour
  | .optics => b.optics = a.optics
  | .synth => b.synth = a.synth
  | .skim => b.skim = a.skim
  | .scan => b.scan = a.scan
  | .ports => b.ports = a.ports
  | .bb => b.bb = a.bb
  | .bridge => b.bridge = a.bridge
  | .group => b.group = a.group
  | .dram => b.dram = a.dram
  | .power => b.power = a.power
  | .fascia => b.fascia = a.fascia
  | .pending => b.pending = a.pending

/-- Every part but those listed is the same. -/
def changesOnly (l : List Part) (a b : State) : Prop := ∀ p, p ∉ l → p.same a b

/-- The state without what waits to be sent: replies and the line of the SPI pins (R401, R402), frames in the transmit
berths (R106) and in the egress queues (R330). -/
def State.sansOutput (s : State) : State :=
  { s with gw := { s.gw with spiReplies := [], irqN := true }, bridge := { s.bridge with egress := [] },
           ingest := { s.ingest with txq := [], txw := [], portq := [], crc := s.ingest.crc.take 12 ++ s.ingest.crc.drop 14 } }

/-! ## What every step keeps -/

/-- R416: no session holds more than 64 unacknowledged events, nor does one that a handover saved (R449). -/
def State.eventsBounded (s : State) : Prop :=
  (∀ e ∈ s.gw.sessions, e.unacked.length ≤ 64) ∧ (∀ e ∈ s.nvm.oldSessions, e.unacked.length ≤ 64)

/-- R508: every tally fits its 64 bits. -/
def State.talliesBounded (s : State) : Prop := ∀ p ∈ s.obs.tallies, p.2 < 2 ^ 64

/-- R348: no capture FIFO holds more than 16 captures. -/
def State.fifosBounded (s : State) : Prop := (∀ l ∈ s.time.evt, l.length ≤ 16) ∧ (∀ l ∈ s.time.te, l.length ≤ 16)

/-- The invariant of the block: byte buffers in canonical form, and events, tallies and captures within their bounds. -/
structure State.Inv (s : State) : Prop where
  buffers : s.buffersWf
  events : s.eventsBounded
  tallies : s.talliesBounded
  fifos : s.fifosBounded

/-! ## Commands that pass R403 -/

/-- The rows whose packet carries a command of the opcode index (R403, R426): each row with its card. IMAGE_ACTIVATE and
SELF_TEST have one card for the rows of their selectors. -/
def commandRows (p : Packet) : List (Card × Instr) :=
  [(cardPair, .pair p), (cardUnpair, .unpair p), (cardSessionQuery, .sessionQuery p), (cardEventAck, .eventAck p),
   (cardDeviceInfo, .deviceInfo p), (cardSessionSubscribe, .sessionSubscribe p),
   (cardGangwayConfigure, .gangwayConfigure p), (cardMooringConfigure, .mooringConfigure p),
   (cardMooringReset, .mooringReset p), (cardMooringQuery, .mooringQuery p), (cardIngestConfigure, .ingestConfigure p),
   (cardCrcCompute, .crcCompute p), (cardCodecConfigure, .codecConfigure p), (cardCodecQuery, .codecQuery p),
   (cardCodecDecompress, .codecDecompress p), (cardCodecCompress, .codecCompress p),
   (cardServiceConfigure, .serviceConfigure p), (cardPlanQuery, .planQuery p),
   (cardScanoutConfigure, .scanoutConfigure p), (cardOverlayCommit, .overlayCommit p), (cardGammaSet, .gammaSet p),
   (cardLanternConfigure, .lanternConfigure p), (cardLanternWrite, .lanternWrite p), (cardOpticsSet, .opticsSet p),
   (cardCorrMapLoad, .corrMapLoad p), (cardCorrMapCommit, .corrMapCommit p), (cardFanConfigure, .fanConfigure p),
   (cardLathEvaluate, .lathEvaluate p), (cardSurfaceCreate, .surfaceCreate p), (cardSurfaceDestroy, .surfaceDestroy p),
   (cardSurfaceWrite, .surfaceWrite p), (cardSkimListWrite, .skimListWrite p), (cardSkimSubmit, .skimSubmit p),
   (cardLinkConfigure, .linkConfigure p), (cardLinkRetrain, .linkRetrain p), (cardLinkTest, .linkTest p),
   (cardBbConfigure, .bbConfigure p), (cardBbTest, .bbTest p), (cardLinkQuery, .linkQuery p),
   (cardBridgeSet, .bridgeSet p), (cardTimeConfigure, .timeConfigure p), (cardTriggerConfigure, .triggerConfigure p),
   (cardTimeStep, .timeStep p), (cardGroupConfigure, .groupConfigure p), (cardMemConfigure, .memConfigure p),
   (cardMemQuery, .memQuery p), (cardMemCalibrate, .memCalibrate p), (cardStore, .store p),
   (cardSettingsRevert, .settingsRevert p), (cardSettingsErase, .settingsErase p), (cardFactoryWrite, .factoryWrite p),
   (cardNvmQuery, .nvmQuery p), (cardImageLoad, .imageLoad p), (cardImageVerify, .imageVerify p),
   (cardImageActivate, .imageActivate p), (cardImageActivate, .imageActivateConfirm p),
   (cardImageActivate, .imageActivateAbandon p), (cardFirmwareQuery, .firmwareQuery p),
   (cardDeviceRestart, .deviceRestart p), (cardPowerConfigure, .powerConfigure p),
   (cardBacklightConfigure, .backlightConfigure p), (cardRailProfileSet, .railProfileSet p),
   (cardThermalQuery, .thermalQuery p), (cardFasciaConfigure, .fasciaConfigure p), (cardFasciaImage, .fasciaImage p),
   (cardFasciaQuery, .fasciaQuery p), (cardObjectRead, .objectRead p), (cardTallyRead, .tallyRead p),
   (cardWakeConfigure, .wakeConfigure p), (cardWakeSubscribe, .wakeSubscribe p), (cardTallyExport, .tallyExport p),
   (cardSelfTest, .selfTestMramScan p), (cardSelfTest, .selfTestScanoutPath p), (cardGangwayEcho, .gangwayEcho p)]

/-- A packet of an opcode passes steps 1 to 4 of R403 as a command of session `n`. -/
structure State.Known (s : State) (opcode : Nat) (p : Packet) (n : Nat) : Prop where
  whole : (s.heard p).front p = .pass
  header : headerOk p = true
  crc : p.crc.toNat = commandCrc opcode p
  token : p.token ≠ 0
  session : (s.heard p).slotOf p.token.toNat p.spi = some n

/-- The state in which a command of session `n` is carried out: heard, and recorded in its session (R409, R410). -/
def State.served (s : State) (p : Packet) (n : Nat) : State := (s.heard p).modSess n (fun e => passFive e p)

/-- The sender of that command. -/
def State.senderOf (s : State) (p : Packet) (n : Nat) : Caller := (s.served p n).callerOf p (some n)

/-- A command packet of session `n` passes every step of R403, with the pilot interpreting commands (R405) and not waiting for
the record of one before it (R407, R408). -/
structure State.Passes (s : State) (k : Card) (p : Packet) (n : Nat) : Prop where
  whole : (s.heard p).front p = .pass
  header : headerOk p = true
  crc : p.crc.toNat = commandCrc k.opcode p
  token : p.token ≠ 0
  session : (s.heard p).slotOf p.token.toNat p.spi = some n
  newer : ((s.heard p).sess n).fresh = true ∨ newer8 p.seq.toNat ((s.heard p).sess n).lastSeq = true
  room : (s.heard p).berthRoom p.spi = true
  pilot : (s.heard p).nvm.interpreting = true
  unheld : (s.heard p).nvm.held = none
  verdict : (s.served p n).verdict (some k) (s.senderOf p n) p.payload = Status.OK

/-- A command packet with TOKEN 0 passes every step of R403 (PAIR and DEVICE_INFO only, R404). -/
structure State.PassesOpen (s : State) (k : Card) (p : Packet) : Prop where
  whole : (s.heard p).front p = .pass
  header : headerOk p = true
  crc : p.crc.toNat = commandCrc k.opcode p
  token : p.token = 0
  room : (s.heard p).berthRoom p.spi = true
  pilot : (s.heard p).nvm.interpreting = true
  unheld : (s.heard p).nvm.held = none
  rate : (s.heard p).unauthRoom = true
  verdict : (s.heard p).unauthCount.verdict (some k) ((s.heard p).callerOf p none) p.payload = Status.OK

/-- The reply to a command (R396, R398): header, status, payload, CRC. -/
def replyOf (k : Card) (p : Packet) (status : Nat) (payload : List Byte) : List Byte :=
  replyPacket k.opcode p.tag.toNat p.seq.toNat status (p.token.toNat % 2 ^ 32) payload

/-- R410: the reply to a command of session `n` kept beside it. -/
def State.keeps (s : State) (n : Nat) (k : Card) (p : Packet) (status : Nat) (payload : List Byte) : State :=
  s.modSess n (fun e => { e with kept := keepReply e.kept p.seq.toNat p.length.toNat p.crc (replyOf k p status payload) })

/-- R411: the tag of a deferred command of session `n` outstanding. -/
def State.holds (s : State) (n : Nat) (p : Packet) : State :=
  s.modSess n (fun e => { e with outstanding := e.outstanding ++ [p.tag.toNat] })

/-- The state `e` that an immediate command of session `n` leaves, its reply sent under the settings in force before it. -/
def State.answered (e s : State) (k : Card) (p : Packet) (n : Nat) (status : Nat) (payload : List Byte) : State :=
  e.replyUnder (s.served p n).cfg k.opcode p (s.senderOf p n) status payload

/-- R407, R408: the state `e` that PAIR or UNPAIR leaves, its reply held until the pairing record is written. -/
def State.awaiting (e : State) (k : Card) (p : Packet) (c : Caller) (payload : List Byte) : State :=
  let w : Waiting := { opcode := k.opcode, slot := c.slot, key := c.key, sealOpen := c.sealOpen, packet := p }
  { e with nvm := { e.nvm with held := some (w, payload) } }

/-- The state in which a deferred command of session `n` takes effect: its tag is outstanding, and the reply ACCEPTED sent. -/
def State.accepted (s : State) (k : Card) (p : Packet) (n : Nat) (payload : List Byte) : State :=
  ((s.served p n).holds n p).reply k.opcode p (s.senderOf p n) Status.ACCEPTED payload

end Sys2Proof.Machine
end

