-- ==== Sys2Proof/Certificates/Slice0/Obligations.lean ====
section
/-! DEFINITION. The statements about the block: what each command does to the state and what it leaves, what every step keeps,
and the rules that hold of the whole machine. -/

open Sys2Proof Sys2Proof.Machine

/-- Commands that write settings replace the words of their object and change nothing else but their session and their
reply (R24, R31, R398, R422, R150, R113). -/
def Obligations.SettingsCommandsWriteTheirObject : Prop :=
  ∀ (s : State) (p : Packet) (n : Nat),
    (s.Passes cardCodecConfigure p n → exec (.codecConfigure p) s =
      .next (((s.served p n).setObj 0x1200 (toWords 1 p.payload)).answered s cardCodecConfigure p n Status.OK [])) ∧
    (s.Passes cardMooringConfigure p n → exec (.mooringConfigure p) s =
      .next (((s.served p n).setObj (0x1400 + num p.payload 0 2) (toWords 4 (p.payload.drop 4))).answered s cardMooringConfigure p n Status.OK (le 2 (num p.payload 0 2) ++ [0, 0]))) ∧
    (s.Passes cardLanternConfigure p n → exec (.lanternConfigure p) s =
      .next (((s.served p n).setObj 0x1804 (toWords 11 p.payload)).answered s cardLanternConfigure p n Status.OK [])) ∧
    (s.Passes cardFanConfigure p n → exec (.fanConfigure p) s =
      .next (((s.served p n).setObj 0x1824 (toWords 25 p.payload)).answered s cardFanConfigure p n Status.OK [])) ∧
    (s.Passes cardLinkConfigure p n → exec (.linkConfigure p) s =
      .next (((s.served p n).setObj (0x1900 + num p.payload 0 1) (toWords 2 (p.payload.drop 4))).answered s cardLinkConfigure p n Status.OK [])) ∧
    (s.Passes cardMemConfigure p n → exec (.memConfigure p) s =
      .next (((s.served p n).setObj 0x1D00 (toWords 6 p.payload)).answered s cardMemConfigure p n Status.OK [])) ∧
    (s.Passes cardBacklightConfigure p n → exec (.backlightConfigure p) s =
      .next (((s.served p n).setObj 0x1E10 (toWords 43 p.payload)).answered s cardBacklightConfigure p n Status.OK [])) ∧
    (s.Passes cardPowerConfigure p n → exec (.powerConfigure p) s =
      .next (((s.served p n).setObj (powerObj p.payload) (toWords ((p.payload.length - 4) / 4) (p.payload.drop 4))).answered s cardPowerConfigure p n Status.OK [])) ∧
    (s.Passes cardOpticsSet p n → exec (.opticsSet p) s =
      .next (((s.served p n).setObj (opticsObj (num p.payload 0 1)).1 (toWords ((opticsObj (num p.payload 0 1)).2 / 4) (p.payload.drop 4))).answered s cardOpticsSet p n Status.OK [])) ∧
    (s.Passes cardWakeConfigure p n → exec (.wakeConfigure p) s =
      .next (((s.served p n).setObj 0x1F80 (overlayWords ((s.served p n).obj 0x1F80) 0 (toWords 1 p.payload))).answered s cardWakeConfigure p n Status.OK [])) ∧
    (s.Passes cardWakeSubscribe p n → exec (.wakeSubscribe p) s =
      .next (((s.served p n).setObj 0x1F80 (overlayWords ((s.served p n).obj 0x1F80) 1 (toWords 2 p.payload))).answered s cardWakeSubscribe p n Status.OK [])) ∧
    (s.Passes cardGammaSet p n → exec (.gammaSet p) s =
      .next (((s.served p n).setObj (0x1801 + num p.payload 0 1)
        (putGamma ((s.served p n).obj (0x1801 + num p.payload 0 1)) (num p.payload 2 2) (gammaEntries p.payload))).answered s cardGammaSet p n Status.OK [])) ∧
    (s.Passes cardLanternWrite p n → exec (.lanternWrite p) s =
      .next (((s.served p n).setObj 0x1805
        (putBytes ((s.served p n).obj 0x1805) (num p.payload 0 4) (slice p.payload 8 (num p.payload 4 2)))).answered s cardLanternWrite p n Status.OK [])) ∧
    (s.Passes cardIngestConfigure p n → exec (.ingestConfigure p) s =
      .next (((s.served p n).setObj 0x1100 (toWords 9 p.payload)).answered s cardIngestConfigure p n Status.OK [])) ∧
    (s.Passes cardGangwayConfigure p n → exec (.gangwayConfigure p) s =
      .next ((((s.served p n).setObj 0x1000 (toWords 2 p.payload)).irq).answered s cardGangwayConfigure p n Status.OK []))

/-- Settings commands whose write has a further effect: the object is written, the effect follows, the reply is OK (R360,
R322, R331, R362, R346, R335, R363, R188, R487, R504, R437). -/
def Obligations.SettingsCommandsWithFurtherEffects : Prop :=
  ∀ (s : State) (p : Packet) (n : Nat),
    (s.Passes cardRailProfileSet p n → exec (.railProfileSet p) s =
      .next ((((s.served p n).setObj 0x1E00 (toWords 17 p.payload)).clearFaults).answered s cardRailProfileSet p n Status.OK [])) ∧
    (s.Passes cardFasciaConfigure p n → exec (.fasciaConfigure p) s =
      .next ((((s.served p n).setObj (if num p.payload 0 1 = 0 then 0x1F00 else 0x1F01)
        (toWords ((p.payload.length - 4) / 4) (p.payload.drop 4))).fasciaEnabled).answered s cardFasciaConfigure p n Status.OK [])) ∧
    (s.Passes cardTimeConfigure p n → exec (.timeConfigure p) s =
      .next (((((s.served p n).setObj 0x1B00 (toWords 5 p.payload)).redomain 0 ((s.served p n).get F.DOMAIN0)).redomain 1
        ((s.served p n).get F.DOMAIN1)).answered s cardTimeConfigure p n Status.OK [])) ∧
    (s.Passes cardTimeStep p n → exec (.timeStep p) s =
      .next (((s.served p n).stepClock (num p.payload 0 8 * 1000000000 + num p.payload 8 4)).answered s cardTimeStep p n Status.OK [])) ∧
    (s.Passes cardSettingsRevert p n → exec (.settingsRevert p) s =
      .next (((revertIds (num p.payload 0 2)).foldl (fun x id => x.installObj id (x.stored id)) (s.served p n)).answered s cardSettingsRevert p n Status.OK [])) ∧
    (s.Passes cardServiceConfigure p n → ∃ u, exec (.serviceConfigure p) s = .next (u.answered s cardServiceConfigure p n Status.OK []) ∧
      u = { (s.served p n).setObj 0x1300 (toWords 3 p.payload) with
        harbour := { (s.served p n).harbour with modeWrite := true, demoted := false } }) ∧
    (s.Passes cardBridgeSet p n → num p.payload 0 1 < 2 → exec (.bridgeSet p) s =
      .next (State.answered ((s.served p n).setObj (bridgeObj (num p.payload 0 1)).1
        (toWords ((bridgeObj (num p.payload 0 1)).2 / 4) (p.payload.drop 4))).reportGroups s cardBridgeSet p n Status.OK [])) ∧
    (s.Passes cardBridgeSet p n → 2 ≤ num p.payload 0 1 → ∃ u, exec (.bridgeSet p) s =
      .next (u.answered s cardBridgeSet p n Status.OK []) ∧ u = { (s.served p n).setObj (bridgeObj (num p.payload 0 1)).1
        (toWords ((bridgeObj (num p.payload 0 1)).2 / 4) (p.payload.drop 4)) with
        bridge := { (s.served p n).bridge with
          gates := modAt (s.served p n).bridge.gates (num p.payload 0 1 - 2) (fun g =>
            { g.promote (s.served p n).ns with
                next := some (gateStart (toWords ((bridgeObj (num p.payload 0 1)).2 / 4) (p.payload.drop 4))
                  ((s.served p n).ns + 1000000), toWords ((bridgeObj (num p.payload 0 1)).2 / 4) (p.payload.drop 4)) }) } }) ∧
    (s.Passes cardBbConfigure p n → exec (.bbConfigure p) s =
      .next (State.answered (if (s.served p n).bbChanges p.payload
          then ((s.served p n).setObj (0x1910 + num p.payload 0 1) (toWords 2 (p.payload.drop 4))).bbDown (num p.payload 0 1)
          else (s.served p n).setObj (0x1910 + num p.payload 0 1) (toWords 2 (p.payload.drop 4)))
        s cardBbConfigure p n Status.OK [])) ∧
    (s.Passes cardTriggerConfigure p n → ∃ u, exec (.triggerConfigure p) s =
      .next (u.answered s cardTriggerConfigure p n Status.OK []) ∧
      u = { (s.served p n).setObj (0x1B10 + num p.payload 0 1) (toWords 6 (p.payload.drop 4)) with
        time := { (s.served p n).time with
          trigs := modAt (s.served p n).time.trigs (num p.payload 0 1) (fun g =>
            { g.promote (s.served p n).ns with
                next := (g.promote (s.served p n).ns).next ++
                  [((s.served p n).ns + 1000000, toWords 6 (p.payload.drop 4))] }) } }) ∧
    (s.Passes cardGroupConfigure p n → ∃ u, exec (.groupConfigure p) s =
      .next (u.answered s cardGroupConfigure p n Status.OK []) ∧
      u = (if groupKey ((s.served p n).obj 0x1C00) ≠ groupKey (toWords 3 p.payload)
          then ((s.served p n).setObj 0x1C00 (toWords 3 p.payload)).leaveGroup
          else (s.served p n).setObj 0x1C00 (toWords 3 p.payload)).reportGroups.elect)

/-- Queries answer the objects, status words, tallies or bytes they ask for and change nothing but their session and their
reply (R424, R426, R114, R151, R189, R321, R393, R457, R458, R491, R508, R194). -/
def Obligations.QueriesAnswerAndChangeNothingElse : Prop :=
  ∀ (s : State) (p : Packet) (n : Nat),
    (s.Passes cardSessionQuery p n → exec (.sessionQuery p) s =
      .next (((s.served p n)).answered s cardSessionQuery p n Status.OK ((s.served p n).statusBytes (0x2020 + slotArg (s.senderOf p n) p.payload) ++ (s.served p n).statusBytes 0x2010 ++
        slice ((s.served p n).sess (slotArg (s.senderOf p n) p.payload)).label 0 16))) ∧
    (s.Passes cardDeviceInfo p n → exec (.deviceInfo p) s =
      .next (((s.served p n)).answered s cardDeviceInfo p n Status.OK (le 2 0x9616 ++ [Config.stepping, 0] ++
        le 4 ((s.served p n).fwVersion (s.served p n).nvm.runSlot) ++ le 4 ((s.served p n).secVersion (s.served p n).nvm.runSlot) ++ (List.range 8).map Config.serialByte))) ∧
    (s.Passes cardMooringQuery p n → exec (.mooringQuery p) s =
      .next (((s.served p n)).answered s cardMooringQuery p n Status.OK (ofWords ((s.served p n).obj (0x1400 + num p.payload 0 2)) ++
        (s.served p n).statusBytes (0x2400 + num p.payload 0 2)))) ∧
    (s.Passes cardCodecQuery p n → exec (.codecQuery p) s =
      .next (((s.served p n)).answered s cardCodecQuery p n Status.OK (ofWords ((s.served p n).obj 0x1200) ++ (s.served p n).statusBytes 0x2200))) ∧
    (s.Passes cardPlanQuery p n → exec (.planQuery p) s =
      .next (((s.served p n)).answered s cardPlanQuery p n Status.OK (ofWords ((s.served p n).settingAt 0x1300) ++
        slice ((s.served p n).statusBytes 0x2300) 0 64 ++ slice ((s.served p n).statusBytes 0x2301) 0 16))) ∧
    (s.Passes cardLinkQuery p n → exec (.linkQuery p) s = .next ((s.served p n).answered s cardLinkQuery p n Status.OK
      (if num p.payload 0 1 = 0
        then ofWords ((s.served p n).obj (0x1900 + num p.payload 1 1)) ++
          slice ((s.served p n).statusBytes (0x2B00 + num p.payload 1 1)) 0 24
        else ofWords ((s.served p n).obj (0x1910 + num p.payload 1 1)) ++
          slice ((s.served p n).statusBytes (0x2B10 + num p.payload 1 1)) 0 24))) ∧
    (s.Passes cardMemQuery p n → exec (.memQuery p) s =
      .next (((s.served p n)).answered s cardMemQuery p n Status.OK (ofWords ((s.served p n).obj 0x1D00) ++
        slice ((s.served p n).statusBytes 0x2F00) 0 16 ++ slice ((s.served p n).statusBytes (0x2F10 + num p.payload 0 1)) 0 24))) ∧
    (s.Passes cardNvmQuery p n → exec (.nvmQuery p) s =
      .next (((s.served p n)).answered s cardNvmQuery p n Status.OK ((s.served p n).statusBytes 0x2F80 ++ (s.served p n).statusBytes 0x2F81))) ∧
    (s.Passes cardFirmwareQuery p n → exec (.firmwareQuery p) s =
      .next (((s.served p n)).answered s cardFirmwareQuery p n Status.OK ((s.served p n).statusBytes 0x2F81))) ∧
    (s.Passes cardThermalQuery p n → exec (.thermalQuery p) s =
      .next (((s.served p n)).answered s cardThermalQuery p n Status.OK ((s.served p n).statusBytes 0x2F90 ++ (s.served p n).statusBytes 0x2F91))) ∧
    (s.Passes cardFasciaQuery p n → exec (.fasciaQuery p) s =
      .next (((s.served p n)).answered s cardFasciaQuery p n Status.OK ((s.served p n).statusBytes 0x2FA0 ++ ofWords ((s.served p n).settingAt 0x1F02)))) ∧
    (s.Passes cardTallyRead p n → exec (.tallyRead p) s =
      .next (((s.served p n)).answered s cardTallyRead p n Status.OK (le 8 (s.served p n).obs.snapField ++
        (s.served p n).snapTallies (num p.payload 0 2) (num p.payload 2 2)))) ∧
    (s.Passes cardObjectRead p n → exec (.objectRead p) s =
      .next (((s.served p n).afterRead (num p.payload 0 2)).answered s cardObjectRead p n Status.OK (le 8 (s.served p n).obs.snapField ++
        ofWords ((((((s.served p n).readObj (num p.payload 0 2)).getD []).drop (num p.payload 4 4 / 4)).take (num p.payload 2 2 / 4)))))) ∧
    (s.Passes cardGangwayEcho p n → exec (.gangwayEcho p) s =
      .next (((s.served p n)).answered s cardGangwayEcho p n Status.OK (le 2 (num p.payload 0 2) ++ [0, 0] ++
        slice p.payload 4 (num p.payload 0 2)))) ∧
    (s.Passes cardLathEvaluate p n → ∃ o c x y k, o = (s.served p n).harbour.cur.optics ∧ c = (s.served p n).harbour.cur.corr ∧
      x = num p.payload 0 2 ∧ y = num p.payload 2 2 ∧ k = num p.payload 4 1 ∧ exec (.lathEvaluate p) s =
      .next ((s.served p n).answered s cardLathEvaluate p n Status.OK ([byte (lathV o c x y k), byte (fanOf o (lathV o c x y k))] ++
        le 2 (if opt o 0x1820 4 0 32 = 0 then 0 else corrOf c x y) ++ le 4 (lathM o c x y k) ++
        le 8 (wrap (originX o x) 64) ++ le 8 (wrap (originY o y) 64))))

/-- PAIR, UNPAIR, EVENT_ACK, SESSION_SUBSCRIBE and a session-less DEVICE_INFO do what their rules say and nothing else
(log 82, 88) (R406, R407, R408, R417, R419, R424, R404). The model's own choices here: the sliding second of R404 (log
entry 82); the session changes when its pairing record is written (log entry 88). -/
def Obligations.SessionCommands : Prop :=
  ∀ (s : State) (p : Packet) (n : Nat),
    (s.PassesOpen cardPair p → ∃ k u hi m e, (s.heard p).pairSlot ((s.heard p).callerOf p none) = some k ∧
      u = (s.heard p).unauthCount.took ∧ hi = (Config.tokenRandom (s.heard p).time.freeCount).toNat ∧ m = (u.pairSerial + 1) % 2 ^ 28 ∧
      e = newSession hi m (num p.payload 0 2) (slice p.payload 4 16) ((s.heard p).callerOf p none).srcIp
        ((s.heard p).callerOf p none).srcPort ∧
      exec (.pair p) s = .next ((u.pushTxn {
          purpose := .pairing k e, steps := fixedSteps k (pairBytes true hi m (num p.payload 0 2) (slice p.payload 4 16)) }).awaiting
        cardPair p ((s.heard p).callerOf p none) (le 8 (hi * 2 ^ 32 + m * 16 + k) ++ [byte k, 0, 0, 0]))) ∧
    (s.PassesOpen cardDeviceInfo p → exec (.deviceInfo p) s = .next ((s.heard p).unauthCount.replyUnder (s.heard p).cfg 0x0105 p
      ((s.heard p).callerOf p none) Status.OK (le 2 0x9616 ++ [Config.stepping, 0] ++
        le 4 ((s.heard p).fwVersion (s.heard p).nvm.runSlot) ++ le 4 ((s.heard p).secVersion (s.heard p).nvm.runSlot) ++
        (List.range 8).map Config.serialByte))) ∧
    (s.Passes cardSessionSubscribe p n → exec (.sessionSubscribe p) s =
      .next (((s.served p n).modSess n (fun e => { e with mask := num p.payload 0 2 })).answered s cardSessionSubscribe p n Status.OK [])) ∧
    (s.Passes cardUnpair p n → ∃ k, k = slotArg (s.senderOf p n) p.payload ∧ exec (.unpair p) s =
      .next (((s.served p n).pushTxn {
          purpose := .pairing k {}, steps := fixedSteps k (pairBytes false 0 ((s.served p n).sess k).serial 0 []) }).awaiting
        cardUnpair p (s.senderOf p n) [])) ∧
    (s.Passes cardEventAck p n → n ≠ 15 → ((s.served p n).sess n).evSent = true → exec (.eventAck p) s =
      .next (State.answered ((s.served p n).modSess n
        (fun e => { e with unacked := e.unacked.filter (fun x => newer8 x.seq (num p.payload 0 1)) }))
        s cardEventAck p n Status.OK [])) ∧
    (s.Passes cardEventAck p n → n = 15 ∨ ((s.served p n).sess n).evSent = false → exec (.eventAck p) s =
      .next ((s.served p n).answered s cardEventAck p n Status.OK []))

/-- Commands that carry data write exactly the bytes they carry at the address they name, or answer what the unit computes
from them (log 9) (R125, R126, R130, R135, R145, R201, R246, R247, R427). The model's own choices here: bytes that
nothing has written are free (log entry 9). -/
def Obligations.DataCommandsWriteTheirBytes : Prop :=
  ∀ (s : State) (p : Packet) (n : Nat),
    (s.Passes cardCrcCompute p n → ∃ r, r = crcRun (num p.payload 0 4) (slice p.payload 8 (num p.payload 4 2)) ∧
      exec (.crcCompute p) s = .next (((s.served p n).setCrc 15 r (num p.payload 4 2)).answered s cardCrcCompute p n Status.OK
        (le 4 r ++ le 4 (r ^^^ 0xFFFFFFFF)))) ∧
    (s.Passes cardCodecDecompress p n → ∃ r, r = Zstd.decode (slice p.payload 8 (num p.payload 0 2)) (num p.payload 2 2)
        (num p.payload 4 1 == 1) ∧
      exec (.codecDecompress p) s = .next (((s.served p n).codecError 2 0 r).answered s cardCodecDecompress p n
        (if r.code = 0 then Status.OK else Status.CHECK_FAILED)
        ([byte r.code, 0] ++ le 2 r.committed ++ le 4 r.errOffset ++ r.out.take r.committed))) ∧
    (s.Passes cardCodecCompress p n → ∃ j failed rest u v w,
      ((s.served p n).beginJob (newJob .trial (slice p.payload 4 (num p.payload 0 2)))).step = (j, failed, rest) ∧
      u = (s.served p n).took.setCrc 14 j.crc.1 j.crc.2 ∧
      v = { u with codec := { u.codec with cIn := modAt u.codec.cIn 1 (· + (slice p.payload 4 (num p.payload 0 2)).length) } } ∧
      w = (if failed then v.verifyFailed 1 0 else v) ∧
      exec (.codecCompress p) s = .next (w.answered s
        cardCodecCompress p n Status.OK (le 2 j.out.length ++ [byte (b2n failed), 0] ++ j.out))) ∧
    (s.Passes cardCorrMapLoad p n → ∃ u, exec (.corrMapLoad p) s = .next (u.answered s cardCorrMapLoad p n Status.OK []) ∧
      u = { s.served p n with
        optics := { (s.served p n).optics with
          staging := Memory.writeAll none (s.served p n).optics.staging (num p.payload 0 4)
            (slice p.payload 8 (num p.payload 4 2)) } }) ∧
    (s.Passes cardSurfaceWrite p n → ∃ f g, (s.served p n).surf (num p.payload 0 2) = some f ∧
      g = f.keep (s.served p n).ns (some ((s.served p n).ns : Int)) (some ((s.served p n).ns : Int))
        ((List.range ((num p.payload 4 4 + num p.payload 2 2 - 1) / 64 + 1 - num p.payload 4 4 / 64)).map (num p.payload 4 4 / 64 + ·)) ∧
      exec (.surfaceWrite p) s =
      .next (((s.served p n).setSurf (num p.payload 0 2) ((s.served p n).surfLanded { g with
        bytes := Memory.writeAll (some 0) g.bytes (num p.payload 4 4) (slice p.payload 8 (num p.payload 2 2)) })).answered s
        cardSurfaceWrite p n Status.OK [])) ∧
    (s.Passes cardSurfaceDestroy p n → ∃ u, exec (.surfaceDestroy p) s = .next (u.answered s cardSurfaceDestroy p n Status.OK []) ∧
      u = { s.served p n with
        skim := { (s.served p n).skim with
          surfaces := Tab.del (s.served p n).skim.surfaces (num p.payload 0 2) } }) ∧
    (s.Passes cardSkimListWrite p n → ∃ u, exec (.skimListWrite p) s = .next (u.answered s cardSkimListWrite p n Status.OK []) ∧
      u = { s.served p n with
        skim := { (s.served p n).skim with
          lists := Tab.put (s.served p n).skim.lists (num p.payload 0 1)
            ((s.served p n).landed (s.served p n).dram.lists (32 * num p.payload 0 1)
              (Memory.writeAll (some 0) (Tab.getD (s.served p n).skim.lists (num p.payload 0 1) []) (32 * num p.payload 2 2)
                (slice p.payload 4 (32 * num p.payload 1 1)))) } }) ∧
    (s.Passes cardImageLoad p n → exec (.imageLoad p) s =
      .next (((s.served p n).modSlot (s.served p n).otherSlot (fun x => { x with
        bytes := Memory.writeAll none x.bytes (num p.payload 0 4) (slice p.payload 8 (num p.payload 4 2)),
        state := .loaded })).answered s cardImageLoad p n Status.OK []))

/-- Deferred commands of scan-out, ingest, optics, Skim, links and memory are accepted at once and begin their work (R411,
R282, R273, R112, R202, R245, R250, R306, R310, R319, R391). -/
def Obligations.DeferredDisplayCommands : Prop :=
  ∀ (s : State) (p : Packet) (n : Nat),
    (s.Passes cardScanoutConfigure p n → ∃ a u, a = s.accepted cardScanoutConfigure p n [] ∧ exec (.scanoutConfigure p) s = .next u ∧
      u = { a.setObj 0x1800 (toWords 18 p.payload) with
        scan := { a.scan with
          cfgCmds := a.scan.cfgCmds ++ [(p.token.toNat % 2 ^ 32, p.tag.toNat, a.changeKind (num p.payload 0 1))] } }) ∧
    (s.Passes cardOverlayCommit p n → ∃ a u, a = s.accepted cardOverlayCommit p n
        (le 8 ((s.served p n).holds n p).ns ++ le 8 ((s.served p n).holds n p).targetField) ∧
      exec (.overlayCommit p) s = .next { u with scan := { u.scan with commitOrder := u.scan.commitOrder + 1 } } ∧
      u = a.modPlane (num p.payload 0 1) (fun q => { q with
        pending := q.pending ++ [{ surface := num p.payload 2 2, offX := snum p.payload 4 4, offY := snum p.payload 8 4,
                                   stamp := a.ns, order := a.scan.commitOrder, target := a.targetField,
                                   slot := p.token.toNat % 2 ^ 32, tag := p.tag.toNat }],
        lastFetch := a.ovFetch a.mode (num p.payload 2 2) (snum p.payload 4 4) (snum p.payload 8 4) })) ∧
    (s.Passes cardMooringReset p n → exec (.mooringReset p) s =
      .next ((s.accepted cardMooringReset p n []).modMoor (num p.payload 0 2)
        (fun m => { m with resetCmd := m.resetCmd ++ [((p.token.toNat % 2 ^ 32), p.tag.toNat)] }))) ∧
    (s.Passes cardCorrMapCommit p n → ∃ a u, a = s.accepted cardCorrMapCommit p n [] ∧ exec (.corrMapCommit p) s = .next u ∧
      u = { a with
        optics := { a.optics with
          commit := some (p.token.toNat % 2 ^ 32, p.tag.toNat, num p.payload 0 4, a.obj 0x1823) } }) ∧
    (s.Passes cardSurfaceCreate p n → ∃ a u, a = (s.accepted cardSurfaceCreate p n []).setSurf (num p.payload 0 2) 
        { newSurface p.payload with stripe := { chans := (s.accepted cardSurfaceCreate p n []).present } } ∧
      exec (.surfaceCreate p) s = .next u ∧ u = { a with
        skim := { a.skim with
          queue := a.skim.queue ++ [.clear (num p.payload 0 2) (p.token.toNat % 2 ^ 32) p.tag.toNat] } }) ∧
    (s.Passes cardSkimSubmit p n → ∃ a u, a = s.accepted cardSkimSubmit p n (zeros 4) ∧ exec (.skimSubmit p) s = .next u ∧
      u = { a with
        skim := { a.skim with
          queue := a.skim.queue ++ [.list (num p.payload 0 1) (num p.payload 1 1)
          (num p.payload 2 2) (num p.payload 4 2) (p.token.toNat % 2 ^ 32) p.tag.toNat] } }) ∧
    (s.Passes cardLinkRetrain p n → ∃ a u, a = s.accepted cardLinkRetrain p n [] ∧
      u = a.modPort (num p.payload 0 1) (fun x => { x with cmds := x.cmds ++ [(p.token.toNat % 2 ^ 32, p.tag.toNat)] }) ∧
      exec (.linkRetrain p) s = .next (if (a.port (num p.payload 0 1)).state = 3 then u.retrain (num p.payload 0 1)
        else u.startTraining (num p.payload 0 1) false)) ∧
    (s.Passes cardLinkTest p n → ∃ a, a = (s.accepted cardLinkTest p n []).took ∧
      ((a.port (num p.payload 0 1)).state = 3 → exec (.linkTest p) s = .next (a.queueReq (.linkTest (num p.payload 0 1)
        (num p.payload 1 1) (num p.payload 2 1) (num p.payload 3 1) (num p.payload 4 1) (num p.payload 8 4))
        (p.token.toNat % 2 ^ 32) p.tag.toNat)) ∧
      (∀ (x : LaneTest), (a.port (num p.payload 0 1)).state ≠ 3 → x = {
          slot := p.token.toNat % 2 ^ 32, tag := p.tag.toNat, mode := num p.payload 1 1, pattern := num p.payload 2 1,
          injectLog := num p.payload 3 1, gens := List.replicate a.testLanes (prbsStart (num p.payload 2 1)), lanes := num p.payload 4 1,
          rate := if num p.payload 6 1 = 0 then a.linkRate else num p.payload 6 1, duration := num p.payload 8 4,
          back := (a.port (num p.payload 0 1)).state, field := 0, irq := false } → exec (.linkTest p) s = .next ((a.modPort (num p.payload 0 1)
        (fun q => { q with
        state := 4, test := some x,
          sinkPattern := if num p.payload 1 1 = 0 ∨ Config.sinkAnswers a.time.freeCount (num p.payload 0 1) then
            some (num p.payload 2 1) else none })).tallyUnit T.LNK_TEST_RUN
        (num p.payload 0 1) 1))) ∧
    (s.Passes cardBbTest p n → ∃ x : BbTest, x = {
        slot := p.token.toNat % 2 ^ 32, tag := p.tag.toNat, pattern := num p.payload 1 1,
        gen := prbsStart (if num p.payload 1 1 = 0 then 5 else 1), dir := num p.payload 2 1, duration := num p.payload 4 4 } ∧
      exec (.bbTest p) s = .next (((s.accepted cardBbTest p n []).modBb (num p.payload 0 1) (fun q => { q with
        link := 2, test := some x, txLpi := false, rxLpi := false, rxOff := false, frozen := false, dataBlocks := 0 })).unlearn
        (num p.payload 0 1))) ∧
    (s.Passes cardMemCalibrate p n → exec (.memCalibrate p) s =
      .next ((s.accepted cardMemCalibrate p n []).queueReq (.memCal (num p.payload 0 2) (num p.payload 2 1)) (p.token.toNat % 2 ^ 32) p.tag.toNat))

/-- Deferred commands of MRAM, firmware, restart, fascia, tallies and self-test are accepted at once and begin their work
(R411, R438, R433, R427, R444, R446, R448, R449, R525, R502, R514, R536). -/
def Obligations.DeferredStorageAndServiceCommands : Prop :=
  ∀ (s : State) (p : Packet) (n : Nat),
    (s.Passes cardStore p n → exec (.store p) s =
      .next ((s.accepted cardStore p n []).storeRun (p.token.toNat % 2 ^ 32) p.tag.toNat)) ∧
    (s.Passes cardSettingsErase p n → ∃ a, a = s.accepted cardSettingsErase p n [] ∧ exec (.settingsErase p) s =
      .next (a.pushTxn {
        purpose := .erase (p.token.toNat % 2 ^ 32) p.tag.toNat,
        steps := journalSteps a.runGen 0 [discardStep a.runGen a.runGen] })) ∧
    (s.Passes cardFactoryWrite p n → exec (.factoryWrite p) s =
      .next ((s.accepted cardFactoryWrite p n []).pushTxn {
        purpose := .factory (p.token.toNat % 2 ^ 32) p.tag.toNat,
        steps := if num p.payload 0 1 = 0 then fixedSteps 19 (slice p.payload 4 6) else fixedSteps 20 (slice p.payload 4 8) })) ∧
    (s.Passes cardImageVerify p n → ∃ a u, a = s.accepted cardImageVerify p n [] ∧ exec (.imageVerify p) s = .next u ∧
      u = { a with nvm := { a.nvm with verify := some (p.token.toNat % 2 ^ 32, p.tag.toNat) } }) ∧
    (s.Passes cardImageActivate p n → num p.payload 0 1 = 0 → exec (.imageActivate p) s =
      .next ((s.accepted cardImageActivate p n []).activate (p.token.toNat % 2 ^ 32) p.tag.toNat (num p.payload 1 1 == 1))) ∧
    (s.Passes cardImageActivate p n → num p.payload 0 1 = 1 → ∃ a u, a = s.accepted cardImageActivate p n [] ∧
      exec (.imageActivateConfirm p) s = .next u ∧ u = { a with
        nvm := { a.nvm with
          hostConfirmed := true
          actionTags := a.nvm.actionTags ++ [(p.token.toNat % 2 ^ 32, p.tag.toNat, 1)] } }) ∧
    (s.Passes cardImageActivate p n → num p.payload 0 1 = 2 → ∃ a u, a = s.accepted cardImageActivate p n [] ∧
      u = { a.nvm with actionTags := a.nvm.actionTags ++ [(p.token.toNat % 2 ^ 32, p.tag.toNat, 2)] } ∧
      exec (.imageActivateAbandon p) s = .next { a with
        nvm := if a.nvm.liveTrial then { u with phase := .handback, handback := some 3 } else u }) ∧
    (s.Passes cardDeviceRestart p n → ∃ a u, a = s.accepted cardDeviceRestart p n [] ∧ exec (.deviceRestart p) s = .next u ∧
      u = if a.nvm.queue.any (·.begun) then
          { a with start := { a.start with restartTag := some (p.token.toNat % 2 ^ 32, p.tag.toNat) } }
        else a.restartSoon (p.token.toNat % 2 ^ 32) p.tag.toNat) ∧
    (s.Passes cardFasciaImage p n → exec (.fasciaImage p) s =
      .next ((s.accepted cardFasciaImage p n []).fasciaPlace (p.token.toNat % 2 ^ 32) p.tag.toNat (num p.payload 0 1) (num p.payload 1 1 == 1)
        (num p.payload 4 4) (slice p.payload 8 20))) ∧
    (s.Passes cardTallyExport p n → ∃ a u, a = s.accepted cardTallyExport p n [] ∧ exec (.tallyExport p) s = .next u ∧
      u = { a with wake := { a.wake with tallyExp := some (p.token.toNat % 2 ^ 32, p.tag.toNat) } }) ∧
    (s.Passes cardSelfTest p n → num p.payload 0 1 = 0 → ∃ a u, a = s.accepted cardSelfTest p n [] ∧
      exec (.selfTestMramScan p) s = .next u ∧
      u = { a with nvm := { a.nvm with scan := some (p.token.toNat % 2 ^ 32, p.tag.toNat) } }) ∧
    (s.Passes cardSelfTest p n → num p.payload 0 1 ≠ 0 → exec (.selfTestScanoutPath p) s =
      .next ((s.accepted cardSelfTest p n []).queueReq (.selfTest (num p.payload 2 2)) (p.token.toNat % 2 ^ 32) p.tag.toNat))

/-- SPI reads and status transactions, resends of events, and the debounced key and seal, do what their rules say and
nothing else (log 3, 30, 157, 166) (R400, R401, R402, R412, R414, R415, R417). The model's own choices here: an event
whose condition does not hold changes nothing but the time (log entry 3); what the device does at that instant goes
first (log entry 30); seal changes before the end of start-up (log entry 157); GW_MISO at high impedance until the
firmware serves (log entry 166). -/
def Obligations.SpiTransactionsAndPresence : Prop :=
  ∀ (s a h : State) (t : Cyc), a = s.at t → h = s.hostAt t →
    (∀ n, h.spiAnswers = false → exec (.spiStatus t n) s =
      .next (h.misoOff)) ∧
    (∀ n, h.spiAnswers = true → exec (.spiStatus t n) s =
      .next ({ h with
        gw := { h.gw with
          miso := ([0xFF, 0xFF, 0xFF, 0xFF] ++
          (le 2 ((h.outbound.head?).getD []).length ++ [byte (min 255 h.outbound.length), 0]) ++
          List.replicate n 0xFF).take (n + 1) } })) ∧
    (∀ n, h.spiAnswers = false → exec (.spiRead t n) s =
      .next (h.misoOff)) ∧
    (∀ n, h.spiAnswers = true → h.outbound = [] → exec (.spiRead t n) s =
      .next ({ h with
        gw := { h.gw with
          miso := ([0xFF, 0xFF, 0xFF, 0xFF] ++ le 2 0 ++
          List.replicate n 0xFF).take (n + 1) } })) ∧
    (∀ n head rest, h.spiAnswers = true → h.outbound = head :: rest → n + 1 < 6 + head.length → exec (.spiRead t n) s =
      .next ({ h with
        gw := { h.gw with
          miso :=
          ([0xFF, 0xFF, 0xFF, 0xFF] ++ le 2 head.length ++ head ++ List.replicate n 0xFF).take (n + 1) } })) ∧
    (∀ n head rest, h.spiAnswers = true → h.gw.spiReplies = head :: rest → head ≠ [] → 6 + head.length ≤ n + 1 → exec (.spiRead t n) s =
      .next (State.irq { h with
        gw := { h.gw with
          spiReplies := rest
          miso := ([0xFF, 0xFF, 0xFF, 0xFF] ++ le 2 head.length ++ head ++ List.replicate n 0xFF).take (n + 1) } })) ∧
    (∀ n head rest, h.spiAnswers = true → h.gw.spiReplies = [] → h.outbound = head :: rest → head ≠ [] → 6 + head.length ≤ n + 1 → exec (.spiRead t n) s =
      .next ((State.modSess { h with
        gw := { h.gw with
          miso := ([0xFF, 0xFF, 0xFF, 0xFF] ++
          le 2 head.length ++ head ++ List.replicate n 0xFF).take (n + 1) } } 15 (fun e => { e with unacked := e.unacked.drop 1 })).irq)) ∧
    (∀ k x r, (a.sess k).unacked = x :: r → a.serving = true → k < 15 → (a.sess k).paired = true → a.get F.UDP_EN = 1 → x.sentAt + msCyc (a.get F.EVENT_RESEND_MS) ≤ a.time.cyc → exec (.eventResend t k) s =
      .next (a.resend k)) ∧
    (∀ k x r, (a.sess k).unacked = x :: r → ¬ (a.serving = true ∧ k < 15 ∧ (a.sess k).paired = true ∧ a.get F.UDP_EN = 1 ∧
      x.sentAt + msCyc (a.get F.EVENT_RESEND_MS) ≤ a.time.cyc) → exec (.eventResend t k) s =
      .next (a)) ∧
    (∀ k, (a.sess k).unacked = [] → exec (.eventResend t k) s =
      .next (a)) ∧
    (∀ b, (a.alive = false ∨ a.gw.key = b) → exec (.keyDebounced t b) s =
      .next (a)) ∧
    (∀ b, a.alive = true → a.gw.key ≠ b → a.serving = false → exec (.keyDebounced t b) s =
      .next ({ a with gw := { a.gw with key := b } })) ∧
    (∀ b, a.alive = true → a.gw.key ≠ b → a.serving = true → exec (.keyDebounced t b) s =
      .next ((State.notify { a with gw := { a.gw with key := b } } 0x01F0
        (State.presenceBytes { a with gw := { a.gw with key := b } })))) ∧
    (∀ b, (a.alive = false ∨ a.gw.sealOpen = b) → exec (.sealDebounced t b) s =
      .next (a)) ∧
    (∀ b, a.alive = true → a.gw.sealOpen ≠ b → a.serving = false → exec (.sealDebounced t b) s =
      .next ({ a with
        gw := { a.gw with
          sealOpen := b
          sealEarly := a.gw.sealEarly ++ [(if a.time.cyc ≤ a.time.releaseCyc + msCyc 20 then 0 else a.ns, b)] } })) ∧
    (∀ b, a.alive = true → a.gw.sealOpen ≠ b → a.serving = true → exec (.sealDebounced t b) s =
      .next (((State.sealChange { a with gw := { a.gw with sealOpen := b } } b a.ns).notify 0x01F0
        (State.presenceBytes { a with gw := { a.gw with sealOpen := b } }))))

/-- A datagram that reaches the ingest goes to scene admission, to the command checks, to the group, or is counted as
another port's (log 3, 30) (R9, R95, R100, R104, R329, R350). The model's own choices here: an event whose condition
does not hold changes nothing but the time (log entry 3); what the device does at that instant goes first (log entry
30). -/
def Obligations.DatagramsAreSortedByPortAndAddress : Prop :=
  ∀ (s a : State) (t : Cyc), a = s.hostAt t →
    (∀ d, (a.serving = false ∨ a.get F.DEV_IP = 0) → exec (.sceneDatagram t d) s =
      .next (a)) ∧
    (∀ d, a.serving = true → a.get F.DEV_IP ≠ 0 → a.traffic d.dstIp d.dstPort = .scene → exec (.sceneDatagram t d) s =
      .next (a.sceneAdmit d)) ∧
    (∀ d, a.serving = true → a.get F.DEV_IP ≠ 0 → a.traffic d.dstIp d.dstPort = .command → exec (.sceneDatagram t d) s =
      .next (a.arrive (cardOf (num d.payload 2 2)) (num d.payload 2 2) (Datagram.packet d t))) ∧
    (∀ d, a.serving = true → a.get F.DEV_IP ≠ 0 → a.traffic d.dstIp d.dstPort = .group → exec (.sceneDatagram t d) s =
      .next (a.groupIn d)) ∧
    (∀ d, a.serving = true → a.get F.DEV_IP ≠ 0 → a.traffic d.dstIp d.dstPort = .other → exec (.sceneDatagram t d) s =
      .next (a.tally T.ING_PORT)) ∧
    (∀ d, (a.serving = true ∧ a.get F.DEV_IP ≠ 0 ∧ a.traffic d.dstIp d.dstPort = .group) → exec (.heartbeatReceived t d) s =
      .next (a.groupIn d)) ∧
    (∀ d, ¬ (a.serving = true ∧ a.get F.DEV_IP ≠ 0 ∧ a.traffic d.dstIp d.dstPort = .group) → exec (.heartbeatReceived t d) s =
      .next (a)) ∧
    (∀ d, (a.serving = true ∧ a.get F.DEV_IP ≠ 0 ∧ a.traffic d.dstIp d.dstPort = .group) → exec (.groupCommitReceived t d) s =
      .next (a.groupIn d)) ∧
    (∀ d, ¬ (a.serving = true ∧ a.get F.DEV_IP ≠ 0 ∧ a.traffic d.dstIp d.dstPort = .group) → exec (.groupCommitReceived t d) s =
      .next (a)) ∧
    (∀ d, (a.serving = true ∧ a.get F.DEV_IP ≠ 0 ∧ a.traffic d.dstIp d.dstPort = .group) → exec (.repairReqReceived t d) s =
      .next (a.groupIn d)) ∧
    (∀ d, ¬ (a.serving = true ∧ a.get F.DEV_IP ≠ 0 ∧ a.traffic d.dstIp d.dstPort = .group) → exec (.repairReqReceived t d) s =
      .next (a)) ∧
    (∀ d, (a.serving = true ∧ a.get F.DEV_IP ≠ 0 ∧ a.traffic d.dstIp d.dstPort = .group) → exec (.repairReceived t d) s =
      .next (a.groupIn d)) ∧
    (∀ d, ¬ (a.serving = true ∧ a.get F.DEV_IP ≠ 0 ∧ a.traffic d.dstIp d.dstPort = .group) → exec (.repairReceived t d) s =
      .next (a)) ∧
    ((a.serving = true) → exec (.sceneChunk t) s =
      .next (a.nextChunk.extraHeartbeat)) ∧
    (¬ (a.serving = true) → exec (.sceneChunk t) s =
      .next (a))

/-- A scene datagram within its class's threshold joins the end of the Quay; over it, it is dropped whole; a malformed one
is counted (log 30, 114) (R72, R100, R104, R105). The model's own choices here: what the device does at that instant
goes first (log entry 30); a datagram too short to name a mooring is judged as one of mooring 0 (log entry 114). -/
def Obligations.SceneDatagramsEnterTheQuay : Prop :=
  ∀ (s a : State) (t : Cyc), a = s.hostAt t →
    (∀ d m, a.serving = true → a.get F.DEV_IP ≠ 0 → a.traffic d.dstIp d.dstPort = .scene → m = num d.payload 6 2 → a.quayUsed + d.ipLen ≤ (7936 - 256 * (if 1023 < m then 3 else a.cutI F.M_PRIORITY m)) * 1024 → (d.ipOptions = false ∧ d.fragment = false ∧ d.badChecksum = false ∧ d.payload.length ≤ 9166) → exec (.sceneDatagram t d) s =
      .next (State.quayPeak { a with
        ingest := { a.ingest with
          quay := a.ingest.quay ++ [{ d := d, offset := 0, port := a.cutv F.SCENE_PORT }] } })) ∧
    (∀ d m, a.serving = true → a.get F.DEV_IP ≠ 0 → a.traffic d.dstIp d.dstPort = .scene → m = num d.payload 6 2 → a.quayUsed + d.ipLen ≤ (7936 - 256 * (if 1023 < m then 3 else a.cutI F.M_PRIORITY m)) * 1024 → (d.ipOptions = true ∨ d.fragment = true ∨ d.badChecksum = true ∨ 9166 < d.payload.length) → exec (.sceneDatagram t d) s =
      .next (a.tally T.LSF_DGRAM_BAD)) ∧
    (∀ d m, a.serving = true → a.get F.DEV_IP ≠ 0 → a.traffic d.dstIp d.dstPort = .scene → m = num d.payload 6 2 → m ≤ 1023 → (7936 - 256 * a.cutI F.M_PRIORITY m) * 1024 < a.quayUsed + d.ipLen → exec (.sceneDatagram t d) s =
      .next ((a.tally T.ING_QUAY_DROP).tally (T.ING_QUAY_DROP_MOORING + m))) ∧
    (∀ d m, a.serving = true → a.get F.DEV_IP ≠ 0 → a.traffic d.dstIp d.dstPort = .scene → m = num d.payload 6 2 → 1023 < m → (7936 - 256 * 3) * 1024 < a.quayUsed + d.ipLen → exec (.sceneDatagram t d) s =
      .next (a.tally T.ING_QUAY_DROP))

/-- A whole group message of another rank of the group is acted on by its type; any other is ignored or counted (log 30,
117) (R104, R350, R352, R355, R357, R359). The model's own choices here: what the device does at that instant goes
first (log entry 30); the lane, OUT_LIMIT and EXACT of a REPAIR (log entry 117). -/
def Obligations.GroupMessagesAreTaken : Prop :=
  ∀ (s a : State) (t : Cyc), a = s.hostAt t →
    (∀ d, a.serving = true → a.get F.DEV_IP ≠ 0 → a.traffic d.dstIp d.dstPort = .group → a.get F.GROUP_EN = 0 → exec (.heartbeatReceived t d) s =
      .next (a)) ∧
    (∀ d, a.serving = true → a.get F.DEV_IP ≠ 0 → a.traffic d.dstIp d.dstPort = .group → a.get F.GROUP_EN = 1 → a.quayTakes .group d.ipLen [] = false → exec (.heartbeatReceived t d) s =
      .next (a.tally T.ING_QUAY_DROP)) ∧
    (∀ d, a.serving = true → a.get F.DEV_IP ≠ 0 → a.traffic d.dstIp d.dstPort = .group → a.get F.GROUP_EN = 1 → a.quayTakes .group d.ipLen [] = true → (groupFramed d = false ∨ groupPayloadOk (num d.payload 3 1) (d.payload.drop 32) = false) → exec (.heartbeatReceived t d) s =
      .next (a.tally T.GRP_BAD)) ∧
    (∀ d, a.serving = true → a.get F.DEV_IP ≠ 0 → a.traffic d.dstIp d.dstPort = .group → a.get F.GROUP_EN = 1 → a.quayTakes .group d.ipLen [] = true → groupFramed d = true → groupPayloadOk (num d.payload 3 1) (d.payload.drop 32) = true → num d.payload 6 1 ≠ a.get F.GROUP_ID → exec (.heartbeatReceived t d) s =
      .next (a)) ∧
    (∀ d, a.serving = true → a.get F.DEV_IP ≠ 0 → a.traffic d.dstIp d.dstPort = .group → a.get F.GROUP_EN = 1 → a.quayTakes .group d.ipLen [] = true → groupFramed d = true → groupPayloadOk (num d.payload 3 1) (d.payload.drop 32) = true → num d.payload 6 1 = a.get F.GROUP_ID → num d.payload 7 1 = a.get F.RANK → d.srcIp ≠ a.get F.DEV_IP → exec (.heartbeatReceived t d) s =
      .next (a.tally T.GRP_RANK_CONFLICT)) ∧
    (∀ d, a.serving = true → a.get F.DEV_IP ≠ 0 → a.traffic d.dstIp d.dstPort = .group → a.get F.GROUP_EN = 1 → a.quayTakes .group d.ipLen [] = true → groupFramed d = true → groupPayloadOk (num d.payload 3 1) (d.payload.drop 32) = true → num d.payload 6 1 = a.get F.GROUP_ID → num d.payload 7 1 = a.get F.RANK → d.srcIp = a.get F.DEV_IP → exec (.heartbeatReceived t d) s =
      .next (a)) ∧
    (∀ d, a.serving = true → a.get F.DEV_IP ≠ 0 → a.traffic d.dstIp d.dstPort = .group → a.get F.GROUP_EN = 0 → exec (.groupCommitReceived t d) s =
      .next (a)) ∧
    (∀ d, a.serving = true → a.get F.DEV_IP ≠ 0 → a.traffic d.dstIp d.dstPort = .group → a.get F.GROUP_EN = 1 → a.quayTakes .group d.ipLen [] = false → exec (.groupCommitReceived t d) s =
      .next (a.tally T.ING_QUAY_DROP)) ∧
    (∀ d, a.serving = true → a.get F.DEV_IP ≠ 0 → a.traffic d.dstIp d.dstPort = .group → a.get F.GROUP_EN = 1 → a.quayTakes .group d.ipLen [] = true → (groupFramed d = false ∨ groupPayloadOk (num d.payload 3 1) (d.payload.drop 32) = false) → exec (.groupCommitReceived t d) s =
      .next (a.tally T.GRP_BAD)) ∧
    (∀ d, a.serving = true → a.get F.DEV_IP ≠ 0 → a.traffic d.dstIp d.dstPort = .group → a.get F.GROUP_EN = 1 → a.quayTakes .group d.ipLen [] = true → groupFramed d = true → groupPayloadOk (num d.payload 3 1) (d.payload.drop 32) = true → num d.payload 6 1 ≠ a.get F.GROUP_ID → exec (.groupCommitReceived t d) s =
      .next (a)) ∧
    (∀ d, a.serving = true → a.get F.DEV_IP ≠ 0 → a.traffic d.dstIp d.dstPort = .group → a.get F.GROUP_EN = 1 → a.quayTakes .group d.ipLen [] = true → groupFramed d = true → groupPayloadOk (num d.payload 3 1) (d.payload.drop 32) = true → num d.payload 6 1 = a.get F.GROUP_ID → num d.payload 7 1 = a.get F.RANK → d.srcIp ≠ a.get F.DEV_IP → exec (.groupCommitReceived t d) s =
      .next (a.tally T.GRP_RANK_CONFLICT)) ∧
    (∀ d, a.serving = true → a.get F.DEV_IP ≠ 0 → a.traffic d.dstIp d.dstPort = .group → a.get F.GROUP_EN = 1 → a.quayTakes .group d.ipLen [] = true → groupFramed d = true → groupPayloadOk (num d.payload 3 1) (d.payload.drop 32) = true → num d.payload 6 1 = a.get F.GROUP_ID → num d.payload 7 1 = a.get F.RANK → d.srcIp = a.get F.DEV_IP → exec (.groupCommitReceived t d) s =
      .next (a)) ∧
    (∀ d, a.serving = true → a.get F.DEV_IP ≠ 0 → a.traffic d.dstIp d.dstPort = .group → a.get F.GROUP_EN = 0 → exec (.repairReqReceived t d) s =
      .next (a)) ∧
    (∀ d, a.serving = true → a.get F.DEV_IP ≠ 0 → a.traffic d.dstIp d.dstPort = .group → a.get F.GROUP_EN = 1 → a.quayTakes .group d.ipLen [] = false → exec (.repairReqReceived t d) s =
      .next (a.tally T.ING_QUAY_DROP)) ∧
    (∀ d, a.serving = true → a.get F.DEV_IP ≠ 0 → a.traffic d.dstIp d.dstPort = .group → a.get F.GROUP_EN = 1 → a.quayTakes .group d.ipLen [] = true → (groupFramed d = false ∨ groupPayloadOk (num d.payload 3 1) (d.payload.drop 32) = false) → exec (.repairReqReceived t d) s =
      .next (a.tally T.GRP_BAD)) ∧
    (∀ d, a.serving = true → a.get F.DEV_IP ≠ 0 → a.traffic d.dstIp d.dstPort = .group → a.get F.GROUP_EN = 1 → a.quayTakes .group d.ipLen [] = true → groupFramed d = true → groupPayloadOk (num d.payload 3 1) (d.payload.drop 32) = true → num d.payload 6 1 ≠ a.get F.GROUP_ID → exec (.repairReqReceived t d) s =
      .next (a)) ∧
    (∀ d, a.serving = true → a.get F.DEV_IP ≠ 0 → a.traffic d.dstIp d.dstPort = .group → a.get F.GROUP_EN = 1 → a.quayTakes .group d.ipLen [] = true → groupFramed d = true → groupPayloadOk (num d.payload 3 1) (d.payload.drop 32) = true → num d.payload 6 1 = a.get F.GROUP_ID → num d.payload 7 1 = a.get F.RANK → d.srcIp ≠ a.get F.DEV_IP → exec (.repairReqReceived t d) s =
      .next (a.tally T.GRP_RANK_CONFLICT)) ∧
    (∀ d, a.serving = true → a.get F.DEV_IP ≠ 0 → a.traffic d.dstIp d.dstPort = .group → a.get F.GROUP_EN = 1 → a.quayTakes .group d.ipLen [] = true → groupFramed d = true → groupPayloadOk (num d.payload 3 1) (d.payload.drop 32) = true → num d.payload 6 1 = a.get F.GROUP_ID → num d.payload 7 1 = a.get F.RANK → d.srcIp = a.get F.DEV_IP → exec (.repairReqReceived t d) s =
      .next (a)) ∧
    (∀ d, a.serving = true → a.get F.DEV_IP ≠ 0 → a.traffic d.dstIp d.dstPort = .group → a.get F.GROUP_EN = 0 → exec (.repairReceived t d) s =
      .next (a)) ∧
    (∀ d, a.serving = true → a.get F.DEV_IP ≠ 0 → a.traffic d.dstIp d.dstPort = .group → a.get F.GROUP_EN = 1 → a.quayTakes .group d.ipLen [] = false → exec (.repairReceived t d) s =
      .next (a.tally T.ING_QUAY_DROP)) ∧
    (∀ d, a.serving = true → a.get F.DEV_IP ≠ 0 → a.traffic d.dstIp d.dstPort = .group → a.get F.GROUP_EN = 1 → a.quayTakes .group d.ipLen [] = true → (groupFramed d = false ∨ groupPayloadOk (num d.payload 3 1) (d.payload.drop 32) = false) → exec (.repairReceived t d) s =
      .next (a.tally T.GRP_BAD)) ∧
    (∀ d, a.serving = true → a.get F.DEV_IP ≠ 0 → a.traffic d.dstIp d.dstPort = .group → a.get F.GROUP_EN = 1 → a.quayTakes .group d.ipLen [] = true → groupFramed d = true → groupPayloadOk (num d.payload 3 1) (d.payload.drop 32) = true → num d.payload 6 1 ≠ a.get F.GROUP_ID → exec (.repairReceived t d) s =
      .next (a)) ∧
    (∀ d, a.serving = true → a.get F.DEV_IP ≠ 0 → a.traffic d.dstIp d.dstPort = .group → a.get F.GROUP_EN = 1 → a.quayTakes .group d.ipLen [] = true → groupFramed d = true → groupPayloadOk (num d.payload 3 1) (d.payload.drop 32) = true → num d.payload 6 1 = a.get F.GROUP_ID → num d.payload 7 1 = a.get F.RANK → d.srcIp ≠ a.get F.DEV_IP → exec (.repairReceived t d) s =
      .next (a.tally T.GRP_RANK_CONFLICT)) ∧
    (∀ d, a.serving = true → a.get F.DEV_IP ≠ 0 → a.traffic d.dstIp d.dstPort = .group → a.get F.GROUP_EN = 1 → a.quayTakes .group d.ipLen [] = true → groupFramed d = true → groupPayloadOk (num d.payload 3 1) (d.payload.drop 32) = true → num d.payload 6 1 = a.get F.GROUP_ID → num d.payload 7 1 = a.get F.RANK → d.srcIp = a.get F.DEV_IP → exec (.repairReceived t d) s =
      .next (a)) ∧
    (∀ d u, a.serving = true → a.get F.DEV_IP ≠ 0 → a.traffic d.dstIp d.dstPort = .group → a.get F.GROUP_EN = 1 → a.quayTakes .group d.ipLen [] = true → groupFramed d = true → groupPayloadOk (num d.payload 3 1) (d.payload.drop 32) = true → num d.payload 6 1 = a.get F.GROUP_ID → num d.payload 7 1 ≠ a.get F.RANK → u = { a with group := { a.group with address := modAt a.group.address (num d.payload 7 1) (fun _ => d.srcIp) } } → num d.payload 3 1 = 1 → exec (.heartbeatReceived t d) s =
      .next (u.heartbeatIn (num d.payload 7 1) (num d.payload 8 4) (d.payload.drop 32))) ∧
    (∀ d u v, a.serving = true → a.get F.DEV_IP ≠ 0 → a.traffic d.dstIp d.dstPort = .group → a.get F.GROUP_EN = 1 → a.quayTakes .group d.ipLen [] = true → groupFramed d = true → groupPayloadOk (num d.payload 3 1) (d.payload.drop 32) = true → num d.payload 6 1 = a.get F.GROUP_ID → num d.payload 7 1 ≠ a.get F.RANK → u = { a with group := { a.group with address := modAt a.group.address (num d.payload 7 1) (fun _ => d.srcIp) } } → num d.payload 3 1 = 2 → v = u.takeEpoch (num d.payload 7 1) (num d.payload 8 4) true false → v.fromLead (num d.payload 7 1) (num d.payload 8 4) = false → exec (.groupCommitReceived t d) s =
      .next (v)) ∧
    (∀ d u v c, a.serving = true → a.get F.DEV_IP ≠ 0 → a.traffic d.dstIp d.dstPort = .group → a.get F.GROUP_EN = 1 → a.quayTakes .group d.ipLen [] = true → groupFramed d = true → groupPayloadOk (num d.payload 3 1) (d.payload.drop 32) = true → num d.payload 6 1 = a.get F.GROUP_ID → num d.payload 7 1 ≠ a.get F.RANK → u = { a with group := { a.group with address := modAt a.group.address (num d.payload 7 1) (fun _ => d.srcIp) } } → num d.payload 3 1 = 2 → v = u.takeEpoch (num d.payload 7 1) (num d.payload 8 4) true false → v.fromLead (num d.payload 7 1) (num d.payload 8 4) = true → c = (num d.payload 12 8 / v.scan.k + 1) * v.scan.k → exec (.groupCommitReceived t d) s =
      .next ((if v.cutNs c < v.ns then v.tally T.GRP_COMMIT_LATE else v).groupCommitted
        (num (d.payload.drop 32) 0 2) (num (d.payload.drop 32) 4 4))) ∧
    (∀ d u v, a.serving = true → a.get F.DEV_IP ≠ 0 → a.traffic d.dstIp d.dstPort = .group → a.get F.GROUP_EN = 1 → a.quayTakes .group d.ipLen [] = true → groupFramed d = true → groupPayloadOk (num d.payload 3 1) (d.payload.drop 32) = true → num d.payload 6 1 = a.get F.GROUP_ID → num d.payload 7 1 ≠ a.get F.RANK → u = { a with group := { a.group with address := modAt a.group.address (num d.payload 7 1) (fun _ => d.srcIp) } } → num d.payload 3 1 = 3 → v = u.takeEpoch (num d.payload 7 1) (num d.payload 8 4) false false → (v.group.lead = false ∨ v.repairable (num (d.payload.drop 32) 0 2) = false) → exec (.repairReqReceived t d) s =
      .next (v)) ∧
    (∀ d u v (rs : List (Nat × Nat)) l, a.serving = true → a.get F.DEV_IP ≠ 0 → a.traffic d.dstIp d.dstPort = .group → a.get F.GROUP_EN = 1 → a.quayTakes .group d.ipLen [] = true → groupFramed d = true → groupPayloadOk (num d.payload 3 1) (d.payload.drop 32) = true → num d.payload 6 1 = a.get F.GROUP_ID → num d.payload 7 1 ≠ a.get F.RANK → u = { a with group := { a.group with address := modAt a.group.address (num d.payload 7 1) (fun _ => d.srcIp) } } → num d.payload 3 1 = 3 → v = u.takeEpoch (num d.payload 7 1) (num d.payload 8 4) false false → v.group.lead = true → v.repairable (num (d.payload.drop 32) 0 2) = true → rs = (List.range (num (d.payload.drop 32) 2 2)).map (fun i => (num (d.payload.drop 32) (4 + 8 * i) 4, num (d.payload.drop 32) (8 + 8 * i) 4)) → l = sortBy (fun x y => decide (dist32 x.seq (v.moor (num (d.payload.drop 32) 0 2)).base <
        dist32 y.seq (v.moor (num (d.payload.drop 32) 0 2)).base))
        ((v.moor (num (d.payload.drop 32) 0 2)).chunks.filter (fun x => x.bytes != [] && decide (x.bytes.length ≤ 9100) &&
          rs.any (fun r => decide (dist32 x.seq r.1 < r.2)))) → exec (.repairReqReceived t d) s =
      .next (State.repairPump { v with
        group := { v.group with
          repairJobs := v.group.repairJobs ++
          (packChunks [] (l.map (·.bytes))).map (fun b => (num d.payload 7 1, d.srcIp, num (d.payload.drop 32) 0 2, b)) } })) ∧
    (∀ d u v n, a.serving = true → a.get F.DEV_IP ≠ 0 → a.traffic d.dstIp d.dstPort = .group → a.get F.GROUP_EN = 1 → a.quayTakes .group d.ipLen [] = true → groupFramed d = true → groupPayloadOk (num d.payload 3 1) (d.payload.drop 32) = true → num d.payload 6 1 = a.get F.GROUP_ID → num d.payload 7 1 ≠ a.get F.RANK → u = { a with group := { a.group with address := modAt a.group.address (num d.payload 7 1) (fun _ => d.srcIp) } } → num d.payload 3 1 = 4 → v = u.takeEpoch (num d.payload 7 1) (num d.payload 8 4) false false → n = num (d.payload.drop 32) 0 2 → v.group.lead = false → v.repairable n = true → exec (.repairReceived t d) s =
      .next ({ v with
        codec := { v.codec with repairs := v.codec.repairs ++ [(v.ingest.order, n, slice (d.payload.drop 32) 4 (num (d.payload.drop 32) 2 2))] }
        ingest := { v.ingest with order := v.ingest.order + 1 } })) ∧
    (∀ d u v, a.serving = true → a.get F.DEV_IP ≠ 0 → a.traffic d.dstIp d.dstPort = .group → a.get F.GROUP_EN = 1 → a.quayTakes .group d.ipLen [] = true → groupFramed d = true → groupPayloadOk (num d.payload 3 1) (d.payload.drop 32) = true → num d.payload 6 1 = a.get F.GROUP_ID → num d.payload 7 1 ≠ a.get F.RANK → u = { a with group := { a.group with address := modAt a.group.address (num d.payload 7 1) (fun _ => d.srcIp) } } → num d.payload 3 1 = 4 → v = u.takeEpoch (num d.payload 7 1) (num d.payload 8 4) false false → (v.group.lead = true ∨ v.repairable (num (d.payload.drop 32) 0 2) = false) → exec (.repairReceived t d) s =
      .next (v))

/-- Spilling, NACKs and repair requests act where their rules say and nowhere else (log 3, 116, 124) (R57, R103, R120,
R121, R359). The model's own choices here: an event whose condition does not hold changes nothing but the time (log
entry 3); NACKs in every state but LIBRARY, with a session (log entry 116); the ingest ceiling as a budget of bytes in
each field period (log entry 124). -/
def Obligations.QuayAndReportEvents : Prop :=
  ∀ (s a : State) (t : Cyc), a = s.at t →
    (a.spillable = [] → exec (.quaySpill t) s =
      .next (a)) ∧
    (∀ e r, a.spillable = e :: r → ¬ (spillAt ≤ a.quayUsed ∧ (a.spillOne e.2.1 e.2.2.1 e.2.2.2.1).spillUsed ≤ spillPool ∧ a.ingestRoom e.2.2.2.2 = true) → exec (.quaySpill t) s =
      .next (a)) ∧
    (∀ e r, a.spillable = e :: r → spillAt ≤ a.quayUsed → (a.spillOne e.2.1 e.2.2.1 e.2.2.2.1).spillUsed ≤ spillPool → a.ingestRoom e.2.2.2.2 = true → exec (.quaySpill t) s =
      .next (((a.spillOne e.2.1 e.2.2.1 e.2.2.2.1).ingestWrote e.2.2.2.2).spill r)) ∧
    (∀ n, (a.reportsOn n = true ∧ (a.moor n).nackPort ≠ 0) → exec (.nackDue t n) s =
      .next (State.reports State.sendNack n 16 (a.tailProbe n))) ∧
    (∀ n, ¬ (a.reportsOn n = true ∧ (a.moor n).nackPort ≠ 0) → exec (.nackDue t n) s =
      .next (a)) ∧
    (∀ n, (a.reportsOn n = true ∧ a.repairable n = true ∧ a.hasLead = true) → exec (.repairReqSend t n) s =
      .next (State.reports State.sendRepairReq n 16 (a.tailProbe n))) ∧
    (∀ n, ¬ (a.reportsOn n = true ∧ a.repairable n = true ∧ a.hasLead = true) → exec (.repairReqSend t n) s =
      .next (a))

/-- Decompression lanes and library reads start, end, suspend, resume and release as their rules say (log 3, 45, 115, 117,
124, 131, 145) (R57, R99, R128, R130, R131, R137, R139, R140, R144, R179). The model's own choices here: an event
whose condition does not hold changes nothing but the time (log entry 3); pieces of 4 KiB (log entry 45); the CRC unit
of a mooring (log entry 115); a REPAIR stream as a job of its mooring's lane (log entry 117); the ingest ceiling as a
budget of bytes (log entry 124); the schedule comes with the command (log entry 131); a read waits in the streamed
profile (log entry 145). -/
def Obligations.LibraryEvents : Prop :=
  ∀ (s a : State) (t : Cyc), a = s.at t →
    (∀ k bad, (a.lanesOn = true ∧ k < 8 ∧ nth a.codec.lanes k none = none) → exec (.decompressionJobStart t ⟨k, bad⟩) s =
      .next ((a.startLane k bad).extraHeartbeat)) ∧
    (∀ k bad, ¬ (a.lanesOn = true ∧ k < 8 ∧ nth a.codec.lanes k none = none) → exec (.decompressionJobStart t ⟨k, bad⟩) s =
      .next (a)) ∧
    (∀ k, (a.lanesOn = false ∨ a.ingestRoom (a.laneWrites k) = false) → exec (.decompressionJobEnd t k) s =
      .next (a)) ∧
    (∀ k, nth a.codec.lanes k none = none → exec (.decompressionJobEnd t k) s =
      .next (a)) ∧
    (∀ k n f c rel x y i raw, a.lanesOn = true → a.ingestRoom (a.laneWrites k) = true → nth a.codec.lanes k none = some (.tile n f c rel x y i raw) → exec (.decompressionJobEnd t k) s =
      .next ((a.endTile k n f c rel x y i raw).extraHeartbeat)) ∧
    (∀ k n, a.lanesOn = true → a.ingestRoom (a.laneWrites k) = true → nth a.codec.lanes k none = some (.segment n) → exec (.decompressionJobEnd t k) s =
      .next (a.endSegment k n)) ∧
    (∀ n, Tab.get? a.codec.libs n = none → exec (.decompressionResume t n) s =
      .next (a)) ∧
    (∀ n l, Tab.get? a.codec.libs n = some l → a.lanesOn = true → (l.repair = true ∨ a.harbour.profile = 1) → l.suspended = true → l.released = l.written → (a.moor n).laneSet = true → nth a.codec.lanes (a.moor n).lane none = none → exec (.decompressionResume t n) s =
      .next ((a.setLib n { l with suspended := false, saved := none }).setLane (a.moor n).lane (some (.segment n)))) ∧
    (∀ n l, Tab.get? a.codec.libs n = some l → ¬ (a.lanesOn = true ∧ (l.repair = true ∨ a.harbour.profile = 1) ∧ l.suspended = true ∧ l.released = l.written ∧ (a.moor n).laneSet = true ∧
      nth a.codec.lanes (a.moor n).lane none = none) → exec (.decompressionResume t n) s =
      .next (a)) ∧
    (∀ n f seg size chans, ¬ (a.lanesOn = true ∧ a.harbour.profile = 1 ∧ a.libMoor n = true ∧ Tab.get? a.codec.libs n = none ∧ a.scheduled n f = true) → exec (.librarySegmentRead t n f ⟨seg, chans⟩ size) s =
      .next (a)) ∧
    (∀ n f seg size chans l u, l = newRead (blank 4096 (fun i => match chans[i]? with | some c => !(a.chan c).serves | none => false) seg) size (a.ingest.order + 1) false → a.lanesOn = true → a.harbour.profile = 1 → a.libMoor n = true → Tab.get? a.codec.libs n = none → a.scheduled n f = true → u = { a with ingest := { a.ingest with order := a.ingest.order + 1 }, harbour := { a.harbour with schedule := Tab.put a.harbour.schedule n f } } → exec (.librarySegmentRead t n f ⟨seg, chans⟩ size) s =
      .next (State.setLib u n l)) ∧
    (∀ n, Tab.get? a.codec.libs n = none → exec (.libraryPieceRelease t n) s =
      .next (a)) ∧
    (∀ n l, Tab.get? a.codec.libs n = some l → (a.lanesOn = false ∨ l.repair = false ∧ a.harbour.profile ≠ 1 ∨
      l.repair = false ∧ l.written ≤ l.released ∧ l.done = false) → exec (.libraryPieceRelease t n) s =
      .next (a)) ∧
    (∀ n l, Tab.get? a.codec.libs n = some l → a.lanesOn = true → l.repair = false → a.harbour.profile = 1 → l.done = true → (l.written ≤ l.released ∨ l.code ≠ Zstd.NONE) → exec (.libraryPieceRelease t n) s =
      .next (a.endLib n)) ∧
    (∀ n l b u rest (crc : Nat × Nat), Tab.get? a.codec.libs n = some l → a.lanesOn = true → l.repair = false → a.harbour.profile = 1 → l.released < l.written → l.done = false → b = l.part ++ (l.output.drop l.released).take (l.written - l.released) → (a.setCrc (libUnit n) l.crc.1 l.crc.2).libraryChunks (libUnit n) (b.length + 1) l.crc b = (u, rest, crc) → exec (.libraryPieceRelease t n) s =
      .next (u.setLib n { l with
        released := l.written, part := rest, crc := crc })) ∧
    (∀ n l b u rest (crc : Nat × Nat), Tab.get? a.codec.libs n = some l → a.lanesOn = true → l.repair = false → a.harbour.profile = 1 → l.released < l.written → l.done = true → l.code = Zstd.NONE → b = l.part ++ (l.output.drop l.released).take (l.written - l.released) → (a.setCrc (libUnit n) l.crc.1 l.crc.2).libraryChunks (libUnit n) (b.length + 1) l.crc b = (u, rest, crc) → exec (.libraryPieceRelease t n) s =
      .next (u.endLib n)) ∧
    (∀ n l b, Tab.get? a.codec.libs n = some l → a.lanesOn = true → l.repair = true → b = l.part ++ (l.output.drop l.released).take (l.written - l.released) → l.done = false → exec (.libraryPieceRelease t n) s =
      .next (a.setLib n { l with
        released := l.written, part := b })) ∧
    (∀ n l b, Tab.get? a.codec.libs n = some l → a.lanesOn = true → l.repair = true → b = l.part ++ (l.output.drop l.released).take (l.written - l.released) → l.done = true → l.code = Zstd.NONE → exec (.libraryPieceRelease t n) s =
      .next (((a.endLib n).repairChunks n (b.length + 1) b).extraHeartbeat)) ∧
    (∀ n l, Tab.get? a.codec.libs n = some l → a.lanesOn = true → l.repair = true → l.done = true → l.code ≠ Zstd.NONE → exec (.libraryPieceRelease t n) s =
      .next (a.endLib n))

/-- Compression lanes finish blocks, are pre-empted, and take library blocks and units of the wake as background work (log
3, 119, 120, 124, 146, 149) (R57, R141, R142, R146, R149, R180, R181, R514). The model's own choices here: an event
whose condition does not hold changes nothing but the time (log entry 3); a failed candidate gives Raw (log entry
119); export and library jobs take C1 (log entry 120); the class ceiling as a budget of bytes (log entry 124); one
codec context for a lane (log entry 146); what the slice gives of lane time (log entry 149). -/
def Obligations.CompressionEvents : Prop :=
  ∀ (s a : State) (t : Cyc), a = s.at t →
    (∀ k bad, a.lanesOn = false → exec (.compressionBlockDone t ⟨k, bad⟩) s =
      .next (a)) ∧
    (∀ k bad, nth a.codec.clanes k [] = [] → exec (.compressionBlockDone t ⟨k, bad⟩) s =
      .next (a)) ∧
    (∀ k bad j r, a.lanesOn = true → nth a.codec.clanes k [] = j :: r → a.destFull j = true → exec (.compressionBlockDone t ⟨k, bad⟩) s =
      .next (a.suspendHead k)) ∧
    (∀ k bad j r, a.lanesOn = true → nth a.codec.clanes k [] = j :: r → a.destFull j = false → a.otherRoom (min 131072 j.rest.length) = false → exec (.compressionBlockDone t ⟨k, bad⟩) s =
      .next (a)) ∧
    (∀ k bad j r i j2 failed last w x y z, a.lanesOn = true → nth a.codec.clanes k [] = j :: r → a.destFull j = false → a.otherRoom (min 131072 j.rest.length) = true → i = blank 64 (bad.filter (· < 2048)).contains j.rest → CJob.step { j with suspended := false, rest := i } = (j2, failed, last) → w = ((a.runHead k).setClane k (j2 :: r)).setCrc 14 j2.crc.1 j2.crc.2 → x = State.otherMoved { w with codec := { w.codec with cIn := modAt w.codec.cIn k (· + (j.rest.length - j2.rest.length)) } } (j.rest.length - j2.rest.length) → y = (if x.inSlice j then x.sliceTaken (j.rest.length - j2.rest.length) else x) → z = (if failed then y.verifyFailed k j.blocks else y) → exec (.compressionBlockDone t ⟨k, bad⟩) s =
      .next (if last then (((z.nextJob k).jobDone j2).unitDone j2).repairPump else z)) ∧
    (∀ k, a.lanesOn = false → exec (.compressionPreempt t k) s =
      .next (a)) ∧
    (∀ k, a.lanesOn = true → a.higherJob (nth a.codec.clanes k []) = none → exec (.compressionPreempt t k) s =
      .next (a)) ∧
    (∀ k x j r, a.lanesOn = true → a.higherJob (nth a.codec.clanes k []) = some x → nth (a.suspendHead k).codec.clanes k [] = j :: r → j.suspended = false → exec (.compressionPreempt t k) s =
      .next (a)) ∧
    (∀ k x j r, a.lanesOn = true → a.higherJob (nth a.codec.clanes k []) = some x → nth (a.suspendHead k).codec.clanes k [] = j :: r → j.suspended = true → exec (.compressionPreempt t k) s =
      .next (((a.suspendHead k).setClane k (x :: j :: r.erase x)).runHead k)) ∧
    (∀ b, (a.lanesOn = true ∧ b.length ≤ 131072 ∧ ¬ (a.wakeWaits = true ∧ a.bgYields 5 4 = true)) → exec (.libraryCompressionUnit t b) s =
      .next (a.queueJob 1 (newJob .library b))) ∧
    (∀ b, ¬ (a.lanesOn = true ∧ b.length ≤ 131072 ∧ ¬ (a.wakeWaits = true ∧ a.bgYields 5 4 = true)) → exec (.libraryCompressionUnit t b) s =
      .next (a)) ∧
    (∀ w l q, w = a.wakeBoundary → l = unitOf 4096 (w.wake.ring.drop w.wake.exported) →
      w.lanesOn = true → w.wake.exportMode = 2 → w.wake.collector.1 ≠ 0 → l ≠ [] → w.unitFree = true →
      q = w.queueJob 1 (newJob (.wake l.length (match l.getLast? with | some r => r.seq | none => 0) w.wake.unit
        w.wake.collector.1 w.wake.collector.2) (l.flatMap recBytes)) →
      exec (.wakeDrainUnit t) s = .next { q with
        wake := { q.wake with unit := (q.wake.unit + 1) % 2 ^ 32 } }) ∧
    (∀ w, w = a.wakeBoundary → ¬ (w.lanesOn = true ∧ w.wake.exportMode = 2 ∧ w.wake.collector.1 ≠ 0 ∧
      unitOf 4096 (w.wake.ring.drop w.wake.exported) ≠ [] ∧ w.unitFree = true) → exec (.wakeDrainUnit t) s = .next w)

/-- Scene cuts, plan completion, field ticks, tide marks and commit latches come once each at their instants (log 3, 34)
(R35, R37, R38, R40, R43, R46, R162, R273, R537). The model's own choices here: an event whose condition does not hold
changes nothing but the time (log entry 3); a cut before t0, and a tick, line, tide mark or latch at or before t0, is
not taken (log entry 34). -/
def Obligations.FieldEvents : Prop :=
  ∀ (s a : State) (t : Cyc), a = s.at t →
    ((a.serving = true ∧ a.ticksOn = true ∧ a.harbour.lastCut ≠ some a.dueCut ∧ ¬ (a.scan.ticked = true ∧ a.dueCut ≤ a.scan.field) ∧
      a.scan.notBefore ≤ a.cutNs a.dueCut) → exec (.sceneCut t) s =
      .next (a.takeCut a.dueCut)) ∧
    (¬ (a.serving = true ∧ a.ticksOn = true ∧ a.harbour.lastCut ≠ some a.dueCut ∧ ¬ (a.scan.ticked = true ∧ a.dueCut ≤ a.scan.field) ∧
      a.scan.notBefore ≤ a.cutNs a.dueCut) → exec (.sceneCut t) s =
      .next (a)) ∧
    ((a.serving = true ∧ a.harbour.next.built = true) → exec (.planComplete t) s =
      .next ({ a with harbour := { a.harbour with next := { a.harbour.next with complete := true } } })) ∧
    (¬ (a.serving = true ∧ a.harbour.next.built = true) → exec (.planComplete t) s =
      .next (a)) ∧
    (∀ n, a.tickDue = some n → exec (.fieldTick t) s =
      .next ((a.takeTick n).drain)) ∧
    (a.tickDue = none → exec (.fieldTick t) s =
      .next (a)) ∧
    ((a.linesRun = true ∧ a.scan.lantern = false ∧ a.scan.changeT0 = none ∧ a.scan.tide ≠ some a.tideNow ∧
      a.scan.notBefore < a.lineNs a.tideNow.1 (32 * a.tideNow.2)) → exec (.tideMark t) s =
      .next (a.takeTide a.tideNow.1 a.tideNow.2)) ∧
    (¬ (a.linesRun = true ∧ a.scan.lantern = false ∧ a.scan.changeT0 = none ∧ a.scan.tide ≠ some a.tideNow ∧
      a.scan.notBefore < a.lineNs a.tideNow.1 (32 * a.tideNow.2)) → exec (.tideMark t) s =
      .next (a)) ∧
    ((a.serving = true ∧ a.ticksOn = true ∧ a.scan.latchField ≠ some a.latchNow ∧ a.scan.notBefore < a.lineNs (a.latchNow - 1) 2048) → exec (.commitLatch t) s =
      .next (a.takeLatch a.latchNow)) ∧
    (¬ (a.serving = true ∧ a.ticksOn = true ∧ a.scan.latchField ≠ some a.latchNow ∧ a.scan.notBefore < a.lineNs (a.latchNow - 1) 2048) → exec (.commitLatch t) s =
      .next (a))

/-- What each instant of a field does, in its order: the scene cut, the end of planning, the field tick, the tide mark,
the commit latch (log 3, 34, 35, 118) (R35, R38, R40, R43, R46, R162, R174, R255, R273, R468, R514). The model's own
choices here: an event whose condition does not hold changes nothing but the time (log entry 3); a cut before t0, and
a tick, tide mark or latch at or before t0, is not taken (log entry 34); the substitute of a late plan (log entry 35);
what a MOORING_RESET keeps (log entry 118). -/
def Obligations.TheFieldComesToItsInstants : Prop :=
  ∀ (s a : State) (t : Cyc), a = s.at t →
    (∀ n b c d e v p, a.serving = true → a.ticksOn = true → n = a.dueCut → a.harbour.lastCut ≠ some n → ¬ (a.scan.ticked = true ∧ n ≤ a.scan.field) →
      a.scan.notBefore ≤ a.cutNs n → b = a.cutConfig n → c = (if b.frameTick n then b.sampleModes n else b).corrHold →
      d = (if c.frameTick n then c.cutScene n else c) → e = (if d.frameTick n ∧ d.scan.changeT0.isNone then d.rejoin n else d) →
      v = e.measureCoefs.promote.fixDrops n → p = v.planFor n →
      exec (.sceneCut t) s = .next (State.extraHeartbeat (State.configured { v with
        harbour := { v.harbour with next := p, cold := v.harbour.cold && !p.built, lastCut := some n } } n))) ∧
    (a.serving = true → a.harbour.next.built = true → ∃ u, exec (.planComplete t) s = .next u ∧ u.harbour.next.complete = true ∧
      u.harbour.next = { a.harbour.next with complete := true } ∧ u = { a with harbour := { a.harbour with next := u.harbour.next } }) ∧
    (∀ n u, a.tickDue = some n → u = { a with
        scan := { a.scan with
          field := n, ticked := true, phi := phiAt a.scan.phi a.scan.phiNext n,
            phiNext := a.scan.phiNext.filter (fun e => decide (n < e.2)) }
        cfg := { a.cfg with tickMem := a.obj 0x1D00 } } → a.serving = false → exec (.fieldTick t) s = .next u.drain) ∧
    (∀ n u v w x, a.tickDue = some n → u = { a with
        scan := { a.scan with
          field := n, ticked := true, phi := phiAt a.scan.phi a.scan.phiNext n,
            phiNext := a.scan.phiNext.filter (fun e => decide (n < e.2)) }
        cfg := { a.cfg with tickMem := a.obj 0x1D00 } } → a.serving = true →
      v = (((u.plansTick n).workTick n).countsTick n).bbCounts → w = (if v.frameTick n then v.groupTick.phiTick n else v).planRec →
      x = { w with obs := { w.obs with snap := w.snapshot, snapTally := w.obs.tallies, snapField := n } } →
      exec (.fieldTick t) s = .next (x.tallyTick.pilotTick n).drain) ∧
    (∀ f k u v w x y, a.linesRun = true → a.scan.lantern = false → a.scan.changeT0 = none → a.tideNow = (f, k) → a.scan.tide ≠ some (f, k) →
      a.scan.notBefore < a.lineNs f (32 * k) → u = { a with scan := { a.scan with tide := some (f, k) } } →
      v = (if k < 64 then (u.enterField f).rowTest f k else u) → w = v.skipTiles f →
      x = (if w.harbour.cur.built then (List.range 16).foldl (fun (z : State) g => z.escalate k g) w else w) →
      y = { x with
        skim := { x.skim with
            stamp := (List.range 16).map (fun c => if x.usedPorts.contains c then (f, 32 * k) else nth x.skim.stamp c (0, 0))
            surfaces := x.skim.surfaces.map (fun (e : Nat × Surface) => (e.1, e.2.prune
              (if k = 0 then x.lineNs (f - 1) 2048 else x.lineNs f (32 * (k - 1))))) } } →
      exec (.tideMark t) s = .next (y.tideReleases k (x.lineNs f (32 * k)))) ∧
    (∀ n u v w, a.serving = true → a.ticksOn = true → n = a.latchNow → a.scan.latchField ≠ some n → a.scan.notBefore < a.lineNs (n - 1) 2048 →
      u = (if a.fieldShown (n - 1) ∧ ¬ a.scan.lantern then a.endFieldCounts n else a) →
      (u.changeDue n = none → v = { u with scan := { u.scan with latchField := some n } }) →
      (∀ c, u.changeDue n = some c → v = u.beginChange c false) → w = (v.latchPlane n 0).latchPlane n 1 →
      exec (.commitLatch t) s = .next (w.schedule n) ∧ (w.schedule n).cfg.latchBl = w.obj 0x1E10)

/-- A trial image becomes ready, is confirmed, misses its deadline or loses its watchdog; the other pilot takes over (log
3, 90, 92) (R446, R448, R449, R450, R451, R522). The model's own choices here: an event whose condition does not hold
changes nothing but the time (log entry 3); the temperature window of firmware records (log entry 90); a watchdog
expiry in an activation puts the slots back and ends it (log entry 92). -/
def Obligations.FirmwareHealthEvents : Prop :=
  ∀ (s a : State) (t : Cyc), a = s.at t →
    ((a.serving = true ∧ a.nvm.phase = .migrating ∧ a.nvm.migrated = true) → exec (.imageReady t) s =
      .next ({ a with nvm := { a.nvm with phase := .ready } })) ∧
    (¬ (a.serving = true ∧ a.nvm.phase = .migrating ∧ a.nvm.migrated = true) → exec (.imageReady t) s =
      .next (a)) ∧
    (∀ d, a.nvm.deadline = some d → a.serving = true → a.inTrial = true → a.nvm.interpreting = true → a.time.cyc < d → a.clearing = false → a.nvm.migrated = true → a.nvm.trialSince + msCyc 10000 ≤ a.time.cyc → (a.nvm.confirmByHost = true → a.nvm.hostConfirmed = true) → a.confirming = false → exec (.healthConfirm t) s =
      .next (a.pushTxn { purpose := .confirm, steps := a.confirmSteps })) ∧
    (∀ d, a.nvm.deadline = some d → ¬ (a.serving = true ∧ a.inTrial = true ∧ a.nvm.interpreting = true ∧ a.time.cyc < d ∧ a.clearing = false ∧ a.nvm.migrated = true ∧
      a.nvm.trialSince + msCyc 10000 ≤ a.time.cyc ∧ (a.nvm.confirmByHost = true → a.nvm.hostConfirmed = true) ∧ a.confirming = false) → exec (.healthConfirm t) s =
      .next (a)) ∧
    (a.nvm.deadline = none → exec (.healthConfirm t) s =
      .next (a)) ∧
    (a.nvm.deadline = none → exec (.healthDeadline t) s =
      .next (a)) ∧
    (∀ d, a.nvm.deadline = some d → (a.serving = false ∨ a.inTrial = false ∨ a.time.cyc < d ∨
      a.nvm.queue.any (fun x => x.purpose == WriteFor.confirm && x.begun) = true) → exec (.healthDeadline t) s =
      .next (a)) ∧
    (∀ d, a.nvm.deadline = some d → a.serving = true → a.inTrial = true → d ≤ a.time.cyc → a.nvm.queue.any (fun x => x.purpose == WriteFor.confirm && x.begun) = false → a.nvm.liveTrial = true → exec (.healthDeadline t) s =
      .next ({ a with
        nvm := { a.nvm with
          queue := a.nvm.queue.filter (fun x => x.purpose != WriteFor.confirm), phase := .handback, handback := some 2 } })) ∧
    (∀ d, a.nvm.deadline = some d → a.serving = true → a.inTrial = true → d ≤ a.time.cyc → a.nvm.queue.any (fun x => x.purpose == WriteFor.confirm && x.begun) = false → a.nvm.liveTrial = false → exec (.healthDeadline t) s =
      .next (State.trialBootEnds { a with nvm := { a.nvm with queue := a.nvm.queue.filter (fun x => x.purpose != WriteFor.confirm) } })) ∧
    ((a.serving = false ∨ a.nvm.interpreting = false) → exec (.pilotWatchdogExpiry t) s =
      .next (a)) ∧
    (a.serving = true → a.nvm.interpreting = true → (a.inTrial = true ∨ a.nvm.phase = .handback) → a.nvm.liveTrial = true → exec (.pilotWatchdogExpiry t) s =
      .next ({ a.pilotStops with
        nvm := { a.pilotStops.nvm with
          phase := .handback, handback := some 4, handbackAt := some a.pilotStops.scan.field } })) ∧
    (a.serving = true → a.nvm.interpreting = true → (a.inTrial = true ∨ a.nvm.phase = .handback) → a.nvm.liveTrial = false → exec (.pilotWatchdogExpiry t) s =
      .next (a.pilotStops.trialBootEnds)) ∧
    (a.serving = true → a.nvm.interpreting = true → a.inTrial = false → a.nvm.phase = .none → exec (.pilotWatchdogExpiry t) s =
      .next (State.tally { a.pilotStops with nvm := { a.pilotStops.nvm with takeover := true } } T.FW_PILOT_RESTART)) ∧
    (∀ u, a.serving = true → a.nvm.interpreting = true → a.inTrial = false → a.nvm.phase ≠ .handback → a.nvm.phase ≠ .none → u = (a.pilotStops.slotsBack .valid).endActivation → exec (.pilotWatchdogExpiry t) s =
      .next (State.tally { u with nvm := { u.nvm with takeover := true } } T.FW_PILOT_RESTART)) ∧
    ((a.serving = true ∧ a.nvm.takeover = true) → exec (.pilotTakeover t) s =
      .next (a.takeoverDone.drain)) ∧
    (¬ (a.serving = true ∧ a.nvm.takeover = true) → exec (.pilotTakeover t) s =
      .next (a))

/-- The checks of IMAGE_VERIFY and the MRAM self-test end with their final events and the slot states they find (log 3,
91) (R411, R444, R536). The model's own choices here: an event whose condition does not hold changes nothing but the
time (log entry 3); slots and trials (log entry 91). -/
def Obligations.VerificationAndScanEnd : Prop :=
  ∀ (s a : State) (t : Cyc), a = s.at t →
    (a.nvm.verify = none → exec (.imageVerifyDone t) s =
      .next (a)) ∧
    (∀ o g k u, a.nvm.verify = some (o, g) → k = a.otherSlot → (a.slot k).state ≠ .trial → (a.slot k).state ≠ .fallback → u = State.setSlot { a with nvm := { a.nvm with verify := none } } k (if a.checkSlot k = SlotCheck.ok then .valid else .invalid) → exec (.imageVerifyDone t) s =
      .next (u.finalEvent o g 0x0B02
        (match a.checkSlot k with
          | .ok => Status.OK
          | .fault => Status.CHECK_FAILED
          | .rollback => Status.ROLLBACK_REFUSED)
        (le 4 (u.fwVersion k) ++ le 4 (u.secVersion k) ++ [byte (u.writeGen k), byte (b2n (u.migratable k)), 0, 0]))) ∧
    (∀ o g k u, a.nvm.verify = some (o, g) → k = a.otherSlot → ((a.slot k).state = .trial ∨ (a.slot k).state = .fallback) → u = { a with nvm := { a.nvm with verify := none } } → exec (.imageVerifyDone t) s =
      .next (u.finalEvent o g 0x0B02
        (match a.checkSlot k with
          | .ok => Status.OK
          | .fault => Status.CHECK_FAILED
          | .rollback => Status.ROLLBACK_REFUSED)
        (le 4 (u.fwVersion k) ++ le 4 (u.secVersion k) ++ [byte (u.writeGen k), byte (b2n (u.migratable k)), 0, 0]))) ∧
    (a.nvm.scan = none → exec (.mramScanDone t) s =
      .next (a)) ∧
    (∀ o g bad, a.nvm.scan = some (o, g) → bad = (a.checkSlot a.nvm.runSlot != SlotCheck.ok) → exec (.mramScanDone t) s =
      .next ((State.tallyRecords { a with nvm := { a.nvm with scan := none } } (journal a.mram)).finalEvent o g 0x0F01
        (if bad then Status.CHECK_FAILED else Status.OK)
        ([byte (b2n bad), 0, 0, 0] ++ le 8 0 ++
          le 4 (a.mram.slotA.state.code + 8 * a.mram.slotB.state.code + 65536 * satN (failedCopies (journal a.mram)) 16))))

/-- Lines start once each, the overlay FIFOs fill and underrun, and backlight zones rise and fall at their scheduled
instants (log 3, 66) (R274, R279, R281, R466, R467, R537). The model's own choices here: an event whose condition does
not hold changes nothing but the time (log entry 3); underruns within a line (log entry 66). -/
def Obligations.LineEvents : Prop :=
  ∀ (s a : State) (t : Cyc), a = s.at t →
    ((a.linesRun = true ∧ a.scan.line ≠ some a.lineNow ∧ a.scan.notBefore < a.lineNs a.lineNow.1 a.lineNow.2) → exec (.lineStart t) s =
      .next (a.beginLine a.lineNow.1 a.lineNow.2)) ∧
    (¬ (a.linesRun = true ∧ a.scan.line ≠ some a.lineNow ∧ a.scan.notBefore < a.lineNs a.lineNow.1 a.lineNow.2) → exec (.lineStart t) s =
      .next (a)) ∧
    ((a.linesRun = true ∧ a.scan.lantern = false ∧ 2064 ≤ a.lineNow.2) → exec (.overlayPrefetchStart t) s =
      .next (State.reportSlack { a with
        scan := { a.scan with
          sectors := a.scan.sectors.map (fun x => { x with fifoRows := [0, 0], ovBad := [[], []] }) } })) ∧
    (¬ (a.linesRun = true ∧ a.scan.lantern = false ∧ 2064 ≤ a.lineNow.2) → exec (.overlayPrefetchStart t) s =
      .next (a)) ∧
    (∀ k pl row bad, ¬ (a.linesRun = true ∧ a.scan.lantern = false ∧ pl < 2 ∧ (a.surf (nth a.scan.planes pl {}).surface).isSome = true) → exec (.overlayFetchReturn t k pl ⟨row, bad⟩) s =
      .next (a)) ∧
    (∀ k pl row bad u, a.linesRun = true → a.scan.lantern = false → pl < 2 → (a.surf (nth a.scan.planes pl {}).surface).isSome = true → u = (a.starved k pl).modSector k (fun x => { x with
        fifoRows := modAt x.fifoRows pl (fun r => max r (row + 1)), ovBad := modAt x.ovBad pl (· ++ bad) }) → exec (.overlayFetchReturn t k pl ⟨row, bad⟩) s =
      .next ((if row = u.lineNow.2 then u.renewLine k else u).reportSlack)) ∧
    (∀ k pl, a.starves k pl = false → exec (.overlayUnderrun t k pl) s =
      .next (a)) ∧
    (∀ k pl, a.starves k pl = true → exec (.overlayUnderrun t k pl) s =
      .next (a.underrun a.lineNow.1 k (1 + pl) a.lineNow.2)) ∧
    (∀ z, a.scan.sched.find? (fun e => e.1 == z) = none → exec (.backlightZoneRise t z) s =
      .next (a)) ∧
    (∀ z y n r f c, a.scan.sched.find? (fun e => e.1 == z) = some (y, n, r, f, c) → ¬ (r ≤ a.ns ∧ a.ticksOn = true) → exec (.backlightZoneRise t z) s =
      .next (a)) ∧
    (∀ z y n r f c, a.scan.sched.find? (fun e => e.1 == z) = some (y, n, r, f, c) → r ≤ a.ns → a.ticksOn = true → exec (.backlightZoneRise t z) s =
      .next ({ a with
        scan := { a.scan with
          zones := modAt a.scan.zones z (fun _ => true), blGrp := c,
          zoneFall := a.scan.zoneFall.filter (fun e => e.1 != z) ++ [(z, f)],
          sched := a.scan.sched.filter (fun e => e != (y, n, r, f, c)) } })) ∧
    (∀ z, a.scan.zoneFall.find? (fun e => e.1 == z) = none → exec (.backlightZoneFall t z) s =
      .next (a)) ∧
    (∀ z y f, a.scan.zoneFall.find? (fun e => e.1 == z) = some (y, f) → a.ns < f → exec (.backlightZoneFall t z) s =
      .next (a)) ∧
    (∀ z y f, a.scan.zoneFall.find? (fun e => e.1 == z) = some (y, f) → f ≤ a.ns → exec (.backlightZoneFall t z) s =
      .next ({ a with
        scan := { a.scan with
          zones := modAt a.scan.zones z (fun _ => false), zoneFall := a.scan.zoneFall.filter (fun e => e.1 != z) } }))

/-- TE edges are captured and give TE_PHASE, a field without an edge is missing its TE, and blanking windows and test
requests are served (log 3, 56, 65, 139) (R185, R187, R286, R348). The model's own choices here: an event whose
condition does not hold changes nothing but the time (log entry 3); requests for windows (log entry 56); the TE FIFO
of a port is emptied at the end of its window (log entry 65); every port is judged (log entry 139). -/
def Obligations.TearingEffectAndWindows : Prop :=
  ∀ (s a : State) (t : Cyc), a = s.at t →
    (∀ k, (a.serving = false ∨ 16 ≤ k) → exec (.teEdge t k) s =
      .next (a)) ∧
    (∀ k u, a.serving = true → k < 16 → u = (if fifoRoom (nth a.time.te k []) then
        { a with time := { a.time with te := modAt a.time.te k (fun l => l ++ [a.capture false]) } }
        else State.captureLost { a with time := { a.time with teLost := modAt a.time.teLost k (· + 1) } }) → (u.ticksOn = false ∨ u.teFieldNow = none) → exec (.teEdge t k) s =
      .next (u)) ∧
    (∀ k u n, a.serving = true → k < 16 → u = (if fifoRoom (nth a.time.te k []) then
        { a with time := { a.time with te := modAt a.time.te k (fun l => l ++ [a.capture false]) } }
        else State.captureLost { a with time := { a.time with teLost := modAt a.time.teLost k (· + 1) } }) → u.ticksOn = true → u.teFieldNow = some n → (u.sector k).teField = some n → exec (.teEdge t k) s =
      .next (u)) ∧
    (∀ k u n, a.serving = true → k < 16 → u = (if fifoRoom (nth a.time.te k []) then
        { a with time := { a.time with te := modAt a.time.te k (fun l => l ++ [a.capture false]) } }
        else State.captureLost { a with time := { a.time with teLost := modAt a.time.teLost k (· + 1) } }) → u.ticksOn = true → u.teFieldNow = some n → (u.sector k).teField ≠ some n → exec (.teEdge t k) s =
      .next (u.modSector k (fun x => { x with
        teField := some n, teValid := true, tePhase := (u.ns : Int) - u.teExpected n }))) ∧
    (∀ k, [a.lineNow.1, a.lineNow.1 - 1].find? (fun f => decide (a.teExpected f + fdiv a.fieldPeriod 2 ≤ a.ns)) = none → exec (.teWindowEnd t k) s =
      .next (a)) ∧
    (∀ k f, [a.lineNow.1, a.lineNow.1 - 1].find? (fun f => decide (a.teExpected f + fdiv a.fieldPeriod 2 ≤ a.ns)) = some f → (a.serving = false ∨ a.ticksOn = false ∨ 16 ≤ k ∨ (a.sector k).teJudged = some f) → exec (.teWindowEnd t k) s =
      .next (a)) ∧
    (∀ k f u, [a.lineNow.1, a.lineNow.1 - 1].find? (fun f => decide (a.teExpected f + fdiv a.fieldPeriod 2 ≤ a.ns)) = some f → a.serving = true → a.ticksOn = true → k < 16 → (a.sector k).teJudged ≠ some f → u = State.modSector { a with time := { a.time with te := modAt a.time.te k (fun _ => []) } } k (fun x => { x with teJudged := some f }) → exec (.teWindowEnd t k) s =
      .next (if (u.sector k).teField = some f then u
        else (u.modSector k (fun x => { x with teValid := false, teMissing := true })).tally T.SCN_TE_MISSING)) ∧
    (∀ k n, a.windowField k = some n → exec (.blankingWindow t k) s =
      .next (a.serveWindow n k)) ∧
    (∀ k, a.windowField k = none → exec (.blankingWindow t k) s =
      .next (a)) ∧
    (exec (.testRequestTimeout t) s =
      .next (a.reqTimeouts))

/-- Tiles start in a free slot of their gang, finish into the ring and the replay store, and lines arrive in the gang
caches (log 3, 52, 59, 80) (R44, R45, R163, R164, R172, R235, R237, R238). The model's own choices here: an event
whose condition does not hold changes nothing but the time (log entry 3); when clocks and demand lines are counted
(log entry 52); lines read again in the next field (log entry 59); a line of a failed channel is zeros and is not
tallied (log entry 80). -/
def Obligations.TrowelEvents : Prop :=
  ∀ (s a : State) (t : Cyc), a = s.at t →
    (∀ g, (a.gang g).queue = [] → exec (.tileStart t g) s =
      .next (a)) ∧
    (∀ g f pos rest, (a.gang g).queue = (f, pos) :: rest → (a.planOf f).tiles[pos]? = none → exec (.tileStart t g) s =
      .next (a)) ∧
    (∀ g f pos rest tp, (a.gang g).queue = (f, pos) :: rest → (a.planOf f).tiles[pos]? = some tp → (a.trowelsOn = false ∨ 2 ≤ (a.gang g).running.length ∨
      (a.gang g).running.all (fun r => r.1 == f) = false ∨ a.slotFree f tp.row = false) → exec (.tileStart t g) s =
      .next (a)) ∧
    (∀ g f pos rest tp u, (a.gang g).queue = (f, pos) :: rest → (a.planOf f).tiles[pos]? = some tp → a.trowelsOn = true → (a.gang g).running.length < 2 → (a.gang g).running.all (fun r => r.1 == f) = true → a.slotFree f tp.row = true → u = a.modGang g (fun q => { q with queue := rest, running := q.running ++ [(f, pos, a.time.cyc)] }) → exec (.tileStart t g) s =
      .next (if tp.handling = .replayed ∧ ((u.copyOf tp.sector tp.row tp.col).any (fun c => c.counts (u.planOf f) (u.tickNs f) tp.pos)) = false
        then (u.tally T.HM_REPLAY_MISSING).modTile f pos (fun q => { q with handling := .rendered }) else u)) ∧
    (∀ g bad, ((a.gang g).running = [] ∨ a.trowelsOn = false) → exec (.tileFinish t ⟨g, bad⟩) s =
      .next (a)) ∧
    (∀ g bad f pos st rest, (a.gang g).running = (f, pos, st) :: rest → (a.planOf f).tiles[pos]? = none → exec (.tileFinish t ⟨g, bad⟩) s =
      .next (a)) ∧
    (∀ g bad f pos st rest tp, (a.gang g).running = (f, pos, st) :: rest → (a.planOf f).tiles[pos]? = some tp → (tp.handling ≠ .replayed ∨ a.copyOf tp.sector tp.row tp.col = none) → a.linesCome g f st (a.planOf f) tp = false → exec (.tileFinish t ⟨g, bad⟩) s =
      .next (a)) ∧
    (∀ g bad f pos st rest tp u c, a.trowelsOn = true → (a.gang g).running = (f, pos, st) :: rest → (a.planOf f).tiles[pos]? = some tp → tp.handling = .replayed → a.copyOf tp.sector tp.row tp.col = some c → u = a.modGang g (fun q => { q with
          running := rest, lastEnd := a.time.cyc, done := if a.harbour.cur.field = f then q.done ++ [pos] else q.done }) → exec (.tileFinish t ⟨g, bad⟩) s =
      .next (((u.putRing f tp.sector tp.row tp.col ((List.zip (List.range c.words.length)
        (u.copyWords tp.sector tp.row tp.col c.words)).map (fun e => if bad.contains (e.1 / 16) then 0 else e.2))).countTile f g {
        replayed := 1, clocks := 3 * (a.time.cyc - max st (a.gang g).lastEnd) }).dramMoved 16384)) ∧
    (∀ g bad f pos st rest tp u r v, a.trowelsOn = true → (a.gang g).running = (f, pos, st) :: rest → (a.planOf f).tiles[pos]? = some tp → (tp.handling ≠ .replayed ∨ a.copyOf tp.sector tp.row tp.col = none) → a.linesCome g f st (a.planOf f) tp = true → u = a.modGang g (fun q => { q with
          running := rest, lastEnd := a.time.cyc, done := if a.harbour.cur.field = f then q.done ++ [pos] else q.done }) → r = ((a.planOf f).job tp ((a.gang g).badLines f)).render → v = (((u.putRing f tp.sector tp.row tp.col r.1).countTile f g
        (r.2.add { clocks := 3 * (a.time.cyc - max st (a.gang g).lastEnd) })).measure (a.planOf f) tp r.2.samples) → exec (.tileFinish t ⟨g, bad⟩) s =
      .next (if tp.handling = .stored then v.putCopy (a.planOf f) tp r.1 else v)) ∧
    (∀ g m k rel col row line bad tile listed wanted p ch, tile = ((m, k, rel, col, row) : CTile) → listed = a.listedIn g tile line →
      wanted = (if listed then none else a.wantedIn g tile line) → p = a.planOf (wanted.getD a.harbour.cur.field) →
      ch = a.chan (p.ctileChan tile) →
      (a.trowelsOn = false ∨ (rcoatOf p.scenes m k).isNone = true ∨ (listed = false ∧ wanted = none) ∨ ch.sweep.isSome = true) →
      exec (.cacheLineFill t g m k rel col row line bad) s = .next a) ∧
    (∀ g m k rel col row line bad tile listed wanted p ch q, tile = ((m, k, rel, col, row) : CTile) → listed = a.listedIn g tile line →
      wanted = (if listed then none else a.wantedIn g tile line) → p = a.planOf (wanted.getD a.harbour.cur.field) →
      ch = a.chan (p.ctileChan tile) →
      a.trowelsOn = true → (rcoatOf p.scenes m k).isNone = false → (listed = true ∨ wanted.isSome = true) → ch.sweep.isSome = false →
      q = ((a.gang g).take a.time.cyc (wanted.getD a.harbour.cur.field) (a.gangFuture g) (p.tag tile line) (bad || ch.fails)).settleList
        a.harbour.cur.field a.harbour.cur.lineGen →
      exec (.cacheLineFill t g m k rel col row line bad) s =
      .next (((a.modGang g (fun _ => q)).dramMoved 64).countTile (wanted.getD a.harbour.cur.field) g {
        miss := b2n wanted.isSome, ecc := b2n (bad && !ch.fails) }))

/-- Skim pieces start, entries, bollards and clearings complete, and the check of a correction map ends (log 3, 60, 124,
128, 167) (R57, R202, R203, R245, R251, R254, R256, R258, R260). The model's own choices here: an event whose
condition does not hold changes nothing but the time (log entry 3); Skim entries (log entry 60); the Skim ceiling as
the time since the entry began (log entry 124); the entry in progress at a stop (log entry 128); the stamp before any
tide mark (log entry 167). -/
def Obligations.SkimAndCorrectionEvents : Prop :=
  ∀ (s a : State) (t : Cyc), a = s.at t →
    ((a.skimOn = false ∨ a.skim.running = true ∨ a.skim.queue = []) → exec (.skimPieceStart t) s =
      .next (a)) ∧
    (∀ i k f c o g rest, a.skimOn = true → a.skim.running = false → a.skim.queue = .list i k f c o g :: rest → exec (.skimPieceStart t) s =
      .next (State.reachEntry { a with skim := { a.skim with running := true } } f)) ∧
    (∀ i o g rest, a.skimOn = true → a.skim.running = false → a.skim.queue = .clear i o g :: rest → exec (.skimPieceStart t) s =
      .next ({ a with skim := { a.skim with running := true, index := 0, began := a.ns, begunCyc := a.time.cyc } })) ∧
    (∀ bad, (a.skim.queue = [] ∨ (a.skimOn = false ∧ (a.serving = false ∨ a.skim.stopping = false)) ∨ a.skim.running = false) → exec (.skimEntryDone t bad) s =
      .next (a)) ∧
    (∀ bad i k f c o g rest, a.skim.queue = .list i k f c o g :: rest → ((a.entry i a.skim.index).op = 5 ∨ a.surf (a.entry i a.skim.index).dst = none ∨ a.skimPaced (a.entryBytes (a.entry i a.skim.index)) = false) → exec (.skimEntryDone t bad) s =
      .next (a)) ∧
    (∀ bad i o g rest, a.skim.queue = .clear i o g :: rest → exec (.skimEntryDone t bad) s =
      .next (a)) ∧
    (∀ bad i k f c o g rest e d bs u v, a.skim.queue = .list i k f c o g :: rest → (a.skimOn = true ∨ (a.serving = true ∧ a.skim.stopping = true)) → a.skim.running = true → e = a.entry i a.skim.index → e.op ≠ 5 → a.surf e.dst = some d → a.skimPaced (a.entryBytes e) = true → bs = bad.filter (fun x => (a.entryUnits e).1.contains x) → u = ((a.setSurf e.dst (a.surfLanded (a.drawn e bs (d.keep a.skim.began (some (a.ns : Int)) none (e.unitOrder d))))).skimCount
        ((a.entryUnits e).1.length + (a.entryUnits e).2)).tally T.SKIM_ENTRIES → v = (if bs = [] then u else State.tallyBy { u with skim := { u.skim with eccSeen := true } } T.SKIM_ECC_LINE bs.length) → exec (.skimEntryDone t bad) s =
      .next (if a.skim.stopping then v.listStops e.names else v.reachEntry (a.skim.index + 1))) ∧
    ((a.skim.queue = [] ∨ a.skimOn = false ∨ a.skim.running = false) → exec (.bollardComplete t) s =
      .next (a)) ∧
    (∀ i o g rest, a.skim.queue = .clear i o g :: rest → exec (.bollardComplete t) s =
      .next (a)) ∧
    (∀ i k f c o g rest, a.skim.queue = .list i k f c o g :: rest → ((a.entry i a.skim.index).op ≠ 5 ∨ (a.skim.waiting.isSome = true ∧ a.skim.released = false)) → exec (.bollardComplete t) s =
      .next (a)) ∧
    (∀ i k f c o g rest u v, a.skim.queue = .list i k f c o g :: rest → a.skimOn = true → a.skim.running = true → (a.entry i a.skim.index).op = 5 → (a.skim.waiting.isSome = true → a.skim.released = true) → u = a.tally T.SKIM_ENTRIES → v = (if (a.entry i a.skim.index).notifies then u.sideEvent o g 0x0605 (u.skimBytes i 0 u.skim.index k) else u) → exec (.bollardComplete t) s =
      .next (v.reachEntry (a.skim.index + 1))) ∧
    ((a.skim.queue = [] ∨ a.skimOn = false ∨ a.skim.running = false) → exec (.surfaceClearDone t) s =
      .next (a)) ∧
    (∀ i k f c o g rest, a.skim.queue = .list i k f c o g :: rest → exec (.surfaceClearDone t) s =
      .next (a)) ∧
    (∀ i o g rest, a.skim.queue = .clear i o g :: rest → a.surf i = none → exec (.surfaceClearDone t) s =
      .next (a)) ∧
    (∀ i o g rest f, a.skim.queue = .clear i o g :: rest → a.surf i = some f → a.skimPaced (surfaceBytes f.format f.width f.height) = false → exec (.surfaceClearDone t) s =
      .next (a)) ∧
    (∀ i o g rest f, a.skim.queue = .clear i o g :: rest → a.skimOn = true → a.skim.running = true → a.surf i = some f → a.skimPaced (surfaceBytes f.format f.width f.height) = true → exec (.surfaceClearDone t) s =
      .next ((((a.setSurf i { f with clearing := false, bytes := [], older := [] }).skimCount
        (surfaceBytes f.format f.width f.height / 64)).pieceGone).finalEvent o g 0x0601 Status.OK [])) ∧
    (a.optics.commit = none → exec (.corrMapCheckDone t) s =
      .next (a)) ∧
    ((a.serving = false ∨ a.optics.passed.isSome = true) → exec (.corrMapCheckDone t) s =
      .next (a)) ∧
    (∀ o g z h, a.optics.commit = some (o, g, z, h) → a.serving = true → a.optics.passed = none → (commitCheck (blank 64 a.optics.lost.contains (a.stagingBytes z)) z h).isSome = true → exec (.corrMapCheckDone t) s =
      .next ({ a with optics := { a.optics with passed := some a.ns } })) ∧
    (∀ o g z h, a.optics.commit = some (o, g, z, h) → a.serving = true → a.optics.passed = none → commitCheck (blank 64 a.optics.lost.contains (a.stagingBytes z)) z h = none → exec (.corrMapCheckDone t) s =
      .next (State.finalEvent { a with optics := { a.optics with commit := none, checkFailed := true } } o g 0x0542 Status.CHECK_FAILED []))

/-- HPD, training phases and preset requests bring a panel port up and down as R301 to R308 say, and nothing else (log 3,
132) (R301, R302, R303, R306, R308, R320). The model's own choices here: an event whose condition does not hold
changes nothing but the time (log entry 3); when a phase may end (log entry 132). -/
def Obligations.PanelLinkEvents : Prop :=
  ∀ (s a : State) (t : Cyc), a = s.at t →
    (∀ k, (a.alive = false ∨ 16 ≤ k) → exec (.hpdHigh t k) s =
      .next (a)) ∧
    (∀ k u, a.alive = true → k < 16 → u = a.modPort k (fun x => { x with hpd := true }) → (u.port k).state = 1 → exec (.hpdHigh t k) s =
      .next (if (a.port k).hpd then u else u.startTraining k false)) ∧
    (∀ k u tr, a.alive = true → k < 16 → u = a.modPort k (fun x => { x with hpd := true }) → (u.port k).state = 2 → (u.port k).training = some tr → exec (.hpdHigh t k) s =
      .next (if tr.phase = .hpd then u.enterPhase k .caps else u)) ∧
    (∀ k u, a.alive = true → k < 16 → u = a.modPort k (fun x => { x with hpd := true }) → (u.port k).state ≠ 1 → ((u.port k).state = 2 → (u.port k).training = none) → exec (.hpdHigh t k) s =
      .next (u)) ∧
    (∀ k, (a.alive = true ∧ k < 16) → exec (.hpdUnplug t k) s =
      .next (a.unplug k)) ∧
    (∀ k, ¬ (a.alive = true ∧ k < 16) → exec (.hpdUnplug t k) s =
      .next (a)) ∧
    (∀ k st, (a.port k).state = 1 → exec (.irqHpd t k st) s =
      .next (a.startTraining k false)) ∧
    (∀ k st, (a.port k).state = 3 → exec (.irqHpd t k st) s =
      .next (a.checkLanes k st)) ∧
    (∀ k st x, (a.port k).state = 4 → (a.port k).test = some x → exec (.irqHpd t k st) s =
      .next (if x.back = 3 then a.modPort k (fun q => { q with test := some { x with irq := true } }) else a)) ∧
    (∀ k st, (a.port k).state ≠ 1 → (a.port k).state ≠ 3 → ((a.port k).state = 4 → (a.port k).test = none) → exec (.irqHpd t k st) s =
      .next (a)) ∧
    (∀ k, (a.port k).training = none → exec (.trainingPhaseDone t k) s =
      .next (a)) ∧
    (∀ k tr, (a.port k).training = some tr → (tr.pstart + msCyc (phaseLimit tr.phase).1 ≤ a.time.cyc ∨ (a.port k).phaseOk tr = false) → exec (.trainingPhaseDone t k) s =
      .next (a)) ∧
    (∀ k tr, (a.port k).training = some tr → a.time.cyc < tr.pstart + msCyc (phaseLimit tr.phase).1 → tr.phase = .hpd → (a.port k).hpd = true → exec (.trainingPhaseDone t k) s =
      .next (a.enterPhase k .caps)) ∧
    (∀ k tr q, (a.port k).training = some tr → a.time.cyc < tr.pstart + msCyc (phaseLimit tr.phase).1 → tr.phase = .caps → tr.caps.any tr.servedBy = true → q = fieldOf tr.cfg 0 0 4 → exec (.trainingPhaseDone t k) s =
      .next ((a.modPort k (fun x => { x with presets := [q, q, q, q] })).enterPhase k .laneEq)) ∧
    (∀ k tr, (a.port k).training = some tr → a.time.cyc < tr.pstart + msCyc (phaseLimit tr.phase).1 → tr.phase = .laneEq → tr.status.any (·.eqDone) = true → exec (.trainingPhaseDone t k) s =
      .next (a.enterPhase k .cds)) ∧
    (∀ k tr, (a.port k).training = some tr → a.time.cyc < tr.pstart + msCyc (phaseLimit tr.phase).1 → tr.phase = .cds → tr.status.any (·.cdsDone) = true → exec (.trainingPhaseDone t k) s =
      .next (a.portActive k tr)) ∧
    (∀ k, (a.port k).training = none → exec (.trainingPhaseTimeout t k) s =
      .next (a)) ∧
    (∀ k tr, (a.port k).training = some tr → a.time.cyc < tr.pstart + msCyc (phaseLimit tr.phase).1 → exec (.trainingPhaseTimeout t k) s =
      .next (a)) ∧
    (∀ k tr, (a.port k).training = some tr → tr.pstart + msCyc (phaseLimit tr.phase).1 ≤ a.time.cyc → exec (.trainingPhaseTimeout t k) s =
      .next (a.portAbsent k (phaseLimit tr.phase).2 (usBetween tr.pstart a.time.cyc))) ∧
    (∀ k st, (a.port k).training = none → exec (.laneEqPoll t k st) s =
      .next (a)) ∧
    (∀ k st tr, (a.port k).training = some tr → tr.phase ≠ .laneEq → tr.phase ≠ .cds → exec (.laneEqPoll t k st) s =
      .next (a)) ∧
    (∀ k st tr, (a.port k).training = some tr → tr.polled ≠ 0 → a.time.cyc < tr.polled + usCyc (max 400 ((tr.caps.map (·.pollUs)).getD 0)) → exec (.laneEqPoll t k st) s =
      .next (a)) ∧
    (∀ k st tr, (a.port k).training = some tr → (tr.phase = .laneEq ∨ tr.phase = .cds) → (tr.polled = 0 ∨ tr.polled + usCyc (max 400 ((tr.caps.map (·.pollUs)).getD 0)) ≤ a.time.cyc) → exec (.laneEqPoll t k st) s =
      .next (a.modPort k (fun x => { x with
        training := some { tr with status := some st, polled := a.time.cyc }
        presets := if tr.phase = .laneEq then (List.range 4).map (fun j => nth st.presets j (nth (a.port k).presets j 0) % 16)
          else x.presets })))

/-- AUX answers and silences are retried up to their limits, and link and backbone tests end with their final events (log
3, 133, 154) (R303, R304, R307, R311, R313, R319, R325, R411). The model's own choices here: an event whose condition
does not hold changes nothing but the time (log entry 3); what a checker counts (log entry 133); the lane-status read
after a test counts toward R307 (log entry 154). -/
def Obligations.AuxRetriesAndTestEnds : Prop :=
  ∀ (s a : State) (t : Cyc), a = s.at t →
    (∀ k, exec (.auxReply t k .ack) s =
      .next (a.modPort k (fun x => { x with noReply := 0, defers := 0 }))) ∧
    (∀ k c, exec (.auxReply t k (.caps c)) s =
      .next (a.modPort k (fun x => { x with
        noReply := 0, defers := 0, training := x.training.map (fun tr => if tr.phase = .caps then { tr with caps := some c } else tr) }))) ∧
    (∀ k, exec (.auxReply t k .nack) s =
      .next ((a.modPort k (fun x => { x with noReply := 0, defers := 0 })).auxFailed k)) ∧
    (∀ k, (a.port k).defers < 7 → exec (.auxReply t k .defer) s =
      .next (a.modPort k (fun x => { x with defers := x.defers + 1 }))) ∧
    (∀ k, 7 ≤ (a.port k).defers → exec (.auxReply t k .defer) s =
      .next ((a.modPort k (fun x => { x with noReply := 0, defers := 0 })).auxFailed k)) ∧
    (∀ k, (a.port k).noReply < 3 → exec (.auxTimeout t k) s =
      .next (a.modPort k (fun x => { x with noReply := x.noReply + 1 }))) ∧
    (∀ k, 3 ≤ (a.port k).noReply → exec (.auxTimeout t k) s =
      .next ((a.modPort k (fun x => { x with noReply := 0, defers := 0 })).auxFailed k)) ∧
    (∀ k st, a.recalPort k = false → exec (.linkRecalUnit t k st) s =
      .next (a)) ∧
    (∀ k, a.recalPort k = true → exec (.linkRecalUnit t k none) s =
      .next ((a.auxReadFailed k).bgDid 3)) ∧
    (∀ k x, a.recalPort k = true → exec (.linkRecalUnit t k (some x)) s =
      .next ((a.recal k x).bgDid 3)) ∧
    (∀ k errs sink rd st, (a.port k).test = none → exec (.linkTestEnd t k errs sink rd st) s =
      .next (a)) ∧
    (∀ k errs sink rd st x f u, (a.port k).test = some x → f = x.figures a.testLanes errs sink rd → u = (a.modPort k (fun q => { q with state := x.back, test := none, sinkPattern := none })).finalEvent x.slot x.tag 0x0703 Status.OK
        (testPayload f.2.2.2.2 x.field f.1 f.2.2.1 f.2.1 f.2.2.2.1) → exec (.linkTestEnd t k errs sink rd st) s =
      .next (if x.back = 3 then u.checkLanes k st else u)) ∧
    (∀ b errs, (a.bbp b).test = none → exec (.bbTestEnd t b errs) s =
      .next (a)) ∧
    (∀ b errs x, (a.bbp b).test = some x → bit x.dir 1 = false → exec (.bbTestEnd t b errs) s =
      .next (((a.modBb b (fun q => { q with link := 0, test := none, prbsErr := 0 })).unlearn b).finalEvent x.slot x.tag 0x0705 Status.OK (le 8 0 ++ le 4 0))) ∧
    (∀ b errs x, (a.bbp b).test = some x → bit x.dir 1 = true → exec (.bbTestEnd t b errs) s =
      .next (((a.modBb b (fun q => { q with link := 0, test := none, prbsErr := satN errs 32 })).unlearn b).finalEvent x.slot x.tag 0x0705 Status.OK
        (le 8 (x.duration * bbBits (a.bbGbps b) - 64) ++ le 4 (satN errs 32))))

/-- Backbone ports come up and go down, and their low-power idle and adaptation states change as R315 to R318 say (log 3,
69, 155) (R315, R316, R317, R318). The model's own choices here: an event whose condition does not hold changes
nothing but the time (log entry 3); port corners (log entry 69); EEE settings changed while idle (log entry 155). -/
def Obligations.BackbonePortEvents : Prop :=
  ∀ (s a : State) (t : Cyc), a = s.at t →
    (∀ b, (a.bridgeOn = true ∧ b < 2 ∧ a.bbEnabled b = true ∧ (a.bbp b).link = 0) → exec (.bbPortUp t b) s =
      .next (State.exportsOut (State.pump (a.modBb b (fun x => { x with
        link := 1, frozen := false, dataBlocks := 0, emptyAt := a.time.cyc, txLpi := false, rxLpi := false }))))) ∧
    (∀ b, ¬ (a.bridgeOn = true ∧ b < 2 ∧ a.bbEnabled b = true ∧ (a.bbp b).link = 0) → exec (.bbPortUp t b) s =
      .next (a)) ∧
    (∀ b, exec (.bbPortDown t b) s =
      .next (a.bbDown b)) ∧
    (∀ b, (a.bbUp b = true) → exec (.adaptFreeze t b) s =
      .next (a.freeze b)) ∧
    (∀ b, ¬ (a.bbUp b = true) → exec (.adaptFreeze t b) s =
      .next (a)) ∧
    (∀ b, (a.bbUp b = true ∧ (a.bbp b).rxLpi = false) → exec (.adaptResume t b) s =
      .next (a.modBb b (fun x => { x with frozen := false, dataBlocks := 0 }))) ∧
    (∀ b, ¬ (a.bbUp b = true ∧ (a.bbp b).rxLpi = false) → exec (.adaptResume t b) s =
      .next (a)) ∧
    (∀ b, (a.bbUp b = true) → exec (.receiveQuietStart t b) s =
      .next ((a.modBb b (fun x => { x with rxLpi := true, rxOff := a.getI F.BB_EEE_RX b == 1 })).freeze b)) ∧
    (∀ b, ¬ (a.bbUp b = true) → exec (.receiveQuietStart t b) s =
      .next (a)) ∧
    (∀ b, ((a.bbp b).rxLpi = true) → exec (.receiveQuietEnd t b) s =
      .next (a.modBb b (fun x => { x with rxLpi := false, rxOff := false, dataBlocks := 0 }))) ∧
    (∀ b, ¬ ((a.bbp b).rxLpi = true) → exec (.receiveQuietEnd t b) s =
      .next (a)) ∧
    (∀ b, (a.bbUp b = true ∧ a.getI F.BB_EEE_TX b = 1 ∧ (a.queues b).all (·.isEmpty) = true ∧
      (a.bbp b).emptyAt + usCyc (a.getI F.BB_LPI_ENTRY b) ≤ a.time.cyc ∧
      a.gateSoon b (Config.wakeNs (a.bbGbps b) + a.getI F.BB_LPI_ENTRY b * 1000) = false) → exec (.lpiEntry t b) s =
      .next (a.modBb b (fun x => { x with txLpi := true }))) ∧
    (∀ b, ¬ (a.bbUp b = true ∧ a.getI F.BB_EEE_TX b = 1 ∧ (a.queues b).all (·.isEmpty) = true ∧
      (a.bbp b).emptyAt + usCyc (a.getI F.BB_LPI_ENTRY b) ≤ a.time.cyc ∧
      a.gateSoon b (Config.wakeNs (a.bbGbps b) + a.getI F.BB_LPI_ENTRY b * 1000) = false) → exec (.lpiEntry t b) s =
      .next (a)) ∧
    (∀ b, ((a.bbp b).txLpi = true ∧ ((a.queues b).all (·.isEmpty) = false ∨ a.gateSoon b (Config.wakeNs (a.bbGbps b)) = true)) → exec (.lpiWake t b) s =
      .next (a.modBb b (fun x => { x with
        txLpi := false, txWakeAt := a.time.cyc + cdiv (Config.wakeNs (a.bbGbps b) * 2) 5, emptyAt := a.time.cyc }))) ∧
    (∀ b, ¬ ((a.bbp b).txLpi = true ∧ ((a.queues b).all (·.isEmpty) = false ∨ a.gateSoon b (Config.wakeNs (a.bbGbps b)) = true)) → exec (.lpiWake t b) s =
      .next (a))

/-- Frames at a line port are discarded, filtered or passed on by R323 and R324, and queues, gates and addresses move as
the bridge rules say (log 3, 152) (R322, R323, R324, R325, R327, R329, R330, R331). The model's own choices here: an
event whose condition does not hold changes nothing but the time (log entry 3); when frames of the device reach the
queues (log entry 152). -/
def Obligations.BridgeEvents : Prop :=
  ∀ (s a : State) (t : Cyc), a = s.at t →
    (∀ b f, (a.bridgeOn = false ∨ 2 ≤ b ∨ a.bbUp b = false ∨ f.length < 64) → exec (.linePortFrame t b f) s =
      .next (a)) ∧
    (∀ b f, a.bridgeOn = true → b < 2 → a.bbUp b = true → 64 ≤ f.length → (9216 < f.length ∨ 2 ≤ f.tags ∨ a.storedBad b f = true) → exec (.linePortFrame t b f) s =
      .next (a.tally T.BRG_DISCARD)) ∧
    (∀ b f, a.bridgeOn = true → b < 2 → a.bbUp b = true → 64 ≤ f.length → f.length ≤ 9216 → f.tags < 2 → a.storedBad b f = false → a.vidMember (a.vidOf f) = false → exec (.linePortFrame t b f) s =
      .next (a.tally T.BRG_VLAN_DROP)) ∧
    (∀ b f, a.bridgeOn = true → b < 2 → a.bbUp b = true → 64 ≤ f.length → f.length ≤ 9216 → f.tags < 2 → a.storedBad b f = false → a.vidMember (a.vidOf f) = true → f.etherType.toNat = 0x88F7 → (isPdelay f.payload = true ∨ (isGroup f.dst = false ∧ a.get F.LEARN = 1 ∧ a.learnedPort f.dst = some b)) → exec (.linePortFrame t b f) s =
      .next (a)) ∧
    (∀ b f, a.bridgeOn = true → b < 2 → a.bbUp b = true → 64 ≤ f.length → f.length ≤ 9216 → f.tags < 2 → a.storedBad b f = false → a.vidMember (a.vidOf f) = true → f.etherType.toNat = 0x88F7 → isPdelay f.payload = false → ¬ (isGroup f.dst = false ∧ a.get F.LEARN = 1 ∧ a.learnedPort f.dst = some b) → exec (.linePortFrame t b f) s =
      .next ((a.learn f.src b).forward b f)) ∧
    (∀ b f, a.bridgeOn = true → b < 2 → a.bbUp b = true → 64 ≤ f.length → f.length ≤ 9216 → f.tags < 2 → a.storedBad b f = false → a.vidMember (a.vidOf f) = true → f.etherType.toNat ≠ 0x88F7 → isLinkLocal f.dst = true → exec (.linePortFrame t b f) s =
      .next (a)) ∧
    (∀ b f, a.bridgeOn = true → b < 2 → a.bbUp b = true → 64 ≤ f.length → f.length ≤ 9216 → f.tags < 2 → a.storedBad b f = false → a.vidMember (a.vidOf f) = true → f.etherType.toNat ≠ 0x88F7 → isLinkLocal f.dst = false → exec (.linePortFrame t b f) s =
      .next (a.classify b f)) ∧
    (∀ b, (a.bridgeOn = false ∨ 2 ≤ b ∨ a.txIdle b = false ∨ a.eligible b = none) → exec (.egressTransmit t b) s =
      .next (a)) ∧
    (∀ b c q u, a.bridgeOn = true → b < 2 → a.txIdle b = true → a.eligible b = some (c, q) → u = { a with bridge := { a.bridge with egress := modAt a.bridge.egress b (fun l => modAt l c (fun x => x.drop 1)) } } → exec (.egressTransmit t b) s =
      .next ((((u.transmit b q).pump).noteEmpty b).exportsOut)) ∧
    (∀ b, (a.serving = false ∨ 2 ≤ b) → exec (.gateEntryChange t b) s =
      .next (a)) ∧
    (∀ b g e, a.serving = true → b < 2 → g = (nth a.bridge.gates b {}).promote a.ns → e = (if fieldOf g.words 0 0 1 = 1 ∧ gateBase g.words ≤ a.ns then (gateAt g.words a.ns).1 else 0) → exec (.gateEntryChange t b) s =
      .next ({ a with bridge := { a.bridge with gates := modAt a.bridge.gates b (fun _ => { g with entry := e }) } })) ∧
    (exec (.addressAgeOut t) s =
      .next ({ a with
        bridge := { a.bridge with
          learned := a.bridge.learned.filter (fun e => decide (a.time.cyc < e.2.2 + msCyc 300000)),
          arp := a.bridge.arp.filter (fun e => decide (a.time.cyc < e.2.2 + msCyc 300000)) } }))

/-- Sync, Announce and peer-delay messages move their domain or port and nothing else, and silent domains are lost (log 3)
(R334, R336, R337, R344, R345). The model's own choices here: an event whose condition does not hold changes nothing
but the time (log entry 3). -/
def Obligations.TimeMessages : Prop :=
  ∀ (s a : State) (t : Cyc), a = s.at t →
    (∀ b m, a.domainOf m.domain = none → exec (.syncReceived t b m) s =
      .next (a)) ∧
    (∀ b m k, a.domainOf m.domain = some k → (a.serving = false ∨ a.bbUp b = false ∨ (a.time.domain k).ann = [] ∨ (a.time.domain k).port ≠ b) → exec (.syncReceived t b m) s =
      .next (a)) ∧
    (∀ b m k, a.domainOf m.domain = some k → a.serving = true → a.bbUp b = true → (a.time.domain k).ann ≠ [] → (a.time.domain k).port = b → m.followUp = false → m.twoStep = false → exec (.syncReceived t b m) s =
      .next (a.syncD k b m.originNs a.time.cyc m.intervalNs m.correction)) ∧
    (∀ b m k, a.domainOf m.domain = some k → a.serving = true → a.bbUp b = true → (a.time.domain k).ann ≠ [] → (a.time.domain k).port = b → m.followUp = false → m.twoStep = true → exec (.syncReceived t b m) s =
      .next (a.modDomain k (fun x => { x with pendingTwo := some (m.sequenceId, m.sourcePort, a.time.cyc) }))) ∧
    (∀ b m k c, a.domainOf m.domain = some k → a.serving = true → a.bbUp b = true → (a.time.domain k).ann ≠ [] → (a.time.domain k).port = b → m.followUp = true → (a.time.domain k).pendingTwo = some (m.sequenceId, m.sourcePort, c) → exec (.syncReceived t b m) s =
      .next (a.syncD k b m.originNs c m.intervalNs m.correction)) ∧
    (∀ b m k, a.domainOf m.domain = some k → m.followUp = true → (∀ c, (a.time.domain k).pendingTwo ≠ some (m.sequenceId, m.sourcePort, c)) → exec (.syncReceived t b m) s =
      .next (a)) ∧
    (∀ b m, (a.domainOf m.domain = none ∨ a.serving = false ∨ a.bbUp b = false) → exec (.announceReceived t b m) s =
      .next (a)) ∧
    (∀ b m k, a.domainOf m.domain = some k → a.serving = true → a.bbUp b = true → exec (.announceReceived t b m) s =
      .next (a.announce k b m)) ∧
    (∀ b, ¬ (a.serving = true ∧ b < 2 ∧ a.bbUp b = true ∧ nth a.time.pdelayAt b 0 + msCyc 1000 ≤ a.time.cyc) → exec (.pdelayReqSend t b) s =
      .next (a)) ∧
    (∀ b u, a.serving = true → b < 2 → a.bbUp b = true → nth a.time.pdelayAt b 0 + msCyc 1000 ≤ a.time.cyc → u = { a with
        time := { a.time with
            pdelayAt := modAt a.time.pdelayAt b (fun _ => a.time.cyc),
            pdelaySeq := modAt a.time.pdelaySeq b (fun _ => (nth a.time.pdelaySeq b 0 + 1) % 2 ^ 16),
            pdelay := modAt a.time.pdelay b (fun _ => none) } } → exec (.pdelayReqSend t b) s =
      .next (u.sendPort b (u.ptpFrame (u.pdelayHead b 2 (nth a.time.pdelaySeq b 0) 0 ++ zeros 20)))) ∧
    (∀ b q r, ¬ (a.serving = true ∧ b < 2 ∧ a.bbUp b = true) → exec (.pdelayReqReceived t b q r) s =
      .next (a)) ∧
    (∀ b q r f, a.serving = true → b < 2 → a.bbUp b = true → f = a.ptpFrame (a.pdelayHead b 3 q 0 ++ zeros 10 ++ be 10 r) → exec (.pdelayReqReceived t b q r) s =
      .next (State.pump { a with ingest := { a.ingest with portq := a.ingest.portq ++ [(b, f, some (a.time.clk - a.ingressLat b, 0))] } })) ∧
    (∀ (b q t2 t3 ratio : Nat), nth a.time.pdelay b none = none → exec (.pdelayRespReceived t b q t2 t3 ratio) s =
      .next (a)) ∧
    (∀ (b q t2 t3 ratio : Nat) q1 t1, nth a.time.pdelay b none = some (q1, t1) → (a.serving = false ∨ q1 ≠ q) → exec (.pdelayRespReceived t b q t2 t3 ratio) s =
      .next (a)) ∧
    (∀ (b q t2 t3 ratio : Nat) t1 v, nth a.time.pdelay b none = some (q, t1) → a.serving = true → v = asr (asr ((((a.time.clk : Int) - a.ingressLat b) - t1) * ratio) 31 - ((t3 : Int) - t2)) 1 → exec (.pdelayRespReceived t b q t2 t3 ratio) s =
      .next ({ a with
        time := { a.time with
          pdelay := modAt a.time.pdelay b (fun _ => none),
          linkDelay := modAt a.time.linkDelay b (fun l => (l ++ [v]).drop ((l.length + 1) - 8)) } })) ∧
    (exec (.followUpTimeout t) s =
      .next (State.tallyBy { a with
        time := { a.time with
          twoStep := a.time.twoStep.filter (fun e => decide (a.ns < e.2.2.2.2 + 10000000)) } } T.TIME_FU_UNMATCHED
        (a.time.twoStep.filter (fun e => decide (e.2.2.2.2 + 10000000 ≤ a.ns))).length)) ∧
    (∀ k, (a.serving = true ∧ k < 2 ∧ (a.time.domain k).tracking ≠ 0 ∧ (a.time.domain k).syncInt ≠ 0 ∧
      (a.time.domain k).lastSync + nsCyc (8 * (a.time.domain k).syncInt) ≤ a.time.cyc) → exec (.syncTimeout t k) s =
      .next (a.loseDomain k 1)) ∧
    (∀ k, ¬ (a.serving = true ∧ k < 2 ∧ (a.time.domain k).tracking ≠ 0 ∧ (a.time.domain k).syncInt ≠ 0 ∧
      (a.time.domain k).lastSync + nsCyc (8 * (a.time.domain k).syncInt) ≤ a.time.cyc) → exec (.syncTimeout t k) s =
      .next (a)) ∧
    (∀ k, (a.serving = true ∧ k < 2 ∧ (a.time.domain k).tracking ≠ 0 ∧ (a.time.domain k).annInt ≠ 0 ∧
      (a.time.domain k).lastAnn + nsCyc (3 * (a.time.domain k).annInt) ≤ a.time.cyc) → exec (.announceTimeout t k) s =
      .next ((a.loseDomain k 0).modDomain k (fun x => { x with ann := [], gmKnown := false }))) ∧
    (∀ k, ¬ (a.serving = true ∧ k < 2 ∧ (a.time.domain k).tracking ≠ 0 ∧ (a.time.domain k).annInt ≠ 0 ∧
      (a.time.domain k).lastAnn + nsCyc (3 * (a.time.domain k).annInt) ≤ a.time.cyc) → exec (.announceTimeout t k) s =
      .next (a))

/-- The clock switches, ends its slew, carries and times out; triggers rise and fall; event pins are captured (log 3, 150,
156) (R333, R339, R341, R342, R346, R348, R358). The model's own choices here: an event whose condition does not hold
changes nothing but the time (log entry 3); past instants move with a setting of the clock (log entry 150); INCR of a
slewing clock within 500 ppm (log entry 156). -/
def Obligations.ClockAndTriggerEvents : Prop :=
  ∀ (s a : State) (t : Cyc), a = s.at t →
    (a.time.switchTo = none → exec (.switchInstant t) s =
      .next (a)) ∧
    (∀ k z, a.time.switchTo = some (k, z) → ¬ (a.serving = true ∧ (a.time.state = .holdover ∨ a.time.state = .free ∨ a.time.state = .test) ∧ z ≤ (a.time.domain k).ns) → exec (.switchInstant t) s =
      .next (a)) ∧
    (∀ k z, a.time.switchTo = some (k, z) → a.serving = true → (a.time.state = .holdover ∨ a.time.state = .free ∨ a.time.state = .test) → z ≤ (a.time.domain k).ns → a.tracks k = true → exec (.switchInstant t) s =
      .next (a.switchNow k z)) ∧
    (∀ k z u, a.time.switchTo = some (k, z) → a.serving = true → (a.time.state = .holdover ∨ a.time.state = .free ∨ a.time.state = .test) → z ≤ (a.time.domain k).ns → a.tracks k = false → u = { a with time := { a.time with switchTo := none } } → exec (.switchInstant t) s =
      .next (if u.hasLead then u.tally T.TIME_SWITCH_HELD else u.elect)) ∧
    (∀ k z d x, a.time.switchTo = some (k, z) → a.serving = true →
      (a.time.state = .holdover ∨ a.time.state = .free ∨ a.time.state = .test) → z ≤ (a.time.domain k).ns → a.tracks k = true →
      d = a.time.domain k → x = (a.ns : Int) - d.ns → 1000000000 < x.natAbs →
      ∃ u, exec (.switchInstant t) s = .next u ∧ u.time.clk = d.d ∧ u.time.incr = d.dIncr ∧ u.time.selected = k ∧
        u.time.carryFmt = true ∧ u.time.state = .recovery ∧ u.time.fault = true ∧ u.time.toNormal = true ∧
        u.time.lockAtCarry = true ∧ u.time.switchTo = none ∧ u.scan.zones = List.replicate 16 false ∧ u.scan.sched = [] ∧
        (∀ g ∈ u.time.trigs, g.level = false) ∧ u.cfg = a.cfg ∧ u.bridge.gates = a.bridge.gates) ∧
    (∀ k z d x, a.time.switchTo = some (k, z) → a.serving = true →
      (a.time.state = .holdover ∨ a.time.state = .free ∨ a.time.state = .test) → z ≤ (a.time.domain k).ns → a.tracks k = true →
      d = a.time.domain k → x = (a.ns : Int) - d.ns → x.natAbs ≤ 1000000000 → x ≠ 0 →
      ∃ u, exec (.switchInstant t) s = .next u ∧ u.time.state = .slewing ∧ u.time.clk = slewClk d.d x z ∧ u.time.delta = x ∧
        u.time.slewS = z ∧ u.time.selected = k ∧ u.time.switched = true ∧ u.time.switchTo = none) ∧
    (∀ k z d x, a.time.switchTo = some (k, z) → a.serving = true →
      (a.time.state = .holdover ∨ a.time.state = .free ∨ a.time.state = .test) → z ≤ (a.time.domain k).ns → a.tracks k = true →
      d = a.time.domain k → x = (a.ns : Int) - d.ns → x = 0 →
      ∃ u, exec (.switchInstant t) s = .next u ∧ u.time.state = .locked ∧ u.time.clk = d.d ∧ u.time.incr = d.dIncr ∧
        u.time.selected = k ∧ u.time.switched = true ∧ u.time.switchTo = none) ∧
    (¬ (a.time.state = .slewing ∧ a.slewRemain = 0) → exec (.slewEnd t) s =
      .next (a)) ∧
    (∀ d, a.time.state = .slewing → a.slewRemain = 0 → d = a.time.domain a.time.selected → exec (.slewEnd t) s =
      .next (State.setClock { a with time := { a.time with clk := d.d, incr := d.dIncr, delta := 0 } } .locked)) ∧
    ((a.serving = true ∧ a.time.carryFmt = true ∧ a.time.toNormal = true ∧ a.time.pendSec < a.sec) → exec (.clockCarry t) s =
      .next (a.carry)) ∧
    (¬ (a.serving = true ∧ a.time.carryFmt = true ∧ a.time.toNormal = true ∧ a.time.pendSec < a.sec) → exec (.clockCarry t) s =
      .next (a)) ∧
    ((a.serving = true ∧ a.time.acquireOn = true ∧ a.time.acquireAt + msCyc (a.get F.ACQUIRE_TIMEOUT_MS) ≤ a.time.cyc) → exec (.acquireTimeout t) s =
      .next (State.awaitCarry { a with time := { a.time with acquireOn := false } } false)) ∧
    (¬ (a.serving = true ∧ a.time.acquireOn = true ∧ a.time.acquireAt + msCyc (a.get F.ACQUIRE_TIMEOUT_MS) ≤ a.time.cyc) → exec (.acquireTimeout t) s =
      .next (a)) ∧
    (∀ k g u, g = (nth a.time.trigs k {}).promote a.ns → u = { a with time := { a.time with trigs := modAt a.time.trigs k (fun _ => g) } } → u.trigEdge g.words = none → exec (.trigRise t k) s =
      .next (u)) ∧
    (∀ k g u e, g = (nth a.time.trigs k {}).promote a.ns → u = { a with time := { a.time with trigs := modAt a.time.trigs k (fun _ => g) } } → u.trigEdge g.words = some e → u.trigsOn = true → (∀ x, g.lastEdge = some x → x < e) → 0 ≤ e → e ≤ u.ns → exec (.trigRise t k) s =
      .next ({ u with
        time := { u.time with
          trigs := modAt u.time.trigs k (fun _ => { g with
              level := true, lastEdge := some e, fallAt := e.toNat + fieldOf g.words 2 0 32 }) } })) ∧
    (∀ k g u e, g = (nth a.time.trigs k {}).promote a.ns → u = { a with time := { a.time with trigs := modAt a.time.trigs k (fun _ => g) } } → u.trigEdge g.words = some e → ¬ (u.trigsOn = true ∧ (∀ x, g.lastEdge = some x → x < e) ∧ 0 ≤ e ∧ e ≤ u.ns) → exec (.trigRise t k) s =
      .next (u)) ∧
    (∀ k, ((nth a.time.trigs k {}).level = true ∧ (nth a.time.trigs k {}).fallAt ≤ a.ns) → exec (.trigFall t k) s =
      .next ({ a with time := { a.time with trigs := modAt a.time.trigs k (fun g => { g with level := false }) } })) ∧
    (∀ k, ¬ ((nth a.time.trigs k {}).level = true ∧ (nth a.time.trigs k {}).fallAt ≤ a.ns) → exec (.trigFall t k) s =
      .next (a)) ∧
    (∀ k f, ¬ (a.serving = true ∧ k < 4 ∧ bit (a.get F.EVT_EN) k = true ∧ bit (a.get F.EVT_FALLING) k = f) → exec (.evtCapture t k f) s =
      .next (a)) ∧
    (∀ k f u, a.serving = true → k < 4 → bit (a.get F.EVT_EN) k = true → bit (a.get F.EVT_FALLING) k = f → u = (if fifoRoom (nth a.time.evt k []) then
        { a with time := { a.time with evt := modAt a.time.evt k (fun l => l ++ [a.capture f]) } }
        else State.captureLost { a with time := { a.time with evtLost := modAt a.time.evtLost k (· + 1) } }) → exec (.evtCapture t k f) s =
      .next (if u.get F.CAPTURE_EVENTS = 1 then u.sendCaptures k else u))

/-- A rank is dead, the group is joined, and the lead commits for its shared moorings (log 3, 79) (R352, R353, R356). The
model's own choices here: an event whose condition does not hold changes nothing but the time (log entry 3); when the
lead commits (log entry 79). -/
def Obligations.GroupEvents : Prop :=
  ∀ (s a : State) (t : Cyc), a = s.at t →
    (∀ r, (a.get F.GROUP_EN = 1 ∧ r < 8 ∧ 8 ≤ nth a.group.miss r 0) → exec (.rankDead t r) s =
      .next ({ a with group := { a.group with ready := a.group.ready.filter (fun x => x.rank != r) } })) ∧
    (∀ r, ¬ (a.get F.GROUP_EN = 1 ∧ r < 8 ∧ 8 ≤ nth a.group.miss r 0) → exec (.rankDead t r) s =
      .next (a)) ∧
    ((a.serving = true ∧ a.get F.GROUP_EN = 1 ∧ a.group.joined = false ∧ (a.group.leadRank.isSome = true ∨ 8 ≤ a.group.listened)) → exec (.groupJoined t) s =
      .next ({ a with group := { a.group with joined := true } })) ∧
    (¬ (a.serving = true ∧ a.get F.GROUP_EN = 1 ∧ a.group.joined = false ∧ (a.group.leadRank.isSome = true ∨ 8 ≤ a.group.listened)) → exec (.groupJoined t) s =
      .next (a)) ∧
    ((a.serving = true ∧ a.get F.GROUP_EN = 1 ∧ a.group.lead = true ∧ a.guardOk = true) → exec (.groupCommitSend t) s =
      .next (a.sharedMoors.foldl (fun x n => x.commitMoor n) a)) ∧
    (¬ (a.serving = true ∧ a.get F.GROUP_EN = 1 ∧ a.group.lead = true ∧ a.guardOk = true) → exec (.groupCommitSend t) s =
      .next (a))

/-- Refreshes, MR4 reads, row activations and line reads of a serving channel act as R376 to R388 say; other channels are
left alone (log 3, 80, 151) (R376, R377, R381, R382, R385, R386, R388). The model's own choices here: an event whose
condition does not hold changes nothing but the time (log entry 3); caps and banks (log entry 80); a merge makes no
record of its own (log entry 151). -/
def Obligations.DramRefreshAndErrors : Prop :=
  ∀ (s a : State) (t : Cyc), a = s.at t →
    (∀ c, ((a.chan c).serves = false ∨ (a.chan c).state = 3) → exec (.refreshDue t c) s =
      .next (a)) ∧
    (∀ c, (a.chan c).serves = true → (a.chan c).state ≠ 3 → (a.chan c).owed < 5 → exec (.refreshDue t c) s =
      .next (a.modChan c (fun x => { x with owed := x.owed + 1 }))) ∧
    (∀ c, (a.chan c).serves = true → (a.chan c).state ≠ 3 → 5 ≤ (a.chan c).owed → exec (.refreshDue t c) s =
      .next ((a.modChan c (fun x => ({ x with owed := x.owed + 1 } : Channel).refpb a.refreshBanks)).tally T.MEM_REFRESH_FORCED)) ∧
    (∀ c, ((a.chan c).free = true ∧ (a.chan c).state ≠ 3 ∧ -8 < (a.chan c).owed) → exec (.refpbIssue t c) s =
      .next (a.modChan c (fun x => x.refpb a.refreshBanks))) ∧
    (∀ c, ¬ ((a.chan c).free = true ∧ (a.chan c).state ≠ 3 ∧ -8 < (a.chan c).owed) → exec (.refpbIssue t c) s =
      .next (a)) ∧
    (∀ c r, (a.chan c).serves = false → exec (.mr4Read t c r) s =
      .next (a)) ∧
    (∀ c r, (a.chan c).serves = true → exec (.mr4Read t c (some r)) s =
      .next (a.modChan c (fun x => { x with mr4 := r % 8, mr4Miss := 0 }))) ∧
    (∀ c u, (a.chan c).serves = true → u = a.modChan c (fun x => { x with mr4Miss := x.mr4Miss + 1 }) → exec (.mr4Read t c none) s =
      .next (if 2 ≤ (u.chan c).mr4Miss then u.failChannel c 1 else u)) ∧
    (∀ c b row r w, w = a.bwClear → ((w.chan c).free = false ∨ 32 ≤ b ∨ w.capped c b r = true) → exec (.rowActivation t c b row r) s =
      .next (w)) ∧
    (∀ c b row r w q n u v, w = a.bwClear → (w.chan c).free = true → b < 32 → w.capped c b r = false → q = w.request c → n = bwCount (nth (q.chan c).banks b []) (row / 64) r → u = q.modChan c (fun x => ({ x with banks := modAt x.banks b (fun _ => n.1) } : Channel).countAct b r) → v = (if (u.chan c).rfmNeed && Config.rfmDue u.time.freeCount c then (u.took.modChan c (fun x => { x with rfm := x.rfm + 1 })).tally T.MEM_RFM else u.took) → exec (.rowActivation t c b row r) s =
      .next (if n.2 = v.memv F.BW_TRIGGER then v.breakwater c b (row / 64) r else v)) ∧
    (a.ns / 16000 = a.dram.bwWindow → exec (.breakwaterWindowClear t) s =
      .next (a)) ∧
    (∀ w, w = a.ns / 16000 → w ≠ a.dram.bwWindow → exec (.breakwaterWindowClear t) s =
      .next ({ a with
        dram := { a.dram with
          bwWindow := w
          channels := a.dram.channels.map (fun x => { x with
              banks := List.replicate 32 [], acts := []
              caps := x.caps.filterMap (fun k => if k.windows < w - a.dram.bwWindow then none
                else some { k with windows := k.windows - (w - a.dram.bwWindow) }) }) } })) ∧
    (∀ c l r x y, (a.chan c).free = false → exec (.dramLineRead t c l r ⟨x, y⟩) s =
      .next (a)) ∧
    (∀ c l r y, (a.chan c).free = true → exec (.dramLineRead t c l r ⟨.clean, y⟩) s =
      .next (a.request c)) ∧
    (∀ c l r y, (a.chan c).free = true → exec (.dramLineRead t c l r ⟨.corrected, y⟩) s =
      .next ((a.request c).lineCorrected c 1)) ∧
    (∀ c l r, (a.chan c).free = true → exec (.dramLineRead t c l r ⟨.uncorrectable, .data⟩) s =
      .next ((a.request c).lineBad c l r)) ∧
    (∀ c l r y, (a.chan c).free = true → y ≠ LineUse.data → (∀ n, y ≠ LineUse.check n) → exec (.dramLineRead t c l r ⟨.uncorrectable, y⟩) s =
      .next ((a.request c).mergeBad c l y)) ∧
    (∀ c l r n, (a.chan c).free = true → exec (.dramLineRead t c l r ⟨.uncorrectable, .check n⟩) s =
      .next (State.stagingLost ((a.request c).lineBad c l r) n))

/-- Channels enter and leave low power, change frequency, sweep, scrub and recalibrate in the order R370 to R386 give (log
3, 80, 124) (R370, R371, R372, R374, R375, R383, R384, R386). The model's own choices here: an event whose condition
does not hold changes nothing but the time (log entry 3); which sweeps give EYE_MIN (log entry 80); the class ceiling
as a budget of bytes (log entry 124). -/
def Obligations.DramModes : Prop :=
  ∀ (s a : State) (t : Cyc), a = s.at t →
    (∀ c k, ((a.chan c).serves = false ∨ (a.chan c).sweep.isSome = true ∨ (a.chan c).change.isSome = true) → exec (.powerDownEntry t c k) s =
      .next (a)) ∧
    (∀ c, (a.chan c).serves = true → (a.chan c).sweep = none → (a.chan c).change = none → exec (.powerDownEntry t c .powerDown) s =
      .next (if a.memv F.PD_EN = 1 ∧ (a.chan c).state = 1 ∧ 3 ≤ a.scan.slack ∧ a.idleFor c (a.memv F.PD_IDLE_NS) = true then a.modChan c (fun x => { x with state := 2 }) else a)) ∧
    (∀ c, (a.chan c).serves = true → (a.chan c).sweep = none → (a.chan c).change = none → exec (.powerDownEntry t c .selfRefresh) s =
      .next (if a.memv F.SR_EN = 1 ∧ 15 ≤ a.scan.slack ∧ (a.chan c).owed ≤ 0 ∧ a.idleFor c (1000 * a.memv F.SR_IDLE_US) = true then a.modChan c (fun x => { x with state := 3 }) else a)) ∧
    (∀ c, ((a.chan c).serves = false ∨ a.dram.selfRefresh = true) → exec (.lowPowerExit t c) s =
      .next (a)) ∧
    (∀ c, (a.chan c).serves = true → a.dram.selfRefresh = false → (a.chan c).state = 3 → exec (.lowPowerExit t c) s =
      .next (a.modChan c (fun x => { x with state := 1, owed := 0 }))) ∧
    (∀ c, (a.chan c).serves = true → a.dram.selfRefresh = false → (a.chan c).state = 2 → exec (.lowPowerExit t c) s =
      .next (a.modChan c (fun x => { x with state := 1 }))) ∧
    (∀ c, (a.chan c).state ≠ 2 → (a.chan c).state ≠ 3 → exec (.lowPowerExit t c) s =
      .next (a)) ∧
    (∀ c, (∀ g, (a.chan c).change ≠ some (.wanted g)) → exec (.frequencyChangeStart t c) s =
      .next (a)) ∧
    (∀ c, ((a.chan c).serves = false ∨ (a.chan c).sweep.isSome = true) → exec (.frequencyChangeStart t c) s =
      .next (a)) ∧
    (∀ c g, (a.chan c).change = some (.wanted g) → (a.chan c).serves = true → (a.chan c).sweep = none → exec (.frequencyChangeStart t c) s =
      .next (a.modChan c (fun x => { x.refreshOwed a.refreshBanks with
        change := some (.switching g), state := 1, owed := if x.state = 3 then 0 else min x.owed 0 }))) ∧
    (∀ c, (∀ g, (a.chan c).change ≠ some (.switching g)) → exec (.frequencySwitchDone t c) s =
      .next (a)) ∧
    (∀ c g, (a.chan c).change = some (.switching g) → exec (.frequencySwitchDone t c) s =
      .next (a.modChan c (fun x => { x with
        fsp := g, change := some (.retraining g), sweep := some { why := .retrain, full := false } }))) ∧
    (∀ c ls, ((a.chan c).sweep = none ∨ (a.chan c).serves = false) → exec (.dramSweepDone t c ls) s =
      .next (a)) ∧
    (∀ c ls w l, (a.chan c).sweep = some w → (a.chan c).serves = true → w.full = true → allSome ((List.range 4).map (fun k => eyeOf (nth ls k { firstCode := 0, passes := [] }))) = some l → exec (.dramSweepDone t c ls) s =
      .next ((a.modChan c (fun x => { x.putSets (l.map (·.1)) with eyeMin := (l.map (·.2)).foldl min 128 })).sweepEnd c w true)) ∧
    (∀ c ls w, (a.chan c).sweep = some w → (a.chan c).serves = true → w.full = true → allSome ((List.range 4).map (fun k => eyeOf (nth ls k { firstCode := 0, passes := [] }))) = none → exec (.dramSweepDone t c ls) s =
      .next (a.sweepEnd c w false)) ∧
    (∀ c ls w l, (a.chan c).sweep = some w → (a.chan c).serves = true → w.full = false → allSome ((List.range 4).map (fun k =>
        centreOf (nth ((a.chan c).sets (a.chan c).fsp) k 0) (nth ls k { firstCode := 0, passes := [] }))) = some l → exec (.dramSweepDone t c ls) s =
      .next ((a.modChan c (fun x => x.putSets l)).sweepEnd c w true)) ∧
    (∀ c ls w, (a.chan c).sweep = some w → (a.chan c).serves = true → w.full = false → allSome ((List.range 4).map (fun k =>
        centreOf (nth ((a.chan c).sets (a.chan c).fsp) k 0) (nth ls k { firstCode := 0, passes := [] }))) = none → exec (.dramSweepDone t c ls) s =
      .next (a.modChan c (fun x => { x with sweep := some { w with full := true } }))) ∧
    (∀ corr bad c mib (wrapped : Bool), a.scrubTarget = (c, mib, wrapped) →
      (¬ (a.serving = true ∧ a.scan.lantern = false ∧ a.dram.selfRefresh = false ∧ (a.chan c).present = true ∧ (a.chan c).sweep = none ∧
          a.otherRoom 1048576 = true ∧ ¬ (a.recalTarget = c ∧ a.bgYields 1 2 = true)) →
        exec (.patrolScrubUnit t corr bad) s = .next a) ∧
      (a.bgUnit 1 c 1048576 = none → exec (.patrolScrubUnit t corr bad) s = .next a) ∧
      (∀ (p q u v : State) (last : Bool) (n : Nat × Bool), a.serving = true → a.scan.lantern = false → a.dram.selfRefresh = false → (a.chan c).present = true →
        (a.chan c).sweep = none → a.otherRoom 1048576 = true → ¬ (a.recalTarget = c ∧ a.bgYields 1 2 = true) →
        a.bgUnit 1 c 1048576 = some p → q = (p.request c).otherMoved 1048576 →
        u = (if (q.chan c).serves then (bad.filter (fun l => l / 16384 == mib)).foldl (fun x l => x.lineBad c l 30)
          (q.lineCorrected c corr) else q) → v = u.bgDid 1 →
        last = decide (dataMib v.density ≤ mib + 1) → n = v.nextChan c →
        exec (.patrolScrubUnit t corr bad) s = .next { v with
        dram := { v.dram with
            scrubCh := if last then n.1 else c, scrubMib := if last then 0 else mib + 1,
            passes := satN (v.dram.passes + b2n wrapped + b2n (last && n.2)) 16 } })) ∧
    (∀ c, c = a.recalTarget →
      (∀ p, a.serving = true → a.scan.lantern = false → a.dram.selfRefresh = false → (a.chan c).serves = true →
        (a.chan c).sweep = none → (a.chan c).sweepNext = none → ¬ (a.scrubTarget.1 = c ∧ a.bgYields 2 1 = true) →
        a.bgUnit 2 c (chanCeiling a.scan.rate a.presentCount * a.scan.rate * 40 / 1000000) = some p →
        exec (.dramRecalUnit t) s =
        .next (State.startSweep { p with dram := { p.dram with recalNext := c } } c { why := .unit, full := false })) ∧
      (a.bgUnit 2 c (chanCeiling a.scan.rate a.presentCount * a.scan.rate * 40 / 1000000) = none →
        exec (.dramRecalUnit t) s = .next a) ∧
      (¬ (a.serving = true ∧ a.scan.lantern = false ∧ a.dram.selfRefresh = false ∧ (a.chan c).serves = true ∧
        (a.chan c).sweep = none ∧ (a.chan c).sweepNext = none ∧ ¬ (a.scrubTarget.1 = c ∧ a.bgYields 2 1 = true)) →
        exec (.dramRecalUnit t) s = .next a)) ∧
    (∀ r, (a.start.phase = .running ∧ a.start.dramDone = false) → exec (.dramTrainingDone t r) s =
      .next (a.dramTrained r)) ∧
    (∀ r, ¬ (a.start.phase = .running ∧ a.start.dramDone = false) → exec (.dramTrainingDone t r) s =
      .next (a))

/-- MRAM records complete, the store bucket refills, compaction starts and refused writes are retried (log 3, 88, 89)
(R428, R436, R439, R440, R441, R525). The model's own choices here: an event whose condition does not hold changes
nothing but the time (log entry 3); every record goes through the queue (log entry 88); transactions (log entry 89). -/
def Obligations.StorageEvents : Prop :=
  ∀ (s a : State) (t : Cyc), a = s.at t →
    (∀ u e, a.recordDone = (u, e) → a.start.phase ≠ .running → a.start.phase ≠ .pilotBoot → a.start.phase ≠ .bridge → a.start.phase ≠ .recovery → exec (.mramRecordDone t) s =
      .next (u)) ∧
    (∀ u, a.recordDone = (u, none) → (a.start.phase = .running ∨ a.start.phase = .pilotBoot ∨ a.start.phase = .bridge ∨ a.start.phase = .recovery) → exec (.mramRecordDone t) s =
      .next (u.beginHead)) ∧
    (∀ u x v w y, a.recordDone = (u, some x) → (a.start.phase = .running ∨ a.start.phase = .pilotBoot ∨ a.start.phase = .bridge ∨ a.start.phase = .recovery) → v = (u.committed x).txnEnd x → w = (if v.start.phase = .pilotBoot ∧ x.purpose = .migration then v.endStartup else v) → y = (match w.start.restartTag with | some z => w.restartSoon z.1 z.2 | none => w) → exec (.mramRecordDone t) s =
      .next (y.beginHead.drain)) ∧
    ((a.serving = true) → exec (.storeTokenRefill t) s =
      .next ({ a with nvm := { a.nvm with tokens := min 8 (a.nvm.tokens + 1) } })) ∧
    (¬ (a.serving = true) → exec (.storeTokenRefill t) s =
      .next (a)) ∧
    (a.compactable = false → exec (.journalCompactionUnit t) s =
      .next (a)) ∧
    (a.compactable = true → (a.harbour.cur.slice = 0 ∧ a.sliceHad = 0) → exec (.journalCompactionUnit t) s =
      .next ((a.sliceTaken 4096).pushTxn { purpose := .compaction true, steps := [] })) ∧
    (a.compactable = true → ¬ (a.harbour.cur.slice = 0 ∧ a.sliceHad = 0) → a.nvm.queue = [] → exec (.journalCompactionUnit t) s =
      .next (a.pushTxn { purpose := .compaction true, steps := [] })) ∧
    (a.compactable = true → ¬ (a.harbour.cur.slice = 0 ∧ a.sliceHad = 0) → a.nvm.queue ≠ [] → exec (.journalCompactionUnit t) s =
      .next (a)) ∧
    ((a.serving = true) → exec (.nvmWindowRetry t) s =
      .next (a.beginHead)) ∧
    (¬ (a.serving = true) → exec (.nvmWindowRetry t) s =
      .next (a))

/-- Rails rise and fall in sequence, faults begin and are retried, the critical margin raises VCORE, and a shutdown halts
(log 3, 97, 163) (R460, R461, R463, R473, R485). The model's own choices here: an event whose condition does not hold
changes nothing but the time (log entry 3); a power-good lost while the whole down sequence runs is ignored (log entry
97); what an attempt is (log entry 163). -/
def Obligations.RailSequenceEvents : Prop :=
  ∀ (s a : State) (t : Cyc), a = s.at t →
    (a.power.seqs.find? (fun q => a.seqDue true q) = none → exec (.railUpStep t) s =
      .next (a)) ∧
    (∀ q q2 r, a.power.seqs.find? (fun q => a.seqDue true q) = some q → stepSeq q = (q2, some r) → exec (.railUpStep t) s =
      .next (State.modRail { a with
        power := { a.power with
          seqs := a.power.seqs.map (fun x =>
          if x = q then { q2 with wait := some r, since := a.time.cyc } else x) } } r (fun x => { x with enable := true, pg := false }))) ∧
    (a.power.seqs.find? (fun q => a.seqDue false q) = none → exec (.railDownStep t) s =
      .next (a)) ∧
    (∀ q q2 r, a.power.seqs.find? (fun q => a.seqDue false q) = some q → stepSeq q = (q2, some r) → exec (.railDownStep t) s =
      .next ((State.modRail { a with
        power := { a.power with
          seqs := a.power.seqs.map (fun x =>
          if x = q then { q2 with since := a.time.cyc } else x) } } r (fun x => { x with enable := false, pg := false })).endSeqs)) ∧
    (∀ r, (a.alive = true) → exec (.railPgRise t r) s =
      .next (a.pgRise r)) ∧
    (∀ r, ¬ (a.alive = true) → exec (.railPgRise t r) s =
      .next (a)) ∧
    ((a.power.seqs.find? (fun q => q.up && q.wait.isSome && decide (q.since + msCyc (a.get F.PG_TIMEOUT_MS) ≤ a.time.cyc))) = none → exec (.railPgTimeout t) s =
      .next (a)) ∧
    (∀ q r, (a.power.seqs.find? (fun q => q.up && q.wait.isSome && decide (q.since + msCyc (a.get F.PG_TIMEOUT_MS) ≤ a.time.cyc))) = some q → q.wait = some r → exec (.railPgTimeout t) s =
      .next (a.railFault r)) ∧
    (∀ r u, u = a.modRail r (fun x => { x with pg := false }) → (nth a.power.rails r {}).enable = true → (nth a.power.rails r {}).pg = true → u.railUsed r = true → u.power.railSeq ≠ 3 → u.falling r = false → exec (.railPgLost t r) s =
      .next (u.railFault r)) ∧
    (∀ r u, u = a.modRail r (fun x => { x with pg := false }) → ¬ ((nth a.power.rails r {}).enable = true ∧ (nth a.power.rails r {}).pg = true ∧ u.railUsed r = true ∧ u.power.railSeq ≠ 3 ∧ u.falling r = false) → exec (.railPgLost t r) s =
      .next (u)) ∧
    (a.start.phase ≠ .running → exec (.railRetry t) s =
      .next (a)) ∧
    (∀ due, a.start.phase = .running → due = a.power.retry.filter (fun e => decide (e.1 + msCyc 1000 ≤ a.time.cyc)) → exec (.railRetry t) s =
      .next (due.foldl (fun x e =>
        x.startPartSeq true (e.2.filter (fun r => decide ((nth x.power.rails r {}).attempts < 3))))
        { a with power := { a.power with retry := a.power.retry.filter (fun e => !due.contains e) } })) ∧
    (∀ r, (a.serving = false ∨ Config.avsCritical ≤ r.margin) → exec (.avsCriticalMargin t r) s =
      .next (a)) ∧
    (∀ r u, a.serving = true → r.margin < Config.avsCritical → u = State.settleVcore { a with power := { a.power with margin := r.margin } } r.late → exec (.avsCriticalMargin t r) s =
      .next (if u.roundv F.AVS_EN = 1 ∧ u.power.avsFail = false then (u.setVcore (min 800 (u.power.vcore + 10)) r.acks).floor else u.floor)) ∧
    ((a.start.phase = .shuttingDown ∧ a.power.rails.all (fun r => !r.enable) = true) → exec (.shutdownHalt t) s =
      .next ({ a.finishRecord with
        start := { a.finishRecord.start with phase := .halted }, bb := a.finishRecord.bb.map (fun _ => {}) })) ∧
    (¬ (a.start.phase = .shuttingDown ∧ a.power.rails.all (fun r => !r.enable) = true) → exec (.shutdownHalt t) s =
      .next (a))

/-- Housekeeping rounds begin and end, fascia updates start and shift their frames, and wake records leave over the pins
(log 3, 99, 162, 165) (R347, R475, R495, R496, R498, R503, R513). The model's own choices here: an event whose
condition does not hold changes nothing but the time (log entry 3); corners of rounds (log entry 99); the phase of
FCLK (log entry 162); the lines that the firmware logs (log entry 165). -/
def Obligations.RoundsFasciaAndWakePins : Prop :=
  ∀ (s a : State) (t : Cyc), a = s.at t →
    ((a.rounds = true ∧ a.power.converting = false ∧ (a.start.roundDone = false ∨ a.ns / 10000000 * 10000000 ≠ a.power.roundNs)) → exec (.housekeepingRoundStart t) s =
      .next ({ a with power := { a.power with converting := true, roundNs := a.ns / 10000000 * 10000000 } })) ∧
    (¬ (a.rounds = true ∧ a.power.converting = false ∧ (a.start.roundDone = false ∨ a.ns / 10000000 * 10000000 ≠ a.power.roundNs)) → exec (.housekeepingRoundStart t) s =
      .next (a)) ∧
    (∀ r, (a.power.converting = false ∨ a.rounds = false) → exec (.housekeepingRoundEnd t r) s =
      .next (a)) ∧
    (∀ r u, a.power.converting = true → a.rounds = true → u = a.roundEnd r → exec (.housekeepingRoundEnd t r) s =
      .next (if u.serving then u.fasciaRange.sealRetry.logLines else u)) ∧
    ((a.serving = true ∧ a.nvm.interpreting = true ∧ a.fascia.update = none ∧ a.fasciaDue = true ∧ a.fasciaMay = true) → exec (.fasciaUpdateStart t) s =
      .next (a.fasciaStart)) ∧
    (¬ (a.serving = true ∧ a.nvm.interpreting = true ∧ a.fascia.update = none ∧ a.fasciaDue = true ∧ a.fasciaMay = true) → exec (.fasciaUpdateStart t) s =
      .next (a)) ∧
    (a.fascia.update = none → exec (.fasciaFrame t) s =
      .next (a)) ∧
    (∀ u, a.fascia.update = some u → (u.stage ≠ .frames ∨ a.serving = false ∨ a.wholeMs = u.boundary) → exec (.fasciaFrame t) s =
      .next (a)) ∧
    (∀ u v, a.fascia.update = some u → u.stage = .frames → a.serving = true → a.wholeMs ≠ u.boundary → v = u.step a.wholeMs a.time.cyc → v.phase = 5 → exec (.fasciaFrame t) s =
      .next (State.fasciaClosing { a with
        fascia := { a.fascia with
          foe := false, bits := [], update := some { v with stage := .closing } } })) ∧
    (∀ u v, a.fascia.update = some u → u.stage = .frames → a.serving = true → a.wholeMs ≠ u.boundary → v = u.step a.wholeMs a.time.cyc → v.phase ≠ 5 → exec (.fasciaFrame t) s =
      .next ({ a with fascia := { a.fascia with foe := true, bits := v.bits, update := some v } })) ∧
    (a.start.phase ≠ .pilotBoot → a.start.phase ≠ .running → a.start.phase ≠ .restarting → a.start.phase ≠ .shuttingDown → exec (.wakePinExport t) s =
      .next (a)) ∧
    (∀ u, (a.start.phase = .pilotBoot ∨ a.start.phase = .running ∨ a.start.phase = .restarting ∨ a.start.phase = .shuttingDown) → u = a.wakeBoundary → (u.wake.ring.drop u.wake.exported = [] ∨ u.wake.exportMode ≠ 1 ∨ u.wakePinsFree = false) → exec (.wakePinExport t) s =
      .next (u)) ∧
    (∀ u r rest, (a.start.phase = .pilotBoot ∨ a.start.phase = .running ∨ a.start.phase = .restarting ∨ a.start.phase = .shuttingDown) → u = a.wakeBoundary → u.wake.ring.drop u.wake.exported = r :: rest → u.wake.exportMode = 1 → u.wakePinsFree = true → exec (.wakePinExport t) s =
      .next (State.tally { u with wake := { u.wake with exported := u.wake.exported + 1, pins := recBytes r, pinsAt := u.time.cyc } } T.WAKE_EXPORTED))

/-- Reset is released and asserted, start-up takes its steps, a restart resets, and the removal of the supplies ends
everything (log 3, 95, 157, 158) (R444, R446, R453, R516, R518, R519, R520, R522, R525). The model's own choices here:
an event whose condition does not hold changes nothing but the time (log entry 3); corners of resets (log entry 95);
seal changes before the end of start-up (log entry 157); a migration that the window refuses (log entry 158). -/
def Obligations.StartAndResetEvents : Prop :=
  ∀ (s a : State) (t : Cyc), a = s.at t →
    (∀ r, a.releasable = false → exec (.resetRelease t r) s =
      .next (a)) ∧
    (∀ r u, a.releasable = true → u = a.takeSecurity → exec (.resetRelease t r) s =
      .next ({ u with
        start := { u.start with phase := .rom, recoverLow := r }, time := { u.time with releaseCyc := u.time.cyc },
        bridge := { u.bridge with mac := u.macStored } })) ∧
    (∀ c, (a.start.phase = .unpowered ∨ a.start.phase = .shuttingDown ∨ a.start.phase = .halted) → exec (.resetAssert t c) s =
      .next (a)) ∧
    (a.start.phase = .held → exec (.resetAssert t .pin) s =
      .next (a)) ∧
    (a.start.phase = .held → exec (.resetAssert t .brownOut) s =
      .next ({ a with start := { a.start with source := 0, restartFor := 0 } })) ∧
    (a.start.phase ≠ .unpowered → a.start.phase ≠ .shuttingDown → a.start.phase ≠ .halted → a.start.phase ≠ .held → exec (.resetAssert t .pin) s =
      .next (a.finishRecord.intoReset 1 0)) ∧
    (a.start.phase ≠ .unpowered → a.start.phase ≠ .shuttingDown → a.start.phase ≠ .halted → a.start.phase ≠ .held → exec (.resetAssert t .brownOut) s =
      .next (a.finishRecord.intoReset 0 0)) ∧
    (∀ u, u = a.tear.intoReset 0 0 → exec (.supplyRemoved t) s =
      .next ({ u with start := { u.start with phase := .unpowered } })) ∧
    ((a.start.phase = .restarting ∧ a.power.rails.all (fun r => !r.enable) = true ∧ a.start.restartAt + msCyc 20 ≤ a.time.cyc) → exec (.restartReset t) s =
      .next (a.finishRecord.intoReset 2 a.start.restartFor)) ∧
    (¬ (a.start.phase = .restarting ∧ a.power.rails.all (fun r => !r.enable) = true ∧ a.start.restartAt + msCyc 20 ≤ a.time.cyc) → exec (.restartReset t) s =
      .next (a)) ∧
    (∀ r f, (a.start.phase = .rom) → exec (.sramTestDone t r f) s =
      .next (State.beginSlot { a with
        start := { a.start with
          repaired := r, sramFault := f, phase := if f then .sramFault else .bridge } })) ∧
    (∀ r f, ¬ (a.start.phase = .rom) → exec (.sramTestDone t r f) s =
      .next (a)) ∧
    (((a.start.phase = .rom ∨ a.start.phase = .bridge) ∧ a.start.recoverLow = true ∧ a.start.sampled = false ∧
      a.time.releaseCyc + msCyc 20 ≤ a.time.cyc) → exec (.recoveryPresenceSample t) s =
      .next (State.beginSlot { a with
        start := { a.start with sampled := true, recover := a.presence == 2 },
        nvm := { a.nvm with recoveryDenied := a.nvm.recoveryDenied || !(a.presence == 2) } })) ∧
    (¬ ((a.start.phase = .rom ∨ a.start.phase = .bridge) ∧ a.start.recoverLow = true ∧ a.start.sampled = false ∧
      a.time.releaseCyc + msCyc 20 ≤ a.time.cyc) → exec (.recoveryPresenceSample t) s =
      .next (a)) ∧
    (∀ k, a.start.phase = .bridge → a.nvm.queue = [] → a.nvm.bootSlot = some k → exec (.slotCheckDone t) s =
      .next (if a.checkSlot k = SlotCheck.ok then a.bootPassed k else a.bootFailed k)) ∧
    (a.start.phase = .bridge → (a.nvm.queue ≠ [] ∨ a.nvm.bootSlot = none) → exec (.slotCheckDone t) s =
      .next (a)) ∧
    (a.start.phase ≠ .bridge → a.serving = true → a.nvm.phase = .booting → (a.slot a.otherSlot).state = .trial → exec (.slotCheckDone t) s =
      .next (a.activationCheck)) ∧
    (a.start.phase ≠ .bridge → ¬ (a.serving = true ∧ a.nvm.phase = .booting ∧ (a.slot a.otherSlot).state = .trial) → exec (.slotCheckDone t) s =
      .next (a)) ∧
    ((a.start.phase ≠ .pilotBoot ∨ a.nvm.queue.any (fun x => x.purpose == .migration) = true) → exec (.pilotBootDone t) s =
      .next (a)) ∧
    (∀ u, a.start.phase = .pilotBoot → a.nvm.queue.any (fun x => x.purpose == .migration) = false → u = a.readMram.startMigration → exec (.pilotBootDone t) s =
      .next (if u.nvm.queue.any (·.begun) then u else u.endStartup.drain))

/-- ROM recovery takes images by TFTP or SPI, one at a time, verifies them and reports; outside recovery nothing happens
(log 3, 93) (R440, R454, R455, R456). The model's own choices here: an event whose condition does not hold changes
nothing but the time (log entry 3); the ROM's TFTP server (log entry 93). -/
def Obligations.RecoveryEvents : Prop :=
  ∀ (s a : State) (t : Cyc), a = s.at t →
    (∀ ip port n m z, a.recovering = false → exec (.tftpWriteRequest t ip port n m z) s =
      .next (a)) ∧
    (∀ ip port n m z, a.recovering = true → tftpSlot n = none → exec (.tftpWriteRequest t ip port n m z) s =
      .next (a.romRefuse ip port (tftpError 4 ""))) ∧
    (∀ ip port n m z k, a.recovering = true → tftpSlot n = some k → (isOctet m = false ∨ a.tftpBusy ip port = true) → exec (.tftpWriteRequest t ip port n m z) s =
      .next (a.romRefuse ip port (tftpError 4 ""))) ∧
    (∀ ip port n m z k x, a.recovering = true → tftpSlot n = some k → isOctet m = true → a.tftpBusy ip port = false → x = z.filter (fun j => decide (512 ≤ j ∧ j ≤ 1428)) → exec (.tftpWriteRequest t ip port n m z) s =
      .next ((State.took { a with
        start := { a.start with
          tftp := some (ip, port, k, x.getD 512, 1), tftpTid := (Config.tftpTid a.time.freeCount).toNat, tftpLast := false,
          rstate := 1 } }).tftpSend (match x with | some j => tftpOack j | none => tftpAck 0))) ∧
    (∀ ip port b d, a.recovering = false → exec (.tftpDataBlock t ip port b d) s =
      .next (a)) ∧
    (∀ ip port b d, a.recovering = true → a.start.tftp = none → exec (.tftpDataBlock t ip port b d) s =
      .next (a.romRefuse ip port (tftpError 5 ""))) ∧
    (∀ ip port b d i q k z n, a.recovering = true → a.start.tftp = some (i, q, k, z, n) → (i ≠ ip ∨ q ≠ port) → exec (.tftpDataBlock t ip port b d) s =
      .next (a.romRefuse ip port (tftpError 5 ""))) ∧
    (∀ ip port b d k z n, a.recovering = true → a.start.tftp = some (ip, port, k, z, n) → (a.start.recSlot.isSome = true ∨ z < d.length) → exec (.tftpDataBlock t ip port b d) s =
      .next (a)) ∧
    (∀ ip port b d k z n, a.recovering = true → a.start.tftp = some (ip, port, k, z, n) → a.start.recSlot = none → d.length ≤ z → b = n % 65536 → exec (.tftpDataBlock t ip port b d) s =
      .next (a.tftpTake k z n d)) ∧
    (∀ ip port b d k z n, a.recovering = true → a.start.tftp = some (ip, port, k, z, n) → a.start.recSlot = none → d.length ≤ z → b ≠ n % 65536 → 2 ≤ n → b = (n - 1) % 65536 → exec (.tftpDataBlock t ip port b d) s =
      .next (a.tftpSend (tftpAck (n - 1)))) ∧
    (∀ ip port b d k z n, a.recovering = true → a.start.tftp = some (ip, port, k, z, n) → b ≠ n % 65536 → ¬ (2 ≤ n ∧ b = (n - 1) % 65536) → exec (.tftpDataBlock t ip port b d) s =
      .next (a)) ∧
    (∀ k o d, (a.recovering = true ∧ a.start.recSlot = none) → exec (.recoverySpiWrite t k o d) s =
      .next (State.slotWrite { a with start := { a.start with rstate := if a.inWindow then 1 else 6 } } k o d)) ∧
    (∀ k o d, ¬ (a.recovering = true ∧ a.start.recSlot = none) → exec (.recoverySpiWrite t k o d) s =
      .next (a)) ∧
    ((a.start.phase = .recovery) → exec (.recoverySpiStatus t) s =
      .next ({ a with gw := { a.gw with irqN := true, miso := [0xFF, 0xFF, 0xFF, 0xFF] ++ le 4 a.start.rstate } })) ∧
    (¬ (a.start.phase = .recovery) → exec (.recoverySpiStatus t) s =
      .next (a)) ∧
    (∀ k z, (a.recovering = true ∧ a.start.recSlot = none) → exec (.recoverySpiFinish t k z) s =
      .next (a.beginVerify k z)) ∧
    (∀ k z, ¬ (a.recovering = true ∧ a.start.recSlot = none) → exec (.recoverySpiFinish t k z) s =
      .next (a)) ∧
    ((a.start.recSlot = none ∨ a.recovering = false) → exec (.recoveryVerifyDone t) s =
      .next (a)) ∧
    (∀ k z r u v w, a.start.recSlot = some (k, z) → a.recovering = true → r = a.verified k z → u = (if r = 3 then a.setSlot k .valid else if r = 6 then a else a.setSlot k .invalid) → v = { u with start := { u.start with recSlot := none, rstate := r }, gw := { u.gw with irqN := false } } → w = (if v.start.tftpLast then v.tftpVerified r else v) → exec (.recoveryVerifyDone t) s =
      .next (if r = 3 then w.recovered k else w))

/-- A step takes the command at the front of the queue and runs it on the state with the queue's rest (R9, R405). -/
def Obligations.StepRunsTheFrontCommand : Prop :=
  ∀ (c : Instr) (rest : List Instr) (s : State),
    step { s with pending := c :: rest } = exec c { s with pending := rest }

/-- Steps 6 to 10 of R403 refuse in their order, and a reserved bit set to 1 is refused with BAD_PARAM (R22, R24, R397,
R398, R403, R411, R413, R426). -/
def Obligations.RefusalsComeInTheOrderOfTheirSteps : Prop :=
  ∀ (s x : State) (p : Packet) (n : Nat) (c : Caller), x = s.served p n → c = s.senderOf p n →
    (((s.heard p).sess n).fresh = true ∨ newer8 p.seq.toNat ((s.heard p).sess n).lastSeq = true) →
    (s.heard p).berthRoom p.spi = true → (s.heard p).nvm.interpreting = true → (s.heard p).nvm.held = none →
    (∀ (k : Card) (i : Instr), (k, i) ∈ commandRows p → s.Known k.opcode p n →
      (k.lenOk p.payload = false → exec i s = .next ((k.refused Status.BAD_LENGTH x c p.payload).reply k.opcode p c
        Status.BAD_LENGTH (k.why Status.BAD_LENGTH x c p.payload))) ∧
      (k.lenOk p.payload = true → presenceOf c.key c.sealOpen < k.presence x c p.payload →
        exec i s = .next ((x.tally T.GW_PRESENCE_DENIED).reply k.opcode p c Status.PRESENCE_REQUIRED
          (k.why Status.PRESENCE_REQUIRED x c p.payload))) ∧
      (k.lenOk p.payload = true → k.presence x c p.payload ≤ presenceOf c.key c.sealOpen →
        (k.params x c p.payload = false ∨ (k.deferred = true ∧ tagOk (x.sess n) p.tag.toNat = false)) →
        exec i s = .next ((k.refused Status.BAD_PARAM x c p.payload).reply k.opcode p c Status.BAD_PARAM
          (k.why Status.BAD_PARAM x c p.payload))) ∧
      (k.lenOk p.payload = true → k.presence x c p.payload ≤ presenceOf c.key c.sealOpen →
        k.params x c p.payload = true → k.deferred = true → tagOk (x.sess n) p.tag.toNat = true →
        32 ≤ (x.sess n).outstanding.length →
        exec i s = .next ((k.refused Status.NO_RESOURCE x c p.payload).reply k.opcode p c Status.NO_RESOURCE
          (k.why Status.NO_RESOURCE x c p.payload))) ∧
      (∀ st, k.lenOk p.payload = true → k.presence x c p.payload ≤ presenceOf c.key c.sealOpen →
        k.params x c p.payload = true →
        (k.deferred = true → tagOk (x.sess n) p.tag.toNat = true ∧ (x.sess n).outstanding.length < 32) →
        k.judge x c p.payload = st → st ≠ Status.OK → st ≠ Status.PRESENCE_REQUIRED →
        exec i s = .next ((k.refused st x c p.payload).reply k.opcode p c st (k.why st x c p.payload)))) ∧
    (∀ (k : Card) (i : Instr) (id w off : Nat), (k, i) ∈ commandRows p → s.Known k.opcode p n →
      (k, id, w, off) ∈
       [(cardIngestConfigure, 0x1100, 9, 0), (cardCodecConfigure, 0x1200, 1, 0), (cardGangwayConfigure, 0x1000, 2, 0),
        (cardServiceConfigure, 0x1300, 3, 0), (cardScanoutConfigure, 0x1800, 18, 0), (cardMooringConfigure, 0x1400, 4, 4),
        (cardLanternConfigure, 0x1804, 11, 0), (cardMemConfigure, 0x1D00, 6, 0), (cardBacklightConfigure, 0x1E10, 43, 0),
        (cardRailProfileSet, 0x1E00, 17, 0), (cardWakeConfigure, 0x1F80, 1, 0), (cardLinkConfigure, 0x1900, 2, 4),
        (cardBbConfigure, 0x1910, 2, 4), (cardTriggerConfigure, 0x1B10, 6, 4), (cardTimeConfigure, 0x1B00, 5, 0),
        (cardGroupConfigure, 0x1C00, 3, 0), (cardFanConfigure, 0x1824, 25, 0)] →
      k.lenOk p.payload = true → k.presence x c p.payload ≤ presenceOf c.key c.sealOpen →
      badBits ((objWords id).getD []) (toWords w (p.payload.drop off)) = true →
      exec i s = .next ((k.refused Status.BAD_PARAM x c p.payload).reply k.opcode p c Status.BAD_PARAM
        (k.why Status.BAD_PARAM x c p.payload))) ∧
    (s.Known 0x0A02 p n → p.payload.length = 4 → num p.payload 0 2 ≠ 0 → objWords (num p.payload 0 2) = none →
      exec (.settingsRevert p) s = .next (x.reply 0x0A02 p c Status.BAD_PARAM []))

/-- No command touches the queue: a step leaves exactly the rest of it; with none waiting the block idles (log entry 1)
(R9, R405). The model's own choices here: the idle step (log entry 1). -/
def Obligations.AStepTakesExactlyTheFrontCommand : Prop :=
  (∀ s t : State, step s = .next t → t.pending = s.pending.tail) ∧ (∀ s : State, s.pending = [] → step s = .next s)

/-- No step takes the count of timebase cycles back (an instant before the present leaves it: log entry 3) (R9, R332). The
model's own choices here: an instant before the present leaves the time (log entry 3). -/
def Obligations.TimeNeverRunsBack : Prop :=
  ∀ s t : State, step s = .next t → s.time.cyc ≤ t.time.cyc

/-- Every command answers a next state on every state, so every run goes on (R9, R403). -/
def Obligations.NoCommandStopsTheBlock : Prop :=
  (∀ (i : Instr) (s : State), ∃ t, exec i s = .next t) ∧ ∀ (n : Nat) (s : State), safeRun s n

/-- The state in reset holds what the spec states for it (log 4) (R516, R526, R439, R508, R409, R23, R518). The model's
own choices here: reset values that the spec does not give (log entry 4). -/
def Obligations.ResetLeavesTheStatedValues : Prop :=
  State.reset.start.phase = .held ∧ State.reset.pending = [] ∧ State.reset.gw.waiting = [] ∧
    State.reset.nvm.interpreting = false ∧ (∀ id, State.reset.obj id = resetWords id) ∧
    (∀ id, Tab.getD State.reset.obs.tallies id 0 = 0) ∧ State.reset.gw.sessions.length = 16 ∧
    (∀ k, (State.reset.sess k).paired = false ∧ (State.reset.sess k).fresh = true) ∧ State.reset.gw.irqN = true ∧
    (∀ r ∈ State.reset.power.rails, r.enable = false) ∧ State.reset.scan.zones = List.replicate 16 false ∧
    (∀ k, (State.reset.port k).state = 0) ∧ (∀ b, (State.reset.bbp b).link = 0) ∧
    (∀ l ∈ State.reset.time.evt, l = []) ∧ (∀ l ∈ State.reset.time.te, l = []) ∧ State.reset.nvm.tokens = 8

/-- The state in reset meets the invariant of the block (R348, R416, R508, R245). -/
def Obligations.ResetMeetsTheInvariant : Prop :=
  State.reset.Inv

/-- Every step keeps the byte buffers canonical and the events, tallies and captures within their bounds (R201, R245,
R247, R348, R416, R427, R449, R508). -/
def Obligations.EveryStepKeepsTheInvariant : Prop :=
  ∀ s t : State, s.Inv → step s = .next t → t.Inv

/-- A command that fails steps 1 to 3 of R403 is discarded: one tally rises, and nothing else changes (R99, R397, R399,
R400, R401, R403). -/
def Obligations.CommandsDiscardedBeforeTheirSession : Prop :=
  ∀ (s : State) (p : Packet) (k : Card) (i : Instr), (k, i) ∈ commandRows p →
    ((s.heard p).front p = .silent → exec i s = .next (s.heard p)) ∧
    ((s.heard p).front p = .port → exec i s = .next ((s.heard p).tally T.ING_PORT)) ∧
    ((s.heard p).front p = .quay → exec i s = .next ((s.heard p).quayDrop .command [])) ∧
    ((s.heard p).front p = .framing → exec i s = .next ((s.heard p).tally T.GW_FRAMING)) ∧
    ((s.heard p).front p = .pass → headerOk p = false → exec i s = .next ((s.heard p).tally T.GW_FRAMING)) ∧
    ((s.heard p).front p = .pass → headerOk p = true → p.crc.toNat ≠ commandCrc k.opcode p →
      exec i s = .next ((s.heard p).tally T.GW_CRC_FAIL))

/-- A command whose token names no session is answered NOT_PAIRED, at most 100 times in a second, and has no effect (log
82) (R403, R404, R406). The model's own choices here: the sliding second of R404 (log entry 82). -/
def Obligations.CommandsWithoutASessionAreRefused : Prop :=
  ∀ (s : State) (p : Packet) (k : Card) (i : Instr), (k, i) ∈ commandRows p →
    (s.heard p).front p = .pass → headerOk p = true → p.crc.toNat = commandCrc k.opcode p →
    (¬ (p.token = 0 ∧ (k.opcode = 0x0101 ∨ k.opcode = 0x0105)) → (s.heard p).slotOf p.token.toNat p.spi = none →
      ((s.heard p).unauthRoom = true → exec i s = .next ((((s.heard p).tally T.GW_NOT_PAIRED).unauthCount).sendReply
        (((s.heard p).tally T.GW_NOT_PAIRED).callerOf p none)
        (replyPacket k.opcode p.tag.toNat p.seq.toNat Status.NOT_PAIRED (p.token.toNat % 2 ^ 32) []))) ∧
      ((s.heard p).unauthRoom = false →
        exec i s = .next (((s.heard p).tally T.GW_NOT_PAIRED).tally T.GW_UNAUTH_DROP))) ∧
    (p.token = 0 → (k.opcode = 0x0101 ∨ k.opcode = 0x0105) → (s.heard p).berthRoom p.spi = true →
      (s.heard p).nvm.interpreting = true → (s.heard p).nvm.held = none → (s.heard p).unauthRoom = false →
      exec i s = .next ((s.heard p).tally T.GW_UNAUTH_DROP)) ∧
    ((s.heard p).unauthRoom = true ↔
      ((s.heard p).gw.unauthAt.filter (fun x => (s.heard p).time.cyc < x + 400000000)).length < 100) ∧
    (s.heard p).time.cyc ∈ (s.heard p).unauthCount.gw.unauthAt

/-- A command whose SEQ is not newer is answered from what is kept or refused STALE_SEQUENCE, and is never executed (R403,
R409, R410). -/
def Obligations.RetransmissionsAreNotExecutedAgain : Prop :=
  ∀ (s : State) (p : Packet) (n : Nat) (op : BitVec 16) (i : Instr),
    (i = .gangwayRetransmission op p ∨ i = .unassignedOpcode op p ∨ ∃ k, (k, i) ∈ commandRows p ∧ k.opcode = op.toNat) →
    s.Known op.toNat p n → ((s.heard p).sess n).fresh = false →
    newer8 p.seq.toNat ((s.heard p).sess n).lastSeq = false →
    (∀ x bs, ((s.heard p).sess n).kept.find? (fun x => x.seq == p.seq.toNat && x.length == p.length.toNat && x.crc == p.crc)
        = some x → x.reply = some bs →
      exec i s = .next (((s.heard p).tally T.GW_REPLAY).sendReply ((s.heard p).callerOf p (some n)) bs)) ∧
    (∀ x, ((s.heard p).sess n).kept.find? (fun x => x.seq == p.seq.toNat && x.length == p.length.toNat && x.crc == p.crc)
        = some x → x.reply = none → exec i s = .next (s.heard p)) ∧
    (((s.heard p).sess n).kept.find? (fun x => x.seq == p.seq.toNat && x.length == p.length.toNat && x.crc == p.crc)
        = none → exec i s = .next (((s.heard p).tally T.GW_STALE).sendReply ((s.heard p).callerOf p (some n))
          (replyPacket op.toNat p.tag.toNat p.seq.toNat Status.STALE_SEQUENCE (p.token.toNat % 2 ^ 32) [])))

/-- A command that steps 6 to 10 refuse is answered with its status; an unassigned opcode with BAD_OPCODE (R398, R403,
R404, R413, R426). -/
def Obligations.RefusedCommandsOnlyAnswerTheirStatus : Prop :=
  ∀ (s : State) (p : Packet) (n : Nat),
    (∀ (k : Card) (i : Instr) (st : Nat), (k, i) ∈ commandRows p → s.Known k.opcode p n →
      (((s.heard p).sess n).fresh = true ∨ newer8 p.seq.toNat ((s.heard p).sess n).lastSeq = true) →
      (s.heard p).berthRoom p.spi = true → (s.heard p).nvm.interpreting = true → (s.heard p).nvm.held = none →
      (s.served p n).verdict (some k) (s.senderOf p n) p.payload = st → st ≠ Status.OK →
      exec i s = .next ((if st = Status.PRESENCE_REQUIRED then (s.served p n).tally T.GW_PRESENCE_DENIED
          else k.refused st (s.served p n) (s.senderOf p n) p.payload : State).reply k.opcode p (s.senderOf p n) st
          (k.why st (s.served p n) (s.senderOf p n) p.payload))) ∧
    (∀ op : BitVec 16, s.Known op.toNat p n →
      (((s.heard p).sess n).fresh = true ∨ newer8 p.seq.toNat ((s.heard p).sess n).lastSeq = true) →
      (s.heard p).berthRoom p.spi = true → (s.heard p).nvm.interpreting = true → (s.heard p).nvm.held = none →
      exec (.unassignedOpcode op p) s =
        .next ((s.served p n).reply op.toNat p (s.senderOf p n) Status.BAD_OPCODE [])) ∧
    (∀ (k : Card) (i : Instr), (k, i) ∈ commandRows p →
      exec (.gangwayRetransmission (BitVec.ofNat 16 k.opcode) p) s = exec i s)

/-- While no pilot interprets commands, or one is held, a new command waits in its berth, and one without room is dropped
unseen (R32, R108, R403, R405). -/
def Obligations.CommandsWaitForThePilot : Prop :=
  ∀ (s : State) (p : Packet) (n : Nat) (k : Card) (i : Instr), (k, i) ∈ commandRows p → k.opcode ≠ overlayCommitOpcode →
    s.Known k.opcode p n → (((s.heard p).sess n).fresh = true ∨ newer8 p.seq.toNat ((s.heard p).sess n).lastSeq = true) →
    ((s.heard p).berthRoom p.spi = true → ((s.heard p).nvm.interpreting = false ∨ (s.heard p).nvm.held.isSome = true) →
      exec i s = .next ((s.served p n).wait k.opcode p (some n))) ∧
    ((s.heard p).berthRoom p.spi = false → exec i s = .next ((s.heard p).tally T.ING_CMD_FULL))

/-- Frame IDs and sequence numbers compare in 32-bit serial arithmetic (R76). -/
def Obligations.SerialArithmeticOrdersFrameIds : Prop :=
  ∀ a b : Nat, a < 2 ^ 32 → b < 2 ^ 32 →
    (newer32 a b = true ↔ 1 ≤ wrap ((a : Int) - (b : Int)) 32 ∧ wrap ((a : Int) - (b : Int)) 32 ≤ 2147483647) ∧
    ¬ (newer32 a b = true ∧ newer32 b a = true) ∧
    (newer32 a b = false → newer32 b a = false → a = b ∨ a = (b + 2 ^ 31) % 2 ^ 32) ∧
    ∀ k : Nat, 1 ≤ k → k ≤ 2147483647 → newer32 ((b + k) % 2 ^ 32) b = true

/-- STORE is paced by a bucket of 8 tokens, full at start, that gains one each second (R439). -/
def Obligations.StoreTokensPaceTheStores : Prop :=
  (∀ s : State, s.readMram.nvm.tokens = 8) ∧
    (∀ (s a : State) (t : Cyc), a = s.at t → a.serving = true →
      exec (.storeTokenRefill t) s = .next { a with nvm := { a.nvm with tokens := min 8 (a.nvm.tokens + 1) } }) ∧
    (∀ (s : State) (owner tag : Nat), s.inWindow = true → (s.storeRun owner tag).nvm.tokens =
      if s.isDirty then s.nvm.tokens - 1 else s.nvm.tokens) ∧
    (∀ (s : State) (x : Txn) (owner tag k : Nat), x.purpose = .store owner tag k →
      (s.refuseTxn x).nvm.tokens = if x.wrote then s.nvm.tokens else min 8 (s.nvm.tokens + 1)) ∧
    (∀ (s : State) (p : Packet) (n : Nat), s.Known 0x0A01 p n →
      (((s.heard p).sess n).fresh = true ∨ newer8 p.seq.toNat ((s.heard p).sess n).lastSeq = true) →
      (s.heard p).berthRoom p.spi = true → (s.heard p).nvm.interpreting = true → (s.heard p).nvm.held = none → p.payload = [] →
      cardStore.presence (s.served p n) (s.senderOf p n) [] ≤ presenceOf (s.senderOf p n).key (s.senderOf p n).sealOpen →
      tagOk ((s.served p n).sess n) p.tag.toNat = true → ((s.served p n).sess n).outstanding.length < 32 →
      (s.heard p).nvm.tokens = 0 →
      exec (.store p) s = .next ((s.served p n).reply 0x0A01 p (s.senderOf p n) Status.BUSY [])) ∧
    (∀ s : State, s.nvm.tokens ≤ 8 → bits (nth s.nvmStatus 0 0).toNat 8 4 = s.nvm.tokens)

/-- The tick that is due at a local time is the last one whose T(n) has come (R18, R35). -/
def Obligations.TicksFallAtTheirInstants : Prop :=
  ∀ (n rate : Nat) (ns phi : Int), 0 < rate → phi ≤ ns →
    (tickNs n rate phi ≤ ns ↔ n ≤ tickAt ns rate phi) ∧
    (n : Int) * 1000000000 ≤ (tickNs n rate phi - phi) * rate ∧ (tickNs n rate phi - phi - 1) * rate < (n : Int) * 1000000000

/-- Line numbers and line positions correspond one to one, and line 1,952 begins exactly at the next tick (R266, R537). -/
def Obligations.LinesFallBetweenTheTicks : Prop :=
  (∀ field line : Nat, line < 2088 → lineOf (posOf field line) = (field, line)) ∧
    (∀ q : Nat, 136 ≤ q → posOf (lineOf q).1 (lineOf q).2 = q) ∧
    ∀ (s : State) (n : Nat), s.lineNs n 1952 = s.tickNs (n + 1)

/-- With bank masks as R369 requires them, no two data lines of a channel share bank, rank, row and column line (R366,
R367, R368, R369). -/
def Obligations.TheAddressMapIsOneToOne : Prop :=
  ∀ (s : State) (x y : Nat), s.density ≤ 3 → (∀ k, k < 4 → s.bankMask k % 16 = 2 ^ k) →
    (pageOf x).1 < 2 ^ pageBits s.density → (pageOf y).1 < 2 ^ pageBits s.density →
    (pageOf x).2 = (pageOf y).2 → s.bankOf (pageOf x).1 = s.bankOf (pageOf y).1 →
    rowOf s.density (pageOf x).1 = rowOf s.density (pageOf y).1 → x = y

/-- Wherever the update of a fixed record is cut, the record reads as the old content or the new one, never a mixture
(R429, R430, R441). -/
def Obligations.AnInterruptedUpdateLeavesOldOrNew : Prop :=
  ∀ (r : FixedRec) (ser : Nat) (old new : List Byte), ser < 2 ^ 32 → r.a = some (ser, old) → r.b = some (ser, old) →
    ∀ r1 r2 : FixedRec, r1 = r.writeCopy new false → r2 = r1.writeCopy new true →
    r.read.1 = some (ser, old) ∧ ({ r with a := none } : FixedRec).read.1 = some (ser, old) ∧
    r1.read.1 = some ((ser + 1) % 2 ^ 32, new) ∧ ({ r1 with b := none } : FixedRec).read.1 = some ((ser + 1) % 2 ^ 32, new) ∧
    r2.read = (some ((ser + 1) % 2 ^ 32, new), false)

/-- A journal record reads back whole from its bytes, and a record cut before its second copy as a single one (R75, R432,
R433, R434). -/
def Obligations.JournalRecordsReadBack : Prop :=
  ∀ (kind gen txn obj part : Nat) (pl rest : List Byte) (n : Nat), 1 ≤ kind → kind ≤ 3 → gen < 256 → txn < 2 ^ 32 →
    obj < 2 ^ 16 → part < 256 → 4 ≤ pl.length → pl.length ≤ 1024 → pl.length % 4 = 0 →
    decodePage (n + 1) (recordBytes kind gen txn obj part pl ++ rest) =
      { kind := kind, gen := gen, txn := txn, obj := obj, part := part, payload := pl, usable := true, single := false,
        size := 2 * (pl.length + 20) } :: decodePage n rest ∧
    decodePage (n + 1) (recordCopy kind gen txn obj part pl) =
      { kind := kind, gen := gen, txn := txn, obj := obj, part := part, payload := pl, usable := true, single := true,
        size := pl.length + 20 } :: decodePage n []

/-- Bytes written to a buffer read back, every other byte reads as before, and the buffer stays canonical (R201, R245,
R246, R247, R427). -/
def Obligations.BytesWrittenReadBack : Prop :=
  ∀ (d : Option Byte) (free : Nat → Byte) (m : List (Nat × Byte)) (a : Nat) (bs : List Byte), Memory.wf d m →
    (∀ v, d = some v → ∀ x, free x = v) →
    Memory.wf d (Memory.writeAll d m a bs) ∧
    (∀ i, (h : i < bs.length) → Memory.read (Memory.writeAll d m a bs) free (a + i) = bs[i]) ∧
    (∀ x, x < a ∨ a + bs.length ≤ x → Memory.read (Memory.writeAll d m a bs) free x = Memory.read m free x)

/-- A tally raised by k reads k more, at most 2^64 - 1, and no other tally and no other state changes (R508, R509). -/
def Obligations.TalliesCountUpAndSaturate : Prop :=
  ∀ (s : State) (id k : Nat),
    (∀ j, Tab.getD (s.tallyBy id k).obs.tallies j 0 =
      if j = id then min (Tab.getD s.obs.tallies id 0 + k) (2 ^ 64 - 1) else Tab.getD s.obs.tallies j 0) ∧
    s.tallyBy id k = { s with obs := { s.obs with tallies := (s.tallyBy id k).obs.tallies } }

/-- The local clock and both domains advance by their increments; a locked clock is steered; a slewing one follows its
target (log 130) (R332, R333, R336, R338, R339). The model's own choices here: the servo (log entry 130). -/
def Obligations.TheClockAdvancesByItsIncrement : Prop :=
  ∀ (s : State) (n : Nat), 0 < n →
    (s.alive = true → ∀ (ds : List Domain) (d : Domain),
      ds = s.time.domains.map (fun d => { d with d := (d.d + n * d.dIncr) % 2 ^ 96 }) → d = nth ds s.time.selected {} →
      (s.time.state ≠ .slewing →
        ¬ (s.time.state = .locked ∧ d.tracking = 2 ∧ 0 < d.syncInt ∧ d.syncInt ≤ 125000000) →
        s.advance (s.time.cyc + n) = { s with
        time := { s.time with
            cyc := s.time.cyc + n, clk := (s.time.clk + n * s.time.incr) % s.time.span, domains := ds } }) ∧
      (s.time.state = .locked → d.tracking = 2 → 0 < d.syncInt → d.syncInt ≤ 125000000 →
        ∃ i, s.advance (s.time.cyc + n) = { s with
        time := { s.time with
              cyc := s.time.cyc + n, clk := (s.time.clk + n * i) % s.time.span, domains := ds, incr := i } } ∧
          (((s.time.clk + n * s.time.incr : Nat) : Int) - d.d ≤ 250 * 2 ^ 32 →
            (d.d : Int) - (s.time.clk + n * s.time.incr : Nat) ≤ 250 * 2 ^ 32 → i = s.time.incr) ∧
          (i = s.time.incr ∨ (10732049531 ≤ i ∧ i ≤ 10742786949)) ∧
          (n ≤ 2 ^ 40 → 10732049531 < i → i < 10742786949 → i ≠ s.time.incr → ((s.time.clk + n * i : Nat) : Int) - d.d ≤ 250 * 2 ^ 32 ∧
            (d.d : Int) - (s.time.clk + n * i : Nat) ≤ 250 * 2 ^ 32)) ∧
      (s.time.state = .slewing →
        s.advance (s.time.cyc + n) = { s with
        time := { s.time with
            cyc := s.time.cyc + n, clk := slewClk d.d s.time.delta s.time.slewS, domains := ds } } ∧
        slewClk d.d s.time.delta s.time.slewS % 2 ^ 32 = d.d % 2 ^ 32 ∧
        ((s.time.delta.natAbs : Int) ≤ (((d.d / 2 ^ 32 : Nat) : Int) - s.time.slewS) / 100000 → d.d < 2 ^ 96 →
          slewClk d.d s.time.delta s.time.slewS = d.d))) ∧
    (s.alive = false → s.advance (s.time.cyc + n) = { s with time := { s.time with cyc := s.time.cyc + n } })

/-- An event of a session is numbered, kept and sent, or dropped and counted when 64 are unacknowledged or its berth is
full (R402, R416, R417, R418). -/
def Obligations.EventsAreQueuedOrCountedLost : Prop :=
  ∀ (s : State) (k opcode tag status : Nat) (pl : List Byte),
    ((s.sess k).paired = false → s.queueEvent k opcode tag status pl = s) ∧
    ((s.sess k).paired = true → (64 ≤ (s.sess k).unacked.length ∨ s.berthTakes ((s.sess k).berthUsed (opcode / 256)) 0 = false) →
      s.queueEvent k opcode tag status pl = (s.modSess k (fun e => { e with
        lost := Tab.put e.lost (opcode / 256) (satN (Tab.getD e.lost (opcode / 256) 0 + 1) 16)
        lostTotal := satN (e.lostTotal + 1) 32 })).tally T.GW_EVENT_LOST) ∧
    ∀ (bs : List Byte) (u : State), bs = eventPacket opcode tag (s.sess k).evSeq status
        (Tab.getD (s.sess k).lost (opcode / 256) 0) ((s.sess k).tokenLo k) pl →
      u = s.modSess k (fun e => { e with
        unacked := e.unacked ++ [{ seq := (s.sess k).evSeq, cls := opcode / 256, sentAt := s.time.cyc, bytes := bs }],
        evSeq := (e.evSeq + 1) % 256, evSent := true, lost := Tab.put e.lost (opcode / 256) 0 }) →
      (s.sess k).paired = true → (s.sess k).unacked.length < 64 →
      s.berthTakes ((s.sess k).berthUsed (opcode / 256)) 0 = true →
      (k = 15 → s.queueEvent k opcode tag status pl = u.irq) ∧
      (k ≠ 15 → s.get F.UDP_EN = 1 → s.queueEvent k opcode tag status pl =
        u.sendUdp 2069 (s.get F.CMD_TC) (s.sess k).evIp (s.get F.GANGWAY_PORT) (s.sess k).evPort bs) ∧
      (k ≠ 15 → s.get F.UDP_EN ≠ 1 → s.queueEvent k opcode tag status pl = u)
end

