-- ==== Sys2Proof/Laws/Buffers.lean ====
section
/-! SUPPORT. Sparse tables and byte buffers: what reads give after writes, and that every operation keeps the canonical form
(R201, R245, R247, R427). -/

namespace Sys2Proof.Machine

/-! ## Sparse tables -/

/-- Keys strictly rising. -/
abbrev Tab.sorted {α : Type} (m : Tab α) : Prop := m.Pairwise (fun a b => a.1 < b.1)

theorem Tab.mem_put {α : Type} {m : Tab α} {k : Nat} {v : α} {e : Nat × α} (h : e ∈ Tab.put m k v) : e = (k, v) ∨ e ∈ m := by
  induction m with
  | nil => simpa [Tab.put] using h
  | cons x r ih =>
    obtain ⟨j, w⟩ := x
    unfold Tab.put at h
    split at h
    · simp only [List.mem_cons] at h ⊢; tauto
    · split at h
      · simp only [List.mem_cons] at h ⊢; tauto
      · simp only [List.mem_cons] at h ⊢
        rcases h with h | h
        · exact .inr (.inl h)
        · rcases ih h with h | h
          · exact .inl h
          · exact .inr (.inr h)

theorem Tab.sorted_put {α : Type} {m : Tab α} (h : Tab.sorted m) (k : Nat) (v : α) : Tab.sorted (Tab.put m k v) := by
  induction m with
  | nil => simp [Tab.put]
  | cons x r ih =>
    obtain ⟨j, w⟩ := x
    have hr := (List.pairwise_cons.mp h).2
    have hx := (List.pairwise_cons.mp h).1
    unfold Tab.put
    split
    · next hj => subst hj; exact List.pairwise_cons.mpr ⟨fun a ha => hx a ha, hr⟩
    · split
      · next hk =>
        refine List.pairwise_cons.mpr ⟨fun a ha => ?_, h⟩
        rcases List.mem_cons.mp ha with rfl | ha
        · exact hk
        · exact Nat.lt_trans hk (hx a ha)
      · next hj hk =>
        refine List.pairwise_cons.mpr ⟨fun a ha => ?_, ih hr⟩
        rcases Tab.mem_put ha with rfl | ha
        · exact Nat.lt_of_le_of_ne (Nat.le_of_not_lt hk) hj
        · exact hx a ha

theorem Tab.get?_cons {α : Type} (i : Nat) (w : α) (r : Tab α) (j : Nat) :
    Tab.get? ((i, w) :: r) j = if i = j then some w else if j < i then none else Tab.get? r j := rfl

@[simp] theorem Tab.get?_put {α : Type} (m : Tab α) (k j : Nat) (v : α) :
    Tab.get? (Tab.put m k v) j = if j = k then some v else Tab.get? m j := by
  induction m with
  | nil =>
    by_cases h : k = j
    · subst h; simp [Tab.put, Tab.get?]
    · simp [Tab.put, Tab.get?, h, Ne.symm h]
  | cons x r ih =>
    obtain ⟨i, w⟩ := x
    by_cases h1 : i = k
    · subst h1
      by_cases h : i = j
      · subst h; simp [Tab.put, Tab.get?_cons]
      · simp [Tab.put, Tab.get?_cons, h, Ne.symm h]
    · by_cases h2 : k < i
      · simp only [Tab.put, h1, h2, ↓reduceIte]
        by_cases h : k = j
        · subst h; simp [Tab.get?_cons]
        · rw [Tab.get?_cons]
          by_cases h3 : j < k
          · have h4 : j < i := Nat.lt_trans h3 h2
            simp [h, Ne.symm h, h3, h4, Nat.ne_of_gt h4, Tab.get?_cons]
          · simp [h, Ne.symm h, h3]
      · simp only [Tab.put, h1, h2, ↓reduceIte, Tab.get?_cons, ih]
        by_cases h : j = k
        · subst h
          have h3 : i < j := Nat.lt_of_le_of_ne (Nat.le_of_not_lt h2) h1
          simp [h1, Nat.not_lt_of_gt h3]
        · simp [h]

@[simp] theorem Tab.getD_put {α : Type} (m : Tab α) (k j : Nat) (v d : α) :
    Tab.getD (Tab.put m k v) j d = if j = k then v else Tab.getD m j d := by
  unfold Tab.getD; rw [Tab.get?_put]; split <;> rfl

/-! ## The canonical form of buffers -/

theorem Memory.wf_nil (d : Option Byte) : Memory.wf d [] := ⟨List.Pairwise.nil, by simp⟩

theorem Memory.wf_filter {d : Option Byte} {m : List Host.Cell} (h : Memory.wf d m) (p : Host.Cell → Bool) :
    Memory.wf d (m.filter p) :=
  ⟨h.1.filter p, fun c hc => h.2 c (List.mem_filter.mp hc).1⟩

theorem Memory.wf_write {d : Option Byte} {m : List Host.Cell} (h : Memory.wf d m) (a : Nat) (v : Byte) :
    Memory.wf d (Memory.write d m a v) := by
  unfold Memory.write
  split
  · exact Memory.wf_filter h _
  · next hd =>
    refine ⟨Tab.sorted_put h.1 a v, fun c hc => ?_⟩
    rcases Tab.mem_put hc with rfl | hc
    · exact hd
    · exact h.2 c hc

theorem Memory.wf_writeAll {d : Option Byte} {m : List Host.Cell} (h : Memory.wf d m) (a : Nat) (bs : List Byte) :
    Memory.wf d (Memory.writeAll d m a bs) := by
  induction bs generalizing m a with
  | nil => exact h
  | cons v vs ih => exact ih (Memory.wf_write h a v) (a + 1)

theorem Memory.wf_landed {d : Option Byte} {m : List Host.Cell} (s : State) (st : Stripe) (base : Nat) (h : Memory.wf d m) :
    Memory.wf d (s.landed st base m) := by
  unfold State.landed
  exact Memory.wf_filter h _

/-! ## Surfaces (R245, R257) -/

/-- Every content of a surface, present and older, in canonical form. -/
abbrev Surface.wf (f : Surface) : Prop := Memory.wf (some 0) f.bytes ∧ ∀ w ∈ f.older, Memory.wf (some 0) w.before

theorem Surface.wf_put {f : Surface} (h : f.wf) (x y v : Nat) : (f.put x y v).wf :=
  ⟨Memory.wf_writeAll h.1 _ _, h.2⟩

theorem Surface.wf_keep {f : Surface} (h : f.wf) (b : Int) (e v : Option Int) (u : List Nat) : (f.keep b e v u).wf := by
  refine ⟨h.1, fun e he => ?_⟩
  rcases List.mem_append.mp he with he | he
  · exact h.2 e he
  · rw [List.mem_singleton.mp he]; exact h.1

theorem Surface.wf_show {f : Surface} (h : f.wf) (ns : Nat) : (f.show ns).wf := by
  refine ⟨h.1, fun e he => ?_⟩
  obtain ⟨x, hx, rfl⟩ := List.mem_map.mp he
  have := h.2 x hx
  split <;> exact this

theorem Surface.wf_landed {f : Surface} (s : State) (h : f.wf) : (s.surfLanded f).wf := by
  refine ⟨Memory.wf_landed _ _ _ h.1, fun e he => ?_⟩
  obtain ⟨w, hw, rfl⟩ := List.mem_map.mp he
  exact Memory.wf_landed _ _ _ (h.2 w hw)

theorem Surface.wf_movedBy {f : Surface} (h : f.wf) (d : Int) :
    Surface.wf { f with older := f.older.map (fun w => w.movedBy d) } := by
  refine ⟨h.1, fun e he => ?_⟩
  obtain ⟨w, hw, rfl⟩ := List.mem_map.mp he
  exact h.2 w hw

theorem Surface.wf_foldl {α : Type} {g : Surface → α → Surface} (hg : ∀ f e, f.wf → (g f e).wf) {f : Surface} (h : f.wf)
    (l : List α) : (l.foldl g f).wf := by
  induction l generalizing f with
  | nil => exact h
  | cons e r ih => exact ih (hg f e h)

theorem Surface.wf_drawn {f : Surface} (s : State) (e : Entry) (bad : List (Nat × Nat)) (h : f.wf) : (s.drawn e bad f).wf := by
  unfold State.drawn
  refine Surface.wf_foldl (fun g p hg => ?_) h _
  split
  · exact Surface.wf_put hg _ _ _
  · exact hg

end Sys2Proof.Machine
end

