-- ==== Sys2Proof/Laws/Commands.lean ====
section
/-! SUPPORT. What a command row does once its packet passes R403, in terms of its card: an immediate command takes effect and
is answered, a deferred one is accepted and then takes effect; and a refused one is answered with its status. -/

namespace Sys2Proof.Machine

theorem State.arrive_passes {s : State} {k : Card} {p : Packet} {n : Nat} (h : s.Passes k p n) :
    s.arrive (some k) k.opcode p = (s.served p n).interpret (some k) k.opcode p (s.senderOf p n) := by
  have hi : (s.served p n).nvm.interpreting = true := h.pilot
  have h0 : ¬ (p.token = 0 ∧ (k.opcode = 0x0101 ∨ k.opcode = 0x0105)) := fun e => h.token e.1
  unfold State.arrive
  simp only [h.whole, h.header, h.crc, not_true_eq_false, ↓reduceIte, ne_eq]
  unfold State.take
  simp only [h0, ↓reduceIte, h.session, h.newer, h.room, or_true]
  unfold State.served at hi
  unfold State.dispatch State.interpretAny
  rw [if_pos (.inl ⟨hi, by rw [show ((s.heard p).modSess n fun e => passFive e p).nvm.held = none from h.unheld]; rfl⟩)]
  rfl

theorem else_of_ite {a b x : Nat} {c : Prop} [Decidable c] (h : (if c then a else b) = x) (ha : a ≠ x) : b = x := by
  by_cases hc : c
  · rw [if_pos hc] at h; exact absurd h ha
  · rw [if_neg hc] at h; exact h

/-- A command that steps 6 to 10 let pass is let pass by its own step 10. -/
theorem State.judge_of_verdict {s : State} {k : Card} {c : Caller} {pl : List Byte}
    (h : s.verdict (some k) c pl = Status.OK) : k.judge s c pl = Status.OK :=
  else_of_ite (else_of_ite (else_of_ite (else_of_ite (else_of_ite h (by decide)) (by decide)) (by decide)) (by decide))
    (by decide)

theorem runCommand_done {s : State} {k : Card} {p : Packet} {n : Nat} (h : s.Passes k p n) (hd : k.deferred = false)
    (hh : k.held = false := by rfl) :
    runCommand k p s =
      .next (State.answered (k.run (s.served p n) (s.senderOf p n) p.payload).1 s k p n
        (k.run (s.served p n) (s.senderOf p n) p.payload).2.1 (k.run (s.served p n) (s.senderOf p n) p.payload).2.2) := by
  unfold runCommand nextOf
  rw [State.arrive_passes h]
  unfold State.interpret
  simp only [h.verdict, hd, hh, ne_eq, not_true_eq_false, ↓reduceIte, Bool.false_eq_true]
  rfl

theorem runCommand_held {s : State} {k : Card} {p : Packet} {n : Nat} (h : s.Passes k p n) (hd : k.deferred = false)
    (hh : k.held = true) :
    runCommand k p s =
      .next (State.awaiting (k.run (s.served p n) (s.senderOf p n) p.payload).1 k p (s.senderOf p n)
        (k.run (s.served p n) (s.senderOf p n) p.payload).2.2) := by
  unfold runCommand nextOf
  rw [State.arrive_passes h]
  unfold State.interpret
  simp only [h.verdict, hd, hh, ne_eq, not_true_eq_false, ↓reduceIte, Bool.false_eq_true]
  rfl

theorem runCommand_accepted {s : State} {k : Card} {p : Packet} {n : Nat} (h : s.Passes k p n) (hd : k.deferred = true) :
    runCommand k p s =
      .next (k.run (s.accepted k p n (k.ack ((s.served p n).holds n p) (s.senderOf p n) p.payload)) (s.senderOf p n)
        p.payload).1 := by
  unfold runCommand nextOf
  rw [State.arrive_passes h]
  unfold State.interpret
  simp only [h.verdict, hd, ne_eq, not_true_eq_false, ↓reduceIte]
  rfl

theorem runCommand_open {s : State} {k : Card} {p : Packet} (h : s.PassesOpen k p) (hd : k.deferred = false)
    (ho : k.opcode = 0x0101 ∨ k.opcode = 0x0105) (hh : k.held = false := by rfl) :
    runCommand k p s =
      .next ((k.run (s.heard p).unauthCount ((s.heard p).callerOf p none) p.payload).1.replyUnder (s.heard p).cfg k.opcode p
        ((s.heard p).callerOf p none) (k.run (s.heard p).unauthCount ((s.heard p).callerOf p none) p.payload).2.1
        (k.run (s.heard p).unauthCount ((s.heard p).callerOf p none) p.payload).2.2) := by
  unfold runCommand nextOf State.arrive
  simp only [h.whole, h.header, h.crc, not_true_eq_false, ↓reduceIte, ne_eq]
  unfold State.take
  simp only [h.token, ho, and_self, ↓reduceIte, h.room]
  unfold State.dispatch State.interpretAny
  simp only [h.pilot, h.unheld, Option.isNone_none, and_self, true_or, ↓reduceIte, State.callerOf, h.rate]
  have hv := h.verdict
  unfold State.callerOf at hv
  unfold State.interpret
  simp only [hv, hd, hh, ne_eq, not_true_eq_false, ↓reduceIte, Bool.false_eq_true]
  rfl

theorem runCommand_openHeld {s : State} {k : Card} {p : Packet} (h : s.PassesOpen k p) (hd : k.deferred = false)
    (ho : k.opcode = 0x0101 ∨ k.opcode = 0x0105) (hh : k.held = true) :
    runCommand k p s =
      .next (State.awaiting (k.run (s.heard p).unauthCount ((s.heard p).callerOf p none) p.payload).1 k p
        ((s.heard p).callerOf p none)
        (k.run (s.heard p).unauthCount ((s.heard p).callerOf p none) p.payload).2.2) := by
  unfold runCommand nextOf State.arrive
  simp only [h.whole, h.header, h.crc, not_true_eq_false, ↓reduceIte, ne_eq]
  unfold State.take
  simp only [h.token, ho, and_self, ↓reduceIte, h.room]
  unfold State.dispatch State.interpretAny
  simp only [h.pilot, h.unheld, Option.isNone_none, and_self, true_or, ↓reduceIte, State.callerOf, h.rate]
  have hv := h.verdict
  unfold State.callerOf at hv
  unfold State.interpret
  simp only [hv, hd, hh, ne_eq, not_true_eq_false, ↓reduceIte, Bool.false_eq_true]
  rfl

/-! ## Rows -/

/-- Every command row runs the checks of R403 with its own card. -/
theorem exec_commandRow {s : State} {p : Packet} {k : Card} {i : Instr} (h : (k, i) ∈ commandRows p) : exec i s = runCommand k p s := by
  unfold commandRows at h
  repeat' (rcases List.mem_cons.1 h with h | h; · cases h; rfl)
  cases h
/-- The opcode index gives every command row its own card. -/
theorem cardOf_commandRow {p : Packet} {k : Card} {i : Instr} (h : (k, i) ∈ commandRows p) : cardOf k.opcode = some k ∧ k.opcode < 65536 := by
  unfold commandRows at h
  repeat' (rcases List.mem_cons.1 h with h | h; · cases h; exact ⟨rfl, by decide⟩)
  cases h

/-- A known command whose SEQ is not newer is decided by R410. -/
theorem State.arrive_notNewer {s : State} {p : Packet} {n : Nat} {op : Nat} {c : Option Card} (h : s.Known op p n) (hf : ((s.heard p).sess n).fresh = false)
    (hn : newer8 p.seq.toNat ((s.heard p).sess n).lastSeq = false) : s.arrive c op p = (s.heard p).notNewer op p n := by
  unfold State.arrive
  simp only [h.whole, h.header, h.crc, not_true_eq_false, ↓reduceIte, ne_eq]
  unfold State.take
  have h0 : ¬ (p.token = 0 ∧ (op = 0x0101 ∨ op = 0x0105)) := fun e => h.token e.1
  simp only [h0, ↓reduceIte, h.session, hf, hn, Bool.false_eq_true, or_self]

/-- A known, new command with a berth and a pilot that interprets commands is interpreted as served. -/
theorem State.arrive_served {s : State} {p : Packet} {n : Nat} {op : Nat} {c : Option Card} (h : s.Known op p n)
  (hn : ((s.heard p).sess n).fresh = true ∨ newer8 p.seq.toNat ((s.heard p).sess n).lastSeq = true) 
  (hr : (s.heard p).berthRoom p.spi = true) (hi : (s.heard p).nvm.interpreting = true)
  (hw : (s.heard p).nvm.held = none) :
    s.arrive c op p = (s.served p n).interpret c op p (s.senderOf p n) := by
  unfold State.arrive
  simp only [h.whole, h.header, h.crc, not_true_eq_false, ↓reduceIte, ne_eq]
  unfold State.take
  have h0 : ¬ (p.token = 0 ∧ (op = 0x0101 ∨ op = 0x0105)) := fun e => h.token e.1
  simp only [h0, ↓reduceIte, h.session, hn, hr, or_true]
  have hi : (s.served p n).nvm.interpreting = true := hi
  unfold State.served at hi
  unfold State.dispatch State.interpretAny
  rw [if_pos (.inl ⟨hi, by rw [show ((s.heard p).modSess n fun e => passFive e p).nvm.held = none from hw]; rfl⟩)]
  rfl

end Sys2Proof.Machine
end

