-- ==== Sys2Proof/Laws/Keeps.lean ====
section
/-! SUPPORT. `State.Keeps`: what every meaning does to the queue, to the clock and to the parts of the invariant: the queue
stays as it is, time does not run back, and each part of the invariant stays true. One lemma for each way a state is put
together. -/

namespace Sys2Proof.Machine

/-- The queue is unchanged, byte buffers in canonical form (R201, R245, R247, R427) stay so, time does not run back, and
events (R416), tallies (R508) and capture FIFOs (R348) within their bounds stay within them. -/
structure State.Keeps (a b : State) : Prop where
  queue : b.pending = a.pending
  buffers : a.buffersWf → b.buffersWf
  clock : a.time.cyc ≤ b.time.cyc
  events : a.eventsBounded → b.eventsBounded
  counts : a.talliesBounded → b.talliesBounded
  fifos : a.fifosBounded → b.fifosBounded

theorem State.Keeps.refl (s : State) : s.Keeps s := ⟨rfl, id, Nat.le_refl _, id, id, id⟩

theorem State.Keeps.trans {a b c : State} (h : a.Keeps b) (k : b.Keeps c) : a.Keeps c :=
  ⟨k.queue.trans h.queue, fun w => k.buffers (h.buffers w), Nat.le_trans h.clock k.clock, fun w => k.events (h.events w),
   fun w => k.counts (h.counts w), fun w => k.fifos (h.fifos w)⟩

/-- A state that agrees with a kept one on the queue, the clock and everything the invariant speaks of. -/
theorem State.Keeps.congr {a x y : State} (h : a.Keeps x) (hq : y.pending = x.pending)
    (h1 : y.skim.surfaces = x.skim.surfaces := by rfl) (h2 : y.skim.lists = x.skim.lists := by rfl)
    (h3 : y.optics.staging = x.optics.staging := by rfl)
    (h5 : y.mram.slotA.bytes = x.mram.slotA.bytes := by rfl) (h6 : y.mram.slotB.bytes = x.mram.slotB.bytes := by rfl)
    (h7 : y.time.cyc = x.time.cyc := by rfl) (h8 : y.gw.sessions = x.gw.sessions := by rfl)
    (h9 : y.nvm.oldSessions = x.nvm.oldSessions := by rfl) (h10 : y.obs.tallies = x.obs.tallies := by rfl)
    (h11 : y.time.evt = x.time.evt := by rfl) (h12 : y.time.te = x.time.te := by rfl) : a.Keeps y := by
  have hb := h.buffers
  have he := h.events
  have hc := h.counts
  have hf := h.fifos
  unfold State.buffersWf at *
  unfold State.eventsBounded at *
  unfold State.talliesBounded at *
  unfold State.fifosBounded at *
  refine ⟨hq.trans h.queue, fun w => ?_, h7 ▸ h.clock, fun w => ?_, fun w => ?_, fun w => ?_⟩
  · unfold State.buffersWf; rw [h1, h2, h3, h5, h6]; exact hb w
  · unfold State.eventsBounded; rw [h8, h9]; exact he w
  · unfold State.talliesBounded; rw [h10]; exact hc w
  · unfold State.fifosBounded; rw [h11, h12]; exact hf w

/-- A kept state with any of its parts replaced, but for what the invariant speaks of, the queue and the clock. -/
theorem State.Keeps.mk' {a x : State} {t g c m n st w o i cd hb op sy sk sc po bb br gr dr pw fa} (h : a.Keeps x)
    (e : (sk.surfaces, sk.lists, op.staging, m.slotA.bytes, m.slotB.bytes, t.cyc, g.sessions, n.oldSessions,
        o.tallies, t.evt, t.te) =
      (x.skim.surfaces, x.skim.lists, x.optics.staging, x.mram.slotA.bytes, x.mram.slotB.bytes, x.time.cyc,
        x.gw.sessions, x.nvm.oldSessions, x.obs.tallies, x.time.evt, x.time.te)) :
    a.Keeps (State.mk t g c m n st w o i cd hb op sy sk sc po bb br gr dr pw fa x.pending) := by
  simp only [Prod.mk.injEq] at e
  obtain ⟨h1, h2, h3, h5, h6, h7, h8, h9, h10, h11, h12⟩ := e
  exact h.congr rfl h1 h2 h3 h5 h6 h7 h8 h9 h10 h11 h12

theorem State.Keeps.ite {a x y : State} {p : Prop} [Decidable p] (h : a.Keeps x) (k : a.Keeps y) :
    a.Keeps (if p then x else y) := by split <;> assumption

theorem State.Keeps.foldl {α : Type} {a x : State} {f : State → α → State} (hf : ∀ y e, a.Keeps y → a.Keeps (f y e))
    (h : a.Keeps x) (l : List α) : a.Keeps (l.foldl f x) := by
  induction l generalizing x with
  | nil => exact h
  | cons e r ih => exact ih (hf x e h)

theorem State.Keeps.pair {β : Type} {a s : State} {p : State × β} {b : β} (e : p = (s, b)) (h : a.Keeps p.1) : a.Keeps s := by
  rw [e] at h; exact h

end Sys2Proof.Machine
end

