-- ==== Sys2Proof/Laws/KeptA.lean ====
section
/-! SUPPORT. That each operation keeps what `State.Keeps` says, one lemma for each operation, callees before callers
(part 1 of 5): Card.Keeps to cardBbConfigure. -/

set_option linter.unusedTactic false
set_option linter.unreachableTactic false
set_option linter.unusedVariables false

namespace Sys2Proof.Machine

/-- What a command's definition may do to the state: what every meaning may. -/
structure Card.Keeps (k : Card) : Prop where
  run : ∀ {a x : State} (c : Caller) (pl : List Byte), a.Keeps x → a.Keeps (k.run x c pl).1
  refused : ∀ {a x : State} (st : Nat) (c : Caller) (pl : List Byte), a.Keeps x → a.Keeps (k.refused st x c pl)

theorem Memory.wf_write_others {m : List Host.Cell} (l : List Nat) (u : Nat) (h : Memory.wf none m) :
    Memory.wf none (l.foldl (fun m i => Memory.write none m (64 * u + i) 0) m) := by
  induction l generalizing m with
  | nil => exact h
  | cons i r ih => exact ih (Memory.wf_write h _ _)

theorem State.Keeps.fewerStaged {a x : State} (p : Host.Cell → Bool) (h : a.Keeps x) :
    a.Keeps { x with optics := { x.optics with staging := x.optics.staging.filter p } } :=
  ⟨h.queue, fun w => ⟨(h.buffers w).1, (h.buffers w).2.1, Memory.wf_filter (h.buffers w).2.2.1 _, (h.buffers w).2.2.2⟩,
    h.clock, h.events, h.counts, h.fifos⟩

theorem State.Keeps.fewerSurfaces {a x : State} {p : Nat × Surface → Bool} {sk : Skim} (h : a.Keeps x)
    (hs : sk.surfaces = x.skim.surfaces.filter p) (hl : sk.lists = x.skim.lists) : a.Keeps { x with skim := sk } := by
  refine ⟨h.queue, fun w => ⟨fun q hq => ?_, ?_⟩, h.clock, h.events, h.counts, h.fifos⟩
  · rw [show ({ x with skim := sk } : State).skim.surfaces = _ from hs] at hq
    exact (h.buffers w).1 q (List.mem_filter.mp hq).1
  · have k := (h.buffers w).2
    rw [← hl] at k; exact k

theorem State.sliceTaken_keeps {a x : State} (v0) (h : a.Keeps x) : a.Keeps (State.sliceTaken x v0) := by
  unfold State.sliceTaken
  iterate 40 all_goals (try (first
    | with_reducible assumption | with_reducible refine State.Keeps.ite ?_ ?_
    | (with_reducible refine State.Keeps.foldl ?_ ?_ _; intro _ _ _)
    | fail_if_no_progress with_reducible refine State.Keeps.mk' ?_ rfl | split | dsimp only))

theorem State.bgUnit_keeps {a x y : State} {j ch n : Nat} (e : x.bgUnit j ch n = some y) (h : a.Keeps x) : a.Keeps y := by
  unfold State.bgUnit at e
  split at e
  · rw [← Option.some.inj e]; exact State.sliceTaken_keeps _ h
  · split at e
    · rw [← Option.some.inj e]; exact State.Keeps.mk' h rfl
    · cases e

theorem putFixed_slots (m : Mram) (k : Nat) (r : FixedRec) : (putFixed m k r).slotA = m.slotA ∧ (putFixed m k r).slotB = m.slotB := by
  unfold putFixed
  split <;> exact ⟨rfl, rfl⟩

theorem State.putFixed_keeps {a x : State} (k : Nat) (r : FixedRec) (h : a.Keeps x) :
    a.Keeps { x with mram := putFixed x.mram k r } :=
  h.congr rfl (h5 := by rw [(putFixed_slots _ _ _).1]) (h6 := by rw [(putFixed_slots _ _ _).2])

theorem Tab.mem_get? {α : Type} {m : Tab α} {k : Nat} {v : α} (h : Tab.get? m k = some v) : (k, v) ∈ m := by
  induction m with
  | nil => simp [Tab.get?] at h
  | cons e r ih =>
    obtain ⟨j, w⟩ := e
    rw [Tab.get?_cons] at h
    split at h
    · next hj => subst hj; cases h; exact List.mem_cons_self
    · split at h
      · cases h
      · exact List.mem_cons_of_mem _ (ih h)

theorem State.surf_wf {x : State} (h : x.buffersWf) {id : Nat} {f : Surface} (hf : x.surf id = some f) : f.wf :=
  h.1 _ (Tab.mem_get? hf)

theorem Surface.wf_prune {f : Surface} (h : f.wf) (before : Int) : (f.prune before).wf :=
  ⟨h.1, fun e he => h.2 e ((List.dropWhile_sublist _).subset he)⟩

theorem Tab.wf_getD {m : Tab (List (Nat × Byte))} (h : ∀ p ∈ m, Memory.wf (some 0) p.2) (k : Nat) :
    Memory.wf (some 0) (Tab.getD m k []) := by
  unfold Tab.getD
  cases hg : Tab.get? m k with
  | none => exact Memory.wf_nil _
  | some v => exact h _ (Tab.mem_get? hg)

theorem cardSessionQuery_keeps : cardSessionQuery.Keeps := by
  constructor <;> intros <;> dsimp only [cardSessionQuery, done]
  iterate 40 all_goals (try (first
    | with_reducible assumption | with_reducible refine State.Keeps.ite ?_ ?_
    | (with_reducible refine State.Keeps.foldl ?_ ?_ _; intro _ _ _)
    | fail_if_no_progress with_reducible refine State.Keeps.mk' ?_ rfl | split | dsimp only))

theorem done_keeps {a x : State} (h : a.Keeps x) : a.Keeps (done x).1 := by
  unfold done
  iterate 40 all_goals (try (first
    | with_reducible assumption | with_reducible refine State.Keeps.ite ?_ ?_
    | (with_reducible refine State.Keeps.foldl ?_ ?_ _; intro _ _ _)
    | fail_if_no_progress with_reducible refine State.Keeps.mk' ?_ rfl | split | dsimp only))

theorem modAt_forall {α : Type} {P : α → Prop} {l : List α} (h : ∀ e ∈ l, P e) {k : Nat} {f : α → α}
    (hf : ∀ e, l[k]? = some e → P (f e)) : ∀ e ∈ modAt l k f, P e := by
  intro e he
  obtain ⟨i, hi⟩ := List.mem_iff_getElem?.mp he
  simp only [modAt, List.getElem?_modify] at hi
  cases hl : l[i]? with
  | none => simp [hl] at hi
  | some y =>
    by_cases hk : k = i
    · subst hk; simp [hl] at hi; subst hi; exact hf y hl
    · simp [hl, hk] at hi; subst hi; exact h y (List.mem_of_getElem? hl)

theorem State.modSess_keeps {a x : State} (k : Nat) {f : Session → Session} (h : a.Keeps x)
    (hf : ∀ e : Session, e.unacked.length ≤ 64 → (f e).unacked.length ≤ 64) : a.Keeps (x.modSess k f) :=
  ⟨h.queue, h.buffers, h.clock, fun w => ⟨modAt_forall (h.events w).1
    (fun e he => hf e ((h.events w).1 e (List.mem_of_getElem? he))), (h.events w).2⟩, h.counts, h.fifos⟩

theorem cardEventAck_keeps : cardEventAck.Keeps := by
  constructor <;> intros <;> dsimp only [cardEventAck, done]
  iterate 40 all_goals (try (first
    | with_reducible assumption
    | with_reducible refine State.modSess_keeps _ ?_ (fun _ he => by first | exact he | (unfold passFive; split <;> exact he) | exact Nat.le_trans (List.length_filter_le _ _) he)
    | with_reducible apply done_keeps | with_reducible refine State.Keeps.ite ?_ ?_
    | (with_reducible refine State.Keeps.foldl ?_ ?_ _; intro _ _ _)
    | fail_if_no_progress with_reducible refine State.Keeps.mk' ?_ rfl | split | dsimp only))

theorem cardDeviceInfo_keeps : cardDeviceInfo.Keeps := by
  constructor <;> intros <;> dsimp only [cardDeviceInfo, done]
  iterate 40 all_goals (try (first
    | with_reducible assumption | with_reducible refine State.Keeps.ite ?_ ?_
    | (with_reducible refine State.Keeps.foldl ?_ ?_ _; intro _ _ _)
    | fail_if_no_progress with_reducible refine State.Keeps.mk' ?_ rfl | split | dsimp only))

theorem cardSessionSubscribe_keeps : cardSessionSubscribe.Keeps := by
  constructor <;> intros <;> dsimp only [cardSessionSubscribe, done]
  iterate 40 all_goals (try (first
    | with_reducible assumption
    | with_reducible refine State.modSess_keeps _ ?_ (fun _ he => by first | exact he | (unfold passFive; split <;> exact he) | exact Nat.le_trans (List.length_filter_le _ _) he)
    | with_reducible apply done_keeps | with_reducible refine State.Keeps.ite ?_ ?_
    | (with_reducible refine State.Keeps.foldl ?_ ?_ _; intro _ _ _)
    | fail_if_no_progress with_reducible refine State.Keeps.mk' ?_ rfl | split | dsimp only))

theorem State.setObj_keeps {a x : State} (v0 v1) (h : a.Keeps x) : a.Keeps (State.setObj x v0 v1) :=
  State.Keeps.mk' h rfl

theorem State.irq_keeps {a x : State} (h : a.Keeps x) : a.Keeps (State.irq x) :=
  State.Keeps.mk' h rfl

theorem cardGangwayConfigure_keeps : cardGangwayConfigure.Keeps := by
  constructor <;> intros <;> dsimp only [cardGangwayConfigure, done]
  iterate 40 all_goals (try (first
    | with_reducible assumption | with_reducible apply State.setObj_keeps | with_reducible apply State.irq_keeps
    | with_reducible apply done_keeps | with_reducible refine State.Keeps.ite ?_ ?_
    | (with_reducible refine State.Keeps.foldl ?_ ?_ _; intro _ _ _)
    | fail_if_no_progress with_reducible refine State.Keeps.mk' ?_ rfl | split | dsimp only))

theorem cardGangwayEcho_keeps : cardGangwayEcho.Keeps := by
  constructor <;> intros <;> dsimp only [cardGangwayEcho, done]
  iterate 40 all_goals (try (first
    | with_reducible assumption | with_reducible refine State.Keeps.ite ?_ ?_
    | (with_reducible refine State.Keeps.foldl ?_ ?_ _; intro _ _ _)
    | fail_if_no_progress with_reducible refine State.Keeps.mk' ?_ rfl | split | dsimp only))

theorem State.modDomain_keeps {a x : State} (v0 v1) (h : a.Keeps x) : a.Keeps (State.modDomain x v0 v1) :=
  State.Keeps.mk' h rfl

theorem satN_lt (v b : Nat) : satN v b < 2 ^ b := by
  unfold satN
  split
  · assumption
  · exact Nat.sub_lt (Nat.two_pow_pos b) Nat.one_pos

theorem State.tallyBy_keeps {a x : State} (v0 v1 : Nat) (h : a.Keeps x) : a.Keeps (x.tallyBy v0 v1) := by
  refine ⟨h.queue, h.buffers, h.clock, h.events, fun w p hp => ?_, h.fifos⟩
  rcases Tab.mem_put hp with rfl | hp
  · exact satN_lt _ _
  · exact h.counts w p hp

theorem State.tally_keeps {a x : State} (v0) (h : a.Keeps x) : a.Keeps (State.tally x v0) :=
  State.tallyBy_keeps _ _ h

theorem State.wakeBoundary_keeps {a x : State} (h : a.Keeps x) : a.Keeps (State.wakeBoundary x) :=
  State.Keeps.mk' h rfl

theorem State.wakeRec_keeps {a x : State} (v0 : Nat) (v1 : List Byte) (h : a.Keeps x) : a.Keeps (State.wakeRec x v0 v1) := by
  unfold State.wakeRec
  iterate 40 all_goals (try (first
    | with_reducible assumption | with_reducible apply State.wakeBoundary_keeps | with_reducible apply State.tally_keeps
    | with_reducible refine State.Keeps.ite ?_ ?_ | (with_reducible refine State.Keeps.foldl ?_ ?_ _; intro _ _ _)
    | fail_if_no_progress with_reducible refine State.Keeps.mk' ?_ rfl | split | dsimp only))

theorem State.timeRec_keeps {a x : State} (v0 v1 v2) (h : a.Keeps x) : a.Keeps (State.timeRec x v0 v1 v2) :=
  State.wakeRec_keeps _ _ h

theorem State.setClock_keeps {a x : State} (v0 : ClockState) (h : a.Keeps x) : a.Keeps (State.setClock x v0) := by
  unfold State.setClock
  iterate 40 all_goals (try (first
    | with_reducible assumption | with_reducible apply State.timeRec_keeps | with_reducible refine State.Keeps.ite ?_ ?_
    | (with_reducible refine State.Keeps.foldl ?_ ?_ _; intro _ _ _)
    | fail_if_no_progress with_reducible refine State.Keeps.mk' ?_ rfl | split | dsimp only))

theorem State.elect_keeps {a x : State} (h : a.Keeps x) : a.Keeps (State.elect x) := by
  unfold State.elect
  iterate 40 all_goals (try (first
    | with_reducible assumption | with_reducible refine State.Keeps.ite ?_ ?_
    | (with_reducible refine State.Keeps.foldl ?_ ?_ _; intro _ _ _)
    | fail_if_no_progress with_reducible refine State.Keeps.mk' ?_ rfl | split | dsimp only))

theorem State.loseDomain_keeps {a x : State} (v0 : Nat) (v1 : Nat) (h : a.Keeps x) : a.Keeps (State.loseDomain x v0 v1) := by
  unfold State.loseDomain
  iterate 40 all_goals (try (first
    | with_reducible assumption | with_reducible apply State.modDomain_keeps | with_reducible apply State.setClock_keeps
    | with_reducible apply State.elect_keeps | with_reducible refine State.Keeps.ite ?_ ?_
    | (with_reducible refine State.Keeps.foldl ?_ ?_ _; intro _ _ _)
    | fail_if_no_progress with_reducible refine State.Keeps.mk' ?_ rfl | split | dsimp only))

theorem State.redomain_keeps {a x : State} (v0 : Nat) (v1 : Nat) (h : a.Keeps x) : a.Keeps (State.redomain x v0 v1) := by
  unfold State.redomain
  iterate 40 all_goals (try (first
    | with_reducible assumption | with_reducible apply State.loseDomain_keeps | with_reducible apply State.modDomain_keeps
    | with_reducible refine State.Keeps.ite ?_ ?_ | (with_reducible refine State.Keeps.foldl ?_ ?_ _; intro _ _ _)
    | fail_if_no_progress with_reducible refine State.Keeps.mk' ?_ rfl | split | dsimp only))

theorem cardTimeConfigure_keeps : cardTimeConfigure.Keeps := by
  constructor <;> intros <;> dsimp only [cardTimeConfigure, done]
  iterate 40 all_goals (try (first
    | with_reducible assumption | with_reducible apply State.setObj_keeps | with_reducible apply State.redomain_keeps
    | with_reducible apply done_keeps | with_reducible refine State.Keeps.ite ?_ ?_
    | (with_reducible refine State.Keeps.foldl ?_ ?_ _; intro _ _ _)
    | fail_if_no_progress with_reducible refine State.Keeps.mk' ?_ rfl | split | dsimp only))

theorem cardTriggerConfigure_keeps : cardTriggerConfigure.Keeps := by
  constructor <;> intros <;> dsimp only [cardTriggerConfigure, done]
  iterate 40 all_goals (try (first
    | with_reducible assumption | with_reducible apply State.setObj_keeps | with_reducible apply done_keeps
    | with_reducible refine State.Keeps.ite ?_ ?_ | (with_reducible refine State.Keeps.foldl ?_ ?_ _; intro _ _ _)
    | fail_if_no_progress with_reducible refine State.Keeps.mk' ?_ rfl | split | dsimp only))

theorem State.redate_keeps {a x : State} (d : Int) (h : a.Keeps x) : a.Keeps (x.redate d) := by
  refine ⟨h.queue, fun w => ⟨fun p hp => ?_, (h.buffers w).2⟩, h.clock, h.events, h.counts, h.fifos⟩
  obtain ⟨q, hq, rfl⟩ := List.mem_map.mp hp
  exact Surface.wf_movedBy ((h.buffers w).1 q hq) d

theorem State.setTime_keeps {a x : State} {tm : TimeUnit} (hc : x.time.cyc ≤ tm.cyc) (he : tm.evt = x.time.evt)
    (ht : tm.te = x.time.te) (h : a.Keeps x) : a.Keeps (x.setTime tm) := by
  refine State.redate_keeps _ ⟨h.queue, h.buffers, Nat.le_trans h.clock hc, h.events, h.counts, fun w => ?_⟩
  have k := h.fifos w
  unfold State.fifosBounded at k ⊢
  rw [he, ht]; exact k

theorem State.stepClock_keeps {a x : State} (v0 : Nat) (h : a.Keeps x) : a.Keeps (x.stepClock v0) := by
  unfold State.stepClock
  exact State.setClock_keeps _ (State.Keeps.mk' (State.Keeps.mk' (State.setTime_keeps (Nat.le_refl _) rfl rfl h) rfl) rfl)

theorem cardTimeStep_keeps : cardTimeStep.Keeps := by
  constructor <;> intros <;> dsimp only [cardTimeStep, done]
  iterate 40 all_goals (try (first
    | with_reducible assumption | with_reducible apply State.stepClock_keeps | with_reducible apply done_keeps
    | with_reducible refine State.Keeps.ite ?_ ?_ | (with_reducible refine State.Keeps.foldl ?_ ?_ _; intro _ _ _)
    | fail_if_no_progress with_reducible refine State.Keeps.mk' ?_ rfl | split | dsimp only))

theorem State.enqueue_keeps {a x : State} (v0 v1) (h : a.Keeps x) : a.Keeps (State.enqueue x v0 v1) :=
  State.Keeps.mk' h rfl

theorem State.viaBbi_keeps {a x : State} (v0 v1 v2) (h : a.Keeps x) : a.Keeps (State.viaBbi x v0 v1 v2) := by
  unfold State.viaBbi
  iterate 40 all_goals (try (first
    | with_reducible assumption | with_reducible apply State.enqueue_keeps | with_reducible refine State.Keeps.ite ?_ ?_
    | (with_reducible refine State.Keeps.foldl ?_ ?_ _; intro _ _ _)
    | fail_if_no_progress with_reducible refine State.Keeps.mk' ?_ rfl | split | dsimp only))

theorem State.pumpPorts_keeps {a x : State} (v0 : List (Nat × Frame × Option (Nat × Int))) (h : a.Keeps x) :
    a.Keeps (x.pumpPorts v0) := by
  induction v0 generalizing x with
  | nil => exact h
  | cons p r ih =>
    obtain ⟨b, f, q⟩ := p
    rw [State.pumpPorts]
    exact State.Keeps.ite (ih (State.viaBbi_keeps _ _ _ h)) (ih (State.Keeps.mk' h rfl))

theorem State.pumpBerth_keeps {a x : State} (v0 : Nat) (v1 : List Frame) (h : a.Keeps x) : a.Keeps (x.pumpBerth v0 v1) := by
  induction v1 generalizing x with
  | nil => exact State.Keeps.mk' h rfl
  | cons f r ih =>
    rw [State.pumpBerth]
    exact State.Keeps.ite (ih (State.viaBbi_keeps _ _ _ h)) (State.Keeps.mk' h rfl)

theorem State.fillBerth_keeps {a x : State} (v0 : Nat) (v1 : List Frame) (h : a.Keeps x) : a.Keeps (x.fillBerth v0 v1) := by
  induction v1 generalizing x with
  | nil => exact State.Keeps.mk' h rfl
  | cons f r ih =>
    rw [State.fillBerth]
    exact State.Keeps.ite (ih (State.pumpBerth_keeps _ _ h)) (State.Keeps.mk' h rfl)

theorem State.pumpOne_keeps {a x : State} (v0 : Nat) (h : a.Keeps x) : a.Keeps (State.pumpOne x v0) := by
  unfold State.pumpOne
  iterate 40 all_goals (try (first
    | with_reducible assumption | with_reducible apply State.pumpBerth_keeps | with_reducible apply State.fillBerth_keeps
    | with_reducible refine State.Keeps.ite ?_ ?_ | (with_reducible refine State.Keeps.foldl ?_ ?_ _; intro _ _ _)
    | fail_if_no_progress with_reducible refine State.Keeps.mk' ?_ rfl | split | dsimp only))

theorem State.pump_keeps {a x : State} (h : a.Keeps x) : a.Keeps (State.pump x) := by
  unfold State.pump
  iterate 40 all_goals (try (first
    | with_reducible assumption | with_reducible apply State.pumpOne_keeps | with_reducible apply State.pumpPorts_keeps
    | with_reducible refine State.Keeps.ite ?_ ?_ | (with_reducible refine State.Keeps.foldl ?_ ?_ _; intro _ _ _)
    | fail_if_no_progress with_reducible refine State.Keeps.mk' ?_ rfl | split | dsimp only))

theorem State.sendStamped_keeps {a x : State} (v0 : Nat) (v1 : Frame) (v2 : Option (Nat × Int)) (h : a.Keeps x) :
    a.Keeps (State.sendStamped x v0 v1 v2) := by
  unfold State.sendStamped
  iterate 40 all_goals (try (first
    | with_reducible assumption | with_reducible apply State.pump_keeps | with_reducible refine State.Keeps.ite ?_ ?_
    | (with_reducible refine State.Keeps.foldl ?_ ?_ _; intro _ _ _)
    | fail_if_no_progress with_reducible refine State.Keeps.mk' ?_ rfl | split | dsimp only))

theorem State.sendPort_keeps {a x : State} (v0 : Nat) (v1 : Frame) (h : a.Keeps x) : a.Keeps (State.sendPort x v0 v1) := by
  unfold State.sendPort
  iterate 40 all_goals (try (first
    | with_reducible assumption | with_reducible apply State.sendStamped_keeps | with_reducible refine State.Keeps.ite ?_ ?_
    | (with_reducible refine State.Keeps.foldl ?_ ?_ _; intro _ _ _)
    | fail_if_no_progress with_reducible refine State.Keeps.mk' ?_ rfl | split | dsimp only))

theorem State.mcastPort_keeps {a x : State} (v0 v1 v2) (h : a.Keeps x) : a.Keeps (State.mcastPort x v0 v1 v2) :=
  State.sendPort_keeps _ _ h

theorem State.reportGroups_keeps {a x : State} (h : a.Keeps x) : a.Keeps (State.reportGroups x) := by
  unfold State.reportGroups
  iterate 40 all_goals (try (first
    | with_reducible assumption | with_reducible apply State.mcastPort_keeps | with_reducible refine State.Keeps.ite ?_ ?_
    | (with_reducible refine State.Keeps.foldl ?_ ?_ _; intro _ _ _)
    | fail_if_no_progress with_reducible refine State.Keeps.mk' ?_ rfl | split | dsimp only))

theorem cardBridgeSet_keeps : cardBridgeSet.Keeps := by
  constructor <;> intros <;> dsimp only [cardBridgeSet, done]
  iterate 40 all_goals (try (first
    | with_reducible assumption | with_reducible apply State.setObj_keeps | with_reducible apply State.reportGroups_keeps
    | with_reducible apply done_keeps | with_reducible refine State.Keeps.ite ?_ ?_
    | (with_reducible refine State.Keeps.foldl ?_ ?_ _; intro _ _ _)
    | fail_if_no_progress with_reducible refine State.Keeps.mk' ?_ rfl | split | dsimp only))

theorem cardCodecConfigure_keeps : cardCodecConfigure.Keeps := by
  constructor <;> intros <;> dsimp only [cardCodecConfigure, done]
  iterate 40 all_goals (try (first
    | with_reducible assumption | with_reducible apply State.setObj_keeps | with_reducible apply done_keeps
    | with_reducible refine State.Keeps.ite ?_ ?_ | (with_reducible refine State.Keeps.foldl ?_ ?_ _; intro _ _ _)
    | fail_if_no_progress with_reducible refine State.Keeps.mk' ?_ rfl | split | dsimp only))

theorem cardCodecQuery_keeps : cardCodecQuery.Keeps := by
  constructor <;> intros <;> dsimp only [cardCodecQuery, done]
  iterate 40 all_goals (try (first
    | with_reducible assumption | with_reducible refine State.Keeps.ite ?_ ?_
    | (with_reducible refine State.Keeps.foldl ?_ ?_ _; intro _ _ _)
    | fail_if_no_progress with_reducible refine State.Keeps.mk' ?_ rfl | split | dsimp only))

theorem State.send_keeps {a x : State} (v0 : Nat) (v1 : Frame) (h : a.Keeps x) : a.Keeps (State.send x v0 v1) := by
  unfold State.send
  iterate 40 all_goals (try (first
    | with_reducible assumption | with_reducible apply State.pump_keeps | with_reducible refine State.Keeps.ite ?_ ?_
    | (with_reducible refine State.Keeps.foldl ?_ ?_ _; intro _ _ _)
    | fail_if_no_progress with_reducible refine State.Keeps.mk' ?_ rfl | split | dsimp only))

theorem State.sendOwn_keeps {a x : State} (v0 : Frame) (h : a.Keeps x) : a.Keeps (State.sendOwn x v0) := by
  unfold State.sendOwn
  iterate 40 all_goals (try (first
    | with_reducible assumption | with_reducible apply State.sendPort_keeps | with_reducible refine State.Keeps.ite ?_ ?_
    | (with_reducible refine State.Keeps.foldl ?_ ?_ _; intro _ _ _)
    | fail_if_no_progress with_reducible refine State.Keeps.mk' ?_ rfl | split | dsimp only))

theorem State.askArp_keeps {a x : State} (v0) (h : a.Keeps x) : a.Keeps (State.askArp x v0) := by
  unfold State.askArp
  exact State.sendOwn_keeps _ h

theorem State.setCrc_keeps {a x : State} (v0 v1 v2) (h : a.Keeps x) : a.Keeps (State.setCrc x v0 v1 v2) :=
  State.Keeps.mk' h rfl

theorem State.txCrc_keeps {a x : State} (v0 : Nat) (v1 : List Byte) (h : a.Keeps x) : a.Keeps (State.txCrc x v0 v1) := by
  unfold State.txCrc
  iterate 40 all_goals (try (first
    | with_reducible assumption | with_reducible apply State.setCrc_keeps | with_reducible refine State.Keeps.ite ?_ ?_
    | (with_reducible refine State.Keeps.foldl ?_ ?_ _; intro _ _ _)
    | fail_if_no_progress with_reducible refine State.Keeps.mk' ?_ rfl | split | dsimp only))

theorem State.sendUdp_keeps {a x : State} (v0 : Nat) (v1 : Nat) (v2 : Nat) (v3 : Nat) (v4 : Nat) (v5 : List Byte) (h : a.Keeps x) :
    a.Keeps (State.sendUdp x v0 v1 v2 v3 v4 v5) := by
  unfold State.sendUdp
  iterate 40 all_goals (try (first
    | with_reducible assumption | with_reducible apply State.txCrc_keeps | with_reducible apply State.send_keeps
    | with_reducible apply State.askArp_keeps | with_reducible refine State.Keeps.ite ?_ ?_
    | (with_reducible refine State.Keeps.foldl ?_ ?_ _; intro _ _ _)
    | fail_if_no_progress with_reducible refine State.Keeps.mk' ?_ rfl | split | dsimp only))

theorem State.sendReply_keeps {a x : State} (v0 : Caller) (v1 : List Byte) (h : a.Keeps x) :
    a.Keeps (State.sendReply x v0 v1) := by
  unfold State.sendReply
  iterate 40 all_goals (try (first
    | with_reducible assumption | with_reducible apply State.irq_keeps | with_reducible apply State.sendUdp_keeps
    | with_reducible refine State.Keeps.ite ?_ ?_ | (with_reducible refine State.Keeps.foldl ?_ ?_ _; intro _ _ _)
    | fail_if_no_progress with_reducible refine State.Keeps.mk' ?_ rfl | split | dsimp only))

theorem State.unauthCount_keeps {a x : State} (h : a.Keeps x) : a.Keeps (State.unauthCount x) :=
  State.Keeps.mk' h rfl

theorem State.reply_keeps {a x : State} (v0 : Nat) (v1 : Packet) (v2 : Caller) (v3 : Nat) (v4 : List Byte) (h : a.Keeps x) :
    a.Keeps (State.reply x v0 v1 v2 v3 v4) := by
  unfold State.reply
  iterate 40 all_goals (try (first
    | with_reducible assumption
    | with_reducible refine State.modSess_keeps _ ?_ (fun _ he => by first | exact he | (unfold passFive; split <;> exact he) | exact Nat.le_trans (List.length_filter_le _ _) he)
    | with_reducible apply State.sendReply_keeps | with_reducible refine State.Keeps.ite ?_ ?_
    | (with_reducible refine State.Keeps.foldl ?_ ?_ _; intro _ _ _)
    | fail_if_no_progress with_reducible refine State.Keeps.mk' ?_ rfl | split | dsimp only))

theorem State.replyUnder_keeps {a x : State} (v0 v1 v2 v3 v4 v5) (h : a.Keeps x) : a.Keeps (State.replyUnder x v0 v1 v2 v3 v4 v5) := by
  unfold State.replyUnder
  iterate 40 all_goals (try (first
    | with_reducible assumption | with_reducible apply State.irq_keeps | with_reducible apply State.reply_keeps
    | with_reducible refine State.Keeps.ite ?_ ?_ | (with_reducible refine State.Keeps.foldl ?_ ?_ _; intro _ _ _)
    | fail_if_no_progress with_reducible refine State.Keeps.mk' ?_ rfl | split | dsimp only))

theorem State.interpret_keeps {a x : State} {k : Option Card} (op : Nat) (p : Packet) (c : Caller)
    (hk : ∀ c ∈ k, c.Keeps) (h : a.Keeps x) : a.Keeps (x.interpret k op p c) := by
  unfold State.interpret
  dsimp only
  split
  · exact State.reply_keeps _ _ _ _ _ h
  · next k =>
    have hk := hk k rfl
    split
    · refine State.reply_keeps _ _ _ _ _ ?_
      split
      · exact State.tally_keeps _ h
      · exact hk.refused _ _ _ h
    · split
      · refine hk.run _ _ (State.reply_keeps _ _ _ _ _ ?_)
        split
        · exact State.modSess_keeps _ h (fun _ he => he)
        · exact h
      · split
        · exact State.Keeps.mk' (hk.run _ _ h) rfl
        · exact State.replyUnder_keeps _ _ _ _ _ _ (hk.run _ _ h)

theorem State.interpretAny_keeps {a x : State} {k : Option Card} (op : Nat) (p : Packet) (c : Caller)
    (hk : ∀ c ∈ k, c.Keeps) (h : a.Keeps x) : a.Keeps (x.interpretAny k op p c) := by
  unfold State.interpretAny
  split
  · exact State.interpret_keeps _ _ _ hk h
  · split
    · exact State.interpret_keeps _ _ _ hk (State.unauthCount_keeps h)
    · exact State.tally_keeps _ h

theorem State.wait_keeps {a x : State} (v0 v1 v2) (h : a.Keeps x) : a.Keeps (State.wait x v0 v1 v2) :=
  State.Keeps.mk' h rfl

theorem State.dispatch_keeps {a x : State} {k : Option Card} (op : Nat) (p : Packet) (n : Option Nat)
    (hk : ∀ c ∈ k, c.Keeps) (h : a.Keeps x) : a.Keeps (x.dispatch k op p n) := by
  unfold State.dispatch
  split
  · exact State.interpretAny_keeps _ _ _ hk h
  · exact State.wait_keeps _ _ _ h

theorem State.notNewer_keeps {a x : State} (v0 : Nat) (v1 : Packet) (v2 : Nat) (h : a.Keeps x) :
    a.Keeps (State.notNewer x v0 v1 v2) := by
  unfold State.notNewer
  iterate 40 all_goals (try (first
    | with_reducible assumption | with_reducible apply State.reply_keeps | with_reducible apply State.tally_keeps
    | with_reducible apply State.sendReply_keeps | with_reducible refine State.Keeps.ite ?_ ?_
    | (with_reducible refine State.Keeps.foldl ?_ ?_ _; intro _ _ _)
    | fail_if_no_progress with_reducible refine State.Keeps.mk' ?_ rfl | split | dsimp only))

theorem State.take_keeps {a x : State} {k : Option Card} (op : Nat) (p : Packet) (hk : ∀ c ∈ k, c.Keeps) (h : a.Keeps x) : a.Keeps (x.take k op p) := by
  unfold State.take
  iterate 40 all_goals (try (first
    | with_reducible assumption | with_reducible apply State.dispatch_keeps | with_reducible apply State.tally_keeps
    | with_reducible apply State.unauthCount_keeps | with_reducible apply State.sendReply_keeps
    | with_reducible refine State.modSess_keeps _ ?_ (fun _ he => by first | exact he | (unfold passFive; split <;> exact he) | exact Nat.le_trans (List.length_filter_le _ _) he)
    | with_reducible apply State.notNewer_keeps | with_reducible refine State.Keeps.ite ?_ ?_
    | (with_reducible refine State.Keeps.foldl ?_ ?_ _; intro _ _ _)
    | fail_if_no_progress with_reducible refine State.Keeps.mk' ?_ rfl | split | dsimp only))

theorem State.codecError_keeps {a x : State} (v0 : Nat) (v1 : Nat) (v2 : Zstd.Result) (h : a.Keeps x) :
    a.Keeps (State.codecError x v0 v1 v2) := by
  unfold State.codecError
  iterate 40 all_goals (try (first
    | with_reducible assumption | with_reducible apply State.tally_keeps | with_reducible apply State.wakeRec_keeps
    | with_reducible refine State.Keeps.ite ?_ ?_ | (with_reducible refine State.Keeps.foldl ?_ ?_ _; intro _ _ _)
    | fail_if_no_progress with_reducible refine State.Keeps.mk' ?_ rfl | split | dsimp only))

theorem cardCodecDecompress_keeps : cardCodecDecompress.Keeps := by
  constructor <;> intros <;> dsimp only [cardCodecDecompress, done]
  iterate 40 all_goals (try (first
    | with_reducible assumption | with_reducible apply State.take_keeps | with_reducible apply State.codecError_keeps
    | with_reducible exact cardOf_keeps _ | with_reducible refine State.Keeps.ite ?_ ?_
    | (with_reducible refine State.Keeps.foldl ?_ ?_ _; intro _ _ _)
    | fail_if_no_progress with_reducible refine State.Keeps.mk' ?_ rfl | split | dsimp only))

theorem State.took_keeps {a x : State} (h : a.Keeps x) : a.Keeps (State.took x) :=
  State.Keeps.mk' h rfl

theorem State.verifyFailed_keeps {a x : State} (v0 : Nat) (v1 : Nat) (h : a.Keeps x) :
    a.Keeps (State.verifyFailed x v0 v1) := by
  unfold State.verifyFailed
  iterate 40 all_goals (try (first
    | with_reducible assumption | with_reducible apply State.tally_keeps | with_reducible apply State.wakeRec_keeps
    | with_reducible refine State.Keeps.ite ?_ ?_ | (with_reducible refine State.Keeps.foldl ?_ ?_ _; intro _ _ _)
    | fail_if_no_progress with_reducible refine State.Keeps.mk' ?_ rfl | split | dsimp only))

theorem cardCodecCompress_keeps : cardCodecCompress.Keeps := by
  constructor <;> intros <;> dsimp only [cardCodecCompress, done]
  iterate 40 all_goals (try (first
    | with_reducible assumption | with_reducible apply State.took_keeps | with_reducible apply State.setCrc_keeps
    | with_reducible apply State.verifyFailed_keeps | with_reducible refine State.Keeps.ite ?_ ?_
    | (with_reducible refine State.Keeps.foldl ?_ ?_ _; intro _ _ _)
    | fail_if_no_progress with_reducible refine State.Keeps.mk' ?_ rfl | split | dsimp only))

theorem cardOpticsSet_keeps : cardOpticsSet.Keeps := by
  constructor <;> intros <;> dsimp only [cardOpticsSet, done]
  iterate 40 all_goals (try (first
    | with_reducible assumption | with_reducible apply State.setObj_keeps | with_reducible apply done_keeps
    | with_reducible refine State.Keeps.ite ?_ ?_ | (with_reducible refine State.Keeps.foldl ?_ ?_ _; intro _ _ _)
    | fail_if_no_progress with_reducible refine State.Keeps.mk' ?_ rfl | split | dsimp only))

theorem cardCorrMapLoad_keeps : cardCorrMapLoad.Keeps where
  run := fun _ _ h => ⟨h.queue, fun w => ⟨(h.buffers w).1, (h.buffers w).2.1, Memory.wf_writeAll (h.buffers w).2.2.1 _ _,
    (h.buffers w).2.2.2⟩, h.clock, h.events, h.counts, h.fifos⟩
  refused := fun _ _ _ h => h

theorem cardCorrMapCommit_keeps : cardCorrMapCommit.Keeps := by
  constructor <;> intros <;> dsimp only [cardCorrMapCommit, done]
  iterate 40 all_goals (try (first
    | with_reducible assumption | with_reducible apply done_keeps | with_reducible refine State.Keeps.ite ?_ ?_
    | (with_reducible refine State.Keeps.foldl ?_ ?_ _; intro _ _ _)
    | fail_if_no_progress with_reducible refine State.Keeps.mk' ?_ rfl | split | dsimp only))

theorem cardFanConfigure_keeps : cardFanConfigure.Keeps := by
  constructor <;> intros <;> dsimp only [cardFanConfigure, done]
  iterate 40 all_goals (try (first
    | with_reducible assumption | with_reducible apply State.setObj_keeps | with_reducible apply done_keeps
    | with_reducible refine State.Keeps.ite ?_ ?_ | (with_reducible refine State.Keeps.foldl ?_ ?_ _; intro _ _ _)
    | fail_if_no_progress with_reducible refine State.Keeps.mk' ?_ rfl | split | dsimp only))

theorem cardLathEvaluate_keeps : cardLathEvaluate.Keeps := by
  constructor <;> intros <;> dsimp only [cardLathEvaluate, done]
  iterate 40 all_goals (try (first
    | with_reducible assumption | with_reducible refine State.Keeps.ite ?_ ?_
    | (with_reducible refine State.Keeps.foldl ?_ ?_ _; intro _ _ _)
    | fail_if_no_progress with_reducible refine State.Keeps.mk' ?_ rfl | split | dsimp only))

theorem State.setSurf_keeps {a x : State} (id : Nat) {f : Surface} (h : a.Keeps x) (hf : a.buffersWf → f.wf) :
    a.Keeps (x.setSurf id f) := by
  refine ⟨h.queue, fun w => ?_, h.clock, h.events, h.counts, h.fifos⟩
  have hx := h.buffers w
  refine ⟨fun p hp => ?_, hx.2⟩
  rcases Tab.mem_put hp with rfl | hp
  · exact hf w
  · exact hx.1 p hp

theorem cardSurfaceCreate_keeps : cardSurfaceCreate.Keeps where
  run := fun _ _ h => State.Keeps.mk' (State.setSurf_keeps _ h (fun _ => ⟨Memory.wf_nil _, fun _ he => absurd he List.not_mem_nil⟩)) rfl
   
  refused := fun _ _ _ h => h

theorem cardSurfaceDestroy_keeps : cardSurfaceDestroy.Keeps where
  run := fun _ _ h => ⟨h.queue, fun w => ⟨fun _ hp => (h.buffers w).1 _ (List.mem_filter.mp hp).1, (h.buffers w).2⟩, h.clock, h.events, h.counts, h.fifos⟩
  refused := fun _ _ _ h => h

theorem cardSurfaceWrite_keeps : cardSurfaceWrite.Keeps where
  run := by
    intro a x c pl h
    dsimp only [cardSurfaceWrite, done]
    split
    · exact h
    · next f hf =>
      refine State.setSurf_keeps _ h (fun w => Surface.wf_landed _ ?_)
      have k := Surface.wf_keep (State.surf_wf (h.buffers w) hf) x.ns (some x.ns) (some x.ns)
        ((List.range ((num pl 4 4 + num pl 2 2 - 1) / 64 + 1 - num pl 4 4 / 64)).map (num pl 4 4 / 64 + ·))
      exact ⟨Memory.wf_writeAll k.1 _ _, k.2⟩
  refused := fun _ _ _ h => h

theorem cardSkimListWrite_keeps : cardSkimListWrite.Keeps where
  run := fun _ _ h => ⟨h.queue, fun w => ⟨(h.buffers w).1, fun p hp => by
    rcases Tab.mem_put hp with rfl | hp
    · exact Memory.wf_landed _ _ _ (Memory.wf_writeAll (Tab.wf_getD (h.buffers w).2.1 _) _ _)
    · exact (h.buffers w).2.1 p hp, (h.buffers w).2.2⟩, h.clock, h.events, h.counts, h.fifos⟩
  refused := fun _ _ _ h => h

theorem cardSkimSubmit_keeps : cardSkimSubmit.Keeps := by
  constructor <;> intros <;> dsimp only [cardSkimSubmit, done]
  iterate 40 all_goals (try (first
    | with_reducible assumption | with_reducible apply done_keeps | with_reducible refine State.Keeps.ite ?_ ?_
    | (with_reducible refine State.Keeps.foldl ?_ ?_ _; intro _ _ _)
    | fail_if_no_progress with_reducible refine State.Keeps.mk' ?_ rfl | split | dsimp only))

theorem cardLinkConfigure_keeps : cardLinkConfigure.Keeps := by
  constructor <;> intros <;> dsimp only [cardLinkConfigure, done]
  iterate 40 all_goals (try (first
    | with_reducible assumption | with_reducible apply State.setObj_keeps | with_reducible apply done_keeps
    | with_reducible refine State.Keeps.ite ?_ ?_ | (with_reducible refine State.Keeps.foldl ?_ ?_ _; intro _ _ _)
    | fail_if_no_progress with_reducible refine State.Keeps.mk' ?_ rfl | split | dsimp only))

theorem State.modPort_keeps {a x : State} (v0 v1) (h : a.Keeps x) : a.Keeps (State.modPort x v0 v1) :=
  State.Keeps.mk' h rfl

theorem State.tallyUnit_keeps {a x : State} (v0 : Nat) (v1 : Nat) (v2 : Nat) (h : a.Keeps x) :
    a.Keeps (State.tallyUnit x v0 v1 v2) := by
  unfold State.tallyUnit
  iterate 40 all_goals (try (first
    | with_reducible assumption | with_reducible apply State.tallyBy_keeps | with_reducible refine State.Keeps.ite ?_ ?_
    | (with_reducible refine State.Keeps.foldl ?_ ?_ _; intro _ _ _)
    | fail_if_no_progress with_reducible refine State.Keeps.mk' ?_ rfl | split | dsimp only))

theorem State.queueEvent_keeps {a x : State} (v0 v1 v2 v3 : Nat) (v4 : List Byte) (h : a.Keeps x) :
    a.Keeps (x.queueEvent v0 v1 v2 v3 v4) := by
  unfold State.queueEvent
  dsimp only
  split
  · exact h
  · split
    · exact State.tally_keeps _ (State.modSess_keeps _ h (fun _ he => he))
    · next hr =>
      have hl : (x.sess v0).unacked.length < 64 := Nat.lt_of_not_le (fun e => hr (.inl e))
      have k : ∀ f : Session → Session, (∀ e, (f e).unacked.length = e.unacked.length + 1) → a.Keeps (x.modSess v0 f) := by
        intro f hf
        refine ⟨h.queue, h.buffers, h.clock, fun w => ⟨modAt_forall (h.events w).1 (fun e he => ?_), (h.events w).2⟩,
          h.counts, h.fifos⟩
        have he : x.sess v0 = e := by simp [State.sess, nth, List.getD_eq_getElem?_getD, he]
        rw [hf, ← he]
        exact hl
      split
      · exact State.irq_keeps (k _ (fun e => List.length_append))
      · split
        · exact State.sendUdp_keeps _ _ _ _ _ _ (k _ (fun e => List.length_append))
        · exact k _ (fun e => List.length_append)

theorem State.finalEvent_keeps {a x : State} (v0 : Nat) (v1 : Nat) (v2 : Nat) (v3 : Nat) (v4 : List Byte) (h : a.Keeps x) :
    a.Keeps (State.finalEvent x v0 v1 v2 v3 v4) := by
  unfold State.finalEvent
  iterate 40 all_goals (try (first
    | with_reducible assumption
    | with_reducible refine State.modSess_keeps _ ?_ (fun _ he => by first | exact he | (unfold passFive; split <;> exact he) | exact Nat.le_trans (List.length_filter_le _ _) he)
    | with_reducible apply State.queueEvent_keeps | with_reducible refine State.Keeps.ite ?_ ?_
    | (with_reducible refine State.Keeps.foldl ?_ ?_ _; intro _ _ _)
    | fail_if_no_progress with_reducible refine State.Keeps.mk' ?_ rfl | split | dsimp only))

theorem State.listShown_keeps {a x : State} (h : a.Keeps x) : a.Keeps x.listShown := by
  refine ⟨h.queue, fun w => ⟨fun p hp => ?_, (h.buffers w).2⟩, h.clock, h.events, h.counts, h.fifos⟩
  obtain ⟨q, hq, rfl⟩ := List.mem_map.mp hp
  exact Surface.wf_show ((h.buffers w).1 q hq) _

theorem State.pieceGone_keeps {a x : State} (h : a.Keeps x) : a.Keeps (State.pieceGone x) :=
  State.Keeps.mk' (State.listShown_keeps h) rfl

theorem State.listEnds_keeps {a x : State} (v0 : Nat) (v1 : Nat) (h : a.Keeps x) : a.Keeps (State.listEnds x v0 v1) := by
  unfold State.listEnds
  iterate 40 all_goals (try (first
    | with_reducible assumption | with_reducible apply State.pieceGone_keeps | with_reducible apply State.finalEvent_keeps
    | with_reducible refine State.Keeps.ite ?_ ?_ | (with_reducible refine State.Keeps.foldl ?_ ?_ _; intro _ _ _)
    | fail_if_no_progress with_reducible refine State.Keeps.mk' ?_ rfl | split | dsimp only))

theorem State.waitFails_keeps {a x : State} (h : a.Keeps x) : a.Keeps (State.waitFails x) := by
  unfold State.waitFails
  iterate 40 all_goals (try (first
    | with_reducible assumption | with_reducible apply State.tally_keeps | with_reducible apply State.listEnds_keeps
    | with_reducible refine State.Keeps.ite ?_ ?_ | (with_reducible refine State.Keeps.foldl ?_ ?_ _; intro _ _ _)
    | fail_if_no_progress with_reducible refine State.Keeps.mk' ?_ rfl | split | dsimp only))

theorem State.checkWait_keeps {a x : State} (h : a.Keeps x) : a.Keeps (State.checkWait x) := by
  unfold State.checkWait
  iterate 40 all_goals (try (first
    | with_reducible assumption | with_reducible apply State.waitFails_keeps | with_reducible refine State.Keeps.ite ?_ ?_
    | (with_reducible refine State.Keeps.foldl ?_ ?_ _; intro _ _ _)
    | fail_if_no_progress with_reducible refine State.Keeps.mk' ?_ rfl | split | dsimp only))

theorem State.linkRec_keeps {a x : State} (v0 v1 v2 v3) (h : a.Keeps x) : a.Keeps (State.linkRec x v0 v1 v2 v3) :=
  State.wakeRec_keeps _ _ h

theorem State.modSector_keeps {a x : State} (v0 v1) (h : a.Keeps x) : a.Keeps (State.modSector x v0 v1) :=
  State.Keeps.mk' h rfl

theorem State.zonesFall_keeps {a x : State} (v0) (h : a.Keeps x) : a.Keeps (State.zonesFall x v0) :=
  State.Keeps.mk' h rfl

theorem State.darken_keeps {a x : State} (v0 : Nat) (h : a.Keeps x) : a.Keeps (State.darken x v0) := by
  unfold State.darken
  iterate 40 all_goals (try (first
    | with_reducible assumption | with_reducible apply State.zonesFall_keeps | with_reducible apply State.modSector_keeps
    | with_reducible apply State.modPort_keeps | with_reducible refine State.Keeps.ite ?_ ?_
    | (with_reducible refine State.Keeps.foldl ?_ ?_ _; intro _ _ _)
    | fail_if_no_progress with_reducible refine State.Keeps.mk' ?_ rfl | split | dsimp only))

theorem State.retrainsEnd_keeps {a x : State} (v0 : Nat) (v1 : Nat) (v2 : Nat) (v3 : Nat) (h : a.Keeps x) :
    a.Keeps (State.retrainsEnd x v0 v1 v2 v3) := by
  unfold State.retrainsEnd
  iterate 40 all_goals (try (first
    | with_reducible assumption | with_reducible apply State.finalEvent_keeps | with_reducible apply State.modPort_keeps
    | with_reducible refine State.Keeps.ite ?_ ?_ | (with_reducible refine State.Keeps.foldl ?_ ?_ _; intro _ _ _)
    | fail_if_no_progress with_reducible refine State.Keeps.mk' ?_ rfl | split | dsimp only))

theorem State.testCut_keeps {a x : State} (v0 : Nat) (h : a.Keeps x) : a.Keeps (State.testCut x v0) := by
  unfold State.testCut
  iterate 40 all_goals (try (first
    | with_reducible assumption | with_reducible apply State.modPort_keeps | with_reducible apply State.finalEvent_keeps
    | with_reducible refine State.Keeps.ite ?_ ?_ | (with_reducible refine State.Keeps.foldl ?_ ?_ _; intro _ _ _)
    | fail_if_no_progress with_reducible refine State.Keeps.mk' ?_ rfl | split | dsimp only))

theorem State.checkTrained_keeps {a x : State} (h : a.Keeps x) : a.Keeps (State.checkTrained x) := by
  unfold State.checkTrained; split
  · exact State.Keeps.mk' h rfl
  · exact h

theorem State.portAbsent_keeps {a x : State} (v0 : Nat) (v1 : Nat) (v2 : Nat) (h : a.Keeps x) :
    a.Keeps (State.portAbsent x v0 v1 v2) := by
  unfold State.portAbsent
  iterate 40 all_goals (try (first
    | with_reducible assumption | with_reducible apply State.testCut_keeps | with_reducible apply State.darken_keeps
    | with_reducible apply State.modPort_keeps | with_reducible apply State.tallyUnit_keeps
    | with_reducible apply State.linkRec_keeps | with_reducible apply State.retrainsEnd_keeps
    | with_reducible apply State.checkWait_keeps | with_reducible apply State.checkTrained_keeps
    | with_reducible refine State.Keeps.ite ?_ ?_ | (with_reducible refine State.Keeps.foldl ?_ ?_ _; intro _ _ _)
    | fail_if_no_progress with_reducible refine State.Keeps.mk' ?_ rfl | split | dsimp only))

theorem State.startTraining_keeps {a x : State} (v0 : Nat) (v1 : Bool) (h : a.Keeps x) :
    a.Keeps (State.startTraining x v0 v1) := by
  unfold State.startTraining
  iterate 40 all_goals (try (first
    | with_reducible assumption | with_reducible apply State.portAbsent_keeps | with_reducible apply State.modPort_keeps
    | with_reducible refine State.Keeps.ite ?_ ?_ | (with_reducible refine State.Keeps.foldl ?_ ?_ _; intro _ _ _)
    | fail_if_no_progress with_reducible refine State.Keeps.mk' ?_ rfl | split | dsimp only))

theorem State.retrain_keeps {a x : State} (v0 : Nat) (h : a.Keeps x) : a.Keeps (State.retrain x v0) := by
  unfold State.retrain
  iterate 40 all_goals (try (first
    | with_reducible assumption | with_reducible apply State.darken_keeps | with_reducible apply State.modPort_keeps
    | with_reducible apply State.tallyUnit_keeps | with_reducible apply State.linkRec_keeps
    | with_reducible apply State.startTraining_keeps | with_reducible refine State.Keeps.ite ?_ ?_
    | (with_reducible refine State.Keeps.foldl ?_ ?_ _; intro _ _ _)
    | fail_if_no_progress with_reducible refine State.Keeps.mk' ?_ rfl | split | dsimp only))

theorem cardLinkRetrain_keeps : cardLinkRetrain.Keeps := by
  constructor <;> intros <;> dsimp only [cardLinkRetrain, done]
  iterate 40 all_goals (try (first
    | with_reducible assumption | with_reducible apply State.modPort_keeps | with_reducible apply State.retrain_keeps
    | with_reducible apply State.startTraining_keeps | with_reducible apply done_keeps
    | with_reducible refine State.Keeps.ite ?_ ?_ | (with_reducible refine State.Keeps.foldl ?_ ?_ _; intro _ _ _)
    | fail_if_no_progress with_reducible refine State.Keeps.mk' ?_ rfl | split | dsimp only))

theorem State.queueReq_keeps {a x : State} (v0 v1 v2) (h : a.Keeps x) : a.Keeps (State.queueReq x v0 v1 v2) :=
  State.Keeps.mk' h rfl

theorem cardLinkTest_keeps : cardLinkTest.Keeps := by
  constructor <;> intros <;> dsimp only [cardLinkTest, done]
  iterate 40 all_goals (try (first
    | with_reducible assumption | with_reducible apply State.took_keeps | with_reducible apply State.tally_keeps
    | with_reducible apply State.queueReq_keeps | with_reducible apply State.modPort_keeps
    | with_reducible apply State.tallyUnit_keeps | with_reducible apply done_keeps
    | with_reducible refine State.Keeps.ite ?_ ?_ | (with_reducible refine State.Keeps.foldl ?_ ?_ _; intro _ _ _)
    | fail_if_no_progress with_reducible refine State.Keeps.mk' ?_ rfl | split | dsimp only))

theorem State.modBb_keeps {a x : State} (v0 v1) (h : a.Keeps x) : a.Keeps (State.modBb x v0 v1) :=
  State.Keeps.mk' h rfl

theorem State.unlearn_keeps {a x : State} (v0 : Nat) (h : a.Keeps x) : a.Keeps (State.unlearn x v0) := by
  unfold State.unlearn
  iterate 40 all_goals (try (first
    | with_reducible assumption | with_reducible refine State.Keeps.ite ?_ ?_
    | (with_reducible refine State.Keeps.foldl ?_ ?_ _; intro _ _ _)
    | fail_if_no_progress with_reducible refine State.Keeps.mk' ?_ rfl | split | dsimp only))

theorem State.bbDown_keeps {a x : State} (v0 : Nat) (h : a.Keeps x) : a.Keeps (State.bbDown x v0) := by
  unfold State.bbDown
  iterate 40 all_goals (try (first
    | with_reducible assumption | with_reducible apply State.modBb_keeps | with_reducible apply State.unlearn_keeps
    | with_reducible apply State.tallyUnit_keeps | with_reducible apply State.linkRec_keeps
    | with_reducible refine State.Keeps.ite ?_ ?_ | (with_reducible refine State.Keeps.foldl ?_ ?_ _; intro _ _ _)
    | fail_if_no_progress with_reducible refine State.Keeps.mk' ?_ rfl | split | dsimp only))

theorem cardBbConfigure_keeps : cardBbConfigure.Keeps := by
  constructor <;> intros <;> dsimp only [cardBbConfigure, done]
  iterate 40 all_goals (try (first
    | with_reducible assumption | with_reducible apply State.setObj_keeps | with_reducible apply State.bbDown_keeps
    | with_reducible apply done_keeps | with_reducible refine State.Keeps.ite ?_ ?_
    | (with_reducible refine State.Keeps.foldl ?_ ?_ _; intro _ _ _)
    | fail_if_no_progress with_reducible refine State.Keeps.mk' ?_ rfl | split | dsimp only))

end Sys2Proof.Machine
end

