-- ==== Sys2Proof/Laws/KeptB.lean ====
section
/-! SUPPORT. That each operation keeps what `State.Keeps` says, one lemma for each operation, callees before callers
(part 2 of 5): cardBbTest to State.abandonFrame. -/

set_option linter.unusedTactic false
set_option linter.unreachableTactic false
set_option linter.unusedVariables false

namespace Sys2Proof.Machine

theorem cardBbTest_keeps : cardBbTest.Keeps := by
  constructor <;> intros <;> dsimp only [cardBbTest, done]
  iterate 40 all_goals (try (first
    | with_reducible assumption | with_reducible apply State.modBb_keeps | with_reducible apply State.unlearn_keeps
    | with_reducible apply done_keeps | with_reducible refine State.Keeps.ite ?_ ?_
    | (with_reducible refine State.Keeps.foldl ?_ ?_ _; intro _ _ _)
    | fail_if_no_progress with_reducible refine State.Keeps.mk' ?_ rfl | split | dsimp only))

theorem cardLinkQuery_keeps : cardLinkQuery.Keeps := by
  constructor <;> intros <;> dsimp only [cardLinkQuery, done]
  iterate 40 all_goals (try (first
    | with_reducible assumption | with_reducible refine State.Keeps.ite ?_ ?_
    | (with_reducible refine State.Keeps.foldl ?_ ?_ _; intro _ _ _)
    | fail_if_no_progress with_reducible refine State.Keeps.mk' ?_ rfl | split | dsimp only))

theorem cardMemConfigure_keeps : cardMemConfigure.Keeps := by
  constructor <;> intros <;> dsimp only [cardMemConfigure, done]
  iterate 40 all_goals (try (first
    | with_reducible assumption | with_reducible apply State.setObj_keeps | with_reducible apply done_keeps
    | with_reducible refine State.Keeps.ite ?_ ?_ | (with_reducible refine State.Keeps.foldl ?_ ?_ _; intro _ _ _)
    | fail_if_no_progress with_reducible refine State.Keeps.mk' ?_ rfl | split | dsimp only))

theorem cardMemQuery_keeps : cardMemQuery.Keeps := by
  constructor <;> intros <;> dsimp only [cardMemQuery, done]
  iterate 40 all_goals (try (first
    | with_reducible assumption | with_reducible refine State.Keeps.ite ?_ ?_
    | (with_reducible refine State.Keeps.foldl ?_ ?_ _; intro _ _ _)
    | fail_if_no_progress with_reducible refine State.Keeps.mk' ?_ rfl | split | dsimp only))

theorem cardMemCalibrate_keeps : cardMemCalibrate.Keeps := by
  constructor <;> intros <;> dsimp only [cardMemCalibrate, done]
  iterate 40 all_goals (try (first
    | with_reducible assumption | with_reducible apply State.tally_keeps | with_reducible apply State.queueReq_keeps
    | with_reducible apply done_keeps | with_reducible refine State.Keeps.ite ?_ ?_
    | (with_reducible refine State.Keeps.foldl ?_ ?_ _; intro _ _ _)
    | fail_if_no_progress with_reducible refine State.Keeps.mk' ?_ rfl | split | dsimp only))

theorem State.endActivation_keeps {a x : State} (h : a.Keeps x) : a.Keeps (State.endActivation x) :=
  State.Keeps.mk' h rfl

theorem State.activationEvent_keeps {a x : State} (v0 : Nat) (v1 : Nat) (h : a.Keeps x) :
    a.Keeps (State.activationEvent x v0 v1) := by
  unfold State.activationEvent
  iterate 40 all_goals (try (first
    | with_reducible assumption | with_reducible apply State.finalEvent_keeps | with_reducible refine State.Keeps.ite ?_ ?_
    | (with_reducible refine State.Keeps.foldl ?_ ?_ _; intro _ _ _)
    | fail_if_no_progress with_reducible refine State.Keeps.mk' ?_ rfl | split | dsimp only))

theorem State.heldReply_keeps {a x : State} (v0 v1) (h : a.Keeps x) : a.Keeps (State.heldReply x v0 v1) := by
  unfold State.heldReply
  iterate 40 all_goals (try (first
    | with_reducible assumption | with_reducible apply State.reply_keeps | with_reducible refine State.Keeps.ite ?_ ?_
    | (with_reducible refine State.Keeps.foldl ?_ ?_ _; intro _ _ _)
    | fail_if_no_progress with_reducible refine State.Keeps.mk' ?_ rfl | split | dsimp only))

theorem State.startSeq_keeps {a x : State} (v0 : Bool) (h : a.Keeps x) : a.Keeps (State.startSeq x v0) := by
  unfold State.startSeq
  iterate 40 all_goals (try (first
    | with_reducible assumption | with_reducible refine State.Keeps.ite ?_ ?_
    | (with_reducible refine State.Keeps.foldl ?_ ?_ _; intro _ _ _)
    | fail_if_no_progress with_reducible refine State.Keeps.mk' ?_ rfl | split | dsimp only))

theorem State.zonesLow_keeps {a x : State} (h : a.Keeps x) : a.Keeps (State.zonesLow x) :=
  State.Keeps.mk' h rfl

theorem State.linksStop_keeps {a x : State} (h : a.Keeps x) : a.Keeps (State.linksStop x) :=
  State.Keeps.mk' h rfl

theorem State.oneRecord_keeps {a x : State} (h : a.Keeps x) : a.Keeps (State.oneRecord x) :=
  State.Keeps.mk' h rfl

theorem State.beginRestart_keeps {a x : State} (h : a.Keeps x) : a.Keeps (State.beginRestart x) := by
  unfold State.beginRestart
  iterate 40 all_goals (try (first
    | with_reducible assumption | with_reducible apply State.zonesLow_keeps | with_reducible apply State.linksStop_keeps
    | with_reducible apply State.oneRecord_keeps | with_reducible apply State.startSeq_keeps
    | with_reducible refine State.Keeps.ite ?_ ?_ | (with_reducible refine State.Keeps.foldl ?_ ?_ _; intro _ _ _)
    | fail_if_no_progress with_reducible refine State.Keeps.mk' ?_ rfl | split | dsimp only))

theorem State.trialRestart_keeps {a x : State} (h : a.Keeps x) : a.Keeps (State.trialRestart x) := by
  unfold State.trialRestart
  iterate 40 all_goals (try (first
    | with_reducible assumption | with_reducible apply State.beginRestart_keeps | with_reducible refine State.Keeps.ite ?_ ?_
    | (with_reducible refine State.Keeps.foldl ?_ ?_ _; intro _ _ _)
    | fail_if_no_progress with_reducible refine State.Keeps.mk' ?_ rfl | split | dsimp only))

theorem State.refuseTxn_keeps {a x : State} (v0) (h : a.Keeps x) : a.Keeps (State.refuseTxn x v0) := by
  unfold State.refuseTxn
  iterate 40 all_goals (try (first
    | with_reducible assumption | with_reducible apply State.finalEvent_keeps
    | with_reducible apply State.endActivation_keeps | with_reducible apply State.activationEvent_keeps
    | with_reducible apply State.heldReply_keeps | with_reducible apply State.trialRestart_keeps
    | with_reducible refine State.Keeps.ite ?_ ?_ | (with_reducible refine State.Keeps.foldl ?_ ?_ _; intro _ _ _)
    | fail_if_no_progress with_reducible refine State.Keeps.mk' ?_ rfl | split | dsimp only))

theorem State.beginTxn_keeps {a x : State} (v0 v1) (h : a.Keeps x) : a.Keeps (State.beginTxn x v0 v1) :=
  State.Keeps.mk' h rfl

theorem State.beginHead_keeps {a x : State} (h : a.Keeps x) : a.Keeps (State.beginHead x) := by
  unfold State.beginHead
  iterate 40 all_goals (try (first
    | with_reducible assumption | with_reducible apply State.refuseTxn_keeps | with_reducible apply State.beginTxn_keeps
    | with_reducible refine State.Keeps.ite ?_ ?_ | (with_reducible refine State.Keeps.foldl ?_ ?_ _; intro _ _ _)
    | fail_if_no_progress with_reducible refine State.Keeps.mk' ?_ rfl | split | dsimp only))

theorem State.pushTxn_keeps {a x : State} (v0 : Txn) (h : a.Keeps x) : a.Keeps (State.pushTxn x v0) := by
  unfold State.pushTxn
  iterate 40 all_goals (try (first
    | with_reducible assumption | with_reducible apply State.beginHead_keeps | with_reducible refine State.Keeps.ite ?_ ?_
    | (with_reducible refine State.Keeps.foldl ?_ ?_ _; intro _ _ _)
    | fail_if_no_progress with_reducible refine State.Keeps.mk' ?_ rfl | split | dsimp only))

theorem State.storeRun_keeps {a x : State} (v0 : Nat) (v1 : Nat) (h : a.Keeps x) : a.Keeps (State.storeRun x v0 v1) := by
  unfold State.storeRun
  iterate 40 all_goals (try (first
    | with_reducible assumption | with_reducible apply State.finalEvent_keeps | with_reducible apply State.pushTxn_keeps
    | with_reducible refine State.Keeps.ite ?_ ?_ | (with_reducible refine State.Keeps.foldl ?_ ?_ _; intro _ _ _)
    | fail_if_no_progress with_reducible refine State.Keeps.mk' ?_ rfl | split | dsimp only))

theorem cardStore_keeps : cardStore.Keeps := by
  constructor <;> intros <;> dsimp only [cardStore, done]
  iterate 40 all_goals (try (first
    | with_reducible assumption | with_reducible apply State.storeRun_keeps | with_reducible apply done_keeps
    | with_reducible refine State.Keeps.ite ?_ ?_ | (with_reducible refine State.Keeps.foldl ?_ ?_ _; intro _ _ _)
    | fail_if_no_progress with_reducible refine State.Keeps.mk' ?_ rfl | split | dsimp only))

theorem cardSettingsErase_keeps : cardSettingsErase.Keeps := by
  constructor <;> intros <;> dsimp only [cardSettingsErase, done]
  iterate 40 all_goals (try (first
    | with_reducible assumption | with_reducible apply State.pushTxn_keeps | with_reducible apply done_keeps
    | with_reducible refine State.Keeps.ite ?_ ?_ | (with_reducible refine State.Keeps.foldl ?_ ?_ _; intro _ _ _)
    | fail_if_no_progress with_reducible refine State.Keeps.mk' ?_ rfl | split | dsimp only))

theorem cardFactoryWrite_keeps : cardFactoryWrite.Keeps := by
  constructor <;> intros <;> dsimp only [cardFactoryWrite, done]
  iterate 40 all_goals (try (first
    | with_reducible assumption | with_reducible apply State.pushTxn_keeps | with_reducible apply done_keeps
    | with_reducible refine State.Keeps.ite ?_ ?_ | (with_reducible refine State.Keeps.foldl ?_ ?_ _; intro _ _ _)
    | fail_if_no_progress with_reducible refine State.Keeps.mk' ?_ rfl | split | dsimp only))

theorem cardNvmQuery_keeps : cardNvmQuery.Keeps := by
  constructor <;> intros <;> dsimp only [cardNvmQuery, done]
  iterate 40 all_goals (try (first
    | with_reducible assumption | with_reducible refine State.Keeps.ite ?_ ?_
    | (with_reducible refine State.Keeps.foldl ?_ ?_ _; intro _ _ _)
    | fail_if_no_progress with_reducible refine State.Keeps.mk' ?_ rfl | split | dsimp only))

theorem State.putPairing_keeps {a x : State} (v0 v1 v2) (h : a.Keeps x) : a.Keeps (State.putPairing x v0 v1 v2) := by
  unfold State.putPairing
  iterate 40 all_goals (try (first
    | with_reducible assumption | with_reducible apply State.pushTxn_keeps | with_reducible refine State.Keeps.ite ?_ ?_
    | (with_reducible refine State.Keeps.foldl ?_ ?_ _; intro _ _ _)
    | fail_if_no_progress with_reducible refine State.Keeps.mk' ?_ rfl | split | dsimp only))

theorem cardPair_keeps : cardPair.Keeps := by
  constructor <;> intros <;> dsimp only [cardPair, done]
  iterate 40 all_goals (try (first
    | with_reducible assumption | with_reducible apply State.took_keeps | with_reducible apply State.putPairing_keeps
    | with_reducible refine State.Keeps.ite ?_ ?_ | (with_reducible refine State.Keeps.foldl ?_ ?_ _; intro _ _ _)
    | fail_if_no_progress with_reducible refine State.Keeps.mk' ?_ rfl | split | dsimp only))

theorem cardUnpair_keeps : cardUnpair.Keeps := by
  constructor <;> intros <;> dsimp only [cardUnpair, done]
  iterate 40 all_goals (try (first
    | with_reducible assumption | with_reducible apply State.putPairing_keeps | with_reducible refine State.Keeps.ite ?_ ?_
    | (with_reducible refine State.Keeps.foldl ?_ ?_ _; intro _ _ _)
    | fail_if_no_progress with_reducible refine State.Keeps.mk' ?_ rfl | split | dsimp only))

theorem cardPowerConfigure_keeps : cardPowerConfigure.Keeps := by
  constructor <;> intros <;> dsimp only [cardPowerConfigure, done]
  iterate 40 all_goals (try (first
    | with_reducible assumption | with_reducible apply State.setObj_keeps | with_reducible apply done_keeps
    | with_reducible refine State.Keeps.ite ?_ ?_ | (with_reducible refine State.Keeps.foldl ?_ ?_ _; intro _ _ _)
    | fail_if_no_progress with_reducible refine State.Keeps.mk' ?_ rfl | split | dsimp only))

theorem cardBacklightConfigure_keeps : cardBacklightConfigure.Keeps := by
  constructor <;> intros <;> dsimp only [cardBacklightConfigure, done]
  iterate 40 all_goals (try (first
    | with_reducible assumption | with_reducible apply State.setObj_keeps | with_reducible apply done_keeps
    | with_reducible refine State.Keeps.ite ?_ ?_ | (with_reducible refine State.Keeps.foldl ?_ ?_ _; intro _ _ _)
    | fail_if_no_progress with_reducible refine State.Keeps.mk' ?_ rfl | split | dsimp only))

theorem State.clearFaults_keeps {a x : State} (h : a.Keeps x) : a.Keeps (State.clearFaults x) :=
  State.Keeps.mk' h rfl

theorem cardRailProfileSet_keeps : cardRailProfileSet.Keeps := by
  constructor <;> intros <;> dsimp only [cardRailProfileSet, done]
  iterate 40 all_goals (try (first
    | with_reducible assumption | with_reducible apply State.setObj_keeps | with_reducible apply State.clearFaults_keeps
    | with_reducible apply done_keeps | with_reducible refine State.Keeps.ite ?_ ?_
    | (with_reducible refine State.Keeps.foldl ?_ ?_ _; intro _ _ _)
    | fail_if_no_progress with_reducible refine State.Keeps.mk' ?_ rfl | split | dsimp only))

theorem cardThermalQuery_keeps : cardThermalQuery.Keeps := by
  constructor <;> intros <;> dsimp only [cardThermalQuery, done]
  iterate 40 all_goals (try (first
    | with_reducible assumption | with_reducible refine State.Keeps.ite ?_ ?_
    | (with_reducible refine State.Keeps.foldl ?_ ?_ _; intro _ _ _)
    | fail_if_no_progress with_reducible refine State.Keeps.mk' ?_ rfl | split | dsimp only))

theorem State.fasciaEnabled_keeps {a x : State} (h : a.Keeps x) : a.Keeps (State.fasciaEnabled x) := by
  unfold State.fasciaEnabled; split
  · exact State.Keeps.mk' h rfl
  · exact h

theorem cardFasciaConfigure_keeps : cardFasciaConfigure.Keeps := by
  constructor <;> intros <;> dsimp only [cardFasciaConfigure, done]
  iterate 40 all_goals (try (first
    | with_reducible assumption | with_reducible apply State.setObj_keeps | with_reducible apply State.fasciaEnabled_keeps
    | with_reducible apply done_keeps | with_reducible refine State.Keeps.ite ?_ ?_
    | (with_reducible refine State.Keeps.foldl ?_ ?_ _; intro _ _ _)
    | fail_if_no_progress with_reducible refine State.Keeps.mk' ?_ rfl | split | dsimp only))

theorem State.imageEvent_keeps {a x : State} (v0 v1 v2) (h : a.Keeps x) : a.Keeps (State.imageEvent x v0 v1 v2) :=
  State.finalEvent_keeps _ _ _ _ _ h

theorem State.supersede_keeps {a x : State} (v0 : Nat) (h : a.Keeps x) : a.Keeps (State.supersede x v0) := by
  unfold State.supersede
  iterate 40 all_goals (try (first
    | with_reducible assumption | with_reducible apply State.imageEvent_keeps | with_reducible apply State.tally_keeps
    | with_reducible refine State.Keeps.ite ?_ ?_ | (with_reducible refine State.Keeps.foldl ?_ ?_ _; intro _ _ _)
    | fail_if_no_progress with_reducible refine State.Keeps.mk' ?_ rfl | split | dsimp only))

theorem State.fasciaPlace_keeps {a x : State} (v0 : Nat) (v1 : Nat) (v2 : Nat) (v3 : Bool) (v4 : Nat) (v5 : List Byte) (h : a.Keeps x) :
    a.Keeps (State.fasciaPlace x v0 v1 v2 v3 v4 v5) := by
  unfold State.fasciaPlace
  iterate 40 all_goals (try (first
    | with_reducible assumption | with_reducible apply State.imageEvent_keeps | with_reducible apply State.supersede_keeps
    | with_reducible refine State.Keeps.ite ?_ ?_ | (with_reducible refine State.Keeps.foldl ?_ ?_ _; intro _ _ _)
    | fail_if_no_progress with_reducible refine State.Keeps.mk' ?_ rfl | split | dsimp only))

theorem cardFasciaImage_keeps : cardFasciaImage.Keeps := by
  constructor <;> intros <;> dsimp only [cardFasciaImage, done]
  iterate 40 all_goals (try (first
    | with_reducible assumption | with_reducible apply State.fasciaPlace_keeps | with_reducible apply done_keeps
    | with_reducible refine State.Keeps.ite ?_ ?_ | (with_reducible refine State.Keeps.foldl ?_ ?_ _; intro _ _ _)
    | fail_if_no_progress with_reducible refine State.Keeps.mk' ?_ rfl | split | dsimp only))

theorem cardFasciaQuery_keeps : cardFasciaQuery.Keeps := by
  constructor <;> intros <;> dsimp only [cardFasciaQuery, done]
  iterate 40 all_goals (try (first
    | with_reducible assumption | with_reducible refine State.Keeps.ite ?_ ?_
    | (with_reducible refine State.Keeps.foldl ?_ ?_ _; intro _ _ _)
    | fail_if_no_progress with_reducible refine State.Keeps.mk' ?_ rfl | split | dsimp only))

theorem State.leaveGroup_keeps {a x : State} (h : a.Keeps x) : a.Keeps (State.leaveGroup x) := by
  unfold State.leaveGroup
  iterate 40 all_goals (try (first
    | with_reducible assumption | with_reducible refine State.Keeps.ite ?_ ?_
    | (with_reducible refine State.Keeps.foldl ?_ ?_ _; intro _ _ _)
    | fail_if_no_progress with_reducible refine State.Keeps.mk' ?_ rfl | split | dsimp only))

theorem cardGroupConfigure_keeps : cardGroupConfigure.Keeps := by
  constructor <;> intros <;> dsimp only [cardGroupConfigure, done]
  iterate 40 all_goals (try (first
    | with_reducible assumption | with_reducible apply State.setObj_keeps | with_reducible apply State.leaveGroup_keeps
    | with_reducible apply State.reportGroups_keeps | with_reducible apply State.elect_keeps | with_reducible apply done_keeps
    | with_reducible refine State.Keeps.ite ?_ ?_ | (with_reducible refine State.Keeps.foldl ?_ ?_ _; intro _ _ _)
    | fail_if_no_progress with_reducible refine State.Keeps.mk' ?_ rfl | split | dsimp only))

theorem State.installObj_keeps {a x : State} (v0 : Nat) (v1 : List Word) (h : a.Keeps x) :
    a.Keeps (State.installObj x v0 v1) := by
  unfold State.installObj
  iterate 40 all_goals (try (first
    | with_reducible assumption | with_reducible apply State.setObj_keeps | with_reducible apply State.bbDown_keeps
    | with_reducible apply State.irq_keeps | with_reducible apply State.reportGroups_keeps
    | with_reducible apply State.redomain_keeps | with_reducible apply State.leaveGroup_keeps
    | with_reducible apply State.elect_keeps | with_reducible apply State.fasciaEnabled_keeps
    | with_reducible refine State.Keeps.ite ?_ ?_ | (with_reducible refine State.Keeps.foldl ?_ ?_ _; intro _ _ _)
    | fail_if_no_progress with_reducible refine State.Keeps.mk' ?_ rfl | split | dsimp only))

theorem cardSettingsRevert_keeps : cardSettingsRevert.Keeps := by
  constructor <;> intros <;> dsimp only [cardSettingsRevert, done]
  iterate 40 all_goals (try (first
    | with_reducible assumption | with_reducible apply State.installObj_keeps | with_reducible apply done_keeps
    | with_reducible refine State.Keeps.ite ?_ ?_ | (with_reducible refine State.Keeps.foldl ?_ ?_ _; intro _ _ _)
    | fail_if_no_progress with_reducible refine State.Keeps.mk' ?_ rfl | split | dsimp only))

theorem State.modSlot_keeps {a x : State} (k : Nat) {f : Slot → Slot} (h : a.Keeps x)
    (hf : ∀ b, Memory.wf none b.bytes → Memory.wf none (f b).bytes) : a.Keeps (x.modSlot k f) := by
  unfold State.modSlot
  split
  · exact ⟨h.queue, fun w => ⟨(h.buffers w).1, (h.buffers w).2.1, (h.buffers w).2.2.1, hf _ (h.buffers w).2.2.2.1,
      (h.buffers w).2.2.2.2⟩, h.clock, h.events, h.counts, h.fifos⟩
  · exact ⟨h.queue, fun w => ⟨(h.buffers w).1, (h.buffers w).2.1, (h.buffers w).2.2.1, (h.buffers w).2.2.2.1,
      hf _ (h.buffers w).2.2.2.2⟩, h.clock, h.events, h.counts, h.fifos⟩

theorem cardImageLoad_keeps : cardImageLoad.Keeps := by
  constructor <;> intros <;> dsimp only [cardImageLoad, done]
  iterate 40 all_goals (try (first
    | with_reducible assumption
    | with_reducible refine State.modSlot_keeps _ ?_ (fun _ hb => by first | exact hb | exact Memory.wf_writeAll hb _ _)
    | with_reducible apply done_keeps | with_reducible refine State.Keeps.ite ?_ ?_
    | (with_reducible refine State.Keeps.foldl ?_ ?_ _; intro _ _ _)
    | fail_if_no_progress with_reducible refine State.Keeps.mk' ?_ rfl | split | dsimp only))

theorem cardImageVerify_keeps : cardImageVerify.Keeps := by
  constructor <;> intros <;> dsimp only [cardImageVerify, done]
  iterate 40 all_goals (try (first
    | with_reducible assumption | with_reducible apply done_keeps | with_reducible refine State.Keeps.ite ?_ ?_
    | (with_reducible refine State.Keeps.foldl ?_ ?_ _; intro _ _ _)
    | fail_if_no_progress with_reducible refine State.Keeps.mk' ?_ rfl | split | dsimp only))

theorem State.putBoot_keeps {a x : State} (v0 v1 v2 v3) (h : a.Keeps x) : a.Keeps (State.putBoot x v0 v1 v2 v3) := by
  unfold State.putBoot
  iterate 40 all_goals (try (first
    | with_reducible assumption | with_reducible apply State.pushTxn_keeps | with_reducible refine State.Keeps.ite ?_ ?_
    | (with_reducible refine State.Keeps.foldl ?_ ?_ _; intro _ _ _)
    | fail_if_no_progress with_reducible refine State.Keeps.mk' ?_ rfl | split | dsimp only))

theorem State.setSlot_keeps {a x : State} (k : Nat) (v : SlotState) (h : a.Keeps x) : a.Keeps (x.setSlot k v) :=
  State.modSlot_keeps k h (fun _ hb => hb)

theorem State.bootTrial_keeps {a x : State} (h : a.Keeps x) : a.Keeps (State.bootTrial x) := by
  unfold State.bootTrial
  iterate 40 all_goals (try (first
    | with_reducible assumption | with_reducible apply State.putBoot_keeps | with_reducible apply State.setSlot_keeps
    | with_reducible refine State.Keeps.ite ?_ ?_ | (with_reducible refine State.Keeps.foldl ?_ ?_ _; intro _ _ _)
    | fail_if_no_progress with_reducible refine State.Keeps.mk' ?_ rfl | split | dsimp only))

theorem State.activate_keeps {a x : State} (v0 : Nat) (v1 : Nat) (v2 : Bool) (h : a.Keeps x) :
    a.Keeps (State.activate x v0 v1 v2) := by
  unfold State.activate
  iterate 40 all_goals (try (first
    | with_reducible assumption | with_reducible apply State.bootTrial_keeps | with_reducible apply State.pushTxn_keeps
    | with_reducible refine State.Keeps.ite ?_ ?_ | (with_reducible refine State.Keeps.foldl ?_ ?_ _; intro _ _ _)
    | fail_if_no_progress with_reducible refine State.Keeps.mk' ?_ rfl | split | dsimp only))

theorem cardImageActivate_keeps : cardImageActivate.Keeps := by
  constructor <;> intros <;> dsimp only [cardImageActivate, done]
  iterate 40 all_goals (try (first
    | with_reducible assumption | with_reducible apply State.activate_keeps | with_reducible apply done_keeps
    | with_reducible refine State.Keeps.ite ?_ ?_ | (with_reducible refine State.Keeps.foldl ?_ ?_ _; intro _ _ _)
    | fail_if_no_progress with_reducible refine State.Keeps.mk' ?_ rfl | split | dsimp only))

theorem State.restartSoon_keeps {a x : State} (v0 v1) (h : a.Keeps x) : a.Keeps (State.restartSoon x v0 v1) :=
  State.Keeps.mk' (State.finalEvent_keeps _ _ _ _ _ h) rfl

theorem cardDeviceRestart_keeps : cardDeviceRestart.Keeps := by
  constructor <;> intros <;> dsimp only [cardDeviceRestart, done]
  iterate 40 all_goals (try (first
    | with_reducible assumption | with_reducible apply State.restartSoon_keeps | with_reducible apply done_keeps
    | with_reducible refine State.Keeps.ite ?_ ?_ | (with_reducible refine State.Keeps.foldl ?_ ?_ _; intro _ _ _)
    | fail_if_no_progress with_reducible refine State.Keeps.mk' ?_ rfl | split | dsimp only))

theorem cardFirmwareQuery_keeps : cardFirmwareQuery.Keeps := by
  constructor <;> intros <;> dsimp only [cardFirmwareQuery, done]
  iterate 40 all_goals (try (first
    | with_reducible assumption | with_reducible refine State.Keeps.ite ?_ ?_
    | (with_reducible refine State.Keeps.foldl ?_ ?_ _; intro _ _ _)
    | fail_if_no_progress with_reducible refine State.Keeps.mk' ?_ rfl | split | dsimp only))

theorem cardSelfTest_keeps : cardSelfTest.Keeps := by
  constructor <;> intros <;> dsimp only [cardSelfTest, done]
  iterate 40 all_goals (try (first
    | with_reducible assumption | with_reducible apply State.tally_keeps | with_reducible apply State.queueReq_keeps
    | with_reducible apply done_keeps | with_reducible refine State.Keeps.ite ?_ ?_
    | (with_reducible refine State.Keeps.foldl ?_ ?_ _; intro _ _ _)
    | fail_if_no_progress with_reducible refine State.Keeps.mk' ?_ rfl | split | dsimp only))

theorem State.afterRead_keeps {a x : State} (v0) (h : a.Keeps x) : a.Keeps (State.afterRead x v0) := by
  unfold State.afterRead; split
  · exact State.Keeps.mk' h rfl
  · exact h

theorem cardObjectRead_keeps : cardObjectRead.Keeps := by
  constructor <;> intros <;> dsimp only [cardObjectRead, done]
  iterate 40 all_goals (try (first
    | with_reducible assumption | with_reducible apply State.afterRead_keeps | with_reducible apply State.take_keeps
    | with_reducible exact cardOf_keeps _ | with_reducible refine State.Keeps.ite ?_ ?_
    | (with_reducible refine State.Keeps.foldl ?_ ?_ _; intro _ _ _)
    | fail_if_no_progress with_reducible refine State.Keeps.mk' ?_ rfl | split | dsimp only))

theorem cardTallyRead_keeps : cardTallyRead.Keeps := by
  constructor <;> intros <;> dsimp only [cardTallyRead, done]
  iterate 40 all_goals (try (first
    | with_reducible assumption | with_reducible refine State.Keeps.ite ?_ ?_
    | (with_reducible refine State.Keeps.foldl ?_ ?_ _; intro _ _ _)
    | fail_if_no_progress with_reducible refine State.Keeps.mk' ?_ rfl | split | dsimp only))

theorem cardWakeConfigure_keeps : cardWakeConfigure.Keeps := by
  constructor <;> intros <;> dsimp only [cardWakeConfigure, done]
  iterate 40 all_goals (try (first
    | with_reducible assumption | with_reducible apply State.setObj_keeps | with_reducible apply done_keeps
    | with_reducible refine State.Keeps.ite ?_ ?_ | (with_reducible refine State.Keeps.foldl ?_ ?_ _; intro _ _ _)
    | fail_if_no_progress with_reducible refine State.Keeps.mk' ?_ rfl | split | dsimp only))

theorem cardWakeSubscribe_keeps : cardWakeSubscribe.Keeps := by
  constructor <;> intros <;> dsimp only [cardWakeSubscribe, done]
  iterate 40 all_goals (try (first
    | with_reducible assumption | with_reducible apply State.setObj_keeps | with_reducible apply done_keeps
    | with_reducible refine State.Keeps.ite ?_ ?_ | (with_reducible refine State.Keeps.foldl ?_ ?_ _; intro _ _ _)
    | fail_if_no_progress with_reducible refine State.Keeps.mk' ?_ rfl | split | dsimp only))

theorem cardTallyExport_keeps : cardTallyExport.Keeps := by
  constructor <;> intros <;> dsimp only [cardTallyExport, done]
  iterate 40 all_goals (try (first
    | with_reducible assumption | with_reducible apply done_keeps | with_reducible refine State.Keeps.ite ?_ ?_
    | (with_reducible refine State.Keeps.foldl ?_ ?_ _; intro _ _ _)
    | fail_if_no_progress with_reducible refine State.Keeps.mk' ?_ rfl | split | dsimp only))

theorem cardServiceConfigure_keeps : cardServiceConfigure.Keeps := by
  constructor <;> intros <;> dsimp only [cardServiceConfigure, done]
  iterate 40 all_goals (try (first
    | with_reducible assumption | with_reducible apply State.setObj_keeps | with_reducible apply done_keeps
    | with_reducible refine State.Keeps.ite ?_ ?_ | (with_reducible refine State.Keeps.foldl ?_ ?_ _; intro _ _ _)
    | fail_if_no_progress with_reducible refine State.Keeps.mk' ?_ rfl | split | dsimp only))

theorem cardPlanQuery_keeps : cardPlanQuery.Keeps := by
  constructor <;> intros <;> dsimp only [cardPlanQuery, done]
  iterate 40 all_goals (try (first
    | with_reducible assumption | with_reducible refine State.Keeps.ite ?_ ?_
    | (with_reducible refine State.Keeps.foldl ?_ ?_ _; intro _ _ _)
    | fail_if_no_progress with_reducible refine State.Keeps.mk' ?_ rfl | split | dsimp only))

theorem cardScanoutConfigure_keeps : cardScanoutConfigure.Keeps := by
  constructor <;> intros <;> dsimp only [cardScanoutConfigure, done]
  iterate 40 all_goals (try (first
    | with_reducible assumption | with_reducible apply State.setObj_keeps | with_reducible apply done_keeps
    | with_reducible refine State.Keeps.ite ?_ ?_ | (with_reducible refine State.Keeps.foldl ?_ ?_ _; intro _ _ _)
    | fail_if_no_progress with_reducible refine State.Keeps.mk' ?_ rfl | split | dsimp only))

theorem State.modPlane_keeps {a x : State} (v0 v1) (h : a.Keeps x) : a.Keeps (State.modPlane x v0 v1) :=
  State.Keeps.mk' h rfl

theorem cardOverlayCommit_keeps : cardOverlayCommit.Keeps := by
  constructor <;> intros <;> dsimp only [cardOverlayCommit, done]
  iterate 40 all_goals (try (first
    | with_reducible assumption | with_reducible apply State.modPlane_keeps | with_reducible apply done_keeps
    | with_reducible refine State.Keeps.ite ?_ ?_ | (with_reducible refine State.Keeps.foldl ?_ ?_ _; intro _ _ _)
    | fail_if_no_progress with_reducible refine State.Keeps.mk' ?_ rfl | split | dsimp only))

theorem cardGammaSet_keeps : cardGammaSet.Keeps := by
  constructor <;> intros <;> dsimp only [cardGammaSet, done]
  iterate 40 all_goals (try (first
    | with_reducible assumption | with_reducible apply State.setObj_keeps | with_reducible apply done_keeps
    | with_reducible refine State.Keeps.ite ?_ ?_ | (with_reducible refine State.Keeps.foldl ?_ ?_ _; intro _ _ _)
    | fail_if_no_progress with_reducible refine State.Keeps.mk' ?_ rfl | split | dsimp only))

theorem cardLanternConfigure_keeps : cardLanternConfigure.Keeps := by
  constructor <;> intros <;> dsimp only [cardLanternConfigure, done]
  iterate 40 all_goals (try (first
    | with_reducible assumption | with_reducible apply State.setObj_keeps | with_reducible apply done_keeps
    | with_reducible refine State.Keeps.ite ?_ ?_ | (with_reducible refine State.Keeps.foldl ?_ ?_ _; intro _ _ _)
    | fail_if_no_progress with_reducible refine State.Keeps.mk' ?_ rfl | split | dsimp only))

theorem cardLanternWrite_keeps : cardLanternWrite.Keeps := by
  constructor <;> intros <;> dsimp only [cardLanternWrite, done]
  iterate 40 all_goals (try (first
    | with_reducible assumption | with_reducible apply State.setObj_keeps | with_reducible apply done_keeps
    | with_reducible refine State.Keeps.ite ?_ ?_ | (with_reducible refine State.Keeps.foldl ?_ ?_ _; intro _ _ _)
    | fail_if_no_progress with_reducible refine State.Keeps.mk' ?_ rfl | split | dsimp only))

theorem cardMooringConfigure_keeps : cardMooringConfigure.Keeps := by
  constructor <;> intros <;> dsimp only [cardMooringConfigure, done]
  iterate 40 all_goals (try (first
    | with_reducible assumption | with_reducible apply State.setObj_keeps | with_reducible refine State.Keeps.ite ?_ ?_
    | (with_reducible refine State.Keeps.foldl ?_ ?_ _; intro _ _ _)
    | fail_if_no_progress with_reducible refine State.Keeps.mk' ?_ rfl | split | dsimp only))

theorem State.setMoor_keeps {a x : State} (v0 v1) (h : a.Keeps x) : a.Keeps (State.setMoor x v0 v1) :=
  State.Keeps.mk' h rfl

theorem State.modMoor_keeps {a x : State} (v0 v1) (h : a.Keeps x) : a.Keeps (State.modMoor x v0 v1) :=
  State.setMoor_keeps _ _ h

theorem cardMooringReset_keeps : cardMooringReset.Keeps := by
  constructor <;> intros <;> dsimp only [cardMooringReset, done]
  iterate 40 all_goals (try (first
    | with_reducible assumption | with_reducible apply State.modMoor_keeps | with_reducible apply done_keeps
    | with_reducible refine State.Keeps.ite ?_ ?_ | (with_reducible refine State.Keeps.foldl ?_ ?_ _; intro _ _ _)
    | fail_if_no_progress with_reducible refine State.Keeps.mk' ?_ rfl | split | dsimp only))

theorem cardMooringQuery_keeps : cardMooringQuery.Keeps := by
  constructor <;> intros <;> dsimp only [cardMooringQuery, done]
  iterate 40 all_goals (try (first
    | with_reducible assumption | with_reducible refine State.Keeps.ite ?_ ?_
    | (with_reducible refine State.Keeps.foldl ?_ ?_ _; intro _ _ _)
    | fail_if_no_progress with_reducible refine State.Keeps.mk' ?_ rfl | split | dsimp only))

theorem cardIngestConfigure_keeps : cardIngestConfigure.Keeps := by
  constructor <;> intros <;> dsimp only [cardIngestConfigure, done]
  iterate 40 all_goals (try (first
    | with_reducible assumption | with_reducible apply State.setObj_keeps | with_reducible apply done_keeps
    | with_reducible refine State.Keeps.ite ?_ ?_ | (with_reducible refine State.Keeps.foldl ?_ ?_ _; intro _ _ _)
    | fail_if_no_progress with_reducible refine State.Keeps.mk' ?_ rfl | split | dsimp only))

theorem cardCrcCompute_keeps : cardCrcCompute.Keeps := by
  constructor <;> intros <;> dsimp only [cardCrcCompute, done]
  iterate 40 all_goals (try (first
    | with_reducible assumption | with_reducible apply State.setCrc_keeps | with_reducible refine State.Keeps.ite ?_ ?_
    | (with_reducible refine State.Keeps.foldl ?_ ?_ _; intro _ _ _)
    | fail_if_no_progress with_reducible refine State.Keeps.mk' ?_ rfl | split | dsimp only))

/-- Every command of the opcode index (R426) keeps. -/
theorem cards_keeps : ∀ k ∈ cards, k.Keeps := by
  simp only [cards, cardsA, cardsB, cardsC, cardsD, List.forall_mem_append, List.forall_mem_cons, List.not_mem_nil,
    false_imp_iff, implies_true, and_true,
    cardTimeConfigure_keeps, cardStore_keeps, cardGangwayEcho_keeps, cardBbConfigure_keeps, cardLanternConfigure_keeps,
    cardSessionSubscribe_keeps, cardCodecDecompress_keeps, cardWakeConfigure_keeps, cardIngestConfigure_keeps,
    cardDeviceRestart_keeps, cardCodecConfigure_keeps, cardMooringReset_keeps, cardObjectRead_keeps,
    cardFasciaImage_keeps, cardMooringConfigure_keeps, cardSessionQuery_keeps, cardLinkQuery_keeps, cardImageLoad_keeps,
    cardMooringQuery_keeps, cardMemConfigure_keeps, cardBridgeSet_keeps, cardTallyRead_keeps, cardGroupConfigure_keeps,
    cardPowerConfigure_keeps, cardTimeStep_keeps, cardBacklightConfigure_keeps, cardFanConfigure_keeps,
    cardImageVerify_keeps, cardGammaSet_keeps, cardWakeSubscribe_keeps, cardCodecCompress_keeps, cardThermalQuery_keeps,
    cardCrcCompute_keeps, cardLinkRetrain_keeps, cardOpticsSet_keeps, cardMemCalibrate_keeps, cardFasciaQuery_keeps,
    cardOverlayCommit_keeps, cardSettingsRevert_keeps, cardScanoutConfigure_keeps, cardLathEvaluate_keeps,
    cardTriggerConfigure_keeps, cardMemQuery_keeps, cardImageActivate_keeps, cardSurfaceWrite_keeps,
    cardSurfaceDestroy_keeps, cardRailProfileSet_keeps, cardEventAck_keeps, cardUnpair_keeps, cardSelfTest_keeps,
    cardLanternWrite_keeps, cardCorrMapLoad_keeps, cardCodecQuery_keeps, cardCorrMapCommit_keeps, cardSettingsErase_keeps,
    cardGangwayConfigure_keeps, cardLinkConfigure_keeps, cardPair_keeps, cardServiceConfigure_keeps,
    cardSkimListWrite_keeps, cardFactoryWrite_keeps, cardDeviceInfo_keeps, cardTallyExport_keeps,
    cardFasciaConfigure_keeps, cardLinkTest_keeps, cardSurfaceCreate_keeps, cardFirmwareQuery_keeps, cardBbTest_keeps,
    cardNvmQuery_keeps, cardPlanQuery_keeps, cardSkimSubmit_keeps]


theorem cardOf_keeps (op : Nat) : ∀ k ∈ cardOf op, k.Keeps := fun k hk => cards_keeps k (List.mem_of_find?_eq_some hk)

theorem leaveSurfaces_wf {ch : Nat} {l : List (Nat × Surface)} {u : List (Nat × Nat)} (h : ∀ p ∈ l, p.2.wf) :
    ∀ p ∈ (leaveSurfaces ch l u).1, p.2.wf := by
  induction l generalizing u with
  | nil => intro p hp; exact absurd hp List.not_mem_nil
  | cons e r ih =>
    intro p hp
    rcases List.mem_cons.mp hp with rfl | hp
    · exact h e List.mem_cons_self
    · exact ih (fun q hq => h q (List.mem_cons_of_mem _ hq)) p hp

theorem restoreSession_bounded {l m : List Session} (hl : ∀ e ∈ l, e.unacked.length ≤ 64)
    (hm : ∀ e ∈ m, e.unacked.length ≤ 64) : ∀ e ∈ List.zipWith restoreSession l m, e.unacked.length ≤ 64 := by
  intro e he
  induction l generalizing m with
  | nil => simp at he
  | cons b l ih =>
    cases m with
    | nil => simp at he
    | cons c m =>
      rcases List.mem_cons.mp he with rfl | he
      · unfold restoreSession
        split
        · exact hl b List.mem_cons_self
        · exact hm c List.mem_cons_self
      · exact ih (fun e h => hl e (List.mem_cons_of_mem _ h)) (fun e h => hm e (List.mem_cons_of_mem _ h)) he

theorem State.quayDrop_keeps {a x : State} (v0 : Traffic) (v1 : List Byte) (h : a.Keeps x) :
    a.Keeps (State.quayDrop x v0 v1) := by
  unfold State.quayDrop
  iterate 40 all_goals (try (first
    | with_reducible assumption | with_reducible apply State.tally_keeps | with_reducible refine State.Keeps.ite ?_ ?_
    | (with_reducible refine State.Keeps.foldl ?_ ?_ _; intro _ _ _)
    | fail_if_no_progress with_reducible refine State.Keeps.mk' ?_ rfl | split | dsimp only))

theorem State.quayPeak_keeps {a x : State} (h : a.Keeps x) : a.Keeps (State.quayPeak x) :=
  State.Keeps.mk' h rfl

theorem State.sceneAdmit_keeps {a x : State} (v0 : Datagram) (h : a.Keeps x) : a.Keeps (State.sceneAdmit x v0) := by
  unfold State.sceneAdmit
  iterate 40 all_goals (try (first
    | with_reducible assumption | with_reducible apply State.quayDrop_keeps | with_reducible apply State.tally_keeps
    | with_reducible apply State.quayPeak_keeps | with_reducible refine State.Keeps.ite ?_ ?_
    | (with_reducible refine State.Keeps.foldl ?_ ?_ _; intro _ _ _)
    | fail_if_no_progress with_reducible refine State.Keeps.mk' ?_ rfl | split | dsimp only))

theorem State.count_keeps {a x : State} (v0 : Nat) (v1 : Nat) (v2 : GangCount → GangCount) (h : a.Keeps x) :
    a.Keeps (State.count x v0 v1 v2) := by
  unfold State.count
  iterate 40 all_goals (try (first
    | with_reducible assumption | with_reducible refine State.Keeps.ite ?_ ?_
    | (with_reducible refine State.Keeps.foldl ?_ ?_ _; intro _ _ _)
    | fail_if_no_progress with_reducible refine State.Keeps.mk' ?_ rfl | split | dsimp only))

theorem State.misoOff_keeps {a x : State} (h : a.Keeps x) : a.Keeps (State.misoOff x) := by
  unfold State.misoOff
  iterate 40 all_goals (try (first
    | with_reducible assumption | with_reducible refine State.Keeps.ite ?_ ?_
    | (with_reducible refine State.Keeps.foldl ?_ ?_ _; intro _ _ _)
    | fail_if_no_progress with_reducible refine State.Keeps.mk' ?_ rfl | split | dsimp only))

theorem State.misoWrite_keeps {a x : State} (v0) (h : a.Keeps x) : a.Keeps (State.misoWrite x v0) :=
  State.Keeps.mk' h rfl

theorem State.advance_keeps {a x : State} (t : Cyc) (h : a.Keeps x) : a.Keeps (x.advance t) := by
  unfold State.advance
  split
  · exact h
  · next ht =>
    have hc : a.time.cyc ≤ t := Nat.le_trans h.clock (Nat.le_of_lt (Nat.lt_of_not_le ht))
    split <;> exact ⟨h.queue, h.buffers, hc, h.events, h.counts, h.fifos⟩

theorem State.at_keeps {a x : State} (v0 : Cyc) (h : a.Keeps x) : a.Keeps (State.at x v0) := by
  unfold State.at
  iterate 40 all_goals (try (first
    | with_reducible assumption | with_reducible apply State.advance_keeps | with_reducible apply State.beginRestart_keeps
    | with_reducible refine State.Keeps.ite ?_ ?_ | (with_reducible refine State.Keeps.foldl ?_ ?_ _; intro _ _ _)
    | fail_if_no_progress with_reducible refine State.Keeps.mk' ?_ rfl | split | dsimp only))

theorem State.sendGroup_keeps {a x : State} (v0 v1) (h : a.Keeps x) : a.Keeps (State.sendGroup x v0 v1) :=
  State.sendUdp_keeps _ _ _ _ _ _ h

theorem State.heartbeat_keeps {a x : State} (h : a.Keeps x) : a.Keeps (State.heartbeat x) :=
  State.Keeps.mk' (State.sendGroup_keeps _ _ h) rfl

theorem State.extraHeartbeat_keeps {a x : State} (h : a.Keeps x) : a.Keeps (State.extraHeartbeat x) := by
  unfold State.extraHeartbeat
  iterate 40 all_goals (try (first
    | with_reducible assumption | with_reducible apply State.heartbeat_keeps | with_reducible refine State.Keeps.ite ?_ ?_
    | (with_reducible refine State.Keeps.foldl ?_ ?_ _; intro _ _ _)
    | fail_if_no_progress with_reducible refine State.Keeps.mk' ?_ rfl | split | dsimp only))

theorem State.corrHold_keeps {a x : State} (h : a.Keeps x) : a.Keeps (State.corrHold x) := by
  unfold State.corrHold; split
  · exact State.Keeps.mk' h rfl
  · exact h

theorem State.fixDrops_keeps {a x : State} (v0 : Nat) (h : a.Keeps x) : a.Keeps (State.fixDrops x v0) := by
  unfold State.fixDrops
  iterate 40 all_goals (try (first
    | with_reducible assumption | with_reducible apply State.tally_keeps | with_reducible refine State.Keeps.ite ?_ ?_
    | (with_reducible refine State.Keeps.foldl ?_ ?_ _; intro _ _ _)
    | fail_if_no_progress with_reducible refine State.Keeps.mk' ?_ rfl | split | dsimp only))

theorem State.rejoin_keeps {a x : State} (v0 : Nat) (h : a.Keeps x) : a.Keeps (State.rejoin x v0) := by
  unfold State.rejoin
  iterate 40 all_goals (try (first
    | with_reducible assumption | with_reducible apply State.modPort_keeps | with_reducible refine State.Keeps.ite ?_ ?_
    | (with_reducible refine State.Keeps.foldl ?_ ?_ _; intro _ _ _)
    | fail_if_no_progress with_reducible refine State.Keeps.mk' ?_ rfl | split | dsimp only))

theorem State.demote_keeps {a x : State} (h : a.Keeps x) : a.Keeps (State.demote x) := by
  unfold State.demote
  iterate 40 all_goals (try (first
    | with_reducible assumption | with_reducible apply State.tally_keeps | with_reducible refine State.Keeps.ite ?_ ?_
    | (with_reducible refine State.Keeps.foldl ?_ ?_ _; intro _ _ _)
    | fail_if_no_progress with_reducible refine State.Keeps.mk' ?_ rfl | split | dsimp only))

theorem State.restore_keeps {a x : State} (h : a.Keeps x) : a.Keeps (State.restore x) := by
  unfold State.restore
  iterate 40 all_goals (try (first
    | with_reducible assumption | with_reducible refine State.Keeps.ite ?_ ?_
    | (with_reducible refine State.Keeps.foldl ?_ ?_ _; intro _ _ _)
    | fail_if_no_progress with_reducible refine State.Keeps.mk' ?_ rfl | split | dsimp only))

theorem State.serviceMode_keeps {a x : State} (h : a.Keeps x) : a.Keeps (State.serviceMode x) := by
  unfold State.serviceMode
  iterate 40 all_goals (try (first
    | with_reducible assumption | with_reducible apply State.demote_keeps | with_reducible apply State.restore_keeps
    | with_reducible refine State.Keeps.ite ?_ ?_ | (with_reducible refine State.Keeps.foldl ?_ ?_ _; intro _ _ _)
    | fail_if_no_progress with_reducible refine State.Keeps.mk' ?_ rfl | split | dsimp only))

theorem State.sampleChange_keeps {a x : State} (v0 v1) (h : a.Keeps x) : a.Keeps (State.sampleChange x v0 v1) :=
  State.Keeps.mk' h rfl

theorem State.softChange_keeps {a x : State} (v0 : Nat) (v1 : Nat) (h : a.Keeps x) : a.Keeps (State.softChange x v0 v1) := by
  unfold State.softChange
  iterate 40 all_goals (try (first
    | with_reducible assumption | with_reducible apply State.tally_keeps | with_reducible refine State.Keeps.ite ?_ ?_
    | (with_reducible refine State.Keeps.foldl ?_ ?_ _; intro _ _ _)
    | fail_if_no_progress with_reducible refine State.Keeps.mk' ?_ rfl | split | dsimp only))

theorem State.sampleModes_keeps {a x : State} (v0 : Nat) (h : a.Keeps x) : a.Keeps (State.sampleModes x v0) := by
  unfold State.sampleModes
  iterate 40 all_goals (try (first
    | with_reducible assumption | with_reducible apply State.sampleChange_keeps | with_reducible apply State.serviceMode_keeps
    | with_reducible apply State.softChange_keeps | with_reducible refine State.Keeps.ite ?_ ?_
    | (with_reducible refine State.Keeps.foldl ?_ ?_ _; intro _ _ _)
    | fail_if_no_progress with_reducible refine State.Keeps.mk' ?_ rfl | split | dsimp only))

theorem State.measureCoefs_keeps {a x : State} (h : a.Keeps x) : a.Keeps (State.measureCoefs x) := by
  unfold State.measureCoefs
  iterate 40 all_goals (try (first
    | with_reducible assumption | with_reducible apply State.took_keeps | with_reducible refine State.Keeps.ite ?_ ?_
    | (with_reducible refine State.Keeps.foldl ?_ ?_ _; intro _ _ _)
    | fail_if_no_progress with_reducible refine State.Keeps.mk' ?_ rfl | split | dsimp only))

theorem State.promote_keeps {a x : State} (h : a.Keeps x) : a.Keeps (State.promote x) := by
  unfold State.promote
  iterate 40 all_goals (try (first
    | with_reducible assumption | with_reducible apply State.tallyBy_keeps | with_reducible refine State.Keeps.ite ?_ ?_
    | (with_reducible refine State.Keeps.foldl ?_ ?_ _; intro _ _ _)
    | fail_if_no_progress with_reducible refine State.Keeps.mk' ?_ rfl | split | dsimp only))

theorem State.configured_keeps {a x : State} (v0 : Nat) (h : a.Keeps x) : a.Keeps (State.configured x v0) := by
  unfold State.configured
  iterate 40 all_goals (try (first
    | with_reducible assumption | with_reducible apply State.finalEvent_keeps | with_reducible refine State.Keeps.ite ?_ ?_
    | (with_reducible refine State.Keeps.foldl ?_ ?_ _; intro _ _ _)
    | fail_if_no_progress with_reducible refine State.Keeps.mk' ?_ rfl | split | dsimp only))

theorem State.corrActivate_keeps {a x : State} (n : Nat) (h : a.Keeps x) : a.Keeps (x.corrActivate n) := by
  unfold State.corrActivate
  split
  · split
    · exact h
    · refine State.finalEvent_keeps _ _ _ _ _ ⟨h.queue, fun w => ?_, h.clock, h.events, h.counts, h.fifos⟩
      have hx := h.buffers w
      exact ⟨hx.1, hx.2.1, Memory.wf_nil _, hx.2.2.2⟩
  · exact h

theorem State.modChan_keeps {a x : State} (v0 v1) (h : a.Keeps x) : a.Keeps (State.modChan x v0 v1) :=
  State.Keeps.mk' h rfl

theorem State.zeroFailed_keeps {a x : State} (h : a.Keeps x) : a.Keeps x.zeroFailed := by
  refine ⟨h.queue, fun w => ⟨fun p hp => ?_, fun p hp => ?_, (h.buffers w).2.2⟩, h.clock, h.events, h.counts, h.fifos⟩
  · obtain ⟨q, hq, rfl⟩ := List.mem_map.mp hp
    exact Surface.wf_landed _ ((h.buffers w).1 q hq)
  · obtain ⟨q, hq, rfl⟩ := List.mem_map.mp hp
    exact Memory.wf_landed _ _ _ ((h.buffers w).2.1 q hq)

theorem State.sideEvent_keeps {a x : State} (v0 : Nat) (v1 : Nat) (v2 : Nat) (v3 : List Byte) (h : a.Keeps x) :
    a.Keeps (State.sideEvent x v0 v1 v2 v3) := by
  unfold State.sideEvent
  iterate 40 all_goals (try (first
    | with_reducible assumption | with_reducible apply State.queueEvent_keeps | with_reducible refine State.Keeps.ite ?_ ?_
    | (with_reducible refine State.Keeps.foldl ?_ ?_ _; intro _ _ _)
    | fail_if_no_progress with_reducible refine State.Keeps.mk' ?_ rfl | split | dsimp only))

theorem State.bollardDone_keeps {a x : State} (v0 : Nat) (v1 : Nat) (v2 : Nat) (v3 : Nat) (v4 : Entry) (h : a.Keeps x) :
    a.Keeps (State.bollardDone x v0 v1 v2 v3 v4) := by
  unfold State.bollardDone
  iterate 40 all_goals (try (first
    | with_reducible assumption | with_reducible apply State.tally_keeps | with_reducible apply State.sideEvent_keeps
    | with_reducible refine State.Keeps.ite ?_ ?_ | (with_reducible refine State.Keeps.foldl ?_ ?_ _; intro _ _ _)
    | fail_if_no_progress with_reducible refine State.Keeps.mk' ?_ rfl | split | dsimp only))

theorem State.lastBollard_keeps {a x : State} (h : a.Keeps x) : a.Keeps (State.lastBollard x) := by
  unfold State.lastBollard
  iterate 40 all_goals (try (first
    | with_reducible assumption | with_reducible apply State.bollardDone_keeps | with_reducible refine State.Keeps.ite ?_ ?_
    | (with_reducible refine State.Keeps.foldl ?_ ?_ _; intro _ _ _)
    | fail_if_no_progress with_reducible refine State.Keeps.mk' ?_ rfl | split | dsimp only))

theorem State.skimEnds_keeps {a x : State} (h : a.Keeps x) : a.Keeps x.skimEnds := by
  unfold State.skimEnds
  dsimp only
  split <;> refine State.Keeps.fewerSurfaces ?_ rfl rfl
  all_goals
    refine State.Keeps.foldl (fun y e hy => ?_) ?_ _
    · split <;> exact State.finalEvent_keeps _ _ _ _ _ hy
  · exact h
  · exact State.listShown_keeps (State.lastBollard_keeps h)

theorem State.calEnd_keeps {a x : State} (v0 : Nat) (v1 : Bool) (h : a.Keeps x) : a.Keeps (State.calEnd x v0 v1) := by
  unfold State.calEnd
  iterate 40 all_goals (try (first
    | with_reducible assumption | with_reducible apply State.finalEvent_keeps | with_reducible refine State.Keeps.ite ?_ ?_
    | (with_reducible refine State.Keeps.foldl ?_ ?_ _; intro _ _ _)
    | fail_if_no_progress with_reducible refine State.Keeps.mk' ?_ rfl | split | dsimp only))

theorem State.frameRec_keeps {a x : State} (v0 v1 v2 v3 v4) (h : a.Keeps x) : a.Keeps (State.frameRec x v0 v1 v2 v3 v4) :=
  State.wakeRec_keeps _ _ h

theorem State.abandonFrame_keeps {a x : State} (v0 : Nat) (v1 : Nat) (v2 : Nat) (v3 : Option Nat) (h : a.Keeps x) :
    a.Keeps (State.abandonFrame x v0 v1 v2 v3) := by
  unfold State.abandonFrame
  iterate 40 all_goals (try (first
    | with_reducible assumption | with_reducible apply State.setMoor_keeps | with_reducible apply State.tally_keeps
    | with_reducible apply State.frameRec_keeps | with_reducible refine State.Keeps.ite ?_ ?_
    | (with_reducible refine State.Keeps.foldl ?_ ?_ _; intro _ _ _)
    | fail_if_no_progress with_reducible refine State.Keeps.mk' ?_ rfl | split | dsimp only))

end Sys2Proof.Machine
end

