-- ==== Sys2Proof/Laws/KeptC.lean ====
section
/-! SUPPORT. That each operation keeps what `State.Keeps` says, one lemma for each operation, callees before callers
(part 3 of 5): State.chunkRec to State.resend. -/

set_option linter.unusedTactic false
set_option linter.unreachableTactic false
set_option linter.unusedVariables false

namespace Sys2Proof.Machine

theorem State.chunkRec_keeps {a x : State} (v0 v1 v2 v3) (h : a.Keeps x) : a.Keeps (State.chunkRec x v0 v1 v2 v3) :=
  State.wakeRec_keeps _ _ h

theorem State.refuseTally_keeps {a x : State} (v0 : Nat) (v1 : Nat) (v2 : Nat) (h : a.Keeps x) :
    a.Keeps (State.refuseTally x v0 v1 v2) := by
  unfold State.refuseTally
  iterate 40 all_goals (try (first
    | with_reducible assumption | with_reducible apply State.tally_keeps | with_reducible apply State.chunkRec_keeps
    | with_reducible refine State.Keeps.ite ?_ ?_ | (with_reducible refine State.Keeps.foldl ?_ ?_ _; intro _ _ _)
    | fail_if_no_progress with_reducible refine State.Keeps.mk' ?_ rfl | split | dsimp only))

theorem State.refuseTile_keeps {a x : State} (v0 : Nat) (v1 : Tile) (h : a.Keeps x) : a.Keeps (State.refuseTile x v0 v1) := by
  unfold State.refuseTile
  iterate 40 all_goals (try (first
    | with_reducible assumption | with_reducible apply State.setMoor_keeps | with_reducible apply State.refuseTally_keeps
    | with_reducible refine State.Keeps.ite ?_ ?_ | (with_reducible refine State.Keeps.foldl ?_ ?_ _; intro _ _ _)
    | fail_if_no_progress with_reducible refine State.Keeps.mk' ?_ rfl | split | dsimp only))

theorem State.moorLoses_keeps {a x : State} (v0 : Nat) (v1 : Nat) (v2 : Nat) (h : a.Keeps x) :
    a.Keeps (State.moorLoses x v0 v1 v2) := by
  unfold State.moorLoses
  iterate 40 all_goals (try (first
    | with_reducible assumption | with_reducible apply State.setMoor_keeps | with_reducible apply State.refuseTile_keeps
    | with_reducible apply State.took_keeps | with_reducible apply State.abandonFrame_keeps
    | with_reducible refine State.Keeps.ite ?_ ?_ | (with_reducible refine State.Keeps.foldl ?_ ?_ _; intro _ _ _)
    | fail_if_no_progress with_reducible refine State.Keeps.mk' ?_ rfl | split | dsimp only))

theorem State.setLib_keeps {a x : State} (v0 v1) (h : a.Keeps x) : a.Keeps (State.setLib x v0 v1) :=
  State.Keeps.mk' h rfl

theorem State.libLoses_keeps {a x : State} (v0 : Nat) (v1 : LibRead) (v2 : Nat) (h : a.Keeps x) :
    a.Keeps (State.libLoses x v0 v1 v2) := by
  unfold State.libLoses
  iterate 40 all_goals (try (first
    | with_reducible assumption | with_reducible apply State.took_keeps | with_reducible apply State.setLib_keeps
    | with_reducible apply State.take_keeps | with_reducible apply done_keeps | with_reducible exact cardOf_keeps _
    | with_reducible refine State.Keeps.ite ?_ ?_ | (with_reducible refine State.Keeps.foldl ?_ ?_ _; intro _ _ _)
    | fail_if_no_progress with_reducible refine State.Keeps.mk' ?_ rfl | split | dsimp only))

theorem State.restripe_keeps {a x : State} (v0 : Nat) (h : a.Keeps x) : a.Keeps (x.restripe v0) :=
  ⟨h.queue, fun w => ⟨leaveSurfaces_wf (h.buffers w).1, (h.buffers w).2⟩, h.clock, h.events, h.counts, h.fifos⟩

theorem State.loseChannel_keeps {a x : State} (v0 v1 : Nat) (h : a.Keeps x) : a.Keeps (x.loseChannel v0 v1) := by
  unfold State.loseChannel
  extract_lets s staging _ s1 mapLost s2 s3 s4 kept _ s5 _ s6
  have k1 : a.Keeps s1 := State.Keeps.fewerStaged _ (State.zeroFailed_keeps h)
  have k2 : a.Keeps s2 := State.modChan_keeps _ _ k1
  have k3 : a.Keeps s3 := State.Keeps.foldl (fun _ _ hy => State.moorLoses_keeps _ _ _ hy) k2 _
  have k4 : a.Keeps s4 := State.Keeps.foldl (fun _ _ hy => State.libLoses_keeps _ _ _ hy) k3 _
  have k5 : a.Keeps s5 := State.Keeps.mk' k4 rfl
  have k6 : a.Keeps s6 := State.Keeps.ite (State.Keeps.mk' k5 rfl) k5
  exact State.calEnd_keeps _ _ (State.restripe_keeps _ (State.skimEnds_keeps k6))

theorem State.loseFailed_keeps {a x : State} (v0 : Nat) (h : a.Keeps x) : a.Keeps (State.loseFailed x v0) := by
  unfold State.loseFailed
  iterate 40 all_goals (try (first
    | with_reducible assumption | with_reducible apply State.loseChannel_keeps | with_reducible refine State.Keeps.ite ?_ ?_
    | (with_reducible refine State.Keeps.foldl ?_ ?_ _; intro _ _ _)
    | fail_if_no_progress with_reducible refine State.Keeps.mk' ?_ rfl | split | dsimp only))

theorem State.applyReload_keeps {a x : State} (h : a.Keeps x) : a.Keeps (State.applyReload x) := by
  unfold State.applyReload
  iterate 40 all_goals (try (first
    | with_reducible assumption | with_reducible apply State.installObj_keeps | with_reducible refine State.Keeps.ite ?_ ?_
    | (with_reducible refine State.Keeps.foldl ?_ ?_ _; intro _ _ _)
    | fail_if_no_progress with_reducible refine State.Keeps.mk' ?_ rfl | split | dsimp only))

theorem State.abandonAll_keeps {a x : State} (v0 : Nat) (v1 : Nat) (v2 : Option Nat) (h : a.Keeps x) :
    a.Keeps (State.abandonAll x v0 v1 v2) := by
  unfold State.abandonAll
  iterate 40 all_goals (try (first
    | with_reducible assumption | with_reducible apply State.abandonFrame_keeps | with_reducible refine State.Keeps.ite ?_ ?_
    | (with_reducible refine State.Keeps.foldl ?_ ?_ _; intro _ _ _)
    | fail_if_no_progress with_reducible refine State.Keeps.mk' ?_ rfl | split | dsimp only))

theorem State.dropLib_keeps {a x : State} (v0) (h : a.Keeps x) : a.Keeps (State.dropLib x v0) :=
  State.Keeps.mk' h rfl

theorem State.resetsEnd_keeps {a x : State} (v0 : Nat) (v1 : Nat) (h : a.Keeps x) : a.Keeps (State.resetsEnd x v0 v1) := by
  unfold State.resetsEnd
  iterate 40 all_goals (try (first
    | with_reducible assumption | with_reducible apply State.finalEvent_keeps | with_reducible apply State.modMoor_keeps
    | with_reducible refine State.Keeps.ite ?_ ?_ | (with_reducible refine State.Keeps.foldl ?_ ?_ _; intro _ _ _)
    | fail_if_no_progress with_reducible refine State.Keeps.mk' ?_ rfl | split | dsimp only))

theorem State.disableMoor_keeps {a x : State} (v0 : Nat) (v1 : Nat) (h : a.Keeps x) :
    a.Keeps (State.disableMoor x v0 v1) := by
  unfold State.disableMoor
  iterate 40 all_goals (try (first
    | with_reducible assumption | with_reducible apply State.abandonAll_keeps | with_reducible apply State.modMoor_keeps
    | with_reducible apply State.dropLib_keeps | with_reducible apply State.resetsEnd_keeps
    | with_reducible refine State.Keeps.ite ?_ ?_ | (with_reducible refine State.Keeps.foldl ?_ ?_ _; intro _ _ _)
    | fail_if_no_progress with_reducible refine State.Keeps.mk' ?_ rfl | split | dsimp only))

theorem State.trimPending_keeps {a x : State} (v0 v1 v2 : Nat) (h : a.Keeps x) : a.Keeps (x.trimPending v0 v1 v2) := by
  induction v2 generalizing x with
  | zero => exact h
  | succ k ih =>
    unfold State.trimPending
    dsimp only
    split
    · exact h
    · split
      · exact ih (State.abandonFrame_keeps _ _ _ _ h)
      · exact h

theorem State.sampleMoor_keeps {a x : State} (v0 : Nat) (v1 : Nat) (h : a.Keeps x) : a.Keeps (State.sampleMoor x v0 v1) := by
  unfold State.sampleMoor
  iterate 40 all_goals (try (first
    | with_reducible assumption | with_reducible apply State.disableMoor_keeps | with_reducible apply State.modMoor_keeps
    | with_reducible apply State.trimPending_keeps | with_reducible apply State.abandonAll_keeps
    | with_reducible apply State.dropLib_keeps | with_reducible refine State.Keeps.ite ?_ ?_
    | (with_reducible refine State.Keeps.foldl ?_ ?_ _; intro _ _ _)
    | fail_if_no_progress with_reducible refine State.Keeps.mk' ?_ rfl | split | dsimp only))

theorem State.endChange_keeps {a x : State} (v0 : Nat) (h : a.Keeps x) : a.Keeps (State.endChange x v0) := by
  unfold State.endChange
  iterate 40 all_goals (try (first
    | with_reducible assumption | with_reducible apply State.modPort_keeps | with_reducible refine State.Keeps.ite ?_ ?_
    | (with_reducible refine State.Keeps.foldl ?_ ?_ _; intro _ _ _)
    | fail_if_no_progress with_reducible refine State.Keeps.mk' ?_ rfl | split | dsimp only))

theorem State.cutConfig_keeps {a x : State} (v0 : Nat) (h : a.Keeps x) : a.Keeps (State.cutConfig x v0) := by
  unfold State.cutConfig
  iterate 40 all_goals (try (first
    | with_reducible assumption | with_reducible apply State.applyReload_keeps | with_reducible apply State.reportGroups_keeps
    | with_reducible apply State.corrActivate_keeps | with_reducible apply State.loseFailed_keeps
    | with_reducible apply State.endChange_keeps | with_reducible apply State.sampleMoor_keeps
    | with_reducible refine State.Keeps.ite ?_ ?_ | (with_reducible refine State.Keeps.foldl ?_ ?_ _; intro _ _ _)
    | fail_if_no_progress with_reducible refine State.Keeps.mk' ?_ rfl | split | dsimp only))

theorem State.closeMoor_keeps {a x : State} (v0 v1) (h : a.Keeps x) : a.Keeps (State.closeMoor x v0 v1) := by
  unfold State.closeMoor
  iterate 40 all_goals (try (first
    | with_reducible assumption | with_reducible apply State.modMoor_keeps | with_reducible apply State.resetsEnd_keeps
    | with_reducible apply State.dropLib_keeps | with_reducible refine State.Keeps.ite ?_ ?_
    | (with_reducible refine State.Keeps.foldl ?_ ?_ _; intro _ _ _)
    | fail_if_no_progress with_reducible refine State.Keeps.mk' ?_ rfl | split | dsimp only))

theorem State.settleTile_keeps {a x : State} (v0 : Nat) (v1 : Tile) (h : a.Keeps x) : a.Keeps (State.settleTile x v0 v1) := by
  unfold State.settleTile
  iterate 40 all_goals (try (first
    | with_reducible assumption | with_reducible apply State.refuseTile_keeps | with_reducible apply State.setMoor_keeps
    | with_reducible refine State.Keeps.ite ?_ ?_ | (with_reducible refine State.Keeps.foldl ?_ ?_ _; intro _ _ _)
    | fail_if_no_progress with_reducible refine State.Keeps.mk' ?_ rfl | split | dsimp only))

theorem State.settle_keeps {a x : State} (v0 : Nat) (h : a.Keeps x) : a.Keeps (State.settle x v0) := by
  unfold State.settle
  iterate 40 all_goals (try (first
    | with_reducible assumption | with_reducible apply State.settleTile_keeps | with_reducible refine State.Keeps.ite ?_ ?_
    | (with_reducible refine State.Keeps.foldl ?_ ?_ _; intro _ _ _)
    | fail_if_no_progress with_reducible refine State.Keeps.mk' ?_ rfl | split | dsimp only))

theorem State.newSession_keeps {a x : State} (v0 v1 v2 v3) (h : a.Keeps x) : a.Keeps (State.newSession x v0 v1 v2 v3) :=
  State.Keeps.mk' (State.abandonAll_keeps _ _ _ h) rfl

theorem State.dramMoved_keeps {a x : State} (v0 : Nat) (h : a.Keeps x) : a.Keeps (State.dramMoved x v0) := by
  unfold State.dramMoved
  iterate 40 all_goals (try (first
    | with_reducible assumption | with_reducible refine State.Keeps.ite ?_ ?_
    | (with_reducible refine State.Keeps.foldl ?_ ?_ _; intro _ _ _)
    | fail_if_no_progress with_reducible refine State.Keeps.mk' ?_ rfl | split | dsimp only))

theorem State.ingestWrote_keeps {a x : State} (v0 : Nat) (h : a.Keeps x) : a.Keeps (State.ingestWrote x v0) := by
  unfold State.ingestWrote
  iterate 40 all_goals (try (first
    | with_reducible assumption | with_reducible apply State.dramMoved_keeps | with_reducible refine State.Keeps.ite ?_ ?_
    | (with_reducible refine State.Keeps.foldl ?_ ?_ _; intro _ _ _)
    | fail_if_no_progress with_reducible refine State.Keeps.mk' ?_ rfl | split | dsimp only))

theorem State.mark_keeps {a x : State} (v0 v1 v2) (h : a.Keeps x) : a.Keeps (State.mark x v0 v1 v2) :=
  State.setMoor_keeps _ _ h

theorem State.joinTile_keeps {a x : State} (v0 : Nat) (v1 : Nat) (v2 : Nat) (v3 : Bool) (v4 : List Byte) (h : a.Keeps x) :
    a.Keeps (State.joinTile x v0 v1 v2 v3 v4) := by
  unfold State.joinTile
  iterate 40 all_goals (try (first
    | with_reducible assumption | with_reducible apply State.setMoor_keeps | with_reducible apply State.settle_keeps
    | with_reducible apply State.refuseTile_keeps | with_reducible apply State.refuseTally_keeps
    | with_reducible refine State.Keeps.ite ?_ ?_ | (with_reducible refine State.Keeps.foldl ?_ ?_ _; intro _ _ _)
    | fail_if_no_progress with_reducible refine State.Keeps.mk' ?_ rfl | split | dsimp only))

theorem State.refuseChunk_keeps {a x : State} (v0 : Nat) (v1 : Chunk) (h : a.Keeps x) :
    a.Keeps (State.refuseChunk x v0 v1) := by
  unfold State.refuseChunk
  iterate 40 all_goals (try (first
    | with_reducible assumption | with_reducible apply State.refuseTile_keeps | with_reducible apply State.setMoor_keeps
    | with_reducible apply State.refuseTally_keeps | with_reducible refine State.Keeps.ite ?_ ?_
    | (with_reducible refine State.Keeps.foldl ?_ ?_ _; intro _ _ _)
    | fail_if_no_progress with_reducible refine State.Keeps.mk' ?_ rfl | split | dsimp only))

theorem State.commitArrives_keeps {a x : State} (v0 : Nat) (v1 : Nat) (v2 : Nat) (v3 : List Byte) (h : a.Keeps x) :
    a.Keeps (State.commitArrives x v0 v1 v2 v3) := by
  unfold State.commitArrives
  iterate 40 all_goals (try (first
    | with_reducible assumption | with_reducible apply State.setMoor_keeps | with_reducible apply State.abandonFrame_keeps
    | with_reducible apply State.modMoor_keeps | with_reducible apply State.refuseChunk_keeps
    | with_reducible apply State.settle_keeps | with_reducible refine State.Keeps.ite ?_ ?_
    | (with_reducible refine State.Keeps.foldl ?_ ?_ _; intro _ _ _)
    | fail_if_no_progress with_reducible refine State.Keeps.mk' ?_ rfl | split | dsimp only))

theorem State.settleChunk_keeps {a x : State} (v0 : Nat) (v1 : Head) (v2 : List Byte) (v3 : Bool) (h : a.Keeps x) :
    a.Keeps (State.settleChunk x v0 v1 v2 v3) := by
  unfold State.settleChunk
  iterate 40 all_goals (try (first
    | with_reducible assumption | with_reducible apply State.modMoor_keeps | with_reducible apply State.refuseTally_keeps
    | with_reducible apply State.settle_keeps | with_reducible apply State.tally_keeps
    | with_reducible apply State.chunkRec_keeps | with_reducible apply State.refuseChunk_keeps
    | with_reducible apply State.joinTile_keeps | with_reducible apply State.commitArrives_keeps
    | with_reducible refine State.Keeps.ite ?_ ?_ | (with_reducible refine State.Keeps.foldl ?_ ?_ _; intro _ _ _)
    | fail_if_no_progress with_reducible refine State.Keeps.mk' ?_ rfl | split | dsimp only))

theorem State.within_keeps {a x : State} (v0 v1 v2 v3 v4 v5) (h : a.Keeps x) : a.Keeps (State.within x v0 v1 v2 v3 v4 v5) := by
  unfold State.within
  iterate 40 all_goals (try (first
    | with_reducible assumption | with_reducible apply State.tally_keeps | with_reducible apply State.abandonFrame_keeps
    | with_reducible apply State.mark_keeps | with_reducible apply State.ingestWrote_keeps
    | with_reducible apply State.modMoor_keeps | with_reducible apply State.settleChunk_keeps
    | with_reducible refine State.Keeps.ite ?_ ?_ | (with_reducible refine State.Keeps.foldl ?_ ?_ _; intro _ _ _)
    | fail_if_no_progress with_reducible refine State.Keeps.mk' ?_ rfl | split | dsimp only))

theorem State.window_keeps {a x : State} (v0 : Nat) (v1 : Head) (v2 : Loc) (v3 : List Byte) (v4 : List Byte) (v5 : Bool) (h : a.Keeps x) :
    a.Keeps (State.window x v0 v1 v2 v3 v4 v5) := by
  unfold State.window
  iterate 40 all_goals (try (first
    | with_reducible assumption | with_reducible apply State.tally_keeps | with_reducible apply State.modMoor_keeps
    | with_reducible apply State.abandonAll_keeps | with_reducible apply State.within_keeps
    | with_reducible refine State.Keeps.ite ?_ ?_ | (with_reducible refine State.Keeps.foldl ?_ ?_ _; intro _ _ _)
    | fail_if_no_progress with_reducible refine State.Keeps.mk' ?_ rfl | split | dsimp only))

theorem State.chunk_keeps {a x : State} (v0 : Source) (v1 : Loc) (v2 : Nat) (v3 : List Byte) (h : a.Keeps x) :
    a.Keeps (State.chunk x v0 v1 v2 v3) := by
  unfold State.chunk
  iterate 40 all_goals (try (first
    | with_reducible assumption | with_reducible apply State.tally_keeps | with_reducible apply State.chunkRec_keeps
    | with_reducible apply State.refuseTally_keeps | with_reducible apply State.newSession_keeps
    | with_reducible apply State.within_keeps | with_reducible apply State.window_keeps
    | with_reducible refine State.Keeps.ite ?_ ?_ | (with_reducible refine State.Keeps.foldl ?_ ?_ _; intro _ _ _)
    | fail_if_no_progress with_reducible refine State.Keeps.mk' ?_ rfl | split | dsimp only))

theorem State.applyItem_keeps {a x : State} (v0 : Nat) (v1 : Nat) (v2 : Item) (h : a.Keeps x) :
    a.Keeps (State.applyItem x v0 v1 v2) := by
  unfold State.applyItem
  iterate 40 all_goals (try (first
    | with_reducible assumption | with_reducible apply State.setMoor_keeps | with_reducible apply State.refuseTally_keeps
    | with_reducible apply State.chunk_keeps | with_reducible apply State.tally_keeps
    | with_reducible refine State.Keeps.ite ?_ ?_ | (with_reducible refine State.Keeps.foldl ?_ ?_ _; intro _ _ _)
    | fail_if_no_progress with_reducible refine State.Keeps.mk' ?_ rfl | split | dsimp only))

theorem State.applyFrame_keeps {a x : State} (v0 : Nat) (v1 : PFrame) (v2 : Nat) (h : a.Keeps x) :
    a.Keeps (State.applyFrame x v0 v1 v2) := by
  unfold State.applyFrame
  iterate 40 all_goals (try (first
    | with_reducible assumption | with_reducible apply State.tallyBy_keeps | with_reducible apply State.refuseTile_keeps
    | with_reducible apply State.applyItem_keeps | with_reducible apply State.modMoor_keeps
    | with_reducible apply State.frameRec_keeps | with_reducible apply State.abandonAll_keeps
    | with_reducible apply State.settle_keeps | with_reducible refine State.Keeps.ite ?_ ?_
    | (with_reducible refine State.Keeps.foldl ?_ ?_ _; intro _ _ _)
    | fail_if_no_progress with_reducible refine State.Keeps.mk' ?_ rfl | split | dsimp only))

theorem State.runFrames_keeps {a x : State} (v0 v1 v2 : Nat) (h : a.Keeps x) : a.Keeps (x.runFrames v0 v1 v2) := by
  induction v2 generalizing x with
  | zero => exact h
  | succ k ih =>
    unfold State.runFrames
    extract_lets m can
    split
    · exact h
    · extract_lets nextCan
      split
      · exact ih (State.applyFrame_keeps _ _ _ h)
      · split
        · exact ih (State.settle_keeps _ (State.abandonFrame_keeps _ _ _ _ h))
        · exact h

theorem State.runCut_keeps {a x : State} (v0 : Nat) (v1 : Nat) (h : a.Keeps x) : a.Keeps (State.runCut x v0 v1) := by
  unfold State.runCut
  iterate 40 all_goals (try (first
    | with_reducible assumption | with_reducible apply State.modMoor_keeps | with_reducible apply State.runFrames_keeps
    | with_reducible refine State.Keeps.ite ?_ ?_ | (with_reducible refine State.Keeps.foldl ?_ ?_ _; intro _ _ _)
    | fail_if_no_progress with_reducible refine State.Keeps.mk' ?_ rfl | split | dsimp only))

theorem State.runMoor_keeps {a x : State} (v0 v1) (h : a.Keeps x) : a.Keeps (State.runMoor x v0 v1) := by
  unfold State.runMoor
  iterate 40 all_goals (try (first
    | with_reducible assumption | with_reducible apply State.runCut_keeps | with_reducible apply State.modMoor_keeps
    | with_reducible apply State.dropLib_keeps | with_reducible refine State.Keeps.ite ?_ ?_
    | (with_reducible refine State.Keeps.foldl ?_ ?_ _; intro _ _ _)
    | fail_if_no_progress with_reducible refine State.Keeps.mk' ?_ rfl | split | dsimp only))

theorem State.cutScene_keeps {a x : State} (v0) (h : a.Keeps x) : a.Keeps (State.cutScene x v0) := by
  unfold State.cutScene
  iterate 40 all_goals (try (first
    | with_reducible assumption | with_reducible apply State.closeMoor_keeps | with_reducible apply State.modMoor_keeps
    | with_reducible apply State.runMoor_keeps | with_reducible refine State.Keeps.ite ?_ ?_
    | (with_reducible refine State.Keeps.foldl ?_ ?_ _; intro _ _ _)
    | fail_if_no_progress with_reducible refine State.Keeps.mk' ?_ rfl | split | dsimp only))

theorem State.takeCut_keeps {a x : State} (v0 : Nat) (h : a.Keeps x) : a.Keeps (State.takeCut x v0) := by
  unfold State.takeCut
  iterate 40 all_goals (try (first
    | with_reducible assumption | with_reducible apply State.cutConfig_keeps | with_reducible apply State.sampleModes_keeps
    | with_reducible apply State.corrHold_keeps | with_reducible apply State.cutScene_keeps
    | with_reducible apply State.rejoin_keeps | with_reducible apply State.measureCoefs_keeps
    | with_reducible apply State.promote_keeps | with_reducible apply State.fixDrops_keeps
    | with_reducible apply State.configured_keeps | with_reducible apply State.extraHeartbeat_keeps
    | with_reducible refine State.Keeps.ite ?_ ?_ | (with_reducible refine State.Keeps.foldl ?_ ?_ _; intro _ _ _)
    | fail_if_no_progress with_reducible refine State.Keeps.mk' ?_ rfl | split | dsimp only))

theorem State.depart_keeps {a x : State} (v0 : Nat) (v1 : QFrame) (h : a.Keeps x) : a.Keeps (State.depart x v0 v1).1 := by
  unfold State.depart
  iterate 40 all_goals (try (first
    | with_reducible assumption | with_reducible apply State.take_keeps | with_reducible exact cardOf_keeps _
    | with_reducible refine State.Keeps.ite ?_ ?_ | (with_reducible refine State.Keeps.foldl ?_ ?_ _; intro _ _ _)
    | fail_if_no_progress with_reducible refine State.Keeps.mk' ?_ rfl | split | dsimp only))

theorem State.transmit_keeps {a x : State} (v0 v1) (h : a.Keeps x) : a.Keeps (State.transmit x v0 v1) :=
  State.Keeps.mk' (State.depart_keeps _ _ h) rfl

theorem State.forward_keeps {a x : State} (v0 : Nat) (v1 : Frame) (h : a.Keeps x) : a.Keeps (State.forward x v0 v1) := by
  unfold State.forward
  iterate 40 all_goals (try (first
    | with_reducible assumption | with_reducible apply State.transmit_keeps | with_reducible apply State.tally_keeps
    | with_reducible apply State.enqueue_keeps | with_reducible refine State.Keeps.ite ?_ ?_
    | (with_reducible refine State.Keeps.foldl ?_ ?_ _; intro _ _ _)
    | fail_if_no_progress with_reducible refine State.Keeps.mk' ?_ rfl | split | dsimp only))

theorem State.setClane_keeps {a x : State} (v0 : Nat) (v1 : List CJob) (h : a.Keeps x) :
    a.Keeps (State.setClane x v0 v1) := by
  unfold State.setClane
  iterate 40 all_goals (try (first
    | with_reducible assumption | with_reducible refine State.Keeps.ite ?_ ?_
    | (with_reducible refine State.Keeps.foldl ?_ ?_ _; intro _ _ _)
    | fail_if_no_progress with_reducible refine State.Keeps.mk' ?_ rfl | split | dsimp only))

theorem State.setCctx_keeps {a x : State} (v0 v1) (h : a.Keeps x) : a.Keeps (State.setCctx x v0 v1) := by
  unfold State.setCctx
  iterate 40 all_goals (try (first
    | with_reducible assumption | with_reducible refine State.Keeps.ite ?_ ?_
    | (with_reducible refine State.Keeps.foldl ?_ ?_ _; intro _ _ _)
    | fail_if_no_progress with_reducible refine State.Keeps.mk' ?_ rfl | split | dsimp only))

theorem State.runHead_keeps {a x : State} (v0) (h : a.Keeps x) : a.Keeps (State.runHead x v0) := by
  unfold State.runHead
  iterate 40 all_goals (try (first
    | with_reducible assumption | with_reducible apply State.took_keeps | with_reducible apply State.setClane_keeps
    | with_reducible apply State.setCctx_keeps | with_reducible refine State.Keeps.ite ?_ ?_
    | (with_reducible refine State.Keeps.foldl ?_ ?_ _; intro _ _ _)
    | fail_if_no_progress with_reducible refine State.Keeps.mk' ?_ rfl | split | dsimp only))

theorem State.fillLane_keeps {a x : State} (v0 : Nat) (v1 : List CJob) (h : a.Keeps x) : a.Keeps (x.fillLane v0 v1) := by
  induction v1 generalizing x with
  | nil => exact State.Keeps.mk' h rfl
  | cons j r ih =>
    rw [State.fillLane]
    dsimp only
    split
    · exact ih (State.runHead_keeps _ (State.setClane_keeps _ _ h))
    · exact State.Keeps.ite (ih (State.setClane_keeps _ _ h)) (State.Keeps.mk' h rfl)

theorem State.queueJob_keeps {a x : State} (v0 v1) (h : a.Keeps x) : a.Keeps (State.queueJob x v0 v1) :=
  State.fillLane_keeps _ _ h

theorem State.repairPump_keeps {a x : State} (h : a.Keeps x) : a.Keeps (State.repairPump x) := by
  unfold State.repairPump
  iterate 40 all_goals (try (first
    | with_reducible assumption | with_reducible apply State.queueJob_keeps | with_reducible apply State.forward_keeps
    | with_reducible refine State.Keeps.ite ?_ ?_ | (with_reducible refine State.Keeps.foldl ?_ ?_ _; intro _ _ _)
    | fail_if_no_progress with_reducible refine State.Keeps.mk' ?_ rfl | split | dsimp only))

theorem State.takeLead_keeps {a x : State} (h : a.Keeps x) : a.Keeps (State.takeLead x) := by
  unfold State.takeLead
  iterate 40 all_goals (try (first
    | with_reducible assumption | with_reducible apply State.tally_keeps | with_reducible apply State.timeRec_keeps
    | with_reducible apply State.elect_keeps | with_reducible refine State.Keeps.ite ?_ ?_
    | (with_reducible refine State.Keeps.foldl ?_ ?_ _; intro _ _ _)
    | fail_if_no_progress with_reducible refine State.Keeps.mk' ?_ rfl | split | dsimp only))

theorem State.groupTick_keeps {a x : State} (h : a.Keeps x) : a.Keeps (State.groupTick x) := by
  unfold State.groupTick
  iterate 40 all_goals (try (first
    | with_reducible assumption | with_reducible apply State.takeLead_keeps | with_reducible apply State.heartbeat_keeps
    | with_reducible apply State.repairPump_keeps | with_reducible refine State.Keeps.ite ?_ ?_
    | (with_reducible refine State.Keeps.foldl ?_ ?_ _; intro _ _ _)
    | fail_if_no_progress with_reducible refine State.Keeps.mk' ?_ rfl | split | dsimp only))

theorem State.fasciaClosing_keeps {a x : State} (h : a.Keeps x) : a.Keeps (State.fasciaClosing x) := by
  unfold State.fasciaClosing
  iterate 40 all_goals (try (first
    | with_reducible assumption | with_reducible apply State.pushTxn_keeps | with_reducible refine State.Keeps.ite ?_ ?_
    | (with_reducible refine State.Keeps.foldl ?_ ?_ _; intro _ _ _)
    | fail_if_no_progress with_reducible refine State.Keeps.mk' ?_ rfl | split | dsimp only))

theorem State.newWork_keeps {a x : State} (v0 : Nat) (h : a.Keeps x) : a.Keeps (State.newWork x v0) := by
  unfold State.newWork
  iterate 40 all_goals (try (first
    | with_reducible assumption | with_reducible apply State.installObj_keeps | with_reducible refine State.Keeps.ite ?_ ?_
    | (with_reducible refine State.Keeps.foldl ?_ ?_ _; intro _ _ _)
    | fail_if_no_progress with_reducible refine State.Keeps.mk' ?_ rfl | split | dsimp only))

theorem State.trialBegins_keeps {a x : State} (v0) (h : a.Keeps x) : a.Keeps (State.trialBegins x v0) :=
  State.Keeps.mk' h rfl

theorem State.takeOver_keeps {a x : State} (h : a.Keeps x) : a.Keeps x.takeOver :=
  State.trialBegins_keeps _ (State.newWork_keeps _ h)

theorem State.resumeOld_keeps {a x : State} (v0 : Nat) (h : a.Keeps x) : a.Keeps (x.resumeOld v0) := by
  unfold State.resumeOld
  extract_lets new old _ s1 _ s2 g _ s3 s4
  have h1 : a.Keeps s1 := State.Keeps.ite ⟨h.queue, h.buffers, h.clock,
    fun w => ⟨restoreSession_bounded (h.events w).2 (h.events w).1, (h.events w).2⟩, h.counts, h.fifos⟩ h
  have h2 : a.Keeps s2 := State.Keeps.mk' h1 rfl
  have h3 : a.Keeps s3 := State.Keeps.ite (State.Keeps.mk' h2 rfl) h2
  have h4 : a.Keeps s4 := State.putBoot_keeps _ _ _ _ (State.setSlot_keeps _ _ (State.setSlot_keeps _ _ h3))
  clear_value s4
  exact State.irq_keeps (State.beginHead_keeps (State.fasciaClosing_keeps (State.endActivation_keeps
    (State.activationEvent_keeps _ _ (State.tally_keeps _ h4)))))

theorem State.trialBootEnds_keeps {a x : State} (h : a.Keeps x) : a.Keeps (State.trialBootEnds x) := by
  unfold State.trialBootEnds
  iterate 40 all_goals (try (first
    | with_reducible assumption | with_reducible apply State.putBoot_keeps | with_reducible apply State.trialRestart_keeps
    | with_reducible refine State.Keeps.ite ?_ ?_ | (with_reducible refine State.Keeps.foldl ?_ ?_ _; intro _ _ _)
    | fail_if_no_progress with_reducible refine State.Keeps.mk' ?_ rfl | split | dsimp only))

theorem State.pilotTick_keeps {a x : State} (v0 : Nat) (h : a.Keeps x) : a.Keeps (x.pilotTick v0) := by
  unfold State.pilotTick
  extract_lets acts _ s1 s2
  have h1 : a.Keeps s1 := State.Keeps.mk' h rfl
  clear_value s1
  have h2 : a.Keeps s2 := State.Keeps.foldl (fun y e hy => State.finalEvent_keeps _ _ _ _ _ hy) h1 _
  clear_value s2
  split
  · exact State.trialBootEnds_keeps h2
  · split
    · exact h2
    · split
      · split
        · exact ⟨h2.queue, h2.buffers, h2.clock, fun w => ⟨(h2.events w).1, (h2.events w).1⟩, h2.counts, h2.fifos⟩
        · split
          · exact h2
          · exact State.fasciaClosing_keeps (State.takeOver_keeps h2)
      · split
        · exact State.Keeps.mk' h2 rfl
        · split
          · exact h2
          · exact State.resumeOld_keeps _ h2
      · exact h2

theorem State.tallyTick_keeps {a x : State} (h : a.Keeps x) : a.Keeps (State.tallyTick x) := by
  unfold State.tallyTick
  iterate 40 all_goals (try (first
    | with_reducible assumption | with_reducible apply State.tallyUnit_keeps | with_reducible apply State.tally_keeps
    | with_reducible apply State.wakeBoundary_keeps | with_reducible apply State.queueJob_keeps
    | with_reducible refine State.Keeps.ite ?_ ?_ | (with_reducible refine State.Keeps.foldl ?_ ?_ _; intro _ _ _)
    | fail_if_no_progress with_reducible refine State.Keeps.mk' ?_ rfl | split | dsimp only))

theorem State.plansTick_keeps {a x : State} (v0 : Nat) (h : a.Keeps x) : a.Keeps (State.plansTick x v0) := by
  unfold State.plansTick
  iterate 40 all_goals (try (first
    | with_reducible assumption | with_reducible apply State.tally_keeps | with_reducible refine State.Keeps.ite ?_ ?_
    | (with_reducible refine State.Keeps.foldl ?_ ?_ _; intro _ _ _)
    | fail_if_no_progress with_reducible refine State.Keeps.mk' ?_ rfl | split | dsimp only))

theorem State.workTick_keeps {a x : State} (v0 : Nat) (h : a.Keeps x) : a.Keeps (State.workTick x v0) := by
  unfold State.workTick
  iterate 40 all_goals (try (first
    | with_reducible assumption | with_reducible apply State.modMoor_keeps | with_reducible apply done_keeps
    | with_reducible refine State.Keeps.ite ?_ ?_ | (with_reducible refine State.Keeps.foldl ?_ ?_ _; intro _ _ _)
    | fail_if_no_progress with_reducible refine State.Keeps.mk' ?_ rfl | split | dsimp only))

theorem State.countsTick_keeps {a x : State} (v0) (h : a.Keeps x) : a.Keeps (State.countsTick x v0) :=
  State.Keeps.mk' h rfl

theorem State.bbCounts_keeps {a x : State} (h : a.Keeps x) : a.Keeps (State.bbCounts x) := by
  unfold State.bbCounts
  iterate 40 all_goals (try (first
    | with_reducible assumption | with_reducible apply State.modBb_keeps | with_reducible apply State.took_keeps
    | with_reducible refine State.Keeps.ite ?_ ?_ | (with_reducible refine State.Keeps.foldl ?_ ?_ _; intro _ _ _)
    | fail_if_no_progress with_reducible refine State.Keeps.mk' ?_ rfl | split | dsimp only))

theorem State.phiTick_keeps {a x : State} (v0 : Nat) (h : a.Keeps x) : a.Keeps (State.phiTick x v0) := by
  unfold State.phiTick
  iterate 40 all_goals (try (first
    | with_reducible assumption | with_reducible apply State.tally_keeps | with_reducible refine State.Keeps.ite ?_ ?_
    | (with_reducible refine State.Keeps.foldl ?_ ?_ _; intro _ _ _)
    | fail_if_no_progress with_reducible refine State.Keeps.mk' ?_ rfl | split | dsimp only))

theorem State.planRec_keeps {a x : State} (h : a.Keeps x) : a.Keeps (State.planRec x) := by
  unfold State.planRec
  iterate 40 all_goals (try (first
    | with_reducible assumption | with_reducible apply State.wakeRec_keeps | with_reducible refine State.Keeps.ite ?_ ?_
    | (with_reducible refine State.Keeps.foldl ?_ ?_ _; intro _ _ _)
    | fail_if_no_progress with_reducible refine State.Keeps.mk' ?_ rfl | split | dsimp only))

theorem State.snapTick_keeps {a x : State} (v0) (h : a.Keeps x) : a.Keeps (State.snapTick x v0) :=
  State.Keeps.mk' h rfl

theorem State.takeTick_keeps {a x : State} (v0 : Nat) (h : a.Keeps x) : a.Keeps (State.takeTick x v0) := by
  unfold State.takeTick
  iterate 40 all_goals (try (first
    | with_reducible assumption | with_reducible apply State.plansTick_keeps | with_reducible apply State.workTick_keeps
    | with_reducible apply State.countsTick_keeps | with_reducible apply State.bbCounts_keeps
    | with_reducible apply State.groupTick_keeps | with_reducible apply State.phiTick_keeps
    | with_reducible apply State.planRec_keeps | with_reducible apply State.snapTick_keeps
    | with_reducible apply State.tallyTick_keeps | with_reducible apply State.pilotTick_keeps
    | with_reducible refine State.Keeps.ite ?_ ?_ | (with_reducible refine State.Keeps.foldl ?_ ?_ _; intro _ _ _)
    | fail_if_no_progress with_reducible refine State.Keeps.mk' ?_ rfl | split | dsimp only))

theorem State.zonesOff_keeps {a x : State} (h : a.Keeps x) : a.Keeps (State.zonesOff x) :=
  State.Keeps.mk' h rfl

theorem State.skimStops_keeps {a x : State} (h : a.Keeps x) : a.Keeps x.skimStops := by
  have k := State.skimEnds_keeps h
  unfold State.skimStops
  dsimp only
  split
  · exact State.Keeps.fewerSurfaces k rfl rfl
  · exact ⟨k.queue, fun w => ⟨fun p hp => absurd hp List.not_mem_nil, (k.buffers w).2⟩, k.clock, k.events, k.counts, k.fifos⟩

theorem State.selfRefresh_keeps {a x : State} (v0) (h : a.Keeps x) : a.Keeps (State.selfRefresh x v0) :=
  State.modChan_keeps _ _ h

theorem State.wantChange_keeps {a x : State} (v0 v1) (h : a.Keeps x) : a.Keeps (State.wantChange x v0 v1) :=
  State.modChan_keeps _ _ h

theorem State.setFsp_keeps {a x : State} (v0 : Nat) (v1 : Bool) (h : a.Keeps x) : a.Keeps (State.setFsp x v0 v1) := by
  unfold State.setFsp
  iterate 40 all_goals (try (first
    | with_reducible assumption | with_reducible apply State.modChan_keeps | with_reducible apply State.wantChange_keeps
    | with_reducible apply State.selfRefresh_keeps | with_reducible refine State.Keeps.ite ?_ ?_
    | (with_reducible refine State.Keeps.foldl ?_ ?_ _; intro _ _ _)
    | fail_if_no_progress with_reducible refine State.Keeps.mk' ?_ rfl | split | dsimp only))

theorem State.withdrawPlane_keeps {a x : State} (v0 : Nat) (h : a.Keeps x) : a.Keeps (State.withdrawPlane x v0) := by
  unfold State.withdrawPlane
  iterate 40 all_goals (try (first
    | with_reducible assumption | with_reducible apply State.modPlane_keeps | with_reducible apply State.finalEvent_keeps
    | with_reducible refine State.Keeps.ite ?_ ?_ | (with_reducible refine State.Keeps.foldl ?_ ?_ _; intro _ _ _)
    | fail_if_no_progress with_reducible refine State.Keeps.mk' ?_ rfl | split | dsimp only))

theorem State.judgePlane_keeps {a x : State} (v0 : Mode) (v1 : Nat) (v2 : Nat) (h : a.Keeps x) :
    a.Keeps (State.judgePlane x v0 v1 v2) := by
  unfold State.judgePlane
  iterate 40 all_goals (try (first
    | with_reducible assumption | with_reducible apply State.withdrawPlane_keeps | with_reducible apply State.modPlane_keeps
    | with_reducible refine State.Keeps.ite ?_ ?_ | (with_reducible refine State.Keeps.foldl ?_ ?_ _; intro _ _ _)
    | fail_if_no_progress with_reducible refine State.Keeps.mk' ?_ rfl | split | dsimp only))

theorem State.judgePlanes_keeps {a x : State} (v0 : Mode) (h : a.Keeps x) : a.Keeps (State.judgePlanes x v0) := by
  unfold State.judgePlanes
  iterate 40 all_goals (try (first
    | with_reducible assumption | with_reducible apply State.judgePlane_keeps | with_reducible refine State.Keeps.ite ?_ ?_
    | (with_reducible refine State.Keeps.foldl ?_ ?_ _; intro _ _ _)
    | fail_if_no_progress with_reducible refine State.Keeps.mk' ?_ rfl | split | dsimp only))

theorem State.markTrained_keeps {a x : State} (v0) (h : a.Keeps x) : a.Keeps (State.markTrained x v0) := by
  unfold State.markTrained
  iterate 40 all_goals (try (first
    | with_reducible assumption | with_reducible refine State.Keeps.ite ?_ ?_
    | (with_reducible refine State.Keeps.foldl ?_ ?_ _; intro _ _ _)
    | fail_if_no_progress with_reducible refine State.Keeps.mk' ?_ rfl | split | dsimp only))

theorem State.trainAll_keeps {a x : State} (h : a.Keeps x) : a.Keeps (State.trainAll x) := by
  unfold State.trainAll
  iterate 40 all_goals (try (first
    | with_reducible assumption | with_reducible apply State.checkTrained_keeps
    | with_reducible apply State.markTrained_keeps | with_reducible apply State.startTraining_keeps
    | with_reducible refine State.Keeps.ite ?_ ?_ | (with_reducible refine State.Keeps.foldl ?_ ?_ _; intro _ _ _)
    | fail_if_no_progress with_reducible refine State.Keeps.mk' ?_ rfl | split | dsimp only))

theorem State.portEnter_keeps {a x : State} (v0 : Nat) (h : a.Keeps x) : a.Keeps (State.portEnter x v0) := by
  unfold State.portEnter
  iterate 40 all_goals (try (first
    | with_reducible assumption | with_reducible apply State.testCut_keeps | with_reducible apply State.modPort_keeps
    | with_reducible apply State.retrainsEnd_keeps | with_reducible refine State.Keeps.ite ?_ ?_
    | (with_reducible refine State.Keeps.foldl ?_ ?_ _; intro _ _ _)
    | fail_if_no_progress with_reducible refine State.Keeps.mk' ?_ rfl | split | dsimp only))

theorem State.movePhi_keeps {a x : State} (v0 v1) (h : a.Keeps x) : a.Keeps (State.movePhi x v0 v1) := by
  unfold State.movePhi
  iterate 40 all_goals (try (first
    | with_reducible assumption | with_reducible refine State.Keeps.ite ?_ ?_
    | (with_reducible refine State.Keeps.foldl ?_ ?_ _; intro _ _ _)
    | fail_if_no_progress with_reducible refine State.Keeps.mk' ?_ rfl | split | dsimp only))

theorem State.beginChange_keeps {a x : State} (v0 : Change) (v1 : Bool) (h : a.Keeps x) :
    a.Keeps (State.beginChange x v0 v1) := by
  unfold State.beginChange
  iterate 40 all_goals (try (first
    | with_reducible assumption | with_reducible apply State.withdrawPlane_keeps
    | with_reducible apply State.judgePlanes_keeps | with_reducible apply State.zonesOff_keeps
    | with_reducible apply State.movePhi_keeps | with_reducible apply State.tally_keeps
    | with_reducible apply State.portEnter_keeps | with_reducible apply State.setFsp_keeps
    | with_reducible apply State.skimStops_keeps | with_reducible apply State.checkWait_keeps
    | with_reducible apply State.startSeq_keeps | with_reducible apply State.checkTrained_keeps
    | with_reducible apply State.clearFaults_keeps | with_reducible apply State.trainAll_keeps
    | with_reducible refine State.Keeps.ite ?_ ?_ | (with_reducible refine State.Keeps.foldl ?_ ?_ _; intro _ _ _)
    | fail_if_no_progress with_reducible refine State.Keeps.mk' ?_ rfl | split | dsimp only))

theorem State.schedule_keeps {a x : State} (v0 : Nat) (h : a.Keeps x) : a.Keeps (State.schedule x v0) := by
  unfold State.schedule
  iterate 40 all_goals (try (first
    | with_reducible assumption | with_reducible refine State.Keeps.ite ?_ ?_
    | (with_reducible refine State.Keeps.foldl ?_ ?_ _; intro _ _ _)
    | fail_if_no_progress with_reducible refine State.Keeps.mk' ?_ rfl | split | dsimp only))

theorem State.endFieldCounts_keeps {a x : State} (v0) (h : a.Keeps x) : a.Keeps (State.endFieldCounts x v0) :=
  State.Keeps.mk' h rfl

theorem State.latchPlane_keeps {a x : State} (v0 : Nat) (v1 : Nat) (h : a.Keeps x) : a.Keeps (State.latchPlane x v0 v1) := by
  unfold State.latchPlane
  iterate 40 all_goals (try (first
    | with_reducible assumption | with_reducible apply State.modPlane_keeps | with_reducible apply State.finalEvent_keeps
    | with_reducible apply State.tally_keeps | with_reducible refine State.Keeps.ite ?_ ?_
    | (with_reducible refine State.Keeps.foldl ?_ ?_ _; intro _ _ _)
    | fail_if_no_progress with_reducible refine State.Keeps.mk' ?_ rfl | split | dsimp only))

theorem State.takeLatch_keeps {a x : State} (v0 : Nat) (h : a.Keeps x) : a.Keeps (State.takeLatch x v0) := by
  unfold State.takeLatch
  iterate 40 all_goals (try (first
    | with_reducible assumption | with_reducible apply State.endFieldCounts_keeps
    | with_reducible apply State.beginChange_keeps | with_reducible apply State.latchPlane_keeps
    | with_reducible apply State.schedule_keeps | with_reducible refine State.Keeps.ite ?_ ?_
    | (with_reducible refine State.Keeps.foldl ?_ ?_ _; intro _ _ _)
    | fail_if_no_progress with_reducible refine State.Keeps.mk' ?_ rfl | split | dsimp only))

theorem State.serveWaiting_keeps {a x : State} (w : Waiting) (h : a.Keeps x) : a.Keeps (x.serveWaiting w) :=
  State.interpretAny_keeps _ _ _ (cardOf_keeps _) h

theorem State.serveNext_keeps {a x : State} (v0) (h : a.Keeps x) : a.Keeps (State.serveNext x v0) := by
  unfold State.serveNext
  iterate 40 all_goals (try (first
    | with_reducible assumption | with_reducible apply State.serveWaiting_keeps | with_reducible refine State.Keeps.ite ?_ ?_
    | (with_reducible refine State.Keeps.foldl ?_ ?_ _; intro _ _ _)
    | fail_if_no_progress with_reducible refine State.Keeps.mk' ?_ rfl | split | dsimp only))

theorem State.drain_keeps {a x : State} (h : a.Keeps x) : a.Keeps (State.drain x) := by
  unfold State.drain
  iterate 40 all_goals (try (first
    | with_reducible assumption | with_reducible apply State.serveNext_keeps | with_reducible refine State.Keeps.ite ?_ ?_
    | (with_reducible refine State.Keeps.foldl ?_ ?_ _; intro _ _ _)
    | fail_if_no_progress with_reducible refine State.Keeps.mk' ?_ rfl | split | dsimp only))

theorem State.deviceFirst_keeps {a x : State} (h : a.Keeps x) : a.Keeps (State.deviceFirst x) := by
  unfold State.deviceFirst
  iterate 40 all_goals (try (first
    | with_reducible assumption | with_reducible apply State.takeCut_keeps | with_reducible apply State.takeTick_keeps
    | with_reducible apply State.drain_keeps | with_reducible apply State.takeLatch_keeps
    | with_reducible refine State.Keeps.ite ?_ ?_ | (with_reducible refine State.Keeps.foldl ?_ ?_ _; intro _ _ _)
    | fail_if_no_progress with_reducible refine State.Keeps.mk' ?_ rfl | split | dsimp only))

theorem State.hostAt_keeps {a x : State} (v0 : Cyc) (h : a.Keeps x) : a.Keeps (State.hostAt x v0) := by
  unfold State.hostAt
  iterate 40 all_goals (try (first
    | with_reducible assumption | with_reducible apply State.at_keeps | with_reducible apply State.deviceFirst_keeps
    | with_reducible refine State.Keeps.ite ?_ ?_ | (with_reducible refine State.Keeps.foldl ?_ ?_ _; intro _ _ _)
    | fail_if_no_progress with_reducible refine State.Keeps.mk' ?_ rfl | split | dsimp only))

theorem State.heard_keeps {a x : State} (v0) (h : a.Keeps x) : a.Keeps (State.heard x v0) := by
  unfold State.heard
  iterate 40 all_goals (try (first
    | with_reducible assumption | with_reducible apply State.hostAt_keeps | with_reducible apply State.misoWrite_keeps
    | with_reducible apply State.misoOff_keeps | with_reducible refine State.Keeps.ite ?_ ?_
    | (with_reducible refine State.Keeps.foldl ?_ ?_ _; intro _ _ _)
    | fail_if_no_progress with_reducible refine State.Keeps.mk' ?_ rfl | split | dsimp only))

theorem State.arrive_keeps {a x : State} {k : Option Card} (op : Nat) (p : Packet) (hk : ∀ c ∈ k, c.Keeps) (h : a.Keeps x) : a.Keeps (x.arrive k op p) := by
  unfold State.arrive
  iterate 40 all_goals (try (first
    | with_reducible assumption | with_reducible apply State.heard_keeps | with_reducible apply State.tally_keeps
    | with_reducible apply State.quayDrop_keeps | with_reducible apply State.sceneAdmit_keeps
    | with_reducible apply State.count_keeps | with_reducible apply State.take_keeps | with_reducible exact cardOf_keeps _
    | with_reducible refine State.Keeps.ite ?_ ?_ | (with_reducible refine State.Keeps.foldl ?_ ?_ _; intro _ _ _)
    | fail_if_no_progress with_reducible refine State.Keeps.mk' ?_ rfl | split | dsimp only))

theorem State.request_keeps {a x : State} (v0 : Nat) (h : a.Keeps x) : a.Keeps (State.request x v0) := by
  unfold State.request
  iterate 40 all_goals (try (first
    | with_reducible assumption | with_reducible apply State.modChan_keeps | with_reducible refine State.Keeps.ite ?_ ?_
    | (with_reducible refine State.Keeps.foldl ?_ ?_ _; intro _ _ _)
    | fail_if_no_progress with_reducible refine State.Keeps.mk' ?_ rfl | split | dsimp only))

theorem State.slackWakes_keeps {a x : State} (h : a.Keeps x) : a.Keeps (State.slackWakes x) := by
  unfold State.slackWakes
  iterate 40 all_goals (try (first
    | with_reducible assumption | with_reducible refine State.Keeps.ite ?_ ?_
    | (with_reducible refine State.Keeps.foldl ?_ ?_ _; intro _ _ _)
    | fail_if_no_progress with_reducible refine State.Keeps.mk' ?_ rfl | split | dsimp only))

theorem State.notify_keeps {a x : State} (v0 : Nat) (v1 : List Byte) (h : a.Keeps x) : a.Keeps (State.notify x v0 v1) := by
  unfold State.notify
  iterate 40 all_goals (try (first
    | with_reducible assumption | with_reducible apply State.queueEvent_keeps | with_reducible refine State.Keeps.ite ?_ ?_
    | (with_reducible refine State.Keeps.foldl ?_ ?_ _; intro _ _ _)
    | fail_if_no_progress with_reducible refine State.Keeps.mk' ?_ rfl | split | dsimp only))

theorem State.startPartSeq_keeps {a x : State} (v0 : Bool) (v1 : List Nat) (h : a.Keeps x) :
    a.Keeps (State.startPartSeq x v0 v1) := by
  unfold State.startPartSeq
  iterate 40 all_goals (try (first
    | with_reducible assumption | with_reducible refine State.Keeps.ite ?_ ?_
    | (with_reducible refine State.Keeps.foldl ?_ ?_ _; intro _ _ _)
    | fail_if_no_progress with_reducible refine State.Keeps.mk' ?_ rfl | split | dsimp only))

theorem State.otherMoved_keeps {a x : State} (v0 : Nat) (h : a.Keeps x) : a.Keeps (State.otherMoved x v0) := by
  unfold State.otherMoved
  iterate 40 all_goals (try (first
    | with_reducible assumption | with_reducible apply State.dramMoved_keeps | with_reducible refine State.Keeps.ite ?_ ?_
    | (with_reducible refine State.Keeps.foldl ?_ ?_ _; intro _ _ _)
    | fail_if_no_progress with_reducible refine State.Keeps.mk' ?_ rfl | split | dsimp only))

theorem State.bgDid_keeps {a x : State} (v0 : Nat) (h : a.Keeps x) : a.Keeps (State.bgDid x v0) := by
  unfold State.bgDid
  iterate 40 all_goals (try (first
    | with_reducible assumption | with_reducible refine State.Keeps.ite ?_ ?_
    | (with_reducible refine State.Keeps.foldl ?_ ?_ _; intro _ _ _)
    | fail_if_no_progress with_reducible refine State.Keeps.mk' ?_ rfl | split | dsimp only))

theorem State.serveBerth_keeps {a x : State} (v0 : Nat) (h : a.Keeps x) : a.Keeps (State.serveBerth x v0) := by
  unfold State.serveBerth
  iterate 40 all_goals (try (first
    | with_reducible assumption | with_reducible apply State.settle_keeps | with_reducible refine State.Keeps.ite ?_ ?_
    | (with_reducible refine State.Keeps.foldl ?_ ?_ _; intro _ _ _)
    | fail_if_no_progress with_reducible refine State.Keeps.mk' ?_ rfl | split | dsimp only))

theorem State.settleAll_keeps {a x : State} (h : a.Keeps x) : a.Keeps (State.settleAll x) := by
  unfold State.settleAll
  iterate 40 all_goals (try (first
    | with_reducible assumption | with_reducible apply State.serveBerth_keeps | with_reducible refine State.Keeps.ite ?_ ?_
    | (with_reducible refine State.Keeps.foldl ?_ ?_ _; intro _ _ _)
    | fail_if_no_progress with_reducible refine State.Keeps.mk' ?_ rfl | split | dsimp only))

theorem State.exportsOut_keeps {a x : State} (h : a.Keeps x) : a.Keeps (State.exportsOut x) := by
  unfold State.exportsOut
  iterate 40 all_goals (try (first
    | with_reducible assumption | with_reducible apply State.tallyUnit_keeps | with_reducible apply State.tally_keeps
    | with_reducible apply State.finalEvent_keeps | with_reducible refine State.Keeps.ite ?_ ?_
    | (with_reducible refine State.Keeps.foldl ?_ ?_ _; intro _ _ _)
    | fail_if_no_progress with_reducible refine State.Keeps.mk' ?_ rfl | split | dsimp only))

theorem State.sendExport_keeps {a x : State} (v0 : Nat) (v1 : Nat) (v2 : Nat) (v3 : Nat) (v4 : Nat) (v5 : List Byte) (h : a.Keeps x) :
    a.Keeps (State.sendExport x v0 v1 v2 v3 v4 v5) := by
  unfold State.sendExport
  iterate 40 all_goals (try (first
    | with_reducible assumption | with_reducible apply State.sendUdp_keeps | with_reducible refine State.Keeps.ite ?_ ?_
    | (with_reducible refine State.Keeps.foldl ?_ ?_ _; intro _ _ _)
    | fail_if_no_progress with_reducible refine State.Keeps.mk' ?_ rfl | split | dsimp only))

theorem State.sendRepair_keeps {a x : State} (v0 : Nat) (v1 : Nat) (v2 : List Byte) (h : a.Keeps x) :
    a.Keeps (State.sendRepair x v0 v1 v2) := by
  unfold State.sendRepair
  iterate 40 all_goals (try (first
    | with_reducible assumption | with_reducible apply State.sendUdp_keeps | with_reducible apply State.tally_keeps
    | with_reducible refine State.Keeps.ite ?_ ?_ | (with_reducible refine State.Keeps.foldl ?_ ?_ _; intro _ _ _)
    | fail_if_no_progress with_reducible refine State.Keeps.mk' ?_ rfl | split | dsimp only))

theorem State.resend_keeps {a x : State} (v0 : Nat) (h : a.Keeps x) : a.Keeps (x.resend v0) := by
  unfold State.resend
  extract_lets e now l s
  have hs : a.Keeps s := State.Keeps.foldl (fun y b hy => State.tally_keeps _ (State.Keeps.ite (State.sendUdp_keeps _ _ _ _ _ _ hy) hy)) h _
  clear_value s
  refine State.modSess_keeps _ hs (fun e he => ?_)
  rw [List.length_append, List.length_map, ← List.length_append, List.take_append_drop]
  exact he

end Sys2Proof.Machine
end

