-- ==== Sys2Proof/Laws/KeptD.lean ====
section
/-! SUPPORT. That each operation keeps what `State.Keeps` says, one lemma for each operation, callees before callers
(part 4 of 5): State.trigsLow to State.readMode. -/

set_option linter.unusedTactic false
set_option linter.unreachableTactic false
set_option linter.unusedVariables false

namespace Sys2Proof.Machine

theorem State.trigsLow_keeps {a x : State} (h : a.Keeps x) : a.Keeps (State.trigsLow x) :=
  State.Keeps.mk' h rfl

theorem State.awaitCarry_keeps {a x : State} (v0) (h : a.Keeps x) : a.Keeps (State.awaitCarry x v0) :=
  State.Keeps.mk' h rfl

theorem State.takeFirst_keeps {a x : State} (v0) (h : a.Keeps x) : a.Keeps (State.takeFirst x v0) := by
  unfold State.takeFirst
  iterate 40 all_goals (try (first
    | with_reducible assumption | with_reducible apply State.awaitCarry_keeps
    | refine State.setTime_keeps (Nat.le_refl _) rfl rfl ?_ | with_reducible refine State.Keeps.ite ?_ ?_
    | (with_reducible refine State.Keeps.foldl ?_ ?_ _; intro _ _ _)
    | fail_if_no_progress with_reducible refine State.Keeps.mk' ?_ rfl | split | dsimp only))

theorem State.gainDomain_keeps {a x : State} (v0 : Nat) (h : a.Keeps x) : a.Keeps (State.gainDomain x v0) := by
  unfold State.gainDomain
  iterate 40 all_goals (try (first
    | with_reducible assumption | with_reducible apply State.modDomain_keeps | with_reducible apply State.takeFirst_keeps
    | with_reducible apply State.elect_keeps | with_reducible refine State.Keeps.ite ?_ ?_
    | (with_reducible refine State.Keeps.foldl ?_ ?_ _; intro _ _ _)
    | fail_if_no_progress with_reducible refine State.Keeps.mk' ?_ rfl | split | dsimp only))

theorem State.blackRaster_keeps {a x : State} (h : a.Keeps x) : a.Keeps (State.blackRaster x) := by
  unfold State.blackRaster
  iterate 40 all_goals (try (first
    | with_reducible assumption | with_reducible apply State.modSector_keeps | with_reducible refine State.Keeps.ite ?_ ?_
    | (with_reducible refine State.Keeps.foldl ?_ ?_ _; intro _ _ _)
    | fail_if_no_progress with_reducible refine State.Keeps.mk' ?_ rfl | split | dsimp only))

theorem State.timeFault_keeps {a x : State} (v0 v1) (h : a.Keeps x) : a.Keeps (State.timeFault x v0 v1) := by
  unfold State.timeFault
  iterate 40 all_goals (try (first
    | with_reducible assumption | with_reducible apply State.blackRaster_keeps | with_reducible apply State.zonesOff_keeps
    | with_reducible apply State.tally_keeps | with_reducible apply State.awaitCarry_keeps
    | with_reducible apply State.trigsLow_keeps | refine State.setTime_keeps (Nat.le_refl _) rfl rfl ?_
    | with_reducible apply State.timeRec_keeps | with_reducible refine State.Keeps.ite ?_ ?_
    | (with_reducible refine State.Keeps.foldl ?_ ?_ _; intro _ _ _)
    | fail_if_no_progress with_reducible refine State.Keeps.mk' ?_ rfl | split | dsimp only))

theorem State.switchNow_keeps {a x : State} (v0 : Nat) (v1 : Nat) (h : a.Keeps x) : a.Keeps (State.switchNow x v0 v1) := by
  unfold State.switchNow
  iterate 40 all_goals (try (first
    | with_reducible assumption | with_reducible apply State.tally_keeps | with_reducible apply State.timeRec_keeps
    | with_reducible apply State.timeFault_keeps | with_reducible apply State.awaitCarry_keeps
    | with_reducible apply State.setClock_keeps | with_reducible refine State.Keeps.ite ?_ ?_
    | (with_reducible refine State.Keeps.foldl ?_ ?_ _; intro _ _ _)
    | fail_if_no_progress with_reducible refine State.Keeps.mk' ?_ rfl | split | dsimp only))

theorem State.syncD_keeps {a x : State} (v0 : Nat) (v1 : Nat) (v2 : Nat) (v3 : Nat) (v4 : Nat) (v5 : Int) (h : a.Keeps x) :
    a.Keeps (State.syncD x v0 v1 v2 v3 v4 v5) := by
  unfold State.syncD
  iterate 40 all_goals (try (first
    | with_reducible assumption | with_reducible apply State.took_keeps | with_reducible apply State.modDomain_keeps
    | with_reducible apply State.gainDomain_keeps | with_reducible refine State.Keeps.ite ?_ ?_
    | (with_reducible refine State.Keeps.foldl ?_ ?_ _; intro _ _ _)
    | fail_if_no_progress with_reducible refine State.Keeps.mk' ?_ rfl | split | dsimp only))

theorem State.announce_keeps {a x : State} (v0 : Nat) (v1 : Nat) (v2 : AnnounceMsg) (h : a.Keeps x) :
    a.Keeps (State.announce x v0 v1 v2) := by
  unfold State.announce
  iterate 40 all_goals (try (first
    | with_reducible assumption | with_reducible apply State.modDomain_keeps | with_reducible apply State.loseDomain_keeps
    | with_reducible refine State.Keeps.ite ?_ ?_ | (with_reducible refine State.Keeps.foldl ?_ ?_ _; intro _ _ _)
    | fail_if_no_progress with_reducible refine State.Keeps.mk' ?_ rfl | split | dsimp only))

theorem State.sendCaptures_keeps {a x : State} (v0 : Nat) (h : a.Keeps x) : a.Keeps (x.sendCaptures v0) := by
  unfold State.sendCaptures
  extract_lets l lost _ s
  have hs : a.Keeps s := ⟨h.queue, h.buffers, h.clock, h.events, h.counts,
    fun w => ⟨modAt_forall (h.fifos w).1 (fun _ _ => Nat.zero_le _), (h.fifos w).2⟩⟩
  clear_value s
  exact State.Keeps.foldl (fun y i hy => State.notify_keeps _ _ hy) hs _

theorem State.captureLost_keeps {a x : State} (h : a.Keeps x) : a.Keeps (State.captureLost x) := by
  unfold State.captureLost
  iterate 40 all_goals (try (first
    | with_reducible assumption | with_reducible apply State.tally_keeps | with_reducible refine State.Keeps.ite ?_ ?_
    | (with_reducible refine State.Keeps.foldl ?_ ?_ _; intro _ _ _)
    | fail_if_no_progress with_reducible refine State.Keeps.mk' ?_ rfl | split | dsimp only))

theorem State.learn_keeps {a x : State} (v0 : BitVec 48) (v1 : Nat) (h : a.Keeps x) : a.Keeps (State.learn x v0 v1) := by
  unfold State.learn
  iterate 40 all_goals (try (first
    | with_reducible assumption | with_reducible refine State.Keeps.ite ?_ ?_
    | (with_reducible refine State.Keeps.foldl ?_ ?_ _; intro _ _ _)
    | fail_if_no_progress with_reducible refine State.Keeps.mk' ?_ rfl | split | dsimp only))

theorem State.noteEmpty_keeps {a x : State} (v0) (h : a.Keeps x) : a.Keeps (State.noteEmpty x v0) := by
  unfold State.noteEmpty; split
  · exact State.Keeps.mk' h rfl
  · exact h

theorem State.putArp_keeps {a x : State} (v0 : Nat) (v1 : BitVec 48) (h : a.Keeps x) : a.Keeps (State.putArp x v0 v1) := by
  unfold State.putArp
  iterate 40 all_goals (try (first
    | with_reducible assumption | with_reducible apply State.pump_keeps | with_reducible refine State.Keeps.ite ?_ ?_
    | (with_reducible refine State.Keeps.foldl ?_ ?_ _; intro _ _ _)
    | fail_if_no_progress with_reducible refine State.Keeps.mk' ?_ rfl | split | dsimp only))

theorem State.arpIn_keeps {a x : State} (v0 : Nat) (v1 : List Byte) (h : a.Keeps x) : a.Keeps (State.arpIn x v0 v1) := by
  unfold State.arpIn
  iterate 40 all_goals (try (first
    | with_reducible assumption | with_reducible apply State.take_keeps | with_reducible apply State.putArp_keeps
    | with_reducible apply State.sendPort_keeps | with_reducible apply State.sendOwn_keeps
    | with_reducible exact cardOf_keeps _ | with_reducible refine State.Keeps.ite ?_ ?_
    | (with_reducible refine State.Keeps.foldl ?_ ?_ _; intro _ _ _)
    | fail_if_no_progress with_reducible refine State.Keeps.mk' ?_ rfl | split | dsimp only))

theorem State.igmpAnswer_keeps {a x : State} (v0 : Nat) (v1 : Nat) (v2 : Bool) (h : a.Keeps x) :
    a.Keeps (State.igmpAnswer x v0 v1 v2) := by
  unfold State.igmpAnswer
  iterate 40 all_goals (try (first
    | with_reducible assumption | with_reducible apply State.mcastPort_keeps | with_reducible refine State.Keeps.ite ?_ ?_
    | (with_reducible refine State.Keeps.foldl ?_ ?_ _; intro _ _ _)
    | fail_if_no_progress with_reducible refine State.Keeps.mk' ?_ rfl | split | dsimp only))

theorem State.reportAll_keeps {a x : State} (h : a.Keeps x) : a.Keeps (State.reportAll x) := by
  unfold State.reportAll
  iterate 40 all_goals (try (first
    | with_reducible assumption | with_reducible apply State.reportGroups_keeps | with_reducible refine State.Keeps.ite ?_ ?_
    | (with_reducible refine State.Keeps.foldl ?_ ?_ _; intro _ _ _)
    | fail_if_no_progress with_reducible refine State.Keeps.mk' ?_ rfl | split | dsimp only))

theorem State.ipIn_keeps {a x : State} (v0 : Nat) (v1 : List Byte) (h : a.Keeps x) : a.Keeps (State.ipIn x v0 v1) := by
  unfold State.ipIn
  iterate 40 all_goals (try (first
    | with_reducible assumption | with_reducible apply State.take_keeps | with_reducible apply State.sendOwn_keeps
    | with_reducible apply State.askArp_keeps | with_reducible apply State.igmpAnswer_keeps
    | with_reducible exact cardOf_keeps _ | with_reducible refine State.Keeps.ite ?_ ?_
    | (with_reducible refine State.Keeps.foldl ?_ ?_ _; intro _ _ _)
    | fail_if_no_progress with_reducible refine State.Keeps.mk' ?_ rfl | split | dsimp only))

theorem State.romReply_keeps {a x : State} (v0 : Nat) (v1 : Nat) (v2 : Nat) (v3 : List Byte) (h : a.Keeps x) :
    a.Keeps (State.romReply x v0 v1 v2 v3) := by
  unfold State.romReply
  iterate 40 all_goals (try (first
    | with_reducible assumption | with_reducible apply State.sendPort_keeps | with_reducible refine State.Keeps.ite ?_ ?_
    | (with_reducible refine State.Keeps.foldl ?_ ?_ _; intro _ _ _)
    | fail_if_no_progress with_reducible refine State.Keeps.mk' ?_ rfl | split | dsimp only))

theorem State.romRefuse_keeps {a x : State} (v0 : Nat) (v1 : Nat) (v2 : List Byte) (h : a.Keeps x) :
    a.Keeps (State.romRefuse x v0 v1 v2) := by
  unfold State.romRefuse
  iterate 40 all_goals (try (first
    | with_reducible assumption | with_reducible apply State.took_keeps | with_reducible apply State.romReply_keeps
    | with_reducible refine State.Keeps.ite ?_ ?_ | (with_reducible refine State.Keeps.foldl ?_ ?_ _; intro _ _ _)
    | fail_if_no_progress with_reducible refine State.Keeps.mk' ?_ rfl | split | dsimp only))

theorem State.romIn_keeps {a x : State} (v0) (h : a.Keeps x) : a.Keeps (State.romIn x v0) := by
  unfold State.romIn
  iterate 40 all_goals (try (first
    | with_reducible assumption | with_reducible apply State.romRefuse_keeps | with_reducible refine State.Keeps.ite ?_ ?_
    | (with_reducible refine State.Keeps.foldl ?_ ?_ _; intro _ _ _)
    | fail_if_no_progress with_reducible refine State.Keeps.mk' ?_ rfl | split | dsimp only))

theorem State.toBbi_keeps {a x : State} (v0 : Nat) (v1 : Frame) (h : a.Keeps x) : a.Keeps (State.toBbi x v0 v1).1 := by
  unfold State.toBbi
  iterate 40 all_goals (try (first
    | with_reducible assumption | with_reducible apply State.tally_keeps | with_reducible refine State.Keeps.ite ?_ ?_
    | (with_reducible refine State.Keeps.foldl ?_ ?_ _; intro _ _ _)
    | fail_if_no_progress with_reducible refine State.Keeps.mk' ?_ rfl | split | dsimp only))

theorem State.deliver_keeps {a x : State} (v0 v1) (h : a.Keeps x) : a.Keeps (State.deliver x v0 v1) := by
  unfold State.deliver
  iterate 40 all_goals (try (first
    | with_reducible assumption | with_reducible apply State.toBbi_keeps | with_reducible apply State.exportsOut_keeps
    | with_reducible apply State.arpIn_keeps | with_reducible apply State.ipIn_keeps | with_reducible apply State.romIn_keeps
    | with_reducible apply State.putArp_keeps | with_reducible refine State.Keeps.ite ?_ ?_
    | (with_reducible refine State.Keeps.foldl ?_ ?_ _; intro _ _ _)
    | fail_if_no_progress with_reducible refine State.Keeps.mk' ?_ rfl
    | with_reducible refine State.Keeps.pair ‹_ = (_, _)› ?_ | split | dsimp only))

theorem State.classify_keeps {a x : State} (v0 : Nat) (v1 : Frame) (h : a.Keeps x) : a.Keeps (State.classify x v0 v1) := by
  unfold State.classify
  iterate 40 all_goals (try (first
    | with_reducible assumption | with_reducible apply State.tally_keeps | with_reducible apply State.learn_keeps
    | with_reducible apply State.deliver_keeps | with_reducible apply State.forward_keeps
    | with_reducible apply State.ipIn_keeps | with_reducible refine State.Keeps.ite ?_ ?_
    | (with_reducible refine State.Keeps.foldl ?_ ?_ _; intro _ _ _)
    | fail_if_no_progress with_reducible refine State.Keeps.mk' ?_ rfl | split | dsimp only))

theorem State.stageTile_keeps {a x : State} (v0 v1 v2) (h : a.Keeps x) : a.Keeps (State.stageTile x v0 v1 v2) :=
  State.setMoor_keeps _ _ h

theorem State.setLane_keeps {a x : State} (v0 v1) (h : a.Keeps x) : a.Keeps (State.setLane x v0 v1) :=
  State.Keeps.mk' h rfl

theorem State.startLane_keeps {a x : State} (v0 v1) (h : a.Keeps x) : a.Keeps (State.startLane x v0 v1) := by
  unfold State.startLane
  iterate 40 all_goals (try (first
    | with_reducible assumption | with_reducible apply State.settleAll_keeps | with_reducible apply State.ingestWrote_keeps
    | with_reducible apply State.stageTile_keeps | with_reducible apply State.setMoor_keeps
    | with_reducible apply State.setLane_keeps | with_reducible apply State.setLib_keeps
    | with_reducible refine State.Keeps.ite ?_ ?_ | (with_reducible refine State.Keeps.foldl ?_ ?_ _; intro _ _ _)
    | fail_if_no_progress with_reducible refine State.Keeps.mk' ?_ rfl | split | dsimp only))

theorem State.laneOut_keeps {a x : State} (v0 v1) (h : a.Keeps x) : a.Keeps (State.laneOut x v0 v1) :=
  State.Keeps.mk' h rfl

theorem State.endTile_keeps {a x : State} (v0 : Nat) (v1 : Nat) (v2 : Nat) (v3 : Nat) (v4 : Bool) (v5 : Nat) (v6 : Nat) (v7 : List Byte) (v8 : Nat) (h : a.Keeps x) :
    a.Keeps (State.endTile x v0 v1 v2 v3 v4 v5 v6 v7 v8) := by
  unfold State.endTile
  iterate 40 all_goals (try (first
    | with_reducible assumption | with_reducible apply State.setLane_keeps | with_reducible apply State.laneOut_keeps
    | with_reducible apply State.ingestWrote_keeps | with_reducible apply State.codecError_keeps
    | with_reducible apply State.stageTile_keeps | with_reducible apply State.refuseTile_keeps
    | with_reducible apply State.settle_keeps | with_reducible refine State.Keeps.ite ?_ ?_
    | (with_reducible refine State.Keeps.foldl ?_ ?_ _; intro _ _ _)
    | fail_if_no_progress with_reducible refine State.Keeps.mk' ?_ rfl | split | dsimp only))

theorem State.endSegment_keeps {a x : State} (v0 : Nat) (v1 : Nat) (h : a.Keeps x) : a.Keeps (State.endSegment x v0 v1) := by
  unfold State.endSegment
  iterate 40 all_goals (try (first
    | with_reducible assumption | with_reducible apply State.setLane_keeps | with_reducible apply State.setLib_keeps
    | with_reducible apply State.laneOut_keeps | with_reducible apply State.ingestWrote_keeps
    | with_reducible apply State.codecError_keeps | with_reducible apply done_keeps
    | with_reducible refine State.Keeps.ite ?_ ?_ | (with_reducible refine State.Keeps.foldl ?_ ?_ _; intro _ _ _)
    | fail_if_no_progress with_reducible refine State.Keeps.mk' ?_ rfl | split | dsimp only))

theorem State.libraryChunks_keeps {a x : State} (u v0 : Nat) (v1 : Nat × Nat) (v2 : List Byte) (h : a.Keeps x) :
    a.Keeps (x.libraryChunks u v0 v1 v2).1 := by
  induction v0 generalizing x v1 v2 with
  | zero => exact h
  | succ k ih =>
    unfold State.libraryChunks
    dsimp only
    split
    · exact h
    · split
      · exact State.setCrc_keeps _ _ _ h
      · exact ih _ _ (State.chunk_keeps _ _ _ _ (State.setCrc_keeps _ _ _ h))

theorem State.takePiece_keeps {a x : State} (v0 : Nat) (v1 : LibRead) (h : a.Keeps x) :
    a.Keeps (State.takePiece x v0 v1).1 := by
  unfold State.takePiece
  iterate 40 all_goals (try (first
    | with_reducible assumption | with_reducible apply State.take_keeps | with_reducible apply State.setCrc_keeps
    | with_reducible apply State.libraryChunks_keeps | with_reducible exact cardOf_keeps _
    | with_reducible refine State.Keeps.ite ?_ ?_ | (with_reducible refine State.Keeps.foldl ?_ ?_ _; intro _ _ _)
    | fail_if_no_progress with_reducible refine State.Keeps.mk' ?_ rfl | split | dsimp only))

theorem State.repairChunks_keeps {a x : State} (v0 v1 : Nat) (v2 : List Byte) (h : a.Keeps x) :
    a.Keeps (x.repairChunks v0 v1 v2) := by
  induction v1 generalizing x v2 with
  | zero => exact h
  | succ k ih =>
    unfold State.repairChunks
    split
    · exact h
    · refine ih _ ?_
      split
      · exact State.chunk_keeps _ _ _ _ h
      · exact h

theorem State.endLib_keeps {a x : State} (v0) (h : a.Keeps x) : a.Keeps (State.endLib x v0) := by
  unfold State.endLib
  iterate 40 all_goals (try (first
    | with_reducible assumption | with_reducible refine State.Keeps.ite ?_ ?_
    | (with_reducible refine State.Keeps.foldl ?_ ?_ _; intro _ _ _)
    | fail_if_no_progress with_reducible refine State.Keeps.mk' ?_ rfl | split | dsimp only))

theorem State.repairPiece_keeps {a x : State} (v0 v1) (h : a.Keeps x) : a.Keeps (State.repairPiece x v0 v1) := by
  unfold State.repairPiece
  iterate 40 all_goals (try (first
    | with_reducible assumption | with_reducible apply State.setLib_keeps | with_reducible apply State.extraHeartbeat_keeps
    | with_reducible apply State.repairChunks_keeps | with_reducible apply State.endLib_keeps
    | with_reducible refine State.Keeps.ite ?_ ?_ | (with_reducible refine State.Keeps.foldl ?_ ?_ _; intro _ _ _)
    | fail_if_no_progress with_reducible refine State.Keeps.mk' ?_ rfl | split | dsimp only))

theorem State.suspendHead_keeps {a x : State} (v0) (h : a.Keeps x) : a.Keeps (State.suspendHead x v0) := by
  unfold State.suspendHead
  iterate 40 all_goals (try (first
    | with_reducible assumption | with_reducible apply State.setCctx_keeps | with_reducible apply State.setClane_keeps
    | with_reducible refine State.Keeps.ite ?_ ?_ | (with_reducible refine State.Keeps.foldl ?_ ?_ _; intro _ _ _)
    | fail_if_no_progress with_reducible refine State.Keeps.mk' ?_ rfl | split | dsimp only))

theorem State.jobDone_keeps {a x : State} (v0 : CJob) (h : a.Keeps x) : a.Keeps (State.jobDone x v0) := by
  unfold State.jobDone
  iterate 40 all_goals (try (first
    | with_reducible assumption | with_reducible apply State.forward_keeps | with_reducible apply State.sendRepair_keeps
    | with_reducible apply State.exportsOut_keeps | with_reducible apply State.tallyBy_keeps
    | with_reducible apply State.sendExport_keeps | with_reducible apply State.tally_keeps
    | with_reducible refine State.Keeps.ite ?_ ?_ | (with_reducible refine State.Keeps.foldl ?_ ?_ _; intro _ _ _)
    | fail_if_no_progress with_reducible refine State.Keeps.mk' ?_ rfl | split | dsimp only))

theorem State.unitDone_keeps {a x : State} (v0) (h : a.Keeps x) : a.Keeps (State.unitDone x v0) := by
  unfold State.unitDone
  split
  · exact State.bgDid_keeps _ h
  · exact State.bgDid_keeps _ h
  · exact h

theorem State.nextJob_keeps {a x : State} (v0 : Nat) (h : a.Keeps x) : a.Keeps (State.nextJob x v0) := by
  unfold State.nextJob
  iterate 40 all_goals (try (first
    | with_reducible assumption | with_reducible apply State.setClane_keeps | with_reducible apply State.runHead_keeps
    | with_reducible apply State.fillLane_keeps | with_reducible refine State.Keeps.ite ?_ ?_
    | (with_reducible refine State.Keeps.foldl ?_ ?_ _; intro _ _ _)
    | fail_if_no_progress with_reducible refine State.Keeps.mk' ?_ rfl | split | dsimp only))

theorem State.laneBlock_keeps {a x : State} (v0 v1) (h : a.Keeps x) : a.Keeps (State.laneBlock x v0 v1) := by
  unfold State.laneBlock
  iterate 40 all_goals (try (first
    | with_reducible assumption | with_reducible apply State.suspendHead_keeps | with_reducible apply State.setCrc_keeps
    | with_reducible apply State.setClane_keeps | with_reducible apply State.runHead_keeps
    | with_reducible apply State.otherMoved_keeps | with_reducible apply State.sliceTaken_keeps
    | with_reducible apply State.verifyFailed_keeps | with_reducible apply State.repairPump_keeps
    | with_reducible apply State.unitDone_keeps | with_reducible apply State.jobDone_keeps
    | with_reducible apply State.nextJob_keeps | with_reducible refine State.Keeps.ite ?_ ?_
    | (with_reducible refine State.Keeps.foldl ?_ ?_ _; intro _ _ _)
    | fail_if_no_progress with_reducible refine State.Keeps.mk' ?_ rfl | split | dsimp only))

theorem State.preempt_keeps {a x : State} (v0) (h : a.Keeps x) : a.Keeps (State.preempt x v0) := by
  unfold State.preempt
  iterate 40 all_goals (try (first
    | with_reducible assumption | with_reducible apply State.suspendHead_keeps | with_reducible apply State.runHead_keeps
    | with_reducible apply State.setClane_keeps | with_reducible refine State.Keeps.ite ?_ ?_
    | (with_reducible refine State.Keeps.foldl ?_ ?_ _; intro _ _ _)
    | fail_if_no_progress with_reducible refine State.Keeps.mk' ?_ rfl | split | dsimp only))

theorem State.modTile_keeps {a x : State} (v0 : Nat) (v1 : Nat) (v2 : TilePlan → TilePlan) (h : a.Keeps x) :
    a.Keeps (State.modTile x v0 v1 v2) := by
  unfold State.modTile
  iterate 40 all_goals (try (first
    | with_reducible assumption | with_reducible refine State.Keeps.ite ?_ ?_
    | (with_reducible refine State.Keeps.foldl ?_ ?_ _; intro _ _ _)
    | fail_if_no_progress with_reducible refine State.Keeps.mk' ?_ rfl | split | dsimp only))

theorem State.modGang_keeps {a x : State} (v0 v1) (h : a.Keeps x) : a.Keeps (State.modGang x v0 v1) :=
  State.Keeps.mk' h rfl

theorem State.putRing_keeps {a x : State} (v0 v1 v2 v3 v4) (h : a.Keeps x) : a.Keeps (State.putRing x v0 v1 v2 v3 v4) :=
  State.Keeps.mk' h rfl

theorem State.putCopy_keeps {a x : State} (v0 v1 v2) (h : a.Keeps x) : a.Keeps (State.putCopy x v0 v1 v2) :=
  State.dramMoved_keeps _ (State.Keeps.mk' h rfl)

theorem State.countTile_keeps {a x : State} (v0 : Nat) (v1 : Nat) (v2 : GangCount) (h : a.Keeps x) :
    a.Keeps (State.countTile x v0 v1 v2) := by
  unfold State.countTile
  iterate 40 all_goals (try (first
    | with_reducible assumption | with_reducible apply State.count_keeps | with_reducible apply State.tallyUnit_keeps
    | with_reducible refine State.Keeps.ite ?_ ?_ | (with_reducible refine State.Keeps.foldl ?_ ?_ _; intro _ _ _)
    | fail_if_no_progress with_reducible refine State.Keeps.mk' ?_ rfl | split | dsimp only))

theorem State.measure_keeps {a x : State} (v0 v1 v2) (h : a.Keeps x) : a.Keeps (State.measure x v0 v1 v2) :=
  State.Keeps.mk' h rfl

theorem State.reachEntry_keeps {a x : State} (v0 : Nat) (h : a.Keeps x) : a.Keeps (State.reachEntry x v0) := by
  unfold State.reachEntry
  iterate 40 all_goals (try (first
    | with_reducible assumption | with_reducible apply State.listEnds_keeps | with_reducible apply State.listShown_keeps
    | with_reducible apply State.waitFails_keeps | with_reducible refine State.Keeps.ite ?_ ?_
    | (with_reducible refine State.Keeps.foldl ?_ ?_ _; intro _ _ _)
    | fail_if_no_progress with_reducible refine State.Keeps.mk' ?_ rfl | split | dsimp only))

theorem State.tideReleases_keeps {a x : State} (v0 : Nat) (v1 : Int) (h : a.Keeps x) :
    a.Keeps (State.tideReleases x v0 v1) := by
  unfold State.tideReleases
  iterate 40 all_goals (try (first
    | with_reducible assumption | with_reducible refine State.Keeps.ite ?_ ?_
    | (with_reducible refine State.Keeps.foldl ?_ ?_ _; intro _ _ _)
    | fail_if_no_progress with_reducible refine State.Keeps.mk' ?_ rfl | split | dsimp only))

theorem State.skimCount_keeps {a x : State} (v0 : Nat) (h : a.Keeps x) : a.Keeps (State.skimCount x v0) := by
  unfold State.skimCount
  iterate 40 all_goals (try (first
    | with_reducible assumption | with_reducible apply State.tallyBy_keeps | with_reducible apply State.dramMoved_keeps
    | with_reducible refine State.Keeps.ite ?_ ?_ | (with_reducible refine State.Keeps.foldl ?_ ?_ _; intro _ _ _)
    | fail_if_no_progress with_reducible refine State.Keeps.mk' ?_ rfl | split | dsimp only))

theorem State.doEntry_keeps {a x : State} {e : Entry} {d : Surface} (v2 : List (Nat × Nat)) (hd : x.surf e.dst = some d)
    (h : a.Keeps x) : a.Keeps (x.doEntry e d v2) := by
  unfold State.doEntry
  extract_lets u bad s1 s2
  have k1 : a.Keeps s1 := State.setSurf_keeps _ h (fun w =>
    Surface.wf_landed _ (Surface.wf_drawn _ _ _ (Surface.wf_keep (State.surf_wf (h.buffers w) hd) _ _ _ _)))
  have k2 : a.Keeps s2 := State.tally_keeps _ (State.skimCount_keeps _ k1)
  split
  · exact k2
  · exact State.tallyBy_keeps _ _ (State.Keeps.mk' k2 rfl)

theorem State.listStops_keeps {a x : State} (v0 : List Nat) (h : a.Keeps x) : a.Keeps (x.listStops v0) := by
  unfold State.listStops
  exact State.Keeps.fewerSurfaces (State.listEnds_keeps _ _ h) rfl rfl

theorem State.reqTimeouts_keeps {a x : State} (h : a.Keeps x) : a.Keeps (State.reqTimeouts x) := by
  unfold State.reqTimeouts
  iterate 40 all_goals (try (first
    | with_reducible assumption | with_reducible apply State.tally_keeps | with_reducible apply State.finalEvent_keeps
    | with_reducible refine State.Keeps.ite ?_ ?_ | (with_reducible refine State.Keeps.foldl ?_ ?_ _; intro _ _ _)
    | fail_if_no_progress with_reducible refine State.Keeps.mk' ?_ rfl | split | dsimp only))

theorem State.portActive_keeps {a x : State} (v0 : Nat) (v1 : Training) (h : a.Keeps x) :
    a.Keeps (State.portActive x v0 v1) := by
  unfold State.portActive
  iterate 40 all_goals (try (first
    | with_reducible assumption | with_reducible apply State.modPort_keeps | with_reducible apply State.tallyUnit_keeps
    | with_reducible apply State.linkRec_keeps | with_reducible apply State.retrainsEnd_keeps
    | with_reducible apply State.checkTrained_keeps | with_reducible refine State.Keeps.ite ?_ ?_
    | (with_reducible refine State.Keeps.foldl ?_ ?_ _; intro _ _ _)
    | fail_if_no_progress with_reducible refine State.Keeps.mk' ?_ rfl | split | dsimp only))

theorem State.enterPhase_keeps {a x : State} (v0 v1) (h : a.Keeps x) : a.Keeps (State.enterPhase x v0 v1) :=
  State.modPort_keeps _ _ h

theorem State.auxFailed_keeps {a x : State} (v0 : Nat) (h : a.Keeps x) : a.Keeps (State.auxFailed x v0) := by
  unfold State.auxFailed
  iterate 40 all_goals (try (first
    | with_reducible assumption | with_reducible apply State.portAbsent_keeps | with_reducible refine State.Keeps.ite ?_ ?_
    | (with_reducible refine State.Keeps.foldl ?_ ?_ _; intro _ _ _)
    | fail_if_no_progress with_reducible refine State.Keeps.mk' ?_ rfl | split | dsimp only))

theorem State.unplug_keeps {a x : State} (v0 : Nat) (h : a.Keeps x) : a.Keeps (State.unplug x v0) := by
  unfold State.unplug
  iterate 40 all_goals (try (first
    | with_reducible assumption | with_reducible apply State.modPort_keeps | with_reducible apply State.portAbsent_keeps
    | with_reducible refine State.Keeps.ite ?_ ?_ | (with_reducible refine State.Keeps.foldl ?_ ?_ _; intro _ _ _)
    | fail_if_no_progress with_reducible refine State.Keeps.mk' ?_ rfl | split | dsimp only))

theorem State.auxReadFailed_keeps {a x : State} (v0 : Nat) (h : a.Keeps x) : a.Keeps (State.auxReadFailed x v0) := by
  unfold State.auxReadFailed
  iterate 40 all_goals (try (first
    | with_reducible assumption | with_reducible apply State.tallyUnit_keeps | with_reducible apply State.modPort_keeps
    | with_reducible apply State.retrain_keeps | with_reducible refine State.Keeps.ite ?_ ?_
    | (with_reducible refine State.Keeps.foldl ?_ ?_ _; intro _ _ _)
    | fail_if_no_progress with_reducible refine State.Keeps.mk' ?_ rfl | split | dsimp only))

theorem State.checkLanes_keeps {a x : State} (v0 : Nat) (v1 : Option LaneStatus) (h : a.Keeps x) :
    a.Keeps (State.checkLanes x v0 v1) := by
  unfold State.checkLanes
  iterate 40 all_goals (try (first
    | with_reducible assumption | with_reducible apply State.auxReadFailed_keeps | with_reducible apply State.modPort_keeps
    | with_reducible apply State.retrain_keeps | with_reducible refine State.Keeps.ite ?_ ?_
    | (with_reducible refine State.Keeps.foldl ?_ ?_ _; intro _ _ _)
    | fail_if_no_progress with_reducible refine State.Keeps.mk' ?_ rfl | split | dsimp only))

theorem State.recal_keeps {a x : State} (v0 : Nat) (v1 : LaneStatus) (h : a.Keeps x) : a.Keeps (State.recal x v0 v1) := by
  unfold State.recal
  iterate 40 all_goals (try (first
    | with_reducible assumption | with_reducible apply State.modPort_keeps | with_reducible apply State.retrain_keeps
    | with_reducible refine State.Keeps.ite ?_ ?_ | (with_reducible refine State.Keeps.foldl ?_ ?_ _; intro _ _ _)
    | fail_if_no_progress with_reducible refine State.Keeps.mk' ?_ rfl | split | dsimp only))

theorem State.beginTest_keeps {a x : State} (v0 : TestReq) (v1 : Nat) (h : a.Keeps x) :
    a.Keeps (State.beginTest x v0 v1) := by
  unfold State.beginTest
  iterate 40 all_goals (try (first
    | with_reducible assumption | with_reducible apply State.modPort_keeps | with_reducible apply State.tallyUnit_keeps
    | with_reducible refine State.Keeps.ite ?_ ?_ | (with_reducible refine State.Keeps.foldl ?_ ?_ _; intro _ _ _)
    | fail_if_no_progress with_reducible refine State.Keeps.mk' ?_ rfl | split | dsimp only))

theorem State.freeze_keeps {a x : State} (v0 : Nat) (h : a.Keeps x) : a.Keeps (State.freeze x v0) := by
  unfold State.freeze
  iterate 40 all_goals (try (first
    | with_reducible assumption | with_reducible apply State.modBb_keeps | with_reducible apply State.tallyUnit_keeps
    | with_reducible refine State.Keeps.ite ?_ ?_ | (with_reducible refine State.Keeps.foldl ?_ ?_ _; intro _ _ _)
    | fail_if_no_progress with_reducible refine State.Keeps.mk' ?_ rfl | split | dsimp only))

theorem State.memRec_keeps {a x : State} (v0 v1 v2 v3 v4 v5 v6) (h : a.Keeps x) : a.Keeps (State.memRec x v0 v1 v2 v3 v4 v5 v6) :=
  State.wakeRec_keeps _ _ h

theorem State.failChannel_keeps {a x : State} (v0 v1) (h : a.Keeps x) : a.Keeps (State.failChannel x v0 v1) := by
  unfold State.failChannel
  iterate 40 all_goals (try (first
    | with_reducible assumption | with_reducible apply State.modChan_keeps | with_reducible apply State.zeroFailed_keeps
    | with_reducible apply State.memRec_keeps | with_reducible apply State.tally_keeps
    | with_reducible refine State.Keeps.ite ?_ ?_ | (with_reducible refine State.Keeps.foldl ?_ ?_ _; intro _ _ _)
    | fail_if_no_progress with_reducible refine State.Keeps.mk' ?_ rfl | split | dsimp only))

theorem State.recalEnd_keeps {a x : State} (v0) (h : a.Keeps x) : a.Keeps (State.recalEnd x v0) :=
  State.Keeps.mk' (State.bgDid_keeps _ h) rfl

theorem State.changeEnd_keeps {a x : State} (v0 : Nat) (h : a.Keeps x) : a.Keeps (State.changeEnd x v0) := by
  unfold State.changeEnd
  iterate 40 all_goals (try (first
    | with_reducible assumption | with_reducible apply State.modChan_keeps | with_reducible apply State.wantChange_keeps
    | with_reducible apply State.tally_keeps | with_reducible apply State.selfRefresh_keeps
    | with_reducible refine State.Keeps.ite ?_ ?_ | (with_reducible refine State.Keeps.foldl ?_ ?_ _; intro _ _ _)
    | fail_if_no_progress with_reducible refine State.Keeps.mk' ?_ rfl | split | dsimp only))

theorem State.sweepEnd_keeps {a x : State} (v0 : Nat) (v1 : Sweep) (v2 : Bool) (h : a.Keeps x) :
    a.Keeps (State.sweepEnd x v0 v1 v2) := by
  unfold State.sweepEnd
  iterate 40 all_goals (try (first
    | with_reducible assumption | with_reducible apply State.recalEnd_keeps | with_reducible apply State.request_keeps
    | with_reducible apply State.calEnd_keeps | with_reducible apply State.retrain_keeps
    | with_reducible apply State.failChannel_keeps | with_reducible apply State.modChan_keeps
    | with_reducible apply State.changeEnd_keeps | with_reducible apply State.tally_keeps
    | with_reducible apply State.selfRefresh_keeps | with_reducible refine State.Keeps.ite ?_ ?_
    | (with_reducible refine State.Keeps.foldl ?_ ?_ _; intro _ _ _)
    | fail_if_no_progress with_reducible refine State.Keeps.mk' ?_ rfl | split | dsimp only))

theorem State.startSweep_keeps {a x : State} (v0 v1) (h : a.Keeps x) : a.Keeps (State.startSweep x v0 v1) :=
  State.modChan_keeps _ _ h

theorem State.breakwater_keeps {a x : State} (v0 : Nat) (v1 : Nat) (v2 : Nat) (v3 : Nat) (h : a.Keeps x) :
    a.Keeps (State.breakwater x v0 v1 v2 v3) := by
  unfold State.breakwater
  iterate 40 all_goals (try (first
    | with_reducible assumption | with_reducible apply State.modChan_keeps | with_reducible apply State.tally_keeps
    | with_reducible apply State.memRec_keeps | with_reducible refine State.Keeps.ite ?_ ?_
    | (with_reducible refine State.Keeps.foldl ?_ ?_ _; intro _ _ _)
    | fail_if_no_progress with_reducible refine State.Keeps.mk' ?_ rfl | split | dsimp only))

theorem State.bwClear_keeps {a x : State} (h : a.Keeps x) : a.Keeps (State.bwClear x) := by
  unfold State.bwClear
  iterate 40 all_goals (try (first
    | with_reducible assumption | with_reducible refine State.Keeps.ite ?_ ?_
    | (with_reducible refine State.Keeps.foldl ?_ ?_ _; intro _ _ _)
    | fail_if_no_progress with_reducible refine State.Keeps.mk' ?_ rfl | split | dsimp only))

theorem State.lineCorrected_keeps {a x : State} (v0 : Nat) (v1 : Nat) (h : a.Keeps x) :
    a.Keeps (State.lineCorrected x v0 v1) := by
  unfold State.lineCorrected
  iterate 40 all_goals (try (first
    | with_reducible assumption | with_reducible apply State.modChan_keeps | with_reducible apply State.tallyBy_keeps
    | with_reducible refine State.Keeps.ite ?_ ?_ | (with_reducible refine State.Keeps.foldl ?_ ?_ _; intro _ _ _)
    | fail_if_no_progress with_reducible refine State.Keeps.mk' ?_ rfl | split | dsimp only))

theorem State.lineCounted_keeps {a x : State} (v0 v1) (h : a.Keeps x) : a.Keeps (State.lineCounted x v0 v1) := by
  unfold State.lineCounted
  iterate 40 all_goals (try (first
    | with_reducible assumption | with_reducible apply State.tally_keeps | with_reducible apply State.modChan_keeps
    | with_reducible refine State.Keeps.ite ?_ ?_ | (with_reducible refine State.Keeps.foldl ?_ ?_ _; intro _ _ _)
    | fail_if_no_progress with_reducible refine State.Keeps.mk' ?_ rfl | split | dsimp only))

theorem State.manyBad_keeps {a x : State} (v0) (h : a.Keeps x) : a.Keeps (State.manyBad x v0) := by
  unfold State.manyBad
  iterate 40 all_goals (try (first
    | with_reducible assumption | with_reducible apply State.failChannel_keeps | with_reducible refine State.Keeps.ite ?_ ?_
    | (with_reducible refine State.Keeps.foldl ?_ ?_ _; intro _ _ _)
    | fail_if_no_progress with_reducible refine State.Keeps.mk' ?_ rfl | split | dsimp only))

theorem State.lineBad_keeps {a x : State} (v0 v1 v2) (h : a.Keeps x) : a.Keeps (State.lineBad x v0 v1 v2) := by
  unfold State.lineBad
  iterate 40 all_goals (try (first
    | with_reducible assumption | with_reducible apply State.manyBad_keeps | with_reducible apply State.memRec_keeps
    | with_reducible apply State.lineCounted_keeps | with_reducible refine State.Keeps.ite ?_ ?_
    | (with_reducible refine State.Keeps.foldl ?_ ?_ _; intro _ _ _)
    | fail_if_no_progress with_reducible refine State.Keeps.mk' ?_ rfl | split | dsimp only))

theorem State.mergeBad_keeps {a x : State} (v0 v1 : Nat) (v2 : LineUse) (h : a.Keeps x) : a.Keeps (x.mergeBad v0 v1 v2) := by
  unfold State.mergeBad
  have k := State.lineCounted_keeps v0 v1 h
  generalize x.lineCounted v0 v1 = y at k ⊢
  refine State.manyBad_keeps _ ?_
  dsimp only
  split
  · split
    · next f hf =>
      refine State.Keeps.ite (State.setSurf_keeps _ k (fun w => ?_)) k
      have hw := State.surf_wf (k.buffers w) hf
      exact ⟨Memory.wf_filter hw.1 _, hw.2⟩
    · exact k
  · refine State.Keeps.ite ?_ k
    refine ⟨k.queue, fun w => ⟨(k.buffers w).1, fun p hp => ?_, (k.buffers w).2.2⟩, k.clock, k.events, k.counts, k.fifos⟩
    rcases Tab.mem_put hp with rfl | hp
    · exact Memory.wf_filter (Tab.wf_getD (k.buffers w).2.1 _) _
    · exact (k.buffers w).2.1 p hp
  · refine State.Keeps.ite ?_ k
    exact ⟨k.queue, fun w => ⟨(k.buffers w).1, (k.buffers w).2.1, Memory.wf_write_others _ _ (k.buffers w).2.2.1,
      (k.buffers w).2.2.2⟩, k.clock, k.events, k.counts, k.fifos⟩
  · exact k
  · exact k

theorem State.stagingLost_keeps {a x : State} (v0 : Nat) (h : a.Keeps x) : a.Keeps (x.stagingLost v0) := by
  unfold State.stagingLost
  exact State.Keeps.ite (State.Keeps.mk' h rfl) h

theorem State.beginCal_keeps {a x : State} (v0 : TestReq) (v1 : Nat) (v2 : Nat) (v3 : Nat) (h : a.Keeps x) :
    a.Keeps (State.beginCal x v0 v1 v2 v3) := by
  unfold State.beginCal
  iterate 40 all_goals (try (first
    | with_reducible assumption | with_reducible apply State.startSweep_keeps | with_reducible apply State.request_keeps
    | with_reducible apply State.calEnd_keeps | with_reducible refine State.Keeps.ite ?_ ?_
    | (with_reducible refine State.Keeps.foldl ?_ ?_ _; intro _ _ _)
    | fail_if_no_progress with_reducible refine State.Keeps.mk' ?_ rfl | split | dsimp only))

theorem State.beginLinks_keeps {a x : State} (h : a.Keeps x) : a.Keeps (State.beginLinks x) := by
  unfold State.beginLinks
  iterate 40 all_goals (try (first
    | with_reducible assumption | with_reducible apply State.beginChange_keeps | with_reducible refine State.Keeps.ite ?_ ?_
    | (with_reducible refine State.Keeps.foldl ?_ ?_ _; intro _ _ _)
    | fail_if_no_progress with_reducible refine State.Keeps.mk' ?_ rfl | split | dsimp only))

theorem State.upDone_keeps {a x : State} (h : a.Keeps x) : a.Keeps (State.upDone x) := by
  unfold State.upDone
  iterate 40 all_goals (try (first
    | with_reducible assumption | with_reducible apply State.trainAll_keeps | with_reducible apply State.beginLinks_keeps
    | with_reducible refine State.Keeps.ite ?_ ?_ | (with_reducible refine State.Keeps.foldl ?_ ?_ _; intro _ _ _)
    | fail_if_no_progress with_reducible refine State.Keeps.mk' ?_ rfl | split | dsimp only))

theorem State.writeHeader_keeps {a x : State} (v0 v1) (h : a.Keeps x) : a.Keeps (State.writeHeader x v0 v1) := by
  unfold State.writeHeader
  iterate 40 all_goals (try (first
    | with_reducible assumption | with_reducible refine State.Keeps.ite ?_ ?_
    | (with_reducible refine State.Keeps.foldl ?_ ?_ _; intro _ _ _)
    | fail_if_no_progress with_reducible refine State.Keeps.mk' ?_ rfl | split | dsimp only))

theorem State.openPage_keeps {a x : State} (h : a.Keeps x) : a.Keeps (State.openPage x) := by
  unfold State.openPage
  iterate 40 all_goals (try (first
    | with_reducible assumption | with_reducible apply State.writeHeader_keeps | with_reducible refine State.Keeps.ite ?_ ?_
    | (with_reducible refine State.Keeps.foldl ?_ ?_ _; intro _ _ _)
    | fail_if_no_progress with_reducible refine State.Keeps.mk' ?_ rfl | split | dsimp only))

theorem State.appendRecord_keeps {a x : State} (v0 : List Byte) (h : a.Keeps x) : a.Keeps (State.appendRecord x v0) := by
  unfold State.appendRecord
  iterate 40 all_goals (try (first
    | with_reducible assumption | with_reducible apply State.openPage_keeps | with_reducible refine State.Keeps.ite ?_ ?_
    | (with_reducible refine State.Keeps.foldl ?_ ?_ _; intro _ _ _)
    | fail_if_no_progress with_reducible refine State.Keeps.mk' ?_ rfl | split | dsimp only))

theorem State.runStep_keeps {a x : State} (v0 : Txn) (v1 : WriteStep) (h : a.Keeps x) : a.Keeps (x.runStep v0 v1) := by
  unfold State.runStep
  split
  · exact State.appendRecord_keeps _ h
  · exact State.putFixed_keeps _ _ h
  · exact State.openPage_keeps h
  · exact State.Keeps.mk' h rfl

theorem State.finishRecord_keeps {a x : State} (h : a.Keeps x) : a.Keeps (State.finishRecord x) := by
  unfold State.finishRecord
  iterate 40 all_goals (try (first
    | with_reducible assumption | with_reducible apply State.oneRecord_keeps | with_reducible apply State.runStep_keeps
    | with_reducible refine State.Keeps.ite ?_ ?_ | (with_reducible refine State.Keeps.foldl ?_ ?_ _; intro _ _ _)
    | fail_if_no_progress with_reducible refine State.Keeps.mk' ?_ rfl | split | dsimp only))

theorem State.recordDone_keeps {a x : State} (h : a.Keeps x) : a.Keeps (State.recordDone x).1 := by
  unfold State.recordDone
  iterate 40 all_goals (try (first
    | with_reducible assumption | with_reducible apply State.openPage_keeps | with_reducible apply State.runStep_keeps
    | with_reducible refine State.Keeps.ite ?_ ?_ | (with_reducible refine State.Keeps.foldl ?_ ?_ _; intro _ _ _)
    | fail_if_no_progress with_reducible refine State.Keeps.mk' ?_ rfl | split | dsimp only))

theorem State.committed_keeps {a x : State} (v0) (h : a.Keeps x) : a.Keeps (State.committed x v0) := by
  unfold State.committed; split
  · exact h
  · exact State.Keeps.mk' h rfl

theorem State.sealWrite_keeps {a x : State} (v0) (h : a.Keeps x) : a.Keeps (State.sealWrite x v0) := by
  unfold State.sealWrite
  iterate 40 all_goals (try (first
    | with_reducible assumption | with_reducible apply State.pushTxn_keeps | with_reducible refine State.Keeps.ite ?_ ?_
    | (with_reducible refine State.Keeps.foldl ?_ ?_ _; intro _ _ _)
    | fail_if_no_progress with_reducible refine State.Keeps.mk' ?_ rfl | split | dsimp only))

theorem State.sealChange_keeps {a x : State} (v0 v1) (h : a.Keeps x) : a.Keeps (State.sealChange x v0 v1) := by
  unfold State.sealChange
  iterate 40 all_goals (try (first
    | with_reducible assumption | with_reducible apply State.sealWrite_keeps | with_reducible apply State.tally_keeps
    | with_reducible refine State.Keeps.ite ?_ ?_ | (with_reducible refine State.Keeps.foldl ?_ ?_ _; intro _ _ _)
    | fail_if_no_progress with_reducible refine State.Keeps.mk' ?_ rfl | split | dsimp only))

theorem State.sealRetry_keeps {a x : State} (h : a.Keeps x) : a.Keeps (State.sealRetry x) := by
  unfold State.sealRetry
  iterate 40 all_goals (try (first
    | with_reducible assumption | with_reducible apply State.beginHead_keeps | with_reducible refine State.Keeps.ite ?_ ?_
    | (with_reducible refine State.Keeps.foldl ?_ ?_ _; intro _ _ _)
    | fail_if_no_progress with_reducible refine State.Keeps.mk' ?_ rfl | split | dsimp only))

theorem State.pairingDone_keeps {a x : State} (v0 : Nat) (v1 : Session) (h : a.Keeps x) : a.Keeps (x.pairingDone v0 v1) :=
  State.irq_keeps (State.heldReply_keeps _ _ (State.modSess_keeps _ h (fun _ _ => Nat.zero_le _)))

theorem State.powerRec_keeps {a x : State} (v0 v1) (h : a.Keeps x) : a.Keeps (State.powerRec x v0 v1) :=
  State.wakeRec_keeps _ _ h

theorem State.modRail_keeps {a x : State} (v0 v1) (h : a.Keeps x) : a.Keeps (State.modRail x v0 v1) :=
  State.Keeps.mk' h rfl

theorem State.attemptEnds_keeps {a x : State} (v0) (h : a.Keeps x) : a.Keeps (State.attemptEnds x v0) := by
  unfold State.attemptEnds
  iterate 40 all_goals (try (first
    | with_reducible assumption | with_reducible refine State.Keeps.ite ?_ ?_
    | (with_reducible refine State.Keeps.foldl ?_ ?_ _; intro _ _ _)
    | fail_if_no_progress with_reducible refine State.Keeps.mk' ?_ rfl | split | dsimp only))

theorem State.endSeqs_keeps {a x : State} (h : a.Keeps x) : a.Keeps (State.endSeqs x) := by
  unfold State.endSeqs
  iterate 40 all_goals (try (first
    | with_reducible assumption | with_reducible apply State.attemptEnds_keeps | with_reducible apply State.upDone_keeps
    | with_reducible apply State.beginLinks_keeps | with_reducible refine State.Keeps.ite ?_ ?_
    | (with_reducible refine State.Keeps.foldl ?_ ?_ _; intro _ _ _)
    | fail_if_no_progress with_reducible refine State.Keeps.mk' ?_ rfl | split | dsimp only))

theorem State.railFault_keeps {a x : State} (v0 : Nat) (h : a.Keeps x) : a.Keeps (State.railFault x v0) := by
  unfold State.railFault
  iterate 40 all_goals (try (first
    | with_reducible assumption | with_reducible apply State.zonesFall_keeps | with_reducible apply State.modRail_keeps
    | with_reducible apply State.modPort_keeps | with_reducible apply State.portAbsent_keeps
    | with_reducible apply State.startPartSeq_keeps | with_reducible apply State.endSeqs_keeps
    | with_reducible apply State.tally_keeps | with_reducible apply State.powerRec_keeps
    | with_reducible refine State.Keeps.ite ?_ ?_ | (with_reducible refine State.Keeps.foldl ?_ ?_ _; intro _ _ _)
    | fail_if_no_progress with_reducible refine State.Keeps.mk' ?_ rfl | split | dsimp only))

theorem State.pgRise_keeps {a x : State} (v0 : Nat) (h : a.Keeps x) : a.Keeps (State.pgRise x v0) := by
  unfold State.pgRise
  iterate 40 all_goals (try (first
    | with_reducible assumption | with_reducible apply State.modRail_keeps | with_reducible apply State.wait_keeps
    | with_reducible apply State.endSeqs_keeps | with_reducible refine State.Keeps.ite ?_ ?_
    | (with_reducible refine State.Keeps.foldl ?_ ?_ _; intro _ _ _)
    | fail_if_no_progress with_reducible refine State.Keeps.mk' ?_ rfl | split | dsimp only))

theorem State.takeCodes_keeps {a x : State} (v0) (h : a.Keeps x) : a.Keeps (State.takeCodes x v0) :=
  State.Keeps.mk' h rfl

theorem State.takeSensors_keeps {a x : State} (h : a.Keeps x) : a.Keeps (State.takeSensors x) :=
  State.Keeps.mk' h rfl

theorem State.model_keeps {a x : State} (h : a.Keeps x) : a.Keeps (State.model x) :=
  State.Keeps.mk' h rfl

theorem State.limitStep_keeps {a x : State} (h : a.Keeps x) : a.Keeps (State.limitStep x) := by
  unfold State.limitStep
  iterate 40 all_goals (try (first
    | with_reducible assumption | with_reducible apply State.tally_keeps | with_reducible apply State.powerRec_keeps
    | with_reducible refine State.Keeps.ite ?_ ?_ | (with_reducible refine State.Keeps.foldl ?_ ?_ _; intro _ _ _)
    | fail_if_no_progress with_reducible refine State.Keeps.mk' ?_ rfl | split | dsimp only))

theorem State.blStepRound_keeps {a x : State} (h : a.Keeps x) : a.Keeps (State.blStepRound x) := by
  unfold State.blStepRound
  iterate 40 all_goals (try (first
    | with_reducible assumption | with_reducible refine State.Keeps.ite ?_ ?_
    | (with_reducible refine State.Keeps.foldl ?_ ?_ _; intro _ _ _)
    | fail_if_no_progress with_reducible refine State.Keeps.mk' ?_ rfl | split | dsimp only))

theorem State.brightness_keeps {a x : State} (h : a.Keeps x) : a.Keeps (State.brightness x) :=
  State.Keeps.mk' h rfl

theorem State.pmSend_keeps {a x : State} (v0 v1 v2) (h : a.Keeps x) : a.Keeps (State.pmSend x v0 v1 v2) := by
  unfold State.pmSend
  iterate 40 all_goals (try (first
    | with_reducible assumption | with_reducible refine State.Keeps.ite ?_ ?_
    | (with_reducible refine State.Keeps.foldl ?_ ?_ _; intro _ _ _)
    | fail_if_no_progress with_reducible refine State.Keeps.mk' ?_ rfl | split | dsimp only))

theorem State.floor_keeps {a x : State} (h : a.Keeps x) : a.Keeps (State.floor x) :=
  State.Keeps.mk' h rfl

theorem State.avsFails_keeps {a x : State} (h : a.Keeps x) : a.Keeps (State.avsFails x) := by
  unfold State.avsFails
  iterate 40 all_goals (try (first
    | with_reducible assumption | with_reducible apply State.powerRec_keeps | with_reducible apply State.tally_keeps
    | with_reducible refine State.Keeps.ite ?_ ?_ | (with_reducible refine State.Keeps.foldl ?_ ?_ _; intro _ _ _)
    | fail_if_no_progress with_reducible refine State.Keeps.mk' ?_ rfl | split | dsimp only))

theorem State.writeVcore_keeps {a x : State} (v0 v1) (h : a.Keeps x) : a.Keeps (State.writeVcore x v0 v1) := by
  unfold State.writeVcore
  iterate 40 all_goals (try (first
    | with_reducible assumption | with_reducible apply State.pmSend_keeps | with_reducible apply State.avsFails_keeps
    | with_reducible refine State.Keeps.ite ?_ ?_ | (with_reducible refine State.Keeps.foldl ?_ ?_ _; intro _ _ _)
    | fail_if_no_progress with_reducible refine State.Keeps.mk' ?_ rfl | split | dsimp only))

theorem State.settleVcore_keeps {a x : State} (v0) (h : a.Keeps x) : a.Keeps (State.settleVcore x v0) := by
  unfold State.settleVcore
  iterate 40 all_goals (try (first
    | with_reducible assumption | with_reducible apply State.writeVcore_keeps | with_reducible refine State.Keeps.ite ?_ ?_
    | (with_reducible refine State.Keeps.foldl ?_ ?_ _; intro _ _ _)
    | fail_if_no_progress with_reducible refine State.Keeps.mk' ?_ rfl | split | dsimp only))

theorem State.setVcore_keeps {a x : State} (v0 v1) (h : a.Keeps x) : a.Keeps (State.setVcore x v0 v1) := by
  unfold State.setVcore
  iterate 40 all_goals (try (first
    | with_reducible assumption | with_reducible apply State.writeVcore_keeps | with_reducible refine State.Keeps.ite ?_ ?_
    | (with_reducible refine State.Keeps.foldl ?_ ?_ _; intro _ _ _)
    | fail_if_no_progress with_reducible refine State.Keeps.mk' ?_ rfl | split | dsimp only))

theorem State.readMode_keeps {a x : State} (v0) (h : a.Keeps x) : a.Keeps (State.readMode x v0) := by
  unfold State.readMode
  iterate 40 all_goals (try (first
    | with_reducible assumption | with_reducible apply State.pmSend_keeps | with_reducible apply State.avsFails_keeps
    | with_reducible refine State.Keeps.ite ?_ ?_ | (with_reducible refine State.Keeps.foldl ?_ ?_ _; intro _ _ _)
    | fail_if_no_progress with_reducible refine State.Keeps.mk' ?_ rfl | split | dsimp only))

end Sys2Proof.Machine
end

