-- ==== Sys2Proof/Laws/KeptE.lean ====
section
/-! SUPPORT. That each operation keeps what `State.Keeps` says, one lemma for each operation, callees before callers
(part 5 of 5): State.readVout to State.accepted. -/

set_option linter.unusedTactic false
set_option linter.unreachableTactic false
set_option linter.unusedVariables false

namespace Sys2Proof.Machine

theorem State.readVout_keeps {a x : State} (v0) (h : a.Keeps x) : a.Keeps (State.readVout x v0).1 := by
  unfold State.readVout
  iterate 40 all_goals (try (first
    | with_reducible assumption | with_reducible apply State.pmSend_keeps | with_reducible refine State.Keeps.ite ?_ ?_
    | (with_reducible refine State.Keeps.foldl ?_ ?_ _; intro _ _ _)
    | fail_if_no_progress with_reducible refine State.Keeps.mk' ?_ rfl | split | dsimp only))

theorem State.avsRetry_keeps {a x : State} (v0 v1) (h : a.Keeps x) : a.Keeps (State.avsRetry x v0 v1) := by
  unfold State.avsRetry
  iterate 40 all_goals (try (first
    | with_reducible assumption | with_reducible apply State.writeVcore_keeps | with_reducible refine State.Keeps.ite ?_ ?_
    | (with_reducible refine State.Keeps.foldl ?_ ?_ _; intro _ _ _)
    | fail_if_no_progress with_reducible refine State.Keeps.mk' ?_ rfl | split | dsimp only))

theorem State.avsRound_keeps {a x : State} (v0) (h : a.Keeps x) : a.Keeps (State.avsRound x v0) := by
  unfold State.avsRound
  iterate 40 all_goals (try (first
    | with_reducible assumption | with_reducible apply State.readMode_keeps | with_reducible apply State.settleVcore_keeps
    | with_reducible apply State.readVout_keeps | with_reducible apply State.floor_keeps
    | with_reducible apply State.avsRetry_keeps | with_reducible apply State.avsFails_keeps
    | with_reducible apply State.writeVcore_keeps | with_reducible apply State.setVcore_keeps
    | with_reducible refine State.Keeps.ite ?_ ?_ | (with_reducible refine State.Keeps.foldl ?_ ?_ _; intro _ _ _)
    | fail_if_no_progress with_reducible refine State.Keeps.mk' ?_ rfl
    | with_reducible refine State.Keeps.pair ‹_ = (_, _)› ?_ | split | dsimp only))

theorem State.supplyRound_keeps {a x : State} (h : a.Keeps x) : a.Keeps (State.supplyRound x) := by
  unfold State.supplyRound
  iterate 40 all_goals (try (first
    | with_reducible assumption | with_reducible apply State.tallyBy_keeps | with_reducible refine State.Keeps.ite ?_ ?_
    | (with_reducible refine State.Keeps.foldl ?_ ?_ _; intro _ _ _)
    | fail_if_no_progress with_reducible refine State.Keeps.mk' ?_ rfl | split | dsimp only))

theorem State.currentRound_keeps {a x : State} (h : a.Keeps x) : a.Keeps (State.currentRound x) := by
  unfold State.currentRound
  iterate 40 all_goals (try (first
    | with_reducible assumption | with_reducible apply State.modRail_keeps | with_reducible apply State.railFault_keeps
    | with_reducible refine State.Keeps.ite ?_ ?_ | (with_reducible refine State.Keeps.foldl ?_ ?_ _; intro _ _ _)
    | fail_if_no_progress with_reducible refine State.Keeps.mk' ?_ rfl | split | dsimp only))

theorem State.energyRound_keeps {a x : State} (h : a.Keeps x) : a.Keeps (State.energyRound x) :=
  State.Keeps.mk' h rfl

theorem State.takeRoundConfig_keeps {a x : State} (h : a.Keeps x) : a.Keeps (State.takeRoundConfig x) :=
  State.Keeps.mk' h rfl

theorem State.enginesStop_keeps {a x : State} (h : a.Keeps x) : a.Keeps (State.enginesStop x) :=
  State.Keeps.mk' h rfl

theorem State.shutdown_keeps {a x : State} (h : a.Keeps x) : a.Keeps (State.shutdown x) := by
  unfold State.shutdown
  iterate 40 all_goals (try (first
    | with_reducible assumption | with_reducible apply State.powerRec_keeps | with_reducible apply State.zonesLow_keeps
    | with_reducible apply State.linksStop_keeps | with_reducible apply State.enginesStop_keeps
    | with_reducible apply State.oneRecord_keeps | with_reducible apply State.startSeq_keeps
    | with_reducible refine State.Keeps.ite ?_ ?_ | (with_reducible refine State.Keeps.foldl ?_ ?_ _; intro _ _ _)
    | fail_if_no_progress with_reducible refine State.Keeps.mk' ?_ rfl | split | dsimp only))

theorem State.roundEnd_keeps {a x : State} (v0 : Readings) (h : a.Keeps x) : a.Keeps (State.roundEnd x v0) := by
  unfold State.roundEnd
  iterate 40 all_goals (try (first
    | with_reducible assumption | with_reducible apply State.takeRoundConfig_keeps
    | with_reducible apply State.takeCodes_keeps | with_reducible apply State.takeSensors_keeps
    | with_reducible apply State.energyRound_keeps | with_reducible apply State.model_keeps
    | with_reducible apply State.limitStep_keeps | with_reducible apply State.shutdown_keeps
    | with_reducible apply State.blStepRound_keeps | with_reducible apply State.brightness_keeps
    | with_reducible apply State.avsRound_keeps | with_reducible apply State.supplyRound_keeps
    | with_reducible apply State.currentRound_keeps | with_reducible refine State.Keeps.ite ?_ ?_
    | (with_reducible refine State.Keeps.foldl ?_ ?_ _; intro _ _ _)
    | fail_if_no_progress with_reducible refine State.Keeps.mk' ?_ rfl | split | dsimp only))

theorem State.fasciaStart_keeps {a x : State} (h : a.Keeps x) : a.Keeps (State.fasciaStart x) := by
  unfold State.fasciaStart
  iterate 40 all_goals (try (first
    | with_reducible assumption | with_reducible apply State.pushTxn_keeps | with_reducible refine State.Keeps.ite ?_ ?_
    | (with_reducible refine State.Keeps.foldl ?_ ?_ _; intro _ _ _)
    | fail_if_no_progress with_reducible refine State.Keeps.mk' ?_ rfl | split | dsimp only))

theorem State.fasciaMarked_keeps {a x : State} (h : a.Keeps x) : a.Keeps (State.fasciaMarked x) :=
  State.Keeps.mk' h rfl

theorem State.imageDone_keeps {a x : State} (v0 : Nat) (v1 : Nat) (v2 : Nat) (v3 : Nat) (h : a.Keeps x) :
    a.Keeps (State.imageDone x v0 v1 v2 v3) := by
  unfold State.imageDone
  iterate 40 all_goals (try (first
    | with_reducible assumption | with_reducible apply State.imageEvent_keeps | with_reducible refine State.Keeps.ite ?_ ?_
    | (with_reducible refine State.Keeps.foldl ?_ ?_ _; intro _ _ _)
    | fail_if_no_progress with_reducible refine State.Keeps.mk' ?_ rfl | split | dsimp only))

theorem State.fasciaClosed_keeps {a x : State} (h : a.Keeps x) : a.Keeps (State.fasciaClosed x) := by
  unfold State.fasciaClosed
  iterate 40 all_goals (try (first
    | with_reducible assumption | with_reducible apply State.tally_keeps | with_reducible apply State.imageDone_keeps
    | with_reducible apply State.imageEvent_keeps | with_reducible refine State.Keeps.ite ?_ ?_
    | (with_reducible refine State.Keeps.foldl ?_ ?_ _; intro _ _ _)
    | fail_if_no_progress with_reducible refine State.Keeps.mk' ?_ rfl | split | dsimp only))

theorem State.fasciaAbort_keeps {a x : State} (h : a.Keeps x) : a.Keeps (State.fasciaAbort x) :=
  State.Keeps.mk' h rfl

theorem State.fasciaRange_keeps {a x : State} (h : a.Keeps x) : a.Keeps (State.fasciaRange x) := by
  unfold State.fasciaRange
  iterate 40 all_goals (try (first
    | with_reducible assumption | with_reducible apply State.fasciaAbort_keeps | with_reducible refine State.Keeps.ite ?_ ?_
    | (with_reducible refine State.Keeps.foldl ?_ ?_ _; intro _ _ _)
    | fail_if_no_progress with_reducible refine State.Keeps.mk' ?_ rfl | split | dsimp only))

theorem State.logLines_keeps {a x : State} (h : a.Keeps x) : a.Keeps (State.logLines x) := by
  unfold State.logLines
  iterate 40 all_goals (try (first
    | with_reducible assumption | with_reducible apply State.wakeRec_keeps | with_reducible apply State.took_keeps
    | with_reducible refine State.Keeps.ite ?_ ?_ | (with_reducible refine State.Keeps.foldl ?_ ?_ _; intro _ _ _)
    | fail_if_no_progress with_reducible refine State.Keeps.mk' ?_ rfl | split | dsimp only))

theorem State.tailProbe_keeps {a x : State} (v0 : Nat) (h : a.Keeps x) : a.Keeps (State.tailProbe x v0) := by
  unfold State.tailProbe
  iterate 40 all_goals (try (first
    | with_reducible assumption | with_reducible apply State.setMoor_keeps | with_reducible refine State.Keeps.ite ?_ ?_
    | (with_reducible refine State.Keeps.foldl ?_ ?_ _; intro _ _ _)
    | fail_if_no_progress with_reducible refine State.Keeps.mk' ?_ rfl | split | dsimp only))

theorem State.reported_keeps {a x : State} (v0 v1) (h : a.Keeps x) : a.Keeps (State.reported x v0 v1) :=
  State.Keeps.mk' h rfl

theorem State.reports_keeps {a x : State} {send : State → Nat → List (Nat × Nat) → State}
    (hs : ∀ y n l, a.Keeps y → a.Keeps (send y n l)) (v0 v1 : Nat) (h : a.Keeps x) : a.Keeps (State.reports send v0 v1 x) := by
  induction v1 generalizing x with
  | zero => exact h
  | succ k ih =>
    unfold State.reports
    dsimp only
    split
    · exact h
    · exact ih (State.reported_keeps _ _ (hs _ _ _ h))

theorem State.sendNack_keeps {a x : State} (v0 : Nat) (v1 : List (Nat × Nat)) (h : a.Keeps x) :
    a.Keeps (State.sendNack x v0 v1) := by
  unfold State.sendNack
  iterate 40 all_goals (try (first
    | with_reducible assumption | with_reducible apply State.floor_keeps | with_reducible apply State.setMoor_keeps
    | with_reducible apply State.sendUdp_keeps | with_reducible apply State.tally_keeps
    | with_reducible refine State.Keeps.ite ?_ ?_ | (with_reducible refine State.Keeps.foldl ?_ ?_ _; intro _ _ _)
    | fail_if_no_progress with_reducible refine State.Keeps.mk' ?_ rfl | split | dsimp only))

theorem State.sendRepairReq_keeps {a x : State} (v0 : Nat) (v1 : List (Nat × Nat)) (h : a.Keeps x) :
    a.Keeps (State.sendRepairReq x v0 v1) := by
  unfold State.sendRepairReq
  iterate 40 all_goals (try (first
    | with_reducible assumption | with_reducible apply State.sendUdp_keeps | with_reducible refine State.Keeps.ite ?_ ?_
    | (with_reducible refine State.Keeps.foldl ?_ ?_ _; intro _ _ _)
    | fail_if_no_progress with_reducible refine State.Keeps.mk' ?_ rfl | split | dsimp only))

theorem State.answerRepair_keeps {a x : State} (v0 : Nat) (v1 : Nat) (v2 : Nat) (v3 : List (Nat × Nat)) (h : a.Keeps x) :
    a.Keeps (State.answerRepair x v0 v1 v2 v3) := by
  unfold State.answerRepair
  iterate 40 all_goals (try (first
    | with_reducible assumption | with_reducible apply State.repairPump_keeps | with_reducible refine State.Keeps.ite ?_ ?_
    | (with_reducible refine State.Keeps.foldl ?_ ?_ _; intro _ _ _)
    | fail_if_no_progress with_reducible refine State.Keeps.mk' ?_ rfl | split | dsimp only))

theorem State.takeRepair_keeps {a x : State} (v0 : Nat) (v1 : List Byte) (h : a.Keeps x) :
    a.Keeps (State.takeRepair x v0 v1) := by
  unfold State.takeRepair
  iterate 40 all_goals (try (first
    | with_reducible assumption | with_reducible apply State.codecError_keeps | with_reducible apply State.repairChunks_keeps
    | with_reducible apply State.extraHeartbeat_keeps | with_reducible refine State.Keeps.ite ?_ ?_
    | (with_reducible refine State.Keeps.foldl ?_ ?_ _; intro _ _ _)
    | fail_if_no_progress with_reducible refine State.Keeps.mk' ?_ rfl | split | dsimp only))

theorem State.demoteSelf_keeps {a x : State} (h : a.Keeps x) : a.Keeps (State.demoteSelf x) := by
  unfold State.demoteSelf
  iterate 40 all_goals (try (first
    | with_reducible assumption | with_reducible apply State.tally_keeps | with_reducible apply State.timeRec_keeps
    | with_reducible refine State.Keeps.ite ?_ ?_ | (with_reducible refine State.Keeps.foldl ?_ ?_ _; intro _ _ _)
    | fail_if_no_progress with_reducible refine State.Keeps.mk' ?_ rfl | split | dsimp only))

theorem State.takeEpoch_keeps {a x : State} (v0 : Nat) (v1 : Nat) (v2 : Bool) (v3 : Bool) (h : a.Keeps x) :
    a.Keeps (State.takeEpoch x v0 v1 v2 v3) := by
  unfold State.takeEpoch
  iterate 40 all_goals (try (first
    | with_reducible assumption | with_reducible apply State.demoteSelf_keeps | with_reducible apply State.tally_keeps
    | with_reducible apply State.timeRec_keeps | with_reducible refine State.Keeps.ite ?_ ?_
    | (with_reducible refine State.Keeps.foldl ?_ ?_ _; intro _ _ _)
    | fail_if_no_progress with_reducible refine State.Keeps.mk' ?_ rfl | split | dsimp only))

theorem State.groupCommitted_keeps {a x : State} (v0 v1) (h : a.Keeps x) : a.Keeps (State.groupCommitted x v0 v1) := by
  unfold State.groupCommitted; split
  · exact State.Keeps.mk' h rfl
  · exact h

theorem State.followSwitch_keeps {a x : State} (v0 : Nat) (v1 : Nat) (h : a.Keeps x) :
    a.Keeps (State.followSwitch x v0 v1) := by
  unfold State.followSwitch
  iterate 40 all_goals (try (first
    | with_reducible assumption | with_reducible refine State.Keeps.ite ?_ ?_
    | (with_reducible refine State.Keeps.foldl ?_ ?_ _; intro _ _ _)
    | fail_if_no_progress with_reducible refine State.Keeps.mk' ?_ rfl | split | dsimp only))

theorem State.heartbeatIn_keeps {a x : State} (v0 : Nat) (v1 : Nat) (v2 : List Byte) (h : a.Keeps x) :
    a.Keeps (State.heartbeatIn x v0 v1 v2) := by
  unfold State.heartbeatIn
  iterate 40 all_goals (try (first
    | with_reducible assumption | with_reducible apply State.tally_keeps | with_reducible apply State.takeEpoch_keeps
    | with_reducible apply State.groupCommitted_keeps | with_reducible apply State.followSwitch_keeps
    | with_reducible refine State.Keeps.ite ?_ ?_ | (with_reducible refine State.Keeps.foldl ?_ ?_ _; intro _ _ _)
    | fail_if_no_progress with_reducible refine State.Keeps.mk' ?_ rfl | split | dsimp only))

theorem State.commitIn_keeps {a x : State} (v0 : Nat) (v1 : Nat) (v2 : Nat) (v3 : List Byte) (h : a.Keeps x) :
    a.Keeps (State.commitIn x v0 v1 v2 v3) := by
  unfold State.commitIn
  iterate 40 all_goals (try (first
    | with_reducible assumption | with_reducible apply State.takeEpoch_keeps | with_reducible apply State.tally_keeps
    | with_reducible apply State.groupCommitted_keeps | with_reducible refine State.Keeps.ite ?_ ?_
    | (with_reducible refine State.Keeps.foldl ?_ ?_ _; intro _ _ _)
    | fail_if_no_progress with_reducible refine State.Keeps.mk' ?_ rfl | split | dsimp only))

theorem State.groupIn_keeps {a x : State} (v0 : Datagram) (h : a.Keeps x) : a.Keeps (State.groupIn x v0) := by
  unfold State.groupIn
  iterate 40 all_goals (try (first
    | with_reducible assumption | with_reducible apply State.quayDrop_keeps | with_reducible apply State.tally_keeps
    | with_reducible apply State.heartbeatIn_keeps | with_reducible apply State.commitIn_keeps
    | with_reducible apply State.takeEpoch_keeps | with_reducible apply State.answerRepair_keeps
    | with_reducible apply State.takeRepair_keeps | with_reducible refine State.Keeps.ite ?_ ?_
    | (with_reducible refine State.Keeps.foldl ?_ ?_ _; intro _ _ _)
    | fail_if_no_progress with_reducible refine State.Keeps.mk' ?_ rfl | split | dsimp only))

theorem State.commitMoor_keeps {a x : State} (v0 : Nat) (h : a.Keeps x) : a.Keeps (State.commitMoor x v0) := by
  unfold State.commitMoor
  iterate 40 all_goals (try (first
    | with_reducible assumption | with_reducible apply State.sendGroup_keeps | with_reducible apply State.groupCommitted_keeps
    | with_reducible apply State.modMoor_keeps | with_reducible refine State.Keeps.ite ?_ ?_
    | (with_reducible refine State.Keeps.foldl ?_ ?_ _; intro _ _ _)
    | fail_if_no_progress with_reducible refine State.Keeps.mk' ?_ rfl | split | dsimp only))

theorem State.slotsBack_keeps {a x : State} (v0) (h : a.Keeps x) : a.Keeps (State.slotsBack x v0) := by
  unfold State.slotsBack
  iterate 40 all_goals (try (first
    | with_reducible assumption | with_reducible apply State.putBoot_keeps | with_reducible apply State.setSlot_keeps
    | with_reducible refine State.Keeps.ite ?_ ?_ | (with_reducible refine State.Keeps.foldl ?_ ?_ _; intro _ _ _)
    | fail_if_no_progress with_reducible refine State.Keeps.mk' ?_ rfl | split | dsimp only))

theorem State.migrationFails_keeps {a x : State} (v0 : Nat) (v1 : SlotState) (h : a.Keeps x) :
    a.Keeps (x.migrationFails v0 v1) := by
  unfold State.migrationFails
  have k := State.slotsBack_keeps v1 h
  refine State.endActivation_keeps (State.activationEvent_keeps _ _ ?_)
  refine ⟨k.queue, k.buffers, k.clock, fun w => ⟨(k.events w).1, (h.events w).2⟩, k.counts, k.fifos⟩

theorem State.beginMigration_keeps {a x : State} (v0 : Nat) (h : a.Keeps x) : a.Keeps (State.beginMigration x v0).1 := by
  unfold State.beginMigration
  iterate 40 all_goals (try (first
    | with_reducible assumption | with_reducible apply State.took_keeps | with_reducible apply State.pushTxn_keeps
    | with_reducible refine State.Keeps.ite ?_ ?_ | (with_reducible refine State.Keeps.foldl ?_ ?_ _; intro _ _ _)
    | fail_if_no_progress with_reducible refine State.Keeps.mk' ?_ rfl | split | dsimp only))

theorem State.activationCheck_keeps {a x : State} (h : a.Keeps x) : a.Keeps (State.activationCheck x) := by
  unfold State.activationCheck
  iterate 40 all_goals (try (first
    | with_reducible assumption | with_reducible apply State.beginMigration_keeps
    | with_reducible apply State.migrationFails_keeps | with_reducible refine State.Keeps.ite ?_ ?_
    | (with_reducible refine State.Keeps.foldl ?_ ?_ _; intro _ _ _)
    | fail_if_no_progress with_reducible refine State.Keeps.mk' ?_ rfl | split | dsimp only))

theorem State.confirmDone_keeps {a x : State} (h : a.Keeps x) : a.Keeps (State.confirmDone x) := by
  unfold State.confirmDone
  iterate 40 all_goals (try (first
    | with_reducible assumption | with_reducible apply State.setSlot_keeps | with_reducible apply State.tally_keeps
    | with_reducible apply State.activationEvent_keeps | with_reducible apply State.endActivation_keeps
    | with_reducible refine State.Keeps.ite ?_ ?_ | (with_reducible refine State.Keeps.foldl ?_ ?_ _; intro _ _ _)
    | fail_if_no_progress with_reducible refine State.Keeps.mk' ?_ rfl | split | dsimp only))

theorem State.pilotStops_keeps {a x : State} (h : a.Keeps x) : a.Keeps (State.pilotStops x) := by
  unfold State.pilotStops
  iterate 40 all_goals (try (first
    | with_reducible assumption | with_reducible apply State.oneRecord_keeps | with_reducible apply State.beginHead_keeps
    | with_reducible refine State.Keeps.ite ?_ ?_ | (with_reducible refine State.Keeps.foldl ?_ ?_ _; intro _ _ _)
    | fail_if_no_progress with_reducible refine State.Keeps.mk' ?_ rfl | split | dsimp only))

theorem State.takeoverDone_keeps {a x : State} (h : a.Keeps x) : a.Keeps x.takeoverDone := by
  unfold State.takeoverDone
  extract_lets _ s1 _ s2
  have h1 : a.Keeps s1 := by
    refine ⟨h.queue, h.buffers, h.clock, fun w => ⟨fun e he => ?_, (h.events w).2⟩, h.counts, h.fifos⟩
    obtain ⟨b, hb, rfl⟩ := List.mem_map.mp he
    exact (h.events w).1 b hb
  clear_value s1
  exact State.fasciaClosing_keeps (State.Keeps.mk' h1 rfl)

theorem State.txnEnd_keeps {a x : State} (v0) (h : a.Keeps x) : a.Keeps (State.txnEnd x v0) := by
  unfold State.txnEnd
  iterate 40 all_goals (try (first
    | with_reducible assumption | with_reducible apply State.finalEvent_keeps | with_reducible apply State.fasciaMarked_keeps
    | with_reducible apply State.fasciaClosed_keeps | with_reducible apply State.bgDid_keeps
    | with_reducible apply State.bootTrial_keeps | with_reducible apply State.confirmDone_keeps
    | with_reducible apply State.trialRestart_keeps | with_reducible apply State.pairingDone_keeps
    | with_reducible refine State.Keeps.ite ?_ ?_ | (with_reducible refine State.Keeps.foldl ?_ ?_ _; intro _ _ _)
    | fail_if_no_progress with_reducible refine State.Keeps.mk' ?_ rfl | split | dsimp only))

theorem State.tallyRecords_keeps {a x : State} (v0 : List JRec) (h : a.Keeps x) : a.Keeps (x.tallyRecords v0) := by
  unfold State.tallyRecords
  extract_lets one lost s
  have hs : a.Keeps s := State.Keeps.ite h (State.tallyBy_keeps _ _ h)
  clear_value s
  refine State.Keeps.ite hs ?_
  have k := State.tallyBy_keeps T.NVM_RECORD_LOST lost hs
  exact ⟨k.queue, k.buffers, k.clock, fun w => ⟨(k.events w).1, (hs.events w).2⟩, k.counts, k.fifos⟩

theorem State.underrun_keeps {a x : State} (v0 : Nat) (v1 : Nat) (v2 : Nat) (v3 : Nat) (h : a.Keeps x) :
    a.Keeps (State.underrun x v0 v1 v2 v3) := by
  unfold State.underrun
  iterate 40 all_goals (try (first
    | with_reducible assumption | with_reducible apply State.tally_keeps | with_reducible apply State.modSector_keeps
    | with_reducible apply State.wakeRec_keeps | with_reducible refine State.Keeps.ite ?_ ?_
    | (with_reducible refine State.Keeps.foldl ?_ ?_ _; intro _ _ _)
    | fail_if_no_progress with_reducible refine State.Keeps.mk' ?_ rfl | split | dsimp only))

theorem State.rowTest_keeps {a x : State} (v0 : Nat) (v1 : Nat) (h : a.Keeps x) : a.Keeps (State.rowTest x v0 v1) := by
  unfold State.rowTest
  iterate 40 all_goals (try (first
    | with_reducible assumption | with_reducible apply State.underrun_keeps | with_reducible refine State.Keeps.ite ?_ ?_
    | (with_reducible refine State.Keeps.foldl ?_ ?_ _; intro _ _ _)
    | fail_if_no_progress with_reducible refine State.Keeps.mk' ?_ rfl | split | dsimp only))

theorem State.endLatency_keeps {a x : State} (v0 : Nat) (h : a.Keeps x) : a.Keeps (State.endLatency x v0) := by
  unfold State.endLatency
  iterate 40 all_goals (try (first
    | with_reducible assumption | with_reducible apply State.took_keeps | with_reducible apply State.tallyBy_keeps
    | with_reducible refine State.Keeps.ite ?_ ?_ | (with_reducible refine State.Keeps.foldl ?_ ?_ _; intro _ _ _)
    | fail_if_no_progress with_reducible refine State.Keeps.mk' ?_ rfl | split | dsimp only))

theorem State.enterField_keeps {a x : State} (v0 : Nat) (h : a.Keeps x) : a.Keeps (State.enterField x v0) := by
  unfold State.enterField
  iterate 40 all_goals (try (first
    | with_reducible assumption | with_reducible apply State.endLatency_keeps | with_reducible refine State.Keeps.ite ?_ ?_
    | (with_reducible refine State.Keeps.foldl ?_ ?_ _; intro _ _ _)
    | fail_if_no_progress with_reducible refine State.Keeps.mk' ?_ rfl | split | dsimp only))

theorem State.reportSlack_keeps {a x : State} (h : a.Keeps x) : a.Keeps (State.reportSlack x) :=
  State.slackWakes_keeps (State.Keeps.mk' h rfl)

theorem State.beginLine_keeps {a x : State} (v0 : Nat) (v1 : Nat) (h : a.Keeps x) : a.Keeps (State.beginLine x v0 v1) := by
  unfold State.beginLine
  iterate 40 all_goals (try (first
    | with_reducible assumption | with_reducible apply State.enterField_keeps | with_reducible apply State.rowTest_keeps
    | with_reducible apply State.modSector_keeps | with_reducible apply State.reportSlack_keeps
    | with_reducible apply State.took_keeps | with_reducible refine State.Keeps.ite ?_ ?_
    | (with_reducible refine State.Keeps.foldl ?_ ?_ _; intro _ _ _)
    | fail_if_no_progress with_reducible refine State.Keeps.mk' ?_ rfl | split | dsimp only))

theorem State.starved_keeps {a x : State} (v0 : Nat) (v1 : Nat) (h : a.Keeps x) : a.Keeps (State.starved x v0 v1) := by
  unfold State.starved
  iterate 40 all_goals (try (first
    | with_reducible assumption | with_reducible apply State.underrun_keeps | with_reducible refine State.Keeps.ite ?_ ?_
    | (with_reducible refine State.Keeps.foldl ?_ ?_ _; intro _ _ _)
    | fail_if_no_progress with_reducible refine State.Keeps.mk' ?_ rfl | split | dsimp only))

theorem State.renewLine_keeps {a x : State} (v0 : Nat) (h : a.Keeps x) : a.Keeps (State.renewLine x v0) := by
  unfold State.renewLine
  iterate 40 all_goals (try (first
    | with_reducible assumption | with_reducible apply State.modSector_keeps | with_reducible apply State.take_keeps
    | with_reducible exact cardOf_keeps _ | with_reducible refine State.Keeps.ite ?_ ?_
    | (with_reducible refine State.Keeps.foldl ?_ ?_ _; intro _ _ _)
    | fail_if_no_progress with_reducible refine State.Keeps.mk' ?_ rfl | split | dsimp only))

theorem State.takeWindow_keeps {a x : State} (v0 v1) (h : a.Keeps x) : a.Keeps (State.takeWindow x v0 v1) :=
  State.Keeps.mk' h rfl

theorem State.applyPresets_keeps {a x : State} (v0 : Nat) (h : a.Keeps x) : a.Keeps (State.applyPresets x v0) := by
  unfold State.applyPresets
  iterate 40 all_goals (try (first
    | with_reducible assumption | with_reducible apply State.takeWindow_keeps | with_reducible apply State.modPort_keeps
    | with_reducible refine State.Keeps.ite ?_ ?_ | (with_reducible refine State.Keeps.foldl ?_ ?_ _; intro _ _ _)
    | fail_if_no_progress with_reducible refine State.Keeps.mk' ?_ rfl | split | dsimp only))

theorem State.pathTest_keeps {a x : State} (v0 : TestReq) (v1 : Nat) (v2 : Nat) (h : a.Keeps x) :
    a.Keeps (State.pathTest x v0 v1 v2) := by
  unfold State.pathTest
  iterate 40 all_goals (try (first
    | with_reducible assumption | with_reducible apply State.took_keeps | with_reducible apply State.finalEvent_keeps
    | with_reducible refine State.Keeps.ite ?_ ?_ | (with_reducible refine State.Keeps.foldl ?_ ?_ _; intro _ _ _)
    | fail_if_no_progress with_reducible refine State.Keeps.mk' ?_ rfl | split | dsimp only))

theorem State.runReq_keeps {a x : State} (v0 : Nat) (v1 : TestReq) (v2 : Nat) (h : a.Keeps x) :
    a.Keeps (State.runReq x v0 v1 v2) := by
  unfold State.runReq
  iterate 40 all_goals (try (first
    | with_reducible assumption | with_reducible apply State.beginTest_keeps | with_reducible apply State.beginCal_keeps
    | with_reducible apply State.pathTest_keeps | with_reducible refine State.Keeps.ite ?_ ?_
    | (with_reducible refine State.Keeps.foldl ?_ ?_ _; intro _ _ _)
    | fail_if_no_progress with_reducible refine State.Keeps.mk' ?_ rfl | split | dsimp only))

theorem State.runReqs_keeps {a x : State} (v0 v1 v2 v3 : Nat) (h : a.Keeps x) : a.Keeps (x.runReqs v0 v1 v2 v3) := by
  induction v2 generalizing x v3 with
  | zero => exact h
  | succ k ih =>
    unfold State.runReqs
    dsimp only
    split
    · exact h
    · split
      · refine ih _ (State.Keeps.ite (State.runReq_keeps _ _ _ h) (State.Keeps.foldl (fun y q hy => ?_) (State.runReq_keeps _ _ _ h) _))
        exact State.takeWindow_keeps _ _ hy
      · exact ih _ h

theorem State.serveWindow_keeps {a x : State} (v0 : Nat) (v1 : Nat) (h : a.Keeps x) :
    a.Keeps (State.serveWindow x v0 v1) := by
  unfold State.serveWindow
  iterate 40 all_goals (try (first
    | with_reducible assumption | with_reducible apply State.window_keeps | with_reducible apply State.applyPresets_keeps
    | with_reducible apply State.runReqs_keeps | with_reducible refine State.Keeps.ite ?_ ?_
    | (with_reducible refine State.Keeps.foldl ?_ ?_ _; intro _ _ _)
    | fail_if_no_progress with_reducible refine State.Keeps.mk' ?_ rfl | split | dsimp only))

theorem State.skipTiles_keeps {a x : State} (v0 : Nat) (h : a.Keeps x) : a.Keeps (State.skipTiles x v0) := by
  unfold State.skipTiles
  iterate 40 all_goals (try (first
    | with_reducible assumption | with_reducible apply State.modGang_keeps | with_reducible apply State.countTile_keeps
    | with_reducible refine State.Keeps.ite ?_ ?_ | (with_reducible refine State.Keeps.foldl ?_ ?_ _; intro _ _ _)
    | fail_if_no_progress with_reducible refine State.Keeps.mk' ?_ rfl | split | dsimp only))

theorem State.raiseTiles_keeps {a x : State} (v0 : Nat) (v1 : Int) (v2 : Nat) (h : a.Keeps x) :
    a.Keeps (x.raiseTiles v0 v1 v2).1 := by
  induction v2 generalizing x v1 with
  | zero => exact h
  | succ k ih =>
    unfold State.raiseTiles
    dsimp only
    split
    · exact h
    · split
      · exact h
      · exact ih _ (State.modTile_keeps _ _ _ h)

theorem State.escalate_keeps {a x : State} (v0 : Nat) (v1 : Nat) (h : a.Keeps x) : a.Keeps (State.escalate x v0 v1) := by
  unfold State.escalate
  iterate 40 all_goals (try (first
    | with_reducible assumption | with_reducible apply State.raiseTiles_keeps | with_reducible apply State.tallyBy_keeps
    | with_reducible apply State.wakeRec_keeps | with_reducible refine State.Keeps.ite ?_ ?_
    | (with_reducible refine State.Keeps.foldl ?_ ?_ _; intro _ _ _)
    | fail_if_no_progress with_reducible refine State.Keeps.mk' ?_ rfl | split | dsimp only))

theorem State.takeTide_keeps {a x : State} (v0 v1 : Nat) (h : a.Keeps x) : a.Keeps (x.takeTide v0 v1) := by
  have k0 : a.Keeps { x with scan := { x.scan with tide := some (v0, v1) } } := State.Keeps.mk' h rfl
  have k1 : a.Keeps (if v1 < 64 then (({ x with scan := { x.scan with tide := some (v0, v1) } } : State).enterField v0).rowTest v0 v1
      else { x with scan := { x.scan with tide := some (v0, v1) } }) :=
    State.Keeps.ite (State.rowTest_keeps _ _ (State.enterField_keeps _ k0)) k0
  have k2 := State.skipTiles_keeps v0 k1
  unfold State.takeTide
  refine State.tideReleases_keeps _ _ ?_
  generalize hy : State.skipTiles _ v0 = y at k2 ⊢
  have k3 : a.Keeps (if y.harbour.cur.built then (List.range 16).foldl (fun (s : State) g => s.escalate v1 g) y else y) :=
    State.Keeps.ite (State.Keeps.foldl (fun s g hs => State.escalate_keeps _ _ hs) k2 _) k2
  generalize (if y.harbour.cur.built then (List.range 16).foldl (fun (s : State) g => s.escalate v1 g) y else y) = z at k3 ⊢
  refine ⟨k3.queue, fun w => ⟨fun p hp => ?_, (k3.buffers w).2⟩, k3.clock, k3.events, k3.counts, k3.fifos⟩
  obtain ⟨q, hq, rfl⟩ := List.mem_map.mp hp
  exact Surface.wf_prune ((k3.buffers w).1 q hq) _

theorem State.nextChunk_keeps {a x : State} (h : a.Keeps x) : a.Keeps (State.nextChunk x) := by
  unfold State.nextChunk
  iterate 40 all_goals (try (first
    | with_reducible assumption | with_reducible apply State.tally_keeps | with_reducible apply State.take_keeps
    | with_reducible apply State.setCrc_keeps | with_reducible apply State.chunk_keeps | with_reducible exact cardOf_keeps _
    | with_reducible refine State.Keeps.ite ?_ ?_ | (with_reducible refine State.Keeps.foldl ?_ ?_ _; intro _ _ _)
    | fail_if_no_progress with_reducible refine State.Keeps.mk' ?_ rfl | split | dsimp only))

theorem State.spillOne_keeps {a x : State} (v0 : Nat) (v1 : Nat) (v2 : Nat) (h : a.Keeps x) :
    a.Keeps (State.spillOne x v0 v1 v2) := by
  unfold State.spillOne
  iterate 40 all_goals (try (first
    | with_reducible assumption | with_reducible apply State.modMoor_keeps | with_reducible refine State.Keeps.ite ?_ ?_
    | (with_reducible refine State.Keeps.foldl ?_ ?_ _; intro _ _ _)
    | fail_if_no_progress with_reducible refine State.Keeps.mk' ?_ rfl | split | dsimp only))

theorem State.spill_keeps {a x : State} (v0 : List (Nat × Nat × Nat × Nat × Nat)) (h : a.Keeps x) : a.Keeps (x.spill v0) := by
  induction v0 generalizing x with
  | nil => exact h
  | cons e r ih =>
    obtain ⟨o, n, f, q, l⟩ := e
    rw [State.spill]
    exact State.Keeps.ite (ih (State.ingestWrote_keeps _ (State.spillOne_keeps _ _ _ h))) h

theorem State.intoReset_keeps {a x : State} (v0 v1 : Nat) (h : a.Keeps x) : a.Keeps (x.intoReset v0 v1) := by
  refine ⟨h.queue, fun w => ⟨fun p hp => absurd hp List.not_mem_nil, fun p hp => absurd hp List.not_mem_nil, Memory.wf_nil _,
    (h.buffers w).2.2.2⟩, h.clock, fun _ => ⟨fun e he => ?_, fun e he => absurd he List.not_mem_nil⟩,
    fun _ p hp => absurd hp List.not_mem_nil, fun _ => ⟨fun l hl => ?_, fun l hl => ?_⟩⟩
  · rw [List.eq_of_mem_replicate he]; exact Nat.zero_le _
  · have hl : l ∈ [[], [], [], []] := hl
    have : l = [] := by simpa using hl
    rw [this]; exact Nat.zero_le _
  · rw [List.eq_of_mem_replicate hl]; exact Nat.zero_le _

theorem State.takeSecurity_keeps {a x : State} (h : a.Keeps x) : a.Keeps x.takeSecurity := by
  refine ⟨h.queue, h.buffers, h.clock, fun w => ⟨fun e he => ?_, (h.events w).2⟩, h.counts, h.fifos⟩
  obtain ⟨b, _, rfl⟩ := List.mem_map.mp he
  unfold sessionOf
  split
  · split <;> exact Nat.zero_le _
  · exact Nat.zero_le _

theorem State.tearStep_keeps {a x : State} (v0 : Txn) (v1 : WriteStep) (h : a.Keeps x) : a.Keeps (x.tearStep v0 v1) := by
  unfold State.tearStep
  have k := State.took_keeps h
  dsimp only
  split
  · exact State.appendRecord_keeps _ k
  · split
    · exact State.Keeps.ite k (State.writeHeader_keeps _ _ k)
    · exact k
  · exact State.putFixed_keeps _ _ k
  · exact State.Keeps.ite k (State.runStep_keeps _ _ k)

theorem State.tear_keeps {a x : State} (h : a.Keeps x) : a.Keeps (State.tear x) := by
  unfold State.tear
  iterate 40 all_goals (try (first
    | with_reducible assumption | with_reducible apply State.tearStep_keeps | with_reducible refine State.Keeps.ite ?_ ?_
    | (with_reducible refine State.Keeps.foldl ?_ ?_ _; intro _ _ _)
    | fail_if_no_progress with_reducible refine State.Keeps.mk' ?_ rfl | split | dsimp only))

theorem State.enterRecovery_keeps {a x : State} (h : a.Keeps x) : a.Keeps (State.enterRecovery x) :=
  State.Keeps.mk' h rfl

theorem State.romBoot_keeps {a x : State} (v0 v1 v2) (h : a.Keeps x) : a.Keeps (State.romBoot x v0 v1 v2) := by
  unfold State.romBoot
  iterate 40 all_goals (try (first
    | with_reducible assumption | with_reducible apply State.putBoot_keeps | with_reducible refine State.Keeps.ite ?_ ?_
    | (with_reducible refine State.Keeps.foldl ?_ ?_ _; intro _ _ _)
    | fail_if_no_progress with_reducible refine State.Keeps.mk' ?_ rfl | split | dsimp only))

theorem State.toCheck_keeps {a x : State} (v0 v1) (h : a.Keeps x) : a.Keeps (State.toCheck x v0 v1) :=
  State.Keeps.mk' h rfl

theorem State.selectSlot_keeps {a x : State} (h : a.Keeps x) : a.Keeps (State.selectSlot x) := by
  unfold State.selectSlot
  iterate 40 all_goals (try (first
    | with_reducible assumption | with_reducible apply State.toCheck_keeps | with_reducible apply State.romBoot_keeps
    | with_reducible apply State.tally_keeps | with_reducible refine State.Keeps.ite ?_ ?_
    | (with_reducible refine State.Keeps.foldl ?_ ?_ _; intro _ _ _)
    | fail_if_no_progress with_reducible refine State.Keeps.mk' ?_ rfl | split | dsimp only))

theorem State.beginSlot_keeps {a x : State} (h : a.Keeps x) : a.Keeps (State.beginSlot x) := by
  unfold State.beginSlot
  iterate 40 all_goals (try (first
    | with_reducible assumption | with_reducible apply State.enterRecovery_keeps | with_reducible apply State.selectSlot_keeps
    | with_reducible refine State.Keeps.ite ?_ ?_ | (with_reducible refine State.Keeps.foldl ?_ ?_ _; intro _ _ _)
    | fail_if_no_progress with_reducible refine State.Keeps.mk' ?_ rfl | split | dsimp only))

theorem State.bootPassed_keeps {a x : State} (v0 : Nat) (h : a.Keeps x) : a.Keeps (State.bootPassed x v0) := by
  unfold State.bootPassed
  iterate 40 all_goals (try (first
    | with_reducible assumption | with_reducible apply State.setSlot_keeps
    | with_reducible refine State.modSlot_keeps _ ?_ (fun _ hb => by first | exact hb | exact Memory.wf_writeAll hb _ _)
    | with_reducible refine State.Keeps.ite ?_ ?_ | (with_reducible refine State.Keeps.foldl ?_ ?_ _; intro _ _ _)
    | fail_if_no_progress with_reducible refine State.Keeps.mk' ?_ rfl | split | dsimp only))

theorem State.bootFailed_keeps {a x : State} (v0 : Nat) (h : a.Keeps x) : a.Keeps (State.bootFailed x v0) := by
  unfold State.bootFailed
  iterate 40 all_goals (try (first
    | with_reducible assumption | with_reducible apply State.setSlot_keeps | with_reducible apply State.enterRecovery_keeps
    | with_reducible apply State.romBoot_keeps | with_reducible apply State.toCheck_keeps
    | with_reducible refine State.Keeps.ite ?_ ?_ | (with_reducible refine State.Keeps.foldl ?_ ?_ _; intro _ _ _)
    | fail_if_no_progress with_reducible refine State.Keeps.mk' ?_ rfl | split | dsimp only))

theorem State.readMram_keeps {a x : State} (h : a.Keeps x) : a.Keeps (State.readMram x) := by
  unfold State.readMram
  iterate 40 all_goals (try (first
    | with_reducible assumption | with_reducible apply State.tallyRecords_keeps | with_reducible apply State.tallyBy_keeps
    | with_reducible refine State.Keeps.ite ?_ ?_ | (with_reducible refine State.Keeps.foldl ?_ ?_ _; intro _ _ _)
    | fail_if_no_progress with_reducible refine State.Keeps.mk' ?_ rfl | split | dsimp only))

theorem State.takeSettings_keeps {a x : State} (v0) (h : a.Keeps x) : a.Keeps (State.takeSettings x v0) :=
  State.Keeps.mk' h rfl

theorem State.bridgeSettings_keeps {a x : State} (h : a.Keeps x) : a.Keeps (State.bridgeSettings x) := by
  unfold State.bridgeSettings
  iterate 40 all_goals (try (first
    | with_reducible assumption | with_reducible apply State.bbDown_keeps | with_reducible apply State.reportAll_keeps
    | with_reducible refine State.Keeps.ite ?_ ?_ | (with_reducible refine State.Keeps.foldl ?_ ?_ _; intro _ _ _)
    | fail_if_no_progress with_reducible refine State.Keeps.mk' ?_ rfl | split | dsimp only))

theorem State.trigSettings_keeps {a x : State} (h : a.Keeps x) : a.Keeps (State.trigSettings x) :=
  State.Keeps.mk' h rfl

theorem State.sealReplay_keeps {a x : State} (v0) (h : a.Keeps x) : a.Keeps (State.sealReplay x v0) := by
  unfold State.sealReplay
  iterate 40 all_goals (try (first
    | with_reducible assumption | with_reducible apply State.sealChange_keeps | with_reducible refine State.Keeps.ite ?_ ?_
    | (with_reducible refine State.Keeps.foldl ?_ ?_ _; intro _ _ _)
    | fail_if_no_progress with_reducible refine State.Keeps.mk' ?_ rfl | split | dsimp only))

theorem State.sealStart_keeps {a x : State} (h : a.Keeps x) : a.Keeps (State.sealStart x) := by
  unfold State.sealStart
  iterate 40 all_goals (try (first
    | with_reducible assumption | with_reducible apply State.sealReplay_keeps | with_reducible refine State.Keeps.ite ?_ ?_
    | (with_reducible refine State.Keeps.foldl ?_ ?_ _; intro _ _ _)
    | fail_if_no_progress with_reducible refine State.Keeps.mk' ?_ rfl | split | dsimp only))

theorem State.startMigration_keeps {a x : State} (h : a.Keeps x) : a.Keeps (State.startMigration x) := by
  unfold State.startMigration
  iterate 40 all_goals (try (first
    | with_reducible assumption | with_reducible apply State.beginMigration_keeps
    | with_reducible apply State.takeSettings_keeps | with_reducible apply State.trialBootEnds_keeps
    | with_reducible refine State.Keeps.ite ?_ ?_ | (with_reducible refine State.Keeps.foldl ?_ ?_ _; intro _ _ _)
    | fail_if_no_progress with_reducible refine State.Keeps.mk' ?_ rfl | split | dsimp only))

theorem State.startSettings_keeps {a x : State} (h : a.Keeps x) : a.Keeps (State.startSettings x) := by
  unfold State.startSettings
  iterate 40 all_goals (try (first
    | with_reducible assumption | with_reducible apply State.takeSettings_keeps | with_reducible refine State.Keeps.ite ?_ ?_
    | (with_reducible refine State.Keeps.foldl ?_ ?_ _; intro _ _ _)
    | fail_if_no_progress with_reducible refine State.Keeps.mk' ?_ rfl | split | dsimp only))

theorem State.findDiscard_keeps {a x : State} (h : a.Keeps x) : a.Keeps (State.findDiscard x) := by
  unfold State.findDiscard
  iterate 40 all_goals (try (first
    | with_reducible assumption | with_reducible refine State.Keeps.ite ?_ ?_
    | (with_reducible refine State.Keeps.foldl ?_ ?_ _; intro _ _ _)
    | fail_if_no_progress with_reducible refine State.Keeps.mk' ?_ rfl | split | dsimp only))

theorem State.endStartup_keeps {a x : State} (h : a.Keeps x) : a.Keeps x.endStartup := by
  unfold State.endStartup
  extract_lets now trial _ nvm _ _ _ _ s1 s2 s3
  have h1 : a.Keeps s1 := by
    refine ⟨h.queue, h.buffers, h.clock, fun w => ⟨fun e he => ?_, (h.events w).2⟩, h.counts, h.fifos⟩
    obtain ⟨b, hb, rfl⟩ := List.mem_map.mp he
    exact (h.events w).1 b hb
  clear_value s1
  have h3 : a.Keeps s3 := State.irq_keeps (State.sealStart_keeps (State.trigSettings_keeps (State.bridgeSettings_keeps
    (State.findDiscard_keeps (State.startSettings_keeps h1)))))
  exact State.Keeps.ite (State.trialBootEnds_keeps h3) h3

theorem State.noMode_keeps {a x : State} (h : a.Keeps x) : a.Keeps (State.noMode x) :=
  State.Keeps.mk' h rfl

theorem State.dramTrained_keeps {a x : State} (v0 : List ChannelTraining) (h : a.Keeps x) :
    a.Keeps (State.dramTrained x v0) := by
  unfold State.dramTrained
  iterate 40 all_goals (try (first
    | with_reducible assumption | with_reducible apply State.noMode_keeps | with_reducible apply State.startSeq_keeps
    | with_reducible apply State.upDone_keeps | with_reducible refine State.Keeps.ite ?_ ?_
    | (with_reducible refine State.Keeps.foldl ?_ ?_ _; intro _ _ _)
    | fail_if_no_progress with_reducible refine State.Keeps.mk' ?_ rfl | split | dsimp only))

theorem State.resumeTicks_keeps {a x : State} (v0) (h : a.Keeps x) : a.Keeps (State.resumeTicks x v0) :=
  State.Keeps.mk' h rfl

theorem State.carryState_keeps {a x : State} (v0 : Bool) (h : a.Keeps x) : a.Keeps (State.carryState x v0) := by
  unfold State.carryState
  iterate 40 all_goals (try (first
    | with_reducible assumption | with_reducible apply State.setClock_keeps | with_reducible apply State.elect_keeps
    | with_reducible refine State.Keeps.ite ?_ ?_ | (with_reducible refine State.Keeps.foldl ?_ ?_ _; intro _ _ _)
    | fail_if_no_progress with_reducible refine State.Keeps.mk' ?_ rfl | split | dsimp only))

theorem State.carry_keeps {a x : State} (h : a.Keeps x) : a.Keeps (State.carry x) := by
  unfold State.carry
  iterate 40 all_goals (try (first
    | with_reducible assumption | with_reducible apply State.carryState_keeps | with_reducible apply State.resumeTicks_keeps
    | with_reducible apply State.beginLinks_keeps | with_reducible refine State.Keeps.ite ?_ ?_
    | (with_reducible refine State.Keeps.foldl ?_ ?_ _; intro _ _ _)
    | fail_if_no_progress with_reducible refine State.Keeps.mk' ?_ rfl | split | dsimp only))

theorem State.slotWrite_keeps {a x : State} (v0 : Nat) (v1 : Nat) (v2 : List Byte) (h : a.Keeps x) :
    a.Keeps (State.slotWrite x v0 v1 v2) := by
  unfold State.slotWrite
  iterate 40 all_goals (try (first
    | with_reducible assumption
    | with_reducible refine State.modSlot_keeps _ ?_ (fun _ hb => by first | exact hb | exact Memory.wf_writeAll hb _ _)
    | with_reducible apply State.take_keeps | with_reducible exact cardOf_keeps _
    | with_reducible refine State.Keeps.ite ?_ ?_ | (with_reducible refine State.Keeps.foldl ?_ ?_ _; intro _ _ _)
    | fail_if_no_progress with_reducible refine State.Keeps.mk' ?_ rfl | split | dsimp only))

theorem State.beginVerify_keeps {a x : State} (v0 v1) (h : a.Keeps x) : a.Keeps (State.beginVerify x v0 v1) :=
  State.Keeps.mk' h rfl

theorem State.tftpSend_keeps {a x : State} (v0 : List Byte) (h : a.Keeps x) : a.Keeps (State.tftpSend x v0) := by
  unfold State.tftpSend
  iterate 40 all_goals (try (first
    | with_reducible assumption | with_reducible apply State.romReply_keeps | with_reducible refine State.Keeps.ite ?_ ?_
    | (with_reducible refine State.Keeps.foldl ?_ ?_ _; intro _ _ _)
    | fail_if_no_progress with_reducible refine State.Keeps.mk' ?_ rfl | split | dsimp only))

theorem State.tftpEnd_keeps {a x : State} (h : a.Keeps x) : a.Keeps (State.tftpEnd x) :=
  State.Keeps.mk' h rfl

theorem State.tftpTake_keeps {a x : State} (v0 : Nat) (v1 : Nat) (v2 : Nat) (v3 : List Byte) (h : a.Keeps x) :
    a.Keeps (State.tftpTake x v0 v1 v2 v3) := by
  unfold State.tftpTake
  iterate 40 all_goals (try (first
    | with_reducible assumption | with_reducible apply State.tftpSend_keeps | with_reducible apply State.tftpEnd_keeps
    | with_reducible apply State.slotWrite_keeps | with_reducible apply State.beginVerify_keeps
    | with_reducible refine State.Keeps.ite ?_ ?_ | (with_reducible refine State.Keeps.foldl ?_ ?_ _; intro _ _ _)
    | fail_if_no_progress with_reducible refine State.Keeps.mk' ?_ rfl | split | dsimp only))

theorem State.tftpVerified_keeps {a x : State} (v0) (h : a.Keeps x) : a.Keeps (State.tftpVerified x v0) :=
  State.Keeps.mk' (State.tftpSend_keeps _ h) rfl

theorem State.recovered_keeps {a x : State} (v0) (h : a.Keeps x) : a.Keeps (State.recovered x v0) := by
  unfold State.recovered
  iterate 40 all_goals (try (first
    | with_reducible assumption | with_reducible apply State.took_keeps | with_reducible apply State.putBoot_keeps
    | with_reducible refine State.Keeps.ite ?_ ?_ | (with_reducible refine State.Keeps.foldl ?_ ?_ _; intro _ _ _)
    | fail_if_no_progress with_reducible refine State.Keeps.mk' ?_ rfl | split | dsimp only))

theorem State.afterTxn_keeps {a x : State} (v0) (h : a.Keeps x) : a.Keeps (State.afterTxn x v0) := by
  unfold State.afterTxn
  iterate 40 all_goals (try (first
    | with_reducible assumption | with_reducible apply State.txnEnd_keeps | with_reducible apply State.committed_keeps
    | with_reducible apply State.endStartup_keeps | with_reducible apply State.restartSoon_keeps
    | with_reducible apply State.drain_keeps | with_reducible apply State.beginHead_keeps
    | with_reducible refine State.Keeps.ite ?_ ?_ | (with_reducible refine State.Keeps.foldl ?_ ?_ _; intro _ _ _)
    | fail_if_no_progress with_reducible refine State.Keeps.mk' ?_ rfl | split | dsimp only))

theorem State.groupArrives_keeps {a x : State} (v0 : Cyc) (v1 : Datagram) (h : a.Keeps x) :
    a.Keeps (State.groupArrives x v0 v1) := by
  unfold State.groupArrives
  iterate 40 all_goals (try (first
    | with_reducible assumption | with_reducible apply State.hostAt_keeps | with_reducible apply State.groupIn_keeps
    | with_reducible refine State.Keeps.ite ?_ ?_ | (with_reducible refine State.Keeps.foldl ?_ ?_ _; intro _ _ _)
    | fail_if_no_progress with_reducible refine State.Keeps.mk' ?_ rfl | split | dsimp only))

theorem State.sansOutput_keeps {a x : State} (h : a.Keeps x) : a.Keeps (State.sansOutput x) := by
  unfold State.sansOutput
  iterate 40 all_goals (try (first
    | with_reducible assumption | with_reducible refine State.Keeps.ite ?_ ?_
    | (with_reducible refine State.Keeps.foldl ?_ ?_ _; intro _ _ _)
    | fail_if_no_progress with_reducible refine State.Keeps.mk' ?_ rfl | split | dsimp only))

theorem State.served_keeps {a x : State} (v0 v1) (h : a.Keeps x) : a.Keeps (State.served x v0 v1) := by
  unfold State.served
  iterate 40 all_goals (try (first
    | with_reducible assumption
    | with_reducible refine State.modSess_keeps _ ?_ (fun _ he => by first | exact he | (unfold passFive; split <;> exact he) | exact Nat.le_trans (List.length_filter_le _ _) he)
    | with_reducible apply State.heard_keeps | with_reducible refine State.Keeps.ite ?_ ?_
    | (with_reducible refine State.Keeps.foldl ?_ ?_ _; intro _ _ _)
    | fail_if_no_progress with_reducible refine State.Keeps.mk' ?_ rfl | split | dsimp only))

theorem State.keeps_keeps {a x : State} (v0 v1 v2 v3 v4) (h : a.Keeps x) : a.Keeps (State.keeps x v0 v1 v2 v3 v4) := by
  unfold State.keeps
  iterate 40 all_goals (try (first
    | with_reducible assumption
    | with_reducible refine State.modSess_keeps _ ?_ (fun _ he => by first | exact he | (unfold passFive; split <;> exact he) | exact Nat.le_trans (List.length_filter_le _ _) he)
    | with_reducible refine State.Keeps.ite ?_ ?_ | (with_reducible refine State.Keeps.foldl ?_ ?_ _; intro _ _ _)
    | fail_if_no_progress with_reducible refine State.Keeps.mk' ?_ rfl | split | dsimp only))

theorem State.holds_keeps {a x : State} (v0 v1) (h : a.Keeps x) : a.Keeps (State.holds x v0 v1) := by
  unfold State.holds
  iterate 40 all_goals (try (first
    | with_reducible assumption
    | with_reducible refine State.modSess_keeps _ ?_ (fun _ he => by first | exact he | (unfold passFive; split <;> exact he) | exact Nat.le_trans (List.length_filter_le _ _) he)
    | with_reducible refine State.Keeps.ite ?_ ?_ | (with_reducible refine State.Keeps.foldl ?_ ?_ _; intro _ _ _)
    | fail_if_no_progress with_reducible refine State.Keeps.mk' ?_ rfl | split | dsimp only))

theorem State.accepted_keeps {a x : State} (v0 v1 v2 v3) (h : a.Keeps x) : a.Keeps (State.accepted x v0 v1 v2 v3) := by
  unfold State.accepted
  iterate 40 all_goals (try (first
    | with_reducible assumption | with_reducible apply State.reply_keeps | with_reducible apply State.holds_keeps
    | with_reducible apply State.served_keeps | with_reducible refine State.Keeps.ite ?_ ?_
    | (with_reducible refine State.Keeps.foldl ?_ ?_ _; intro _ _ _)
    | fail_if_no_progress with_reducible refine State.Keeps.mk' ?_ rfl | split | dsimp only))

end Sys2Proof.Machine
end

