-- ==== Sys2Proof/Laws/KeptMeanings.lean ====
section
/-! SUPPORT. That the meaning of each command of the block keeps what `State.Keeps` says, where it answers a next state. -/

set_option linter.unusedTactic false
set_option linter.unreachableTactic false
set_option linter.unusedVariables false

namespace Sys2Proof.Machine

/-- Where an outcome is a next state, that state is kept. -/
def State.Bounds (a : State) (o : Host.Outcome State Fault Refusal) : Prop := ∀ u, o = .next u → a.Keeps u

theorem State.Bounds.ite {a : State} {x y : Host.Outcome State Fault Refusal} {p : Prop} [Decidable p] (h : a.Bounds x)
    (k : a.Bounds y) : a.Bounds (if p then x else y) := by split <;> assumption

theorem fifo_append {l : List (List Capture)} {k : Nat} {c : Capture} (hl : ∀ e ∈ l, e.length ≤ 16)
    (hr : fifoRoom (nth l k []) = true) : ∀ e ∈ modAt l k (fun e => e ++ [c]), e.length ≤ 16 := by
  refine modAt_forall hl (fun e he => ?_)
  have hn : nth l k [] = e := by simp [nth, List.getD_eq_getElem?_getD, he]
  rw [hn] at hr
  have := of_decide_eq_true hr
  rw [List.length_append]
  exact this

theorem nextOf_keeps {a x : State} (h : a.Keeps x) : a.Bounds (nextOf x) := by
  rintro u ⟨⟩; exact h

theorem runCommand_keeps {a x : State} {k : Card} (hk : k.Keeps) (p : Packet) (h : a.Keeps x) : a.Bounds (runCommand k p x) :=
  nextOf_keeps (State.arrive_keeps _ _ (by rintro _ ⟨⟩; exact hk) h)

theorem execEventResend_keeps {a x : State} (v0 : Cyc) (v1 : Nat) (h : a.Keeps x) : a.Bounds (execEventResend v0 v1 x) := by
  unfold execEventResend
  iterate 40 all_goals (try (first
    | with_reducible assumption | with_reducible refine nextOf_keeps ?_ | with_reducible refine State.Bounds.ite ?_ ?_
    | with_reducible apply State.at_keeps | with_reducible apply State.resend_keeps
    | with_reducible refine State.Keeps.ite ?_ ?_ | (with_reducible refine State.Keeps.foldl ?_ ?_ _; intro _ _ _)
    | fail_if_no_progress with_reducible refine State.Keeps.mk' ?_ rfl | split | dsimp only))

theorem execKeyDebounced_keeps {a x : State} (v0 : Cyc) (v1 : Bool) (h : a.Keeps x) :
    a.Bounds (execKeyDebounced v0 v1 x) := by
  unfold execKeyDebounced
  iterate 40 all_goals (try (first
    | with_reducible assumption | with_reducible refine nextOf_keeps ?_ | with_reducible refine State.Bounds.ite ?_ ?_
    | with_reducible apply State.at_keeps | with_reducible apply State.notify_keeps
    | with_reducible refine State.Keeps.ite ?_ ?_ | (with_reducible refine State.Keeps.foldl ?_ ?_ _; intro _ _ _)
    | fail_if_no_progress with_reducible refine State.Keeps.mk' ?_ rfl | split | dsimp only))

theorem execSwitchInstant_keeps {a x : State} (v0 : Cyc) (h : a.Keeps x) : a.Bounds (execSwitchInstant v0 x) := by
  unfold execSwitchInstant
  iterate 40 all_goals (try (first
    | with_reducible assumption | with_reducible refine nextOf_keeps ?_ | with_reducible refine State.Bounds.ite ?_ ?_
    | with_reducible apply State.at_keeps | with_reducible apply State.switchNow_keeps
    | with_reducible apply State.tally_keeps | with_reducible apply State.elect_keeps
    | with_reducible refine State.Keeps.ite ?_ ?_ | (with_reducible refine State.Keeps.foldl ?_ ?_ _; intro _ _ _)
    | fail_if_no_progress with_reducible refine State.Keeps.mk' ?_ rfl | split | dsimp only))

theorem execSlewEnd_keeps {a x : State} (v0 : Cyc) (h : a.Keeps x) : a.Bounds (execSlewEnd v0 x) := by
  unfold execSlewEnd
  iterate 40 all_goals (try (first
    | with_reducible assumption | with_reducible refine nextOf_keeps ?_ | with_reducible refine State.Bounds.ite ?_ ?_
    | with_reducible apply State.at_keeps | with_reducible apply State.setClock_keeps
    | with_reducible refine State.Keeps.ite ?_ ?_ | (with_reducible refine State.Keeps.foldl ?_ ?_ _; intro _ _ _)
    | fail_if_no_progress with_reducible refine State.Keeps.mk' ?_ rfl | split | dsimp only))

theorem execAcquireTimeout_keeps {a x : State} (v0 : Cyc) (h : a.Keeps x) : a.Bounds (execAcquireTimeout v0 x) := by
  unfold execAcquireTimeout
  iterate 40 all_goals (try (first
    | with_reducible assumption | with_reducible refine nextOf_keeps ?_ | with_reducible refine State.Bounds.ite ?_ ?_
    | with_reducible apply State.at_keeps | with_reducible apply State.awaitCarry_keeps
    | with_reducible refine State.Keeps.ite ?_ ?_ | (with_reducible refine State.Keeps.foldl ?_ ?_ _; intro _ _ _)
    | fail_if_no_progress with_reducible refine State.Keeps.mk' ?_ rfl | split | dsimp only))

theorem execSyncReceived_keeps {a x : State} (v0 : Cyc) (v1 : Nat) (v2 : SyncMsg) (h : a.Keeps x) :
    a.Bounds (execSyncReceived v0 v1 v2 x) := by
  unfold execSyncReceived
  iterate 40 all_goals (try (first
    | with_reducible assumption | with_reducible refine nextOf_keeps ?_ | with_reducible refine State.Bounds.ite ?_ ?_
    | with_reducible apply State.at_keeps | with_reducible apply State.syncD_keeps
    | with_reducible apply State.modDomain_keeps | with_reducible refine State.Keeps.ite ?_ ?_
    | (with_reducible refine State.Keeps.foldl ?_ ?_ _; intro _ _ _)
    | fail_if_no_progress with_reducible refine State.Keeps.mk' ?_ rfl | split | dsimp only))

theorem execAnnounceReceived_keeps {a x : State} (v0 : Cyc) (v1 : Nat) (v2 : AnnounceMsg) (h : a.Keeps x) :
    a.Bounds (execAnnounceReceived v0 v1 v2 x) := by
  unfold execAnnounceReceived
  iterate 40 all_goals (try (first
    | with_reducible assumption | with_reducible refine nextOf_keeps ?_ | with_reducible refine State.Bounds.ite ?_ ?_
    | with_reducible apply State.at_keeps | with_reducible apply State.announce_keeps
    | with_reducible refine State.Keeps.ite ?_ ?_ | (with_reducible refine State.Keeps.foldl ?_ ?_ _; intro _ _ _)
    | fail_if_no_progress with_reducible refine State.Keeps.mk' ?_ rfl | split | dsimp only))

theorem execSyncTimeout_keeps {a x : State} (v0 : Cyc) (v1 : Nat) (h : a.Keeps x) : a.Bounds (execSyncTimeout v0 v1 x) := by
  unfold execSyncTimeout
  iterate 40 all_goals (try (first
    | with_reducible assumption | with_reducible refine nextOf_keeps ?_ | with_reducible refine State.Bounds.ite ?_ ?_
    | with_reducible apply State.at_keeps | with_reducible apply State.loseDomain_keeps
    | with_reducible refine State.Keeps.ite ?_ ?_ | (with_reducible refine State.Keeps.foldl ?_ ?_ _; intro _ _ _)
    | fail_if_no_progress with_reducible refine State.Keeps.mk' ?_ rfl | split | dsimp only))

theorem execAnnounceTimeout_keeps {a x : State} (v0 : Cyc) (v1 : Nat) (h : a.Keeps x) :
    a.Bounds (execAnnounceTimeout v0 v1 x) := by
  unfold execAnnounceTimeout
  iterate 40 all_goals (try (first
    | with_reducible assumption | with_reducible refine nextOf_keeps ?_ | with_reducible refine State.Bounds.ite ?_ ?_
    | with_reducible apply State.at_keeps | with_reducible apply State.loseDomain_keeps
    | with_reducible apply State.modDomain_keeps | with_reducible refine State.Keeps.ite ?_ ?_
    | (with_reducible refine State.Keeps.foldl ?_ ?_ _; intro _ _ _)
    | fail_if_no_progress with_reducible refine State.Keeps.mk' ?_ rfl | split | dsimp only))

theorem execPdelayReqSend_keeps {a x : State} (v0 : Cyc) (v1 : Nat) (h : a.Keeps x) :
    a.Bounds (execPdelayReqSend v0 v1 x) := by
  unfold execPdelayReqSend
  iterate 40 all_goals (try (first
    | with_reducible assumption | with_reducible refine nextOf_keeps ?_ | with_reducible refine State.Bounds.ite ?_ ?_
    | with_reducible apply State.at_keeps | with_reducible apply State.sendPort_keeps
    | with_reducible refine State.Keeps.ite ?_ ?_ | (with_reducible refine State.Keeps.foldl ?_ ?_ _; intro _ _ _)
    | fail_if_no_progress with_reducible refine State.Keeps.mk' ?_ rfl | split | dsimp only))

theorem execPdelayReqReceived_keeps {a x : State} (v0 : Cyc) (v1 : Nat) (v2 : Nat) (v3 : Nat) (h : a.Keeps x) :
    a.Bounds (execPdelayReqReceived v0 v1 v2 v3 x) := by
  unfold execPdelayReqReceived
  iterate 40 all_goals (try (first
    | with_reducible assumption | with_reducible refine nextOf_keeps ?_ | with_reducible refine State.Bounds.ite ?_ ?_
    | with_reducible apply State.at_keeps | with_reducible apply State.sendStamped_keeps
    | with_reducible refine State.Keeps.ite ?_ ?_ | (with_reducible refine State.Keeps.foldl ?_ ?_ _; intro _ _ _)
    | fail_if_no_progress with_reducible refine State.Keeps.mk' ?_ rfl | split | dsimp only))

theorem execPdelayRespReceived_keeps {a x : State} (v0 : Cyc) (v1 : Nat) (v2 : Nat) (v3 : Nat) (v4 : Nat) (v5 : Nat) (h : a.Keeps x) :
    a.Bounds (execPdelayRespReceived v0 v1 v2 v3 v4 v5 x) := by
  unfold execPdelayRespReceived
  iterate 40 all_goals (try (first
    | with_reducible assumption | with_reducible refine nextOf_keeps ?_ | with_reducible refine State.Bounds.ite ?_ ?_
    | with_reducible apply State.at_keeps | with_reducible refine State.Keeps.ite ?_ ?_
    | (with_reducible refine State.Keeps.foldl ?_ ?_ _; intro _ _ _)
    | fail_if_no_progress with_reducible refine State.Keeps.mk' ?_ rfl | split | dsimp only))

theorem execFollowUpTimeout_keeps {a x : State} (v0 : Cyc) (h : a.Keeps x) : a.Bounds (execFollowUpTimeout v0 x) := by
  unfold execFollowUpTimeout
  iterate 40 all_goals (try (first
    | with_reducible assumption | with_reducible refine nextOf_keeps ?_ | with_reducible refine State.Bounds.ite ?_ ?_
    | with_reducible apply State.at_keeps | with_reducible apply State.tallyBy_keeps
    | with_reducible refine State.Keeps.ite ?_ ?_ | (with_reducible refine State.Keeps.foldl ?_ ?_ _; intro _ _ _)
    | fail_if_no_progress with_reducible refine State.Keeps.mk' ?_ rfl | split | dsimp only))

theorem execTrigRise_keeps {a x : State} (v0 : Cyc) (v1 : Nat) (h : a.Keeps x) : a.Bounds (execTrigRise v0 v1 x) := by
  unfold execTrigRise
  iterate 40 all_goals (try (first
    | with_reducible assumption | with_reducible refine nextOf_keeps ?_ | with_reducible refine State.Bounds.ite ?_ ?_
    | with_reducible apply State.at_keeps | with_reducible refine State.Keeps.ite ?_ ?_
    | (with_reducible refine State.Keeps.foldl ?_ ?_ _; intro _ _ _)
    | fail_if_no_progress with_reducible refine State.Keeps.mk' ?_ rfl | split | dsimp only))

theorem execTrigFall_keeps {a x : State} (v0 : Cyc) (v1 : Nat) (h : a.Keeps x) : a.Bounds (execTrigFall v0 v1 x) := by
  unfold execTrigFall
  iterate 40 all_goals (try (first
    | with_reducible assumption | with_reducible refine nextOf_keeps ?_ | with_reducible refine State.Bounds.ite ?_ ?_
    | with_reducible apply State.at_keeps | with_reducible refine State.Keeps.ite ?_ ?_
    | (with_reducible refine State.Keeps.foldl ?_ ?_ _; intro _ _ _)
    | fail_if_no_progress with_reducible refine State.Keeps.mk' ?_ rfl | split | dsimp only))

theorem execEvtCapture_keeps {a x : State} (t : Cyc) (p : Nat) (v : Bool) (h : a.Keeps x) :
    a.Bounds (execEvtCapture t p v x) := by
  unfold execEvtCapture
  have k := State.at_keeps t h
  generalize x.at t = y at k
  extract_lets s _ s1
  refine State.Bounds.ite (nextOf_keeps ?_) (nextOf_keeps k)
  have k1 : a.Keeps s1 := by
    show a.Keeps (if fifoRoom (nth s.time.evt p []) = true then _ else _)
    split
    · next hr =>
      exact ⟨k.queue, k.buffers, k.clock, k.events, k.counts, fun w => ⟨fifo_append (k.fifos w).1 hr, (k.fifos w).2⟩⟩
    · exact State.captureLost_keeps (State.Keeps.mk' k rfl)
  clear_value s1
  exact State.Keeps.ite (State.sendCaptures_keeps _ k1) k1

theorem execGateEntryChange_keeps {a x : State} (v0 : Cyc) (v1 : Nat) (h : a.Keeps x) :
    a.Bounds (execGateEntryChange v0 v1 x) := by
  unfold execGateEntryChange
  iterate 40 all_goals (try (first
    | with_reducible assumption | with_reducible refine nextOf_keeps ?_ | with_reducible refine State.Bounds.ite ?_ ?_
    | with_reducible apply State.at_keeps | with_reducible refine State.Keeps.ite ?_ ?_
    | (with_reducible refine State.Keeps.foldl ?_ ?_ _; intro _ _ _)
    | fail_if_no_progress with_reducible refine State.Keeps.mk' ?_ rfl | split | dsimp only))

theorem execEgressTransmit_keeps {a x : State} (v0 : Cyc) (v1 : Nat) (h : a.Keeps x) :
    a.Bounds (execEgressTransmit v0 v1 x) := by
  unfold execEgressTransmit
  iterate 40 all_goals (try (first
    | with_reducible assumption | with_reducible refine nextOf_keeps ?_ | with_reducible refine State.Bounds.ite ?_ ?_
    | with_reducible apply State.at_keeps | with_reducible apply State.transmit_keeps | with_reducible apply State.pump_keeps
    | with_reducible apply State.noteEmpty_keeps | with_reducible apply State.exportsOut_keeps
    | with_reducible refine State.Keeps.ite ?_ ?_ | (with_reducible refine State.Keeps.foldl ?_ ?_ _; intro _ _ _)
    | fail_if_no_progress with_reducible refine State.Keeps.mk' ?_ rfl | split | dsimp only))

theorem execLinePortFrame_keeps {a x : State} (v0 : Cyc) (v1 : Nat) (v2 : Frame) (h : a.Keeps x) :
    a.Bounds (execLinePortFrame v0 v1 v2 x) := by
  unfold execLinePortFrame
  iterate 40 all_goals (try (first
    | with_reducible assumption | with_reducible refine nextOf_keeps ?_ | with_reducible refine State.Bounds.ite ?_ ?_
    | with_reducible apply State.at_keeps | with_reducible apply State.tally_keeps | with_reducible apply State.learn_keeps
    | with_reducible apply State.forward_keeps | with_reducible apply State.classify_keeps
    | with_reducible refine State.Keeps.ite ?_ ?_ | (with_reducible refine State.Keeps.foldl ?_ ?_ _; intro _ _ _)
    | fail_if_no_progress with_reducible refine State.Keeps.mk' ?_ rfl | split | dsimp only))

theorem execAddressAgeOut_keeps {a x : State} (v0 : Cyc) (h : a.Keeps x) : a.Bounds (execAddressAgeOut v0 x) := by
  unfold execAddressAgeOut
  iterate 40 all_goals (try (first
    | with_reducible assumption | with_reducible refine nextOf_keeps ?_ | with_reducible refine State.Bounds.ite ?_ ?_
    | with_reducible apply State.at_keeps | with_reducible refine State.Keeps.ite ?_ ?_
    | (with_reducible refine State.Keeps.foldl ?_ ?_ _; intro _ _ _)
    | fail_if_no_progress with_reducible refine State.Keeps.mk' ?_ rfl | split | dsimp only))

theorem execDecompressionJobStart_keeps {a x : State} (v0 v1) (h : a.Keeps x) : a.Bounds (execDecompressionJobStart v0 v1 x) := by
  unfold execDecompressionJobStart
  iterate 40 all_goals (try (first
    | with_reducible assumption | with_reducible refine nextOf_keeps ?_ | with_reducible refine State.Bounds.ite ?_ ?_
    | with_reducible apply State.at_keeps | with_reducible apply State.extraHeartbeat_keeps
    | with_reducible apply State.startLane_keeps | with_reducible exact cardOf_keeps _
    | with_reducible refine State.Keeps.ite ?_ ?_ | (with_reducible refine State.Keeps.foldl ?_ ?_ _; intro _ _ _)
    | fail_if_no_progress with_reducible refine State.Keeps.mk' ?_ rfl | split | dsimp only))

theorem execDecompressionJobEnd_keeps {a x : State} (v0 : Cyc) (v1 : Nat) (h : a.Keeps x) :
    a.Bounds (execDecompressionJobEnd v0 v1 x) := by
  unfold execDecompressionJobEnd
  iterate 40 all_goals (try (first
    | with_reducible assumption | with_reducible refine nextOf_keeps ?_ | with_reducible refine State.Bounds.ite ?_ ?_
    | with_reducible apply State.at_keeps | with_reducible apply State.endTile_keeps
    | with_reducible apply State.extraHeartbeat_keeps | with_reducible apply State.endSegment_keeps
    | with_reducible refine State.Keeps.ite ?_ ?_ | (with_reducible refine State.Keeps.foldl ?_ ?_ _; intro _ _ _)
    | fail_if_no_progress with_reducible refine State.Keeps.mk' ?_ rfl | split | dsimp only))

theorem execDecompressionResume_keeps {a x : State} (v0 : Cyc) (v1 : Nat) (h : a.Keeps x) :
    a.Bounds (execDecompressionResume v0 v1 x) := by
  unfold execDecompressionResume
  iterate 40 all_goals (try (first
    | with_reducible assumption | with_reducible refine nextOf_keeps ?_ | with_reducible refine State.Bounds.ite ?_ ?_
    | with_reducible apply State.at_keeps | with_reducible apply State.setLib_keeps | with_reducible apply State.setLane_keeps
    | with_reducible refine State.Keeps.ite ?_ ?_ | (with_reducible refine State.Keeps.foldl ?_ ?_ _; intro _ _ _)
    | fail_if_no_progress with_reducible refine State.Keeps.mk' ?_ rfl | split | dsimp only))

theorem execLibrarySegmentRead_keeps {a x : State} (v0 v1 v2 v3 v4) (h : a.Keeps x) : a.Bounds (execLibrarySegmentRead v0 v1 v2 v3 v4 x) := by
  unfold execLibrarySegmentRead
  iterate 40 all_goals (try (first
    | with_reducible assumption | with_reducible refine nextOf_keeps ?_ | with_reducible refine State.Bounds.ite ?_ ?_
    | with_reducible apply State.at_keeps | with_reducible apply State.setLib_keeps | with_reducible exact cardOf_keeps _
    | with_reducible refine State.Keeps.ite ?_ ?_ | (with_reducible refine State.Keeps.foldl ?_ ?_ _; intro _ _ _)
    | fail_if_no_progress with_reducible refine State.Keeps.mk' ?_ rfl | split | dsimp only))

theorem execLibraryPieceRelease_keeps {a x : State} (v0 v1) (h : a.Keeps x) : a.Bounds (execLibraryPieceRelease v0 v1 x) := by
  unfold execLibraryPieceRelease
  iterate 40 all_goals (try (first
    | with_reducible assumption | with_reducible refine nextOf_keeps ?_ | with_reducible refine State.Bounds.ite ?_ ?_
    | with_reducible apply State.at_keeps | with_reducible apply State.repairPiece_keeps
    | with_reducible apply State.takePiece_keeps | with_reducible apply State.endLib_keeps
    | with_reducible apply State.setLib_keeps | with_reducible exact cardOf_keeps _
    | with_reducible refine State.Keeps.ite ?_ ?_ | (with_reducible refine State.Keeps.foldl ?_ ?_ _; intro _ _ _)
    | fail_if_no_progress with_reducible refine State.Keeps.mk' ?_ rfl
    | with_reducible refine State.Keeps.pair ‹_ = (_, _)› ?_ | split | dsimp only))

theorem execCompressionBlockDone_keeps {a x : State} (v0 v1) (h : a.Keeps x) : a.Bounds (execCompressionBlockDone v0 v1 x) := by
  unfold execCompressionBlockDone
  iterate 40 all_goals (try (first
    | with_reducible assumption | with_reducible refine nextOf_keeps ?_ | with_reducible refine State.Bounds.ite ?_ ?_
    | with_reducible apply State.at_keeps | with_reducible apply State.laneBlock_keeps | with_reducible exact cardOf_keeps _
    | with_reducible refine State.Keeps.ite ?_ ?_ | (with_reducible refine State.Keeps.foldl ?_ ?_ _; intro _ _ _)
    | fail_if_no_progress with_reducible refine State.Keeps.mk' ?_ rfl | split | dsimp only))

theorem execCompressionPreempt_keeps {a x : State} (v0 v1) (h : a.Keeps x) : a.Bounds (execCompressionPreempt v0 v1 x) := by
  unfold execCompressionPreempt
  iterate 40 all_goals (try (first
    | with_reducible assumption | with_reducible refine nextOf_keeps ?_ | with_reducible refine State.Bounds.ite ?_ ?_
    | with_reducible apply State.at_keeps | with_reducible apply State.preempt_keeps | with_reducible exact cardOf_keeps _
    | with_reducible refine State.Keeps.ite ?_ ?_ | (with_reducible refine State.Keeps.foldl ?_ ?_ _; intro _ _ _)
    | fail_if_no_progress with_reducible refine State.Keeps.mk' ?_ rfl | split | dsimp only))

theorem execLibraryCompressionUnit_keeps {a x : State} (v0 : Cyc) (v1 : List Byte) (h : a.Keeps x) :
    a.Bounds (execLibraryCompressionUnit v0 v1 x) := by
  unfold execLibraryCompressionUnit
  iterate 40 all_goals (try (first
    | with_reducible assumption | with_reducible refine nextOf_keeps ?_ | with_reducible refine State.Bounds.ite ?_ ?_
    | with_reducible apply State.at_keeps | with_reducible apply State.queueJob_keeps
    | with_reducible refine State.Keeps.ite ?_ ?_ | (with_reducible refine State.Keeps.foldl ?_ ?_ _; intro _ _ _)
    | fail_if_no_progress with_reducible refine State.Keeps.mk' ?_ rfl | split | dsimp only))

theorem execWakeDrainUnit_keeps {a x : State} (v0 : Cyc) (h : a.Keeps x) : a.Bounds (execWakeDrainUnit v0 x) := by
  unfold execWakeDrainUnit
  iterate 40 all_goals (try (first
    | with_reducible assumption | with_reducible refine nextOf_keeps ?_ | with_reducible refine State.Bounds.ite ?_ ?_
    | with_reducible apply State.at_keeps | with_reducible apply State.wakeBoundary_keeps
    | with_reducible apply State.queueJob_keeps | with_reducible refine State.Keeps.ite ?_ ?_
    | (with_reducible refine State.Keeps.foldl ?_ ?_ _; intro _ _ _)
    | fail_if_no_progress with_reducible refine State.Keeps.mk' ?_ rfl | split | dsimp only))

theorem execCorrMapCheckDone_keeps {a x : State} (v0) (h : a.Keeps x) : a.Bounds (execCorrMapCheckDone v0 x) := by
  unfold execCorrMapCheckDone
  iterate 40 all_goals (try (first
    | with_reducible assumption | with_reducible refine nextOf_keeps ?_ | with_reducible refine State.Bounds.ite ?_ ?_
    | with_reducible apply State.at_keeps | with_reducible apply State.finalEvent_keeps | with_reducible exact cardOf_keeps _
    | with_reducible refine State.Keeps.ite ?_ ?_ | (with_reducible refine State.Keeps.foldl ?_ ?_ _; intro _ _ _)
    | fail_if_no_progress with_reducible refine State.Keeps.mk' ?_ rfl | split | dsimp only))

theorem execTileStart_keeps {a x : State} (v0 : Cyc) (v1 : Nat) (h : a.Keeps x) : a.Bounds (execTileStart v0 v1 x) := by
  unfold execTileStart
  iterate 40 all_goals (try (first
    | with_reducible assumption | with_reducible refine nextOf_keeps ?_ | with_reducible refine State.Bounds.ite ?_ ?_
    | with_reducible apply State.at_keeps | with_reducible apply State.modGang_keeps | with_reducible apply State.tally_keeps
    | with_reducible apply State.modTile_keeps | with_reducible refine State.Keeps.ite ?_ ?_
    | (with_reducible refine State.Keeps.foldl ?_ ?_ _; intro _ _ _)
    | fail_if_no_progress with_reducible refine State.Keeps.mk' ?_ rfl | split | dsimp only))

theorem execCacheLineFill_keeps {a x : State} (v0 : Cyc) (v1 : Nat) (v2 : Nat) (v3 : Nat) (v4 : Bool) (v5 : Nat) (v6 : Nat) (v7 : Nat) (v8 : Bool) (h : a.Keeps x) :
    a.Bounds (execCacheLineFill v0 v1 v2 v3 v4 v5 v6 v7 v8 x) := by
  unfold execCacheLineFill
  iterate 40 all_goals (try (first
    | with_reducible assumption | with_reducible refine nextOf_keeps ?_ | with_reducible refine State.Bounds.ite ?_ ?_
    | with_reducible apply State.at_keeps | with_reducible apply State.take_keeps | with_reducible apply State.modGang_keeps
    | with_reducible apply State.dramMoved_keeps | with_reducible apply State.countTile_keeps
    | with_reducible exact cardOf_keeps _ | with_reducible refine State.Keeps.ite ?_ ?_
    | (with_reducible refine State.Keeps.foldl ?_ ?_ _; intro _ _ _)
    | fail_if_no_progress with_reducible refine State.Keeps.mk' ?_ rfl | split | dsimp only))

theorem execTileFinish_keeps {a x : State} (v0 v1) (h : a.Keeps x) : a.Bounds (execTileFinish v0 v1 x) := by
  unfold execTileFinish
  iterate 40 all_goals (try (first
    | with_reducible assumption | with_reducible refine nextOf_keeps ?_ | with_reducible refine State.Bounds.ite ?_ ?_
    | with_reducible apply State.at_keeps | with_reducible apply State.modGang_keeps
    | with_reducible apply State.dramMoved_keeps | with_reducible apply State.countTile_keeps
    | with_reducible apply State.putRing_keeps | with_reducible apply State.measure_keeps
    | with_reducible apply State.putCopy_keeps | with_reducible exact cardOf_keeps _
    | with_reducible refine State.Keeps.ite ?_ ?_ | (with_reducible refine State.Keeps.foldl ?_ ?_ _; intro _ _ _)
    | fail_if_no_progress with_reducible refine State.Keeps.mk' ?_ rfl | split | dsimp only))

theorem execSkimPieceStart_keeps {a x : State} (v0 : Cyc) (h : a.Keeps x) : a.Bounds (execSkimPieceStart v0 x) := by
  unfold execSkimPieceStart
  iterate 40 all_goals (try (first
    | with_reducible assumption | with_reducible refine nextOf_keeps ?_ | with_reducible refine State.Bounds.ite ?_ ?_
    | with_reducible apply State.at_keeps | with_reducible apply State.reachEntry_keeps
    | with_reducible refine State.Keeps.ite ?_ ?_ | (with_reducible refine State.Keeps.foldl ?_ ?_ _; intro _ _ _)
    | fail_if_no_progress with_reducible refine State.Keeps.mk' ?_ rfl | split | dsimp only))

theorem execSkimEntryDone_keeps {a x : State} (v0 v1) (h : a.Keeps x) : a.Bounds (execSkimEntryDone v0 v1 x) := by
  unfold execSkimEntryDone
  iterate 40 all_goals (try (first
    | with_reducible assumption | with_reducible refine nextOf_keeps ?_ | with_reducible refine State.Bounds.ite ?_ ?_
    | with_reducible apply State.at_keeps | with_reducible apply State.doEntry_keeps
    | with_reducible apply State.listStops_keeps | with_reducible apply State.reachEntry_keeps
    | with_reducible exact cardOf_keeps _ | with_reducible refine State.Keeps.ite ?_ ?_
    | (with_reducible refine State.Keeps.foldl ?_ ?_ _; intro _ _ _)
    | fail_if_no_progress with_reducible refine State.Keeps.mk' ?_ rfl | split | dsimp only))

theorem execBollardComplete_keeps {a x : State} (v0 : Cyc) (h : a.Keeps x) : a.Bounds (execBollardComplete v0 x) := by
  unfold execBollardComplete
  iterate 40 all_goals (try (first
    | with_reducible assumption | with_reducible refine nextOf_keeps ?_ | with_reducible refine State.Bounds.ite ?_ ?_
    | with_reducible apply State.at_keeps | with_reducible apply State.bollardDone_keeps
    | with_reducible apply State.reachEntry_keeps | with_reducible refine State.Keeps.ite ?_ ?_
    | (with_reducible refine State.Keeps.foldl ?_ ?_ _; intro _ _ _)
    | fail_if_no_progress with_reducible refine State.Keeps.mk' ?_ rfl | split | dsimp only))

theorem execSurfaceClearDone_keeps {a x : State} (t : Cyc) (h : a.Keeps x) : a.Bounds (execSurfaceClearDone t x) := by
  unfold execSurfaceClearDone
  have k := State.at_keeps t h
  dsimp only
  split
  · split
    · exact nextOf_keeps k
    · split
      · exact nextOf_keeps k
      · refine State.Bounds.ite (nextOf_keeps k)
          (nextOf_keeps (State.finalEvent_keeps _ _ _ _ _ (State.pieceGone_keeps (State.skimCount_keeps _ (State.setSurf_keeps _ k ?_)))))
        exact fun _ => ⟨Memory.wf_nil _, fun _ he => absurd he List.not_mem_nil⟩
  · exact nextOf_keeps k

theorem execTestRequestTimeout_keeps {a x : State} (v0 : Cyc) (h : a.Keeps x) : a.Bounds (execTestRequestTimeout v0 x) := by
  unfold execTestRequestTimeout
  iterate 40 all_goals (try (first
    | with_reducible assumption | with_reducible refine nextOf_keeps ?_ | with_reducible refine State.Bounds.ite ?_ ?_
    | with_reducible apply State.at_keeps | with_reducible apply State.reqTimeouts_keeps
    | with_reducible refine State.Keeps.ite ?_ ?_ | (with_reducible refine State.Keeps.foldl ?_ ?_ _; intro _ _ _)
    | fail_if_no_progress with_reducible refine State.Keeps.mk' ?_ rfl | split | dsimp only))

theorem execTrainingPhaseDone_keeps {a x : State} (v0 : Cyc) (v1 : Nat) (h : a.Keeps x) :
    a.Bounds (execTrainingPhaseDone v0 v1 x) := by
  unfold execTrainingPhaseDone
  iterate 40 all_goals (try (first
    | with_reducible assumption | with_reducible refine nextOf_keeps ?_ | with_reducible refine State.Bounds.ite ?_ ?_
    | with_reducible apply State.at_keeps | with_reducible apply State.enterPhase_keeps
    | with_reducible apply State.modPort_keeps | with_reducible apply State.portActive_keeps
    | with_reducible refine State.Keeps.ite ?_ ?_ | (with_reducible refine State.Keeps.foldl ?_ ?_ _; intro _ _ _)
    | fail_if_no_progress with_reducible refine State.Keeps.mk' ?_ rfl | split | dsimp only))

theorem execTrainingPhaseTimeout_keeps {a x : State} (v0 : Cyc) (v1 : Nat) (h : a.Keeps x) :
    a.Bounds (execTrainingPhaseTimeout v0 v1 x) := by
  unfold execTrainingPhaseTimeout
  iterate 40 all_goals (try (first
    | with_reducible assumption | with_reducible refine nextOf_keeps ?_ | with_reducible refine State.Bounds.ite ?_ ?_
    | with_reducible apply State.at_keeps | with_reducible apply State.portAbsent_keeps
    | with_reducible refine State.Keeps.ite ?_ ?_ | (with_reducible refine State.Keeps.foldl ?_ ?_ _; intro _ _ _)
    | fail_if_no_progress with_reducible refine State.Keeps.mk' ?_ rfl | split | dsimp only))

theorem execLaneEqPoll_keeps {a x : State} (v0 : Cyc) (v1 : Nat) (v2 : LaneStatus) (h : a.Keeps x) :
    a.Bounds (execLaneEqPoll v0 v1 v2 x) := by
  unfold execLaneEqPoll
  iterate 40 all_goals (try (first
    | with_reducible assumption | with_reducible refine nextOf_keeps ?_ | with_reducible refine State.Bounds.ite ?_ ?_
    | with_reducible apply State.at_keeps | with_reducible apply State.modPort_keeps
    | with_reducible refine State.Keeps.ite ?_ ?_ | (with_reducible refine State.Keeps.foldl ?_ ?_ _; intro _ _ _)
    | fail_if_no_progress with_reducible refine State.Keeps.mk' ?_ rfl | split | dsimp only))

theorem execAuxReply_keeps {a x : State} (v0 : Cyc) (v1 : Nat) (v2 : AuxAnswer) (h : a.Keeps x) :
    a.Bounds (execAuxReply v0 v1 v2 x) := by
  unfold execAuxReply
  iterate 40 all_goals (try (first
    | with_reducible assumption | with_reducible refine nextOf_keeps ?_ | with_reducible refine State.Bounds.ite ?_ ?_
    | with_reducible apply State.at_keeps | with_reducible apply State.modPort_keeps
    | with_reducible apply State.auxFailed_keeps | with_reducible refine State.Keeps.ite ?_ ?_
    | (with_reducible refine State.Keeps.foldl ?_ ?_ _; intro _ _ _)
    | fail_if_no_progress with_reducible refine State.Keeps.mk' ?_ rfl | split | dsimp only))

theorem execAuxTimeout_keeps {a x : State} (v0 : Cyc) (v1 : Nat) (h : a.Keeps x) : a.Bounds (execAuxTimeout v0 v1 x) := by
  unfold execAuxTimeout
  iterate 40 all_goals (try (first
    | with_reducible assumption | with_reducible refine nextOf_keeps ?_ | with_reducible refine State.Bounds.ite ?_ ?_
    | with_reducible apply State.at_keeps | with_reducible apply State.modPort_keeps
    | with_reducible apply State.auxFailed_keeps | with_reducible refine State.Keeps.ite ?_ ?_
    | (with_reducible refine State.Keeps.foldl ?_ ?_ _; intro _ _ _)
    | fail_if_no_progress with_reducible refine State.Keeps.mk' ?_ rfl | split | dsimp only))

theorem execHpdHigh_keeps {a x : State} (v0 : Cyc) (v1 : Nat) (h : a.Keeps x) : a.Bounds (execHpdHigh v0 v1 x) := by
  unfold execHpdHigh
  iterate 40 all_goals (try (first
    | with_reducible assumption | with_reducible refine nextOf_keeps ?_ | with_reducible refine State.Bounds.ite ?_ ?_
    | with_reducible apply State.at_keeps | with_reducible apply State.modPort_keeps
    | with_reducible apply State.startTraining_keeps | with_reducible apply State.enterPhase_keeps
    | with_reducible refine State.Keeps.ite ?_ ?_ | (with_reducible refine State.Keeps.foldl ?_ ?_ _; intro _ _ _)
    | fail_if_no_progress with_reducible refine State.Keeps.mk' ?_ rfl | split | dsimp only))

theorem execHpdUnplug_keeps {a x : State} (v0 : Cyc) (v1 : Nat) (h : a.Keeps x) : a.Bounds (execHpdUnplug v0 v1 x) := by
  unfold execHpdUnplug
  iterate 40 all_goals (try (first
    | with_reducible assumption | with_reducible refine nextOf_keeps ?_ | with_reducible refine State.Bounds.ite ?_ ?_
    | with_reducible apply State.at_keeps | with_reducible apply State.unplug_keeps
    | with_reducible refine State.Keeps.ite ?_ ?_ | (with_reducible refine State.Keeps.foldl ?_ ?_ _; intro _ _ _)
    | fail_if_no_progress with_reducible refine State.Keeps.mk' ?_ rfl | split | dsimp only))

theorem execIrqHpd_keeps {a x : State} (v0 : Cyc) (v1 : Nat) (v2 : Option LaneStatus) (h : a.Keeps x) :
    a.Bounds (execIrqHpd v0 v1 v2 x) := by
  unfold execIrqHpd
  iterate 40 all_goals (try (first
    | with_reducible assumption | with_reducible refine nextOf_keeps ?_ | with_reducible refine State.Bounds.ite ?_ ?_
    | with_reducible apply State.at_keeps | with_reducible apply State.startTraining_keeps
    | with_reducible apply State.checkLanes_keeps | with_reducible apply State.modPort_keeps
    | with_reducible refine State.Keeps.ite ?_ ?_ | (with_reducible refine State.Keeps.foldl ?_ ?_ _; intro _ _ _)
    | fail_if_no_progress with_reducible refine State.Keeps.mk' ?_ rfl | split | dsimp only))

theorem execLinkRecalUnit_keeps {a x : State} (v0 : Cyc) (v1 : Nat) (v2 : Option LaneStatus) (h : a.Keeps x) :
    a.Bounds (execLinkRecalUnit v0 v1 v2 x) := by
  unfold execLinkRecalUnit
  iterate 40 all_goals (try (first
    | with_reducible assumption | with_reducible refine nextOf_keeps ?_ | with_reducible refine State.Bounds.ite ?_ ?_
    | with_reducible apply State.at_keeps | with_reducible apply State.auxReadFailed_keeps
    | with_reducible apply State.bgDid_keeps | with_reducible apply State.recal_keeps
    | with_reducible refine State.Keeps.ite ?_ ?_ | (with_reducible refine State.Keeps.foldl ?_ ?_ _; intro _ _ _)
    | fail_if_no_progress with_reducible refine State.Keeps.mk' ?_ rfl | split | dsimp only))

theorem execLinkTestEnd_keeps {a x : State} (v0 : Cyc) (v1 : Nat) (v2 : List Nat) (v3 : List Nat) (v4 : Bool) (v5 : Option LaneStatus) (h : a.Keeps x) :
    a.Bounds (execLinkTestEnd v0 v1 v2 v3 v4 v5 x) := by
  unfold execLinkTestEnd
  iterate 40 all_goals (try (first
    | with_reducible assumption | with_reducible refine nextOf_keeps ?_ | with_reducible refine State.Bounds.ite ?_ ?_
    | with_reducible apply State.at_keeps | with_reducible apply State.modPort_keeps
    | with_reducible apply State.finalEvent_keeps | with_reducible apply State.checkLanes_keeps
    | with_reducible refine State.Keeps.ite ?_ ?_ | (with_reducible refine State.Keeps.foldl ?_ ?_ _; intro _ _ _)
    | fail_if_no_progress with_reducible refine State.Keeps.mk' ?_ rfl | split | dsimp only))

theorem execBbPortUp_keeps {a x : State} (v0 v1) (h : a.Keeps x) : a.Bounds (execBbPortUp v0 v1 x) := by
  unfold execBbPortUp
  iterate 40 all_goals (try (first
    | with_reducible assumption | with_reducible refine nextOf_keeps ?_ | with_reducible refine State.Bounds.ite ?_ ?_
    | with_reducible apply State.at_keeps | with_reducible apply State.modBb_keeps
    | with_reducible apply State.exportsOut_keeps | with_reducible apply State.pump_keeps
    | with_reducible exact cardOf_keeps _ | with_reducible refine State.Keeps.ite ?_ ?_
    | (with_reducible refine State.Keeps.foldl ?_ ?_ _; intro _ _ _)
    | fail_if_no_progress with_reducible refine State.Keeps.mk' ?_ rfl | split | dsimp only))

theorem execBbPortDown_keeps {a x : State} (v0 : Cyc) (v1 : Nat) (h : a.Keeps x) : a.Bounds (execBbPortDown v0 v1 x) := by
  unfold execBbPortDown
  iterate 40 all_goals (try (first
    | with_reducible assumption | with_reducible refine nextOf_keeps ?_ | with_reducible refine State.Bounds.ite ?_ ?_
    | with_reducible apply State.at_keeps | with_reducible apply State.bbDown_keeps
    | with_reducible refine State.Keeps.ite ?_ ?_ | (with_reducible refine State.Keeps.foldl ?_ ?_ _; intro _ _ _)
    | fail_if_no_progress with_reducible refine State.Keeps.mk' ?_ rfl | split | dsimp only))

theorem execAdaptFreeze_keeps {a x : State} (v0 : Cyc) (v1 : Nat) (h : a.Keeps x) : a.Bounds (execAdaptFreeze v0 v1 x) := by
  unfold execAdaptFreeze
  iterate 40 all_goals (try (first
    | with_reducible assumption | with_reducible refine nextOf_keeps ?_ | with_reducible refine State.Bounds.ite ?_ ?_
    | with_reducible apply State.at_keeps | with_reducible apply State.freeze_keeps
    | with_reducible refine State.Keeps.ite ?_ ?_ | (with_reducible refine State.Keeps.foldl ?_ ?_ _; intro _ _ _)
    | fail_if_no_progress with_reducible refine State.Keeps.mk' ?_ rfl | split | dsimp only))

theorem execAdaptResume_keeps {a x : State} (v0 : Cyc) (v1 : Nat) (h : a.Keeps x) : a.Bounds (execAdaptResume v0 v1 x) := by
  unfold execAdaptResume
  iterate 40 all_goals (try (first
    | with_reducible assumption | with_reducible refine nextOf_keeps ?_ | with_reducible refine State.Bounds.ite ?_ ?_
    | with_reducible apply State.at_keeps | with_reducible apply State.modBb_keeps
    | with_reducible refine State.Keeps.ite ?_ ?_ | (with_reducible refine State.Keeps.foldl ?_ ?_ _; intro _ _ _)
    | fail_if_no_progress with_reducible refine State.Keeps.mk' ?_ rfl | split | dsimp only))

theorem execReceiveQuietStart_keeps {a x : State} (v0 : Cyc) (v1 : Nat) (h : a.Keeps x) :
    a.Bounds (execReceiveQuietStart v0 v1 x) := by
  unfold execReceiveQuietStart
  iterate 40 all_goals (try (first
    | with_reducible assumption | with_reducible refine nextOf_keeps ?_ | with_reducible refine State.Bounds.ite ?_ ?_
    | with_reducible apply State.at_keeps | with_reducible apply State.modBb_keeps | with_reducible apply State.freeze_keeps
    | with_reducible refine State.Keeps.ite ?_ ?_ | (with_reducible refine State.Keeps.foldl ?_ ?_ _; intro _ _ _)
    | fail_if_no_progress with_reducible refine State.Keeps.mk' ?_ rfl | split | dsimp only))

theorem execReceiveQuietEnd_keeps {a x : State} (v0 : Cyc) (v1 : Nat) (h : a.Keeps x) :
    a.Bounds (execReceiveQuietEnd v0 v1 x) := by
  unfold execReceiveQuietEnd
  iterate 40 all_goals (try (first
    | with_reducible assumption | with_reducible refine nextOf_keeps ?_ | with_reducible refine State.Bounds.ite ?_ ?_
    | with_reducible apply State.at_keeps | with_reducible apply State.modBb_keeps
    | with_reducible refine State.Keeps.ite ?_ ?_ | (with_reducible refine State.Keeps.foldl ?_ ?_ _; intro _ _ _)
    | fail_if_no_progress with_reducible refine State.Keeps.mk' ?_ rfl | split | dsimp only))

theorem execLpiEntry_keeps {a x : State} (v0 : Cyc) (v1 : Nat) (h : a.Keeps x) : a.Bounds (execLpiEntry v0 v1 x) := by
  unfold execLpiEntry
  iterate 40 all_goals (try (first
    | with_reducible assumption | with_reducible refine nextOf_keeps ?_ | with_reducible refine State.Bounds.ite ?_ ?_
    | with_reducible apply State.at_keeps | with_reducible apply State.modBb_keeps
    | with_reducible refine State.Keeps.ite ?_ ?_ | (with_reducible refine State.Keeps.foldl ?_ ?_ _; intro _ _ _)
    | fail_if_no_progress with_reducible refine State.Keeps.mk' ?_ rfl | split | dsimp only))

theorem execLpiWake_keeps {a x : State} (v0 : Cyc) (v1 : Nat) (h : a.Keeps x) : a.Bounds (execLpiWake v0 v1 x) := by
  unfold execLpiWake
  iterate 40 all_goals (try (first
    | with_reducible assumption | with_reducible refine nextOf_keeps ?_ | with_reducible refine State.Bounds.ite ?_ ?_
    | with_reducible apply State.at_keeps | with_reducible apply State.modBb_keeps
    | with_reducible refine State.Keeps.ite ?_ ?_ | (with_reducible refine State.Keeps.foldl ?_ ?_ _; intro _ _ _)
    | fail_if_no_progress with_reducible refine State.Keeps.mk' ?_ rfl | split | dsimp only))

theorem execBbTestEnd_keeps {a x : State} (v0 : Cyc) (v1 : Nat) (v2 : Nat) (h : a.Keeps x) :
    a.Bounds (execBbTestEnd v0 v1 v2 x) := by
  unfold execBbTestEnd
  iterate 40 all_goals (try (first
    | with_reducible assumption | with_reducible refine nextOf_keeps ?_ | with_reducible refine State.Bounds.ite ?_ ?_
    | with_reducible apply State.at_keeps | with_reducible apply State.modBb_keeps | with_reducible apply State.unlearn_keeps
    | with_reducible apply State.finalEvent_keeps | with_reducible refine State.Keeps.ite ?_ ?_
    | (with_reducible refine State.Keeps.foldl ?_ ?_ _; intro _ _ _)
    | fail_if_no_progress with_reducible refine State.Keeps.mk' ?_ rfl | split | dsimp only))

theorem execDramSweepDone_keeps {a x : State} (v0 : Cyc) (v1 : Nat) (v2 : List SweepLane) (h : a.Keeps x) :
    a.Bounds (execDramSweepDone v0 v1 v2 x) := by
  unfold execDramSweepDone
  iterate 40 all_goals (try (first
    | with_reducible assumption | with_reducible refine nextOf_keeps ?_ | with_reducible refine State.Bounds.ite ?_ ?_
    | with_reducible apply State.at_keeps | with_reducible apply State.modChan_keeps
    | with_reducible apply State.sweepEnd_keeps | with_reducible refine State.Keeps.ite ?_ ?_
    | (with_reducible refine State.Keeps.foldl ?_ ?_ _; intro _ _ _)
    | fail_if_no_progress with_reducible refine State.Keeps.mk' ?_ rfl | split | dsimp only))

theorem execDramRecalUnit_keeps {a x : State} (v0 : Cyc) (h : a.Keeps x) : a.Bounds (execDramRecalUnit v0 x) := by
  unfold execDramRecalUnit
  dsimp only
  have k := State.at_keeps v0 h
  generalize x.at v0 = y at k ⊢
  split
  · split
    · next hs => exact nextOf_keeps (State.startSweep_keeps _ _ (State.Keeps.mk' (State.bgUnit_keeps hs k) rfl))
    · exact nextOf_keeps k
  · exact nextOf_keeps k

theorem execFrequencyChangeStart_keeps {a x : State} (v0 : Cyc) (v1 : Nat) (h : a.Keeps x) :
    a.Bounds (execFrequencyChangeStart v0 v1 x) := by
  unfold execFrequencyChangeStart
  iterate 40 all_goals (try (first
    | with_reducible assumption | with_reducible refine nextOf_keeps ?_ | with_reducible refine State.Bounds.ite ?_ ?_
    | with_reducible apply State.at_keeps | with_reducible apply State.modChan_keeps
    | with_reducible refine State.Keeps.ite ?_ ?_ | (with_reducible refine State.Keeps.foldl ?_ ?_ _; intro _ _ _)
    | fail_if_no_progress with_reducible refine State.Keeps.mk' ?_ rfl | split | dsimp only))

theorem execFrequencySwitchDone_keeps {a x : State} (v0 : Cyc) (v1 : Nat) (h : a.Keeps x) :
    a.Bounds (execFrequencySwitchDone v0 v1 x) := by
  unfold execFrequencySwitchDone
  iterate 40 all_goals (try (first
    | with_reducible assumption | with_reducible refine nextOf_keeps ?_ | with_reducible refine State.Bounds.ite ?_ ?_
    | with_reducible apply State.at_keeps | with_reducible apply State.modChan_keeps
    | with_reducible apply State.retrain_keeps | with_reducible refine State.Keeps.ite ?_ ?_
    | (with_reducible refine State.Keeps.foldl ?_ ?_ _; intro _ _ _)
    | fail_if_no_progress with_reducible refine State.Keeps.mk' ?_ rfl | split | dsimp only))

theorem execRefreshDue_keeps {a x : State} (v0 : Cyc) (v1 : Nat) (h : a.Keeps x) : a.Bounds (execRefreshDue v0 v1 x) := by
  unfold execRefreshDue
  iterate 40 all_goals (try (first
    | with_reducible assumption | with_reducible refine nextOf_keeps ?_ | with_reducible refine State.Bounds.ite ?_ ?_
    | with_reducible apply State.at_keeps | with_reducible apply State.modChan_keeps | with_reducible apply State.tally_keeps
    | with_reducible refine State.Keeps.ite ?_ ?_ | (with_reducible refine State.Keeps.foldl ?_ ?_ _; intro _ _ _)
    | fail_if_no_progress with_reducible refine State.Keeps.mk' ?_ rfl | split | dsimp only))

theorem execRefpbIssue_keeps {a x : State} (v0 : Cyc) (v1 : Nat) (h : a.Keeps x) : a.Bounds (execRefpbIssue v0 v1 x) := by
  unfold execRefpbIssue
  iterate 40 all_goals (try (first
    | with_reducible assumption | with_reducible refine nextOf_keeps ?_ | with_reducible refine State.Bounds.ite ?_ ?_
    | with_reducible apply State.at_keeps | with_reducible apply State.modChan_keeps
    | with_reducible refine State.Keeps.ite ?_ ?_ | (with_reducible refine State.Keeps.foldl ?_ ?_ _; intro _ _ _)
    | fail_if_no_progress with_reducible refine State.Keeps.mk' ?_ rfl | split | dsimp only))

theorem execMr4Read_keeps {a x : State} (v0 : Cyc) (v1 : Nat) (v2 : Option Nat) (h : a.Keeps x) :
    a.Bounds (execMr4Read v0 v1 v2 x) := by
  unfold execMr4Read
  iterate 40 all_goals (try (first
    | with_reducible assumption | with_reducible refine nextOf_keeps ?_ | with_reducible refine State.Bounds.ite ?_ ?_
    | with_reducible apply State.at_keeps | with_reducible apply State.modChan_keeps
    | with_reducible apply State.failChannel_keeps | with_reducible refine State.Keeps.ite ?_ ?_
    | (with_reducible refine State.Keeps.foldl ?_ ?_ _; intro _ _ _)
    | fail_if_no_progress with_reducible refine State.Keeps.mk' ?_ rfl | split | dsimp only))

theorem execRowActivation_keeps {a x : State} (v0 : Cyc) (v1 : Nat) (v2 : Nat) (v3 : Nat) (v4 : Nat) (h : a.Keeps x) :
    a.Bounds (execRowActivation v0 v1 v2 v3 v4 x) := by
  unfold execRowActivation
  iterate 40 all_goals (try (first
    | with_reducible assumption | with_reducible refine nextOf_keeps ?_ | with_reducible refine State.Bounds.ite ?_ ?_
    | with_reducible apply State.at_keeps | with_reducible apply State.bwClear_keeps
    | with_reducible apply State.request_keeps | with_reducible apply State.modChan_keeps
    | with_reducible apply State.took_keeps | with_reducible apply State.tally_keeps
    | with_reducible apply State.breakwater_keeps | with_reducible refine State.Keeps.ite ?_ ?_
    | (with_reducible refine State.Keeps.foldl ?_ ?_ _; intro _ _ _)
    | fail_if_no_progress with_reducible refine State.Keeps.mk' ?_ rfl | split | dsimp only))

theorem execBreakwaterWindowClear_keeps {a x : State} (v0 : Cyc) (h : a.Keeps x) :
    a.Bounds (execBreakwaterWindowClear v0 x) := by
  unfold execBreakwaterWindowClear
  iterate 40 all_goals (try (first
    | with_reducible assumption | with_reducible refine nextOf_keeps ?_ | with_reducible refine State.Bounds.ite ?_ ?_
    | with_reducible apply State.at_keeps | with_reducible apply State.bwClear_keeps
    | with_reducible refine State.Keeps.ite ?_ ?_ | (with_reducible refine State.Keeps.foldl ?_ ?_ _; intro _ _ _)
    | fail_if_no_progress with_reducible refine State.Keeps.mk' ?_ rfl | split | dsimp only))

theorem execPowerDownEntry_keeps {a x : State} (v0 : Cyc) (v1 : Nat) (v2 : LowPower) (h : a.Keeps x) :
    a.Bounds (execPowerDownEntry v0 v1 v2 x) := by
  unfold execPowerDownEntry
  iterate 40 all_goals (try (first
    | with_reducible assumption | with_reducible refine nextOf_keeps ?_ | with_reducible refine State.Bounds.ite ?_ ?_
    | with_reducible apply State.at_keeps | with_reducible apply State.modChan_keeps
    | with_reducible apply State.selfRefresh_keeps | with_reducible refine State.Keeps.ite ?_ ?_
    | (with_reducible refine State.Keeps.foldl ?_ ?_ _; intro _ _ _)
    | fail_if_no_progress with_reducible refine State.Keeps.mk' ?_ rfl | split | dsimp only))

theorem execLowPowerExit_keeps {a x : State} (v0 : Cyc) (v1 : Nat) (h : a.Keeps x) : a.Bounds (execLowPowerExit v0 v1 x) := by
  unfold execLowPowerExit
  iterate 40 all_goals (try (first
    | with_reducible assumption | with_reducible refine nextOf_keeps ?_ | with_reducible refine State.Bounds.ite ?_ ?_
    | with_reducible apply State.at_keeps | with_reducible apply State.selfRefresh_keeps
    | with_reducible apply State.modChan_keeps | with_reducible refine State.Keeps.ite ?_ ?_
    | (with_reducible refine State.Keeps.foldl ?_ ?_ _; intro _ _ _)
    | fail_if_no_progress with_reducible refine State.Keeps.mk' ?_ rfl | split | dsimp only))

theorem execDramLineRead_keeps {a x : State} (v0 v1 v2 v3 v4) (h : a.Keeps x) : a.Bounds (execDramLineRead v0 v1 v2 v3 v4 x) := by
  unfold execDramLineRead
  iterate 40 all_goals (try (first
    | with_reducible assumption | with_reducible refine nextOf_keeps ?_ | with_reducible refine State.Bounds.ite ?_ ?_
    | with_reducible apply State.at_keeps | with_reducible apply State.request_keeps
    | with_reducible apply State.lineCorrected_keeps | with_reducible apply State.lineBad_keeps
    | with_reducible apply State.mergeBad_keeps | with_reducible apply State.stagingLost_keeps
    | with_reducible exact cardOf_keeps _
    | with_reducible refine State.Keeps.ite ?_ ?_ | (with_reducible refine State.Keeps.foldl ?_ ?_ _; intro _ _ _)
    | fail_if_no_progress with_reducible refine State.Keeps.mk' ?_ rfl | split | dsimp only))

theorem execPatrolScrubUnit_keeps {a x : State} (v0 : Cyc) (v1 : Nat) (v2 : List Nat) (h : a.Keeps x) :
    a.Bounds (execPatrolScrubUnit v0 v1 v2 x) := by
  unfold execPatrolScrubUnit
  dsimp only
  have k := State.at_keeps v0 h
  generalize x.at v0 = y at k ⊢
  split
  · split
    · exact nextOf_keeps k
    · next s hs =>
      refine nextOf_keeps (State.Keeps.mk' (State.bgDid_keeps _ ?_) rfl)
      have k1 := State.otherMoved_keeps 1048576 (State.request_keeps y.scrubTarget.1 (State.bgUnit_keeps hs k))
      exact State.Keeps.ite (State.Keeps.foldl (fun _ _ hy => State.lineBad_keeps _ _ _ hy)
        (State.lineCorrected_keeps _ _ k1) _) k1
  · exact nextOf_keeps k

theorem execStoreTokenRefill_keeps {a x : State} (v0 : Cyc) (h : a.Keeps x) : a.Bounds (execStoreTokenRefill v0 x) := by
  unfold execStoreTokenRefill
  iterate 40 all_goals (try (first
    | with_reducible assumption | with_reducible refine nextOf_keeps ?_ | with_reducible refine State.Bounds.ite ?_ ?_
    | with_reducible apply State.at_keeps | with_reducible refine State.Keeps.ite ?_ ?_
    | (with_reducible refine State.Keeps.foldl ?_ ?_ _; intro _ _ _)
    | fail_if_no_progress with_reducible refine State.Keeps.mk' ?_ rfl | split | dsimp only))

theorem execJournalCompactionUnit_keeps {a x : State} (v0) (h : a.Keeps x) : a.Bounds (execJournalCompactionUnit v0 x) := by
  unfold execJournalCompactionUnit
  iterate 40 all_goals (try (first
    | with_reducible assumption | with_reducible refine nextOf_keeps ?_ | with_reducible refine State.Bounds.ite ?_ ?_
    | with_reducible apply State.at_keeps | with_reducible apply State.pushTxn_keeps
    | with_reducible apply State.sliceTaken_keeps | with_reducible exact cardOf_keeps _
    | with_reducible refine State.Keeps.ite ?_ ?_ | (with_reducible refine State.Keeps.foldl ?_ ?_ _; intro _ _ _)
    | fail_if_no_progress with_reducible refine State.Keeps.mk' ?_ rfl | split | dsimp only))

theorem execNvmWindowRetry_keeps {a x : State} (v0 : Cyc) (h : a.Keeps x) : a.Bounds (execNvmWindowRetry v0 x) := by
  unfold execNvmWindowRetry
  iterate 40 all_goals (try (first
    | with_reducible assumption | with_reducible refine nextOf_keeps ?_ | with_reducible refine State.Bounds.ite ?_ ?_
    | with_reducible apply State.at_keeps | with_reducible apply State.fallbackRetry_keeps
    | with_reducible apply State.beginHead_keeps | with_reducible refine State.Keeps.ite ?_ ?_
    | (with_reducible refine State.Keeps.foldl ?_ ?_ _; intro _ _ _)
    | fail_if_no_progress with_reducible refine State.Keeps.mk' ?_ rfl | split | dsimp only))

theorem execSealDebounced_keeps {a x : State} (v0 : Cyc) (v1 : Bool) (h : a.Keeps x) :
    a.Bounds (execSealDebounced v0 v1 x) := by
  unfold execSealDebounced
  iterate 40 all_goals (try (first
    | with_reducible assumption | with_reducible refine nextOf_keeps ?_ | with_reducible refine State.Bounds.ite ?_ ?_
    | with_reducible apply State.at_keeps | with_reducible apply State.sealChange_keeps
    | with_reducible apply State.notify_keeps | with_reducible refine State.Keeps.ite ?_ ?_
    | (with_reducible refine State.Keeps.foldl ?_ ?_ _; intro _ _ _)
    | fail_if_no_progress with_reducible refine State.Keeps.mk' ?_ rfl | split | dsimp only))

theorem execRailUpStep_keeps {a x : State} (v0 : Cyc) (h : a.Keeps x) : a.Bounds (execRailUpStep v0 x) := by
  unfold execRailUpStep
  iterate 40 all_goals (try (first
    | with_reducible assumption | with_reducible refine nextOf_keeps ?_ | with_reducible refine State.Bounds.ite ?_ ?_
    | with_reducible apply State.at_keeps | with_reducible apply State.modRail_keeps
    | with_reducible refine State.Keeps.ite ?_ ?_ | (with_reducible refine State.Keeps.foldl ?_ ?_ _; intro _ _ _)
    | fail_if_no_progress with_reducible refine State.Keeps.mk' ?_ rfl | split | dsimp only))

theorem execRailDownStep_keeps {a x : State} (v0 : Cyc) (h : a.Keeps x) : a.Bounds (execRailDownStep v0 x) := by
  unfold execRailDownStep
  iterate 40 all_goals (try (first
    | with_reducible assumption | with_reducible refine nextOf_keeps ?_ | with_reducible refine State.Bounds.ite ?_ ?_
    | with_reducible apply State.at_keeps | with_reducible apply State.modRail_keeps
    | with_reducible apply State.endSeqs_keeps | with_reducible refine State.Keeps.ite ?_ ?_
    | (with_reducible refine State.Keeps.foldl ?_ ?_ _; intro _ _ _)
    | fail_if_no_progress with_reducible refine State.Keeps.mk' ?_ rfl | split | dsimp only))

theorem execRailPgTimeout_keeps {a x : State} (v0 : Cyc) (h : a.Keeps x) : a.Bounds (execRailPgTimeout v0 x) := by
  unfold execRailPgTimeout
  iterate 40 all_goals (try (first
    | with_reducible assumption | with_reducible refine nextOf_keeps ?_ | with_reducible refine State.Bounds.ite ?_ ?_
    | with_reducible apply State.at_keeps | with_reducible apply State.wait_keeps | with_reducible apply State.railFault_keeps
    | with_reducible refine State.Keeps.ite ?_ ?_ | (with_reducible refine State.Keeps.foldl ?_ ?_ _; intro _ _ _)
    | fail_if_no_progress with_reducible refine State.Keeps.mk' ?_ rfl | split | dsimp only))

theorem execRailPgLost_keeps {a x : State} (v0 : Cyc) (v1 : Nat) (h : a.Keeps x) : a.Bounds (execRailPgLost v0 v1 x) := by
  unfold execRailPgLost
  iterate 40 all_goals (try (first
    | with_reducible assumption | with_reducible refine nextOf_keeps ?_ | with_reducible refine State.Bounds.ite ?_ ?_
    | with_reducible apply State.at_keeps | with_reducible apply State.modRail_keeps
    | with_reducible apply State.railFault_keeps | with_reducible refine State.Keeps.ite ?_ ?_
    | (with_reducible refine State.Keeps.foldl ?_ ?_ _; intro _ _ _)
    | fail_if_no_progress with_reducible refine State.Keeps.mk' ?_ rfl | split | dsimp only))

theorem execRailRetry_keeps {a x : State} (v0 : Cyc) (h : a.Keeps x) : a.Bounds (execRailRetry v0 x) := by
  unfold execRailRetry
  iterate 40 all_goals (try (first
    | with_reducible assumption | with_reducible refine nextOf_keeps ?_ | with_reducible refine State.Bounds.ite ?_ ?_
    | with_reducible apply State.at_keeps | with_reducible apply State.startPartSeq_keeps
    | with_reducible refine State.Keeps.ite ?_ ?_ | (with_reducible refine State.Keeps.foldl ?_ ?_ _; intro _ _ _)
    | fail_if_no_progress with_reducible refine State.Keeps.mk' ?_ rfl | split | dsimp only))

theorem execAvsCriticalMargin_keeps {a x : State} (v0 v1) (h : a.Keeps x) : a.Bounds (execAvsCriticalMargin v0 v1 x) := by
  unfold execAvsCriticalMargin
  iterate 40 all_goals (try (first
    | with_reducible assumption | with_reducible refine nextOf_keeps ?_ | with_reducible refine State.Bounds.ite ?_ ?_
    | with_reducible apply State.at_keeps | with_reducible apply State.settleVcore_keeps
    | with_reducible apply State.floor_keeps | with_reducible apply State.setVcore_keeps
    | with_reducible exact cardOf_keeps _ | with_reducible refine State.Keeps.ite ?_ ?_
    | (with_reducible refine State.Keeps.foldl ?_ ?_ _; intro _ _ _)
    | fail_if_no_progress with_reducible refine State.Keeps.mk' ?_ rfl | split | dsimp only))

theorem execShutdownHalt_keeps {a x : State} (v0) (h : a.Keeps x) : a.Bounds (execShutdownHalt v0 x) := by
  unfold execShutdownHalt
  iterate 40 all_goals (try (first
    | with_reducible assumption | with_reducible refine nextOf_keeps ?_ | with_reducible refine State.Bounds.ite ?_ ?_
    | with_reducible apply State.at_keeps | with_reducible apply State.finishRecord_keeps
    | with_reducible exact cardOf_keeps _ | with_reducible refine State.Keeps.ite ?_ ?_
    | (with_reducible refine State.Keeps.foldl ?_ ?_ _; intro _ _ _)
    | fail_if_no_progress with_reducible refine State.Keeps.mk' ?_ rfl | split | dsimp only))

theorem execHousekeepingRoundStart_keeps {a x : State} (v0 : Cyc) (h : a.Keeps x) :
    a.Bounds (execHousekeepingRoundStart v0 x) := by
  unfold execHousekeepingRoundStart
  iterate 40 all_goals (try (first
    | with_reducible assumption | with_reducible refine nextOf_keeps ?_ | with_reducible refine State.Bounds.ite ?_ ?_
    | with_reducible apply State.at_keeps | with_reducible refine State.Keeps.ite ?_ ?_
    | (with_reducible refine State.Keeps.foldl ?_ ?_ _; intro _ _ _)
    | fail_if_no_progress with_reducible refine State.Keeps.mk' ?_ rfl | split | dsimp only))

theorem execFasciaUpdateStart_keeps {a x : State} (v0 : Cyc) (h : a.Keeps x) : a.Bounds (execFasciaUpdateStart v0 x) := by
  unfold execFasciaUpdateStart
  iterate 40 all_goals (try (first
    | with_reducible assumption | with_reducible refine nextOf_keeps ?_ | with_reducible refine State.Bounds.ite ?_ ?_
    | with_reducible apply State.at_keeps | with_reducible apply State.fasciaStart_keeps
    | with_reducible refine State.Keeps.ite ?_ ?_ | (with_reducible refine State.Keeps.foldl ?_ ?_ _; intro _ _ _)
    | fail_if_no_progress with_reducible refine State.Keeps.mk' ?_ rfl | split | dsimp only))

theorem execFasciaFrame_keeps {a x : State} (v0 : Cyc) (h : a.Keeps x) : a.Bounds (execFasciaFrame v0 x) := by
  unfold execFasciaFrame
  iterate 40 all_goals (try (first
    | with_reducible assumption | with_reducible refine nextOf_keeps ?_ | with_reducible refine State.Bounds.ite ?_ ?_
    | with_reducible apply State.at_keeps | with_reducible apply State.fasciaClosing_keeps
    | with_reducible refine State.Keeps.ite ?_ ?_ | (with_reducible refine State.Keeps.foldl ?_ ?_ _; intro _ _ _)
    | fail_if_no_progress with_reducible refine State.Keeps.mk' ?_ rfl | split | dsimp only))

theorem execHousekeepingRoundEnd_keeps {a x : State} (v0 v1) (h : a.Keeps x) : a.Bounds (execHousekeepingRoundEnd v0 v1 x) := by
  unfold execHousekeepingRoundEnd
  iterate 40 all_goals (try (first
    | with_reducible assumption | with_reducible refine nextOf_keeps ?_ | with_reducible refine State.Bounds.ite ?_ ?_
    | with_reducible apply State.at_keeps | with_reducible apply State.roundEnd_keeps
    | with_reducible apply State.logLines_keeps | with_reducible apply State.sealRetry_keeps
    | with_reducible apply State.fasciaRange_keeps | with_reducible exact cardOf_keeps _
    | with_reducible refine State.Keeps.ite ?_ ?_ | (with_reducible refine State.Keeps.foldl ?_ ?_ _; intro _ _ _)
    | fail_if_no_progress with_reducible refine State.Keeps.mk' ?_ rfl | split | dsimp only))

theorem execNackDue_keeps {a x : State} (v0 : Cyc) (v1 : Nat) (h : a.Keeps x) : a.Bounds (execNackDue v0 v1 x) := by
  unfold execNackDue
  iterate 40 all_goals (try (first
    | with_reducible assumption | with_reducible refine nextOf_keeps ?_ | with_reducible refine State.Bounds.ite ?_ ?_
    | with_reducible apply State.at_keeps | with_reducible apply State.reports_keeps
    | with_reducible apply State.sendNack_keeps | with_reducible apply State.tailProbe_keeps
    | with_reducible refine State.Keeps.ite ?_ ?_ | (with_reducible refine State.Keeps.foldl ?_ ?_ _; intro _ _ _)
    | fail_if_no_progress with_reducible refine State.Keeps.mk' ?_ rfl | split | dsimp only))

theorem execRepairReqSend_keeps {a x : State} (v0 : Cyc) (v1 : Nat) (h : a.Keeps x) :
    a.Bounds (execRepairReqSend v0 v1 x) := by
  unfold execRepairReqSend
  iterate 40 all_goals (try (first
    | with_reducible assumption | with_reducible refine nextOf_keeps ?_ | with_reducible refine State.Bounds.ite ?_ ?_
    | with_reducible apply State.at_keeps | with_reducible apply State.reports_keeps
    | with_reducible apply State.sendRepairReq_keeps | with_reducible apply State.tailProbe_keeps
    | with_reducible refine State.Keeps.ite ?_ ?_ | (with_reducible refine State.Keeps.foldl ?_ ?_ _; intro _ _ _)
    | fail_if_no_progress with_reducible refine State.Keeps.mk' ?_ rfl | split | dsimp only))

theorem execRankDead_keeps {a x : State} (v0 : Cyc) (v1 : Nat) (h : a.Keeps x) : a.Bounds (execRankDead v0 v1 x) := by
  unfold execRankDead
  iterate 40 all_goals (try (first
    | with_reducible assumption | with_reducible refine nextOf_keeps ?_ | with_reducible refine State.Bounds.ite ?_ ?_
    | with_reducible apply State.at_keeps | with_reducible refine State.Keeps.ite ?_ ?_
    | (with_reducible refine State.Keeps.foldl ?_ ?_ _; intro _ _ _)
    | fail_if_no_progress with_reducible refine State.Keeps.mk' ?_ rfl | split | dsimp only))

theorem execGroupJoined_keeps {a x : State} (v0 : Cyc) (h : a.Keeps x) : a.Bounds (execGroupJoined v0 x) := by
  unfold execGroupJoined
  iterate 40 all_goals (try (first
    | with_reducible assumption | with_reducible refine nextOf_keeps ?_ | with_reducible refine State.Bounds.ite ?_ ?_
    | with_reducible apply State.at_keeps | with_reducible refine State.Keeps.ite ?_ ?_
    | (with_reducible refine State.Keeps.foldl ?_ ?_ _; intro _ _ _)
    | fail_if_no_progress with_reducible refine State.Keeps.mk' ?_ rfl | split | dsimp only))

theorem execGroupCommitSend_keeps {a x : State} (v0 : Cyc) (h : a.Keeps x) : a.Bounds (execGroupCommitSend v0 x) := by
  unfold execGroupCommitSend
  iterate 40 all_goals (try (first
    | with_reducible assumption | with_reducible refine nextOf_keeps ?_ | with_reducible refine State.Bounds.ite ?_ ?_
    | with_reducible apply State.at_keeps | with_reducible apply State.commitMoor_keeps
    | with_reducible refine State.Keeps.ite ?_ ?_ | (with_reducible refine State.Keeps.foldl ?_ ?_ _; intro _ _ _)
    | fail_if_no_progress with_reducible refine State.Keeps.mk' ?_ rfl | split | dsimp only))

theorem execImageVerifyDone_keeps {a x : State} (v0 : Cyc) (h : a.Keeps x) : a.Bounds (execImageVerifyDone v0 x) := by
  unfold execImageVerifyDone
  iterate 40 all_goals (try (first
    | with_reducible assumption | with_reducible refine nextOf_keeps ?_ | with_reducible refine State.Bounds.ite ?_ ?_
    | with_reducible apply State.at_keeps | with_reducible apply State.setSlot_keeps
    | with_reducible apply State.finalEvent_keeps | with_reducible refine State.Keeps.ite ?_ ?_
    | (with_reducible refine State.Keeps.foldl ?_ ?_ _; intro _ _ _)
    | fail_if_no_progress with_reducible refine State.Keeps.mk' ?_ rfl | split | dsimp only))

theorem execImageReady_keeps {a x : State} (v0 : Cyc) (h : a.Keeps x) : a.Bounds (execImageReady v0 x) := by
  unfold execImageReady
  iterate 40 all_goals (try (first
    | with_reducible assumption | with_reducible refine nextOf_keeps ?_ | with_reducible refine State.Bounds.ite ?_ ?_
    | with_reducible apply State.at_keeps | with_reducible refine State.Keeps.ite ?_ ?_
    | (with_reducible refine State.Keeps.foldl ?_ ?_ _; intro _ _ _)
    | fail_if_no_progress with_reducible refine State.Keeps.mk' ?_ rfl | split | dsimp only))

theorem execHealthConfirm_keeps {a x : State} (v0 : Cyc) (h : a.Keeps x) : a.Bounds (execHealthConfirm v0 x) := by
  unfold execHealthConfirm
  iterate 40 all_goals (try (first
    | with_reducible assumption | with_reducible refine nextOf_keeps ?_ | with_reducible refine State.Bounds.ite ?_ ?_
    | with_reducible apply State.at_keeps | with_reducible apply State.pushTxn_keeps
    | with_reducible refine State.Keeps.ite ?_ ?_ | (with_reducible refine State.Keeps.foldl ?_ ?_ _; intro _ _ _)
    | fail_if_no_progress with_reducible refine State.Keeps.mk' ?_ rfl | split | dsimp only))

theorem execHealthDeadline_keeps {a x : State} (v0 : Cyc) (h : a.Keeps x) : a.Bounds (execHealthDeadline v0 x) := by
  unfold execHealthDeadline
  iterate 40 all_goals (try (first
    | with_reducible assumption | with_reducible refine nextOf_keeps ?_ | with_reducible refine State.Bounds.ite ?_ ?_
    | with_reducible apply State.at_keeps | with_reducible apply State.trialBootEnds_keeps
    | with_reducible refine State.Keeps.ite ?_ ?_ | (with_reducible refine State.Keeps.foldl ?_ ?_ _; intro _ _ _)
    | fail_if_no_progress with_reducible refine State.Keeps.mk' ?_ rfl | split | dsimp only))

theorem execPilotWatchdogExpiry_keeps {a x : State} (v0 : Cyc) (h : a.Keeps x) : a.Bounds (execPilotWatchdogExpiry v0 x) := by
  unfold execPilotWatchdogExpiry
  iterate 40 all_goals (try (first
    | with_reducible assumption | with_reducible refine nextOf_keeps ?_ | with_reducible refine State.Bounds.ite ?_ ?_
    | with_reducible apply State.at_keeps | with_reducible apply State.pilotStops_keeps
    | with_reducible apply State.trialBootEnds_keeps | with_reducible apply State.slotsBack_keeps
    | with_reducible apply State.endActivation_keeps | with_reducible apply State.tally_keeps
    | with_reducible refine State.Keeps.ite ?_ ?_ | (with_reducible refine State.Keeps.foldl ?_ ?_ _; intro _ _ _)
    | fail_if_no_progress with_reducible refine State.Keeps.mk' ?_ rfl | split | dsimp only))

theorem execMramScanDone_keeps {a x : State} (v0 : Cyc) (h : a.Keeps x) : a.Bounds (execMramScanDone v0 x) := by
  unfold execMramScanDone
  iterate 40 all_goals (try (first
    | with_reducible assumption | with_reducible refine nextOf_keeps ?_ | with_reducible refine State.Bounds.ite ?_ ?_
    | with_reducible apply State.at_keeps | with_reducible apply State.tallyRecords_keeps
    | with_reducible apply State.finalEvent_keeps | with_reducible refine State.Keeps.ite ?_ ?_
    | (with_reducible refine State.Keeps.foldl ?_ ?_ _; intro _ _ _)
    | fail_if_no_progress with_reducible refine State.Keeps.mk' ?_ rfl | split | dsimp only))

theorem execWakePinExport_keeps {a x : State} (v0 : Cyc) (h : a.Keeps x) : a.Bounds (execWakePinExport v0 x) := by
  unfold execWakePinExport
  iterate 40 all_goals (try (first
    | with_reducible assumption | with_reducible refine nextOf_keeps ?_ | with_reducible refine State.Bounds.ite ?_ ?_
    | with_reducible apply State.at_keeps | with_reducible apply State.wakeBoundary_keeps
    | with_reducible apply State.tally_keeps | with_reducible refine State.Keeps.ite ?_ ?_
    | (with_reducible refine State.Keeps.foldl ?_ ?_ _; intro _ _ _)
    | fail_if_no_progress with_reducible refine State.Keeps.mk' ?_ rfl | split | dsimp only))

theorem execLineStart_keeps {a x : State} (v0 : Cyc) (h : a.Keeps x) : a.Bounds (execLineStart v0 x) := by
  unfold execLineStart
  iterate 40 all_goals (try (first
    | with_reducible assumption | with_reducible refine nextOf_keeps ?_ | with_reducible refine State.Bounds.ite ?_ ?_
    | with_reducible apply State.at_keeps | with_reducible apply State.beginLine_keeps
    | with_reducible refine State.Keeps.ite ?_ ?_ | (with_reducible refine State.Keeps.foldl ?_ ?_ _; intro _ _ _)
    | fail_if_no_progress with_reducible refine State.Keeps.mk' ?_ rfl | split | dsimp only))

theorem execOverlayPrefetchStart_keeps {a x : State} (v0 : Cyc) (h : a.Keeps x) :
    a.Bounds (execOverlayPrefetchStart v0 x) := by
  unfold execOverlayPrefetchStart
  iterate 40 all_goals (try (first
    | with_reducible assumption | with_reducible refine nextOf_keeps ?_ | with_reducible refine State.Bounds.ite ?_ ?_
    | with_reducible apply State.at_keeps | with_reducible apply State.reportSlack_keeps
    | with_reducible refine State.Keeps.ite ?_ ?_ | (with_reducible refine State.Keeps.foldl ?_ ?_ _; intro _ _ _)
    | fail_if_no_progress with_reducible refine State.Keeps.mk' ?_ rfl | split | dsimp only))

theorem execOverlayFetchReturn_keeps {a x : State} (v0 v1 v2 v3) (h : a.Keeps x) : a.Bounds (execOverlayFetchReturn v0 v1 v2 v3 x) := by
  unfold execOverlayFetchReturn
  iterate 40 all_goals (try (first
    | with_reducible assumption | with_reducible refine nextOf_keeps ?_ | with_reducible refine State.Bounds.ite ?_ ?_
    | with_reducible apply State.at_keeps | with_reducible apply State.starved_keeps
    | with_reducible apply State.modSector_keeps | with_reducible apply State.reportSlack_keeps
    | with_reducible apply State.renewLine_keeps | with_reducible exact cardOf_keeps _
    | with_reducible refine State.Keeps.ite ?_ ?_ | (with_reducible refine State.Keeps.foldl ?_ ?_ _; intro _ _ _)
    | fail_if_no_progress with_reducible refine State.Keeps.mk' ?_ rfl | split | dsimp only))

theorem execOverlayUnderrun_keeps {a x : State} (v0 : Cyc) (v1 : Nat) (v2 : Nat) (h : a.Keeps x) :
    a.Bounds (execOverlayUnderrun v0 v1 v2 x) := by
  unfold execOverlayUnderrun
  iterate 40 all_goals (try (first
    | with_reducible assumption | with_reducible refine nextOf_keeps ?_ | with_reducible refine State.Bounds.ite ?_ ?_
    | with_reducible apply State.at_keeps | with_reducible apply State.starved_keeps
    | with_reducible refine State.Keeps.ite ?_ ?_ | (with_reducible refine State.Keeps.foldl ?_ ?_ _; intro _ _ _)
    | fail_if_no_progress with_reducible refine State.Keeps.mk' ?_ rfl | split | dsimp only))

theorem execBacklightZoneRise_keeps {a x : State} (v0 : Cyc) (v1 : Nat) (h : a.Keeps x) :
    a.Bounds (execBacklightZoneRise v0 v1 x) := by
  unfold execBacklightZoneRise
  iterate 40 all_goals (try (first
    | with_reducible assumption | with_reducible refine nextOf_keeps ?_ | with_reducible refine State.Bounds.ite ?_ ?_
    | with_reducible apply State.at_keeps | with_reducible refine State.Keeps.ite ?_ ?_
    | (with_reducible refine State.Keeps.foldl ?_ ?_ _; intro _ _ _)
    | fail_if_no_progress with_reducible refine State.Keeps.mk' ?_ rfl | split | dsimp only))

theorem execBacklightZoneFall_keeps {a x : State} (v0 : Cyc) (v1 : Nat) (h : a.Keeps x) :
    a.Bounds (execBacklightZoneFall v0 v1 x) := by
  unfold execBacklightZoneFall
  iterate 40 all_goals (try (first
    | with_reducible assumption | with_reducible refine nextOf_keeps ?_ | with_reducible refine State.Bounds.ite ?_ ?_
    | with_reducible apply State.at_keeps | with_reducible refine State.Keeps.ite ?_ ?_
    | (with_reducible refine State.Keeps.foldl ?_ ?_ _; intro _ _ _)
    | fail_if_no_progress with_reducible refine State.Keeps.mk' ?_ rfl | split | dsimp only))

theorem execTeEdge_keeps {a x : State} (t : Cyc) (p : Nat) (h : a.Keeps x) : a.Bounds (execTeEdge t p x) := by
  unfold execTeEdge
  have k := State.at_keeps t h
  generalize x.at t = y at k
  extract_lets s _ s1
  refine State.Bounds.ite (nextOf_keeps k) ?_
  have k1 : a.Keeps s1 := by
    show a.Keeps (if fifoRoom (nth s.time.te p []) = true then _ else _)
    split
    · next hr =>
      exact ⟨k.queue, k.buffers, k.clock, k.events, k.counts, fun w => ⟨(k.fifos w).1, fifo_append (k.fifos w).2 hr⟩⟩
    · exact State.captureLost_keeps (State.Keeps.mk' k rfl)
  clear_value s1
  split
  · exact nextOf_keeps (State.Keeps.ite k1 (State.modSector_keeps _ _ k1))
  · exact nextOf_keeps k1

theorem execTeWindowEnd_keeps {a x : State} (t : Cyc) (p : Nat) (h : a.Keeps x) : a.Bounds (execTeWindowEnd t p x) := by
  unfold execTeWindowEnd
  have k := State.at_keeps t h
  generalize x.at t = y at k
  dsimp only
  split
  · refine State.Bounds.ite (nextOf_keeps k) (nextOf_keeps ?_)
    have k1 : a.Keeps { y with time := { y.time with te := modAt y.time.te p (fun _ => []) } } :=
      ⟨k.queue, k.buffers, k.clock, k.events, k.counts,
       fun w => ⟨(k.fifos w).1, modAt_forall (k.fifos w).2 (fun _ _ => Nat.zero_le _)⟩⟩
    have k2 := fun f => State.modSector_keeps p f k1
    exact State.Keeps.ite (k2 _) (State.tally_keeps _ (State.modSector_keeps _ _ (k2 _)))
  · exact nextOf_keeps k

theorem execBlankingWindow_keeps {a x : State} (v0 : Cyc) (v1 : Nat) (h : a.Keeps x) :
    a.Bounds (execBlankingWindow v0 v1 x) := by
  unfold execBlankingWindow
  iterate 40 all_goals (try (first
    | with_reducible assumption | with_reducible refine nextOf_keeps ?_ | with_reducible refine State.Bounds.ite ?_ ?_
    | with_reducible apply State.at_keeps | with_reducible apply State.serveWindow_keeps
    | with_reducible refine State.Keeps.ite ?_ ?_ | (with_reducible refine State.Keeps.foldl ?_ ?_ _; intro _ _ _)
    | fail_if_no_progress with_reducible refine State.Keeps.mk' ?_ rfl | split | dsimp only))

theorem execSceneCut_keeps {a x : State} (v0 : Cyc) (h : a.Keeps x) : a.Bounds (execSceneCut v0 x) := by
  unfold execSceneCut
  iterate 40 all_goals (try (first
    | with_reducible assumption | with_reducible refine nextOf_keeps ?_ | with_reducible refine State.Bounds.ite ?_ ?_
    | with_reducible apply State.at_keeps | with_reducible apply State.takeCut_keeps
    | with_reducible refine State.Keeps.ite ?_ ?_ | (with_reducible refine State.Keeps.foldl ?_ ?_ _; intro _ _ _)
    | fail_if_no_progress with_reducible refine State.Keeps.mk' ?_ rfl | split | dsimp only))

theorem execPlanComplete_keeps {a x : State} (v0 : Cyc) (h : a.Keeps x) : a.Bounds (execPlanComplete v0 x) := by
  unfold execPlanComplete
  iterate 40 all_goals (try (first
    | with_reducible assumption | with_reducible refine nextOf_keeps ?_ | with_reducible refine State.Bounds.ite ?_ ?_
    | with_reducible apply State.at_keeps | with_reducible refine State.Keeps.ite ?_ ?_
    | (with_reducible refine State.Keeps.foldl ?_ ?_ _; intro _ _ _)
    | fail_if_no_progress with_reducible refine State.Keeps.mk' ?_ rfl | split | dsimp only))

theorem execTideMark_keeps {a x : State} (v0 : Cyc) (h : a.Keeps x) : a.Bounds (execTideMark v0 x) := by
  unfold execTideMark
  iterate 40 all_goals (try (first
    | with_reducible assumption | with_reducible refine nextOf_keeps ?_ | with_reducible refine State.Bounds.ite ?_ ?_
    | with_reducible apply State.at_keeps | with_reducible apply State.takeTide_keeps
    | with_reducible refine State.Keeps.ite ?_ ?_ | (with_reducible refine State.Keeps.foldl ?_ ?_ _; intro _ _ _)
    | fail_if_no_progress with_reducible refine State.Keeps.mk' ?_ rfl | split | dsimp only))

theorem execCommitLatch_keeps {a x : State} (v0 : Cyc) (h : a.Keeps x) : a.Bounds (execCommitLatch v0 x) := by
  unfold execCommitLatch
  iterate 40 all_goals (try (first
    | with_reducible assumption | with_reducible refine nextOf_keeps ?_ | with_reducible refine State.Bounds.ite ?_ ?_
    | with_reducible apply State.at_keeps | with_reducible apply State.takeLatch_keeps
    | with_reducible refine State.Keeps.ite ?_ ?_ | (with_reducible refine State.Keeps.foldl ?_ ?_ _; intro _ _ _)
    | fail_if_no_progress with_reducible refine State.Keeps.mk' ?_ rfl | split | dsimp only))

theorem execQuaySpill_keeps {a x : State} (v0 : Cyc) (h : a.Keeps x) : a.Bounds (execQuaySpill v0 x) := by
  unfold execQuaySpill
  iterate 40 all_goals (try (first
    | with_reducible assumption | with_reducible refine nextOf_keeps ?_ | with_reducible refine State.Bounds.ite ?_ ?_
    | with_reducible apply State.at_keeps | with_reducible apply State.spill_keeps
    | with_reducible refine State.Keeps.ite ?_ ?_ | (with_reducible refine State.Keeps.foldl ?_ ?_ _; intro _ _ _)
    | fail_if_no_progress with_reducible refine State.Keeps.mk' ?_ rfl | split | dsimp only))

theorem execResetRelease_keeps {a x : State} (v0 v1) (h : a.Keeps x) : a.Bounds (execResetRelease v0 v1 x) := by
  unfold execResetRelease
  iterate 40 all_goals (try (first
    | with_reducible assumption | with_reducible refine nextOf_keeps ?_ | with_reducible refine State.Bounds.ite ?_ ?_
    | with_reducible apply State.at_keeps | with_reducible apply State.takeSecurity_keeps
    | with_reducible exact cardOf_keeps _ | with_reducible refine State.Keeps.ite ?_ ?_
    | (with_reducible refine State.Keeps.foldl ?_ ?_ _; intro _ _ _)
    | fail_if_no_progress with_reducible refine State.Keeps.mk' ?_ rfl | split | dsimp only))

theorem execResetAssert_keeps {a x : State} (v0 : Cyc) (v1 : ResetCause) (h : a.Keeps x) :
    a.Bounds (execResetAssert v0 v1 x) := by
  unfold execResetAssert
  iterate 40 all_goals (try (first
    | with_reducible assumption | with_reducible refine nextOf_keeps ?_ | with_reducible refine State.Bounds.ite ?_ ?_
    | with_reducible apply State.at_keeps | with_reducible apply State.finishRecord_keeps
    | with_reducible apply State.intoReset_keeps | with_reducible refine State.Keeps.ite ?_ ?_
    | (with_reducible refine State.Keeps.foldl ?_ ?_ _; intro _ _ _)
    | fail_if_no_progress with_reducible refine State.Keeps.mk' ?_ rfl | split | dsimp only))

theorem execSupplyRemoved_keeps {a x : State} (v0 : Cyc) (h : a.Keeps x) : a.Bounds (execSupplyRemoved v0 x) := by
  unfold execSupplyRemoved
  iterate 40 all_goals (try (first
    | with_reducible assumption | with_reducible refine nextOf_keeps ?_ | with_reducible refine State.Bounds.ite ?_ ?_
    | with_reducible apply State.at_keeps | with_reducible apply State.tear_keeps | with_reducible apply State.intoReset_keeps
    | with_reducible refine State.Keeps.ite ?_ ?_ | (with_reducible refine State.Keeps.foldl ?_ ?_ _; intro _ _ _)
    | fail_if_no_progress with_reducible refine State.Keeps.mk' ?_ rfl | split | dsimp only))

theorem execRestartReset_keeps {a x : State} (v0 : Cyc) (h : a.Keeps x) : a.Bounds (execRestartReset v0 x) := by
  unfold execRestartReset
  iterate 40 all_goals (try (first
    | with_reducible assumption | with_reducible refine nextOf_keeps ?_ | with_reducible refine State.Bounds.ite ?_ ?_
    | with_reducible apply State.at_keeps | with_reducible apply State.finishRecord_keeps
    | with_reducible apply State.intoReset_keeps | with_reducible refine State.Keeps.ite ?_ ?_
    | (with_reducible refine State.Keeps.foldl ?_ ?_ _; intro _ _ _)
    | fail_if_no_progress with_reducible refine State.Keeps.mk' ?_ rfl | split | dsimp only))

theorem execSramTestDone_keeps {a x : State} (v0 : Cyc) (v1 : Bool) (v2 : Bool) (h : a.Keeps x) :
    a.Bounds (execSramTestDone v0 v1 v2 x) := by
  unfold execSramTestDone
  iterate 40 all_goals (try (first
    | with_reducible assumption | with_reducible refine nextOf_keeps ?_ | with_reducible refine State.Bounds.ite ?_ ?_
    | with_reducible apply State.at_keeps | with_reducible apply State.beginSlot_keeps
    | with_reducible refine State.Keeps.ite ?_ ?_ | (with_reducible refine State.Keeps.foldl ?_ ?_ _; intro _ _ _)
    | fail_if_no_progress with_reducible refine State.Keeps.mk' ?_ rfl | split | dsimp only))

theorem execRecoveryPresenceSample_keeps {a x : State} (v0 : Cyc) (h : a.Keeps x) :
    a.Bounds (execRecoveryPresenceSample v0 x) := by
  unfold execRecoveryPresenceSample
  iterate 40 all_goals (try (first
    | with_reducible assumption | with_reducible refine nextOf_keeps ?_ | with_reducible refine State.Bounds.ite ?_ ?_
    | with_reducible apply State.at_keeps | with_reducible apply State.beginSlot_keeps
    | with_reducible refine State.Keeps.ite ?_ ?_ | (with_reducible refine State.Keeps.foldl ?_ ?_ _; intro _ _ _)
    | fail_if_no_progress with_reducible refine State.Keeps.mk' ?_ rfl | split | dsimp only))

theorem execSlotCheckDone_keeps {a x : State} (v0 : Cyc) (h : a.Keeps x) : a.Bounds (execSlotCheckDone v0 x) := by
  unfold execSlotCheckDone
  iterate 40 all_goals (try (first
    | with_reducible assumption | with_reducible refine nextOf_keeps ?_ | with_reducible refine State.Bounds.ite ?_ ?_
    | with_reducible apply State.at_keeps | with_reducible apply State.bootPassed_keeps
    | with_reducible apply State.bootFailed_keeps | with_reducible apply State.activationCheck_keeps
    | with_reducible refine State.Keeps.ite ?_ ?_ | (with_reducible refine State.Keeps.foldl ?_ ?_ _; intro _ _ _)
    | fail_if_no_progress with_reducible refine State.Keeps.mk' ?_ rfl | split | dsimp only))

theorem execDramTrainingDone_keeps {a x : State} (v0 : Cyc) (v1 : List ChannelTraining) (h : a.Keeps x) :
    a.Bounds (execDramTrainingDone v0 v1 x) := by
  unfold execDramTrainingDone
  iterate 40 all_goals (try (first
    | with_reducible assumption | with_reducible refine nextOf_keeps ?_ | with_reducible refine State.Bounds.ite ?_ ?_
    | with_reducible apply State.at_keeps | with_reducible apply State.dramTrained_keeps
    | with_reducible refine State.Keeps.ite ?_ ?_ | (with_reducible refine State.Keeps.foldl ?_ ?_ _; intro _ _ _)
    | fail_if_no_progress with_reducible refine State.Keeps.mk' ?_ rfl | split | dsimp only))

theorem execClockCarry_keeps {a x : State} (v0 : Cyc) (h : a.Keeps x) : a.Bounds (execClockCarry v0 x) := by
  unfold execClockCarry
  iterate 40 all_goals (try (first
    | with_reducible assumption | with_reducible refine nextOf_keeps ?_ | with_reducible refine State.Bounds.ite ?_ ?_
    | with_reducible apply State.at_keeps | with_reducible apply State.carry_keeps
    | with_reducible refine State.Keeps.ite ?_ ?_ | (with_reducible refine State.Keeps.foldl ?_ ?_ _; intro _ _ _)
    | fail_if_no_progress with_reducible refine State.Keeps.mk' ?_ rfl | split | dsimp only))

theorem execRailPgRise_keeps {a x : State} (v0 : Cyc) (v1 : Nat) (h : a.Keeps x) : a.Bounds (execRailPgRise v0 v1 x) := by
  unfold execRailPgRise
  iterate 40 all_goals (try (first
    | with_reducible assumption | with_reducible refine nextOf_keeps ?_ | with_reducible refine State.Bounds.ite ?_ ?_
    | with_reducible apply State.at_keeps | with_reducible apply State.pgRise_keeps
    | with_reducible refine State.Keeps.ite ?_ ?_ | (with_reducible refine State.Keeps.foldl ?_ ?_ _; intro _ _ _)
    | fail_if_no_progress with_reducible refine State.Keeps.mk' ?_ rfl | split | dsimp only))

theorem execTftpWriteRequest_keeps {a x : State} (v0 : Cyc) (v1 : Nat) (v2 : Nat) (v3 : List Byte) (v4 : List Byte) (v5 : Option Nat) (h : a.Keeps x) :
    a.Bounds (execTftpWriteRequest v0 v1 v2 v3 v4 v5 x) := by
  unfold execTftpWriteRequest
  iterate 40 all_goals (try (first
    | with_reducible assumption | with_reducible refine nextOf_keeps ?_ | with_reducible refine State.Bounds.ite ?_ ?_
    | with_reducible apply State.at_keeps | with_reducible apply State.romRefuse_keeps | with_reducible apply State.took_keeps
    | with_reducible apply State.tftpSend_keeps | with_reducible refine State.Keeps.ite ?_ ?_
    | (with_reducible refine State.Keeps.foldl ?_ ?_ _; intro _ _ _)
    | fail_if_no_progress with_reducible refine State.Keeps.mk' ?_ rfl | split | dsimp only))

theorem execTftpDataBlock_keeps {a x : State} (v0 : Cyc) (v1 : Nat) (v2 : Nat) (v3 : Nat) (v4 : List Byte) (h : a.Keeps x) :
    a.Bounds (execTftpDataBlock v0 v1 v2 v3 v4 x) := by
  unfold execTftpDataBlock
  iterate 40 all_goals (try (first
    | with_reducible assumption | with_reducible refine nextOf_keeps ?_ | with_reducible refine State.Bounds.ite ?_ ?_
    | with_reducible apply State.at_keeps | with_reducible apply State.romRefuse_keeps
    | with_reducible apply State.tftpTake_keeps | with_reducible apply State.tftpSend_keeps
    | with_reducible refine State.Keeps.ite ?_ ?_ | (with_reducible refine State.Keeps.foldl ?_ ?_ _; intro _ _ _)
    | fail_if_no_progress with_reducible refine State.Keeps.mk' ?_ rfl | split | dsimp only))

theorem execRecoverySpiWrite_keeps {a x : State} (v0 : Cyc) (v1 : Nat) (v2 : Nat) (v3 : List Byte) (h : a.Keeps x) :
    a.Bounds (execRecoverySpiWrite v0 v1 v2 v3 x) := by
  unfold execRecoverySpiWrite
  iterate 40 all_goals (try (first
    | with_reducible assumption | with_reducible refine nextOf_keeps ?_ | with_reducible refine State.Bounds.ite ?_ ?_
    | with_reducible apply State.at_keeps | with_reducible apply State.slotWrite_keeps
    | with_reducible refine State.Keeps.ite ?_ ?_ | (with_reducible refine State.Keeps.foldl ?_ ?_ _; intro _ _ _)
    | fail_if_no_progress with_reducible refine State.Keeps.mk' ?_ rfl | split | dsimp only))

theorem execRecoverySpiStatus_keeps {a x : State} (v0 : Cyc) (h : a.Keeps x) : a.Bounds (execRecoverySpiStatus v0 x) := by
  unfold execRecoverySpiStatus
  iterate 40 all_goals (try (first
    | with_reducible assumption | with_reducible refine nextOf_keeps ?_ | with_reducible refine State.Bounds.ite ?_ ?_
    | with_reducible apply State.at_keeps | with_reducible refine State.Keeps.ite ?_ ?_
    | (with_reducible refine State.Keeps.foldl ?_ ?_ _; intro _ _ _)
    | fail_if_no_progress with_reducible refine State.Keeps.mk' ?_ rfl | split | dsimp only))

theorem execRecoverySpiFinish_keeps {a x : State} (v0 : Cyc) (v1 : Nat) (v2 : Nat) (h : a.Keeps x) :
    a.Bounds (execRecoverySpiFinish v0 v1 v2 x) := by
  unfold execRecoverySpiFinish
  iterate 40 all_goals (try (first
    | with_reducible assumption | with_reducible refine nextOf_keeps ?_ | with_reducible refine State.Bounds.ite ?_ ?_
    | with_reducible apply State.at_keeps | with_reducible apply State.beginVerify_keeps
    | with_reducible refine State.Keeps.ite ?_ ?_ | (with_reducible refine State.Keeps.foldl ?_ ?_ _; intro _ _ _)
    | fail_if_no_progress with_reducible refine State.Keeps.mk' ?_ rfl | split | dsimp only))

theorem execRecoveryVerifyDone_keeps {a x : State} (v0 : Cyc) (h : a.Keeps x) : a.Bounds (execRecoveryVerifyDone v0 x) := by
  unfold execRecoveryVerifyDone
  iterate 40 all_goals (try (first
    | with_reducible assumption | with_reducible refine nextOf_keeps ?_ | with_reducible refine State.Bounds.ite ?_ ?_
    | with_reducible apply State.at_keeps | with_reducible apply State.setSlot_keeps
    | with_reducible apply State.tftpVerified_keeps | with_reducible apply State.recovered_keeps
    | with_reducible refine State.Keeps.ite ?_ ?_ | (with_reducible refine State.Keeps.foldl ?_ ?_ _; intro _ _ _)
    | fail_if_no_progress with_reducible refine State.Keeps.mk' ?_ rfl | split | dsimp only))

theorem execFieldTick_keeps {a x : State} (v0 : Cyc) (h : a.Keeps x) : a.Bounds (execFieldTick v0 x) := by
  unfold execFieldTick
  iterate 40 all_goals (try (first
    | with_reducible assumption | with_reducible refine nextOf_keeps ?_ | with_reducible refine State.Bounds.ite ?_ ?_
    | with_reducible apply State.at_keeps | with_reducible apply State.takeTick_keeps | with_reducible apply State.drain_keeps
    | with_reducible refine State.Keeps.ite ?_ ?_ | (with_reducible refine State.Keeps.foldl ?_ ?_ _; intro _ _ _)
    | fail_if_no_progress with_reducible refine State.Keeps.mk' ?_ rfl | split | dsimp only))

theorem execPilotBootDone_keeps {a x : State} (v0) (h : a.Keeps x) : a.Bounds (execPilotBootDone v0 x) := by
  unfold execPilotBootDone
  iterate 40 all_goals (try (first
    | with_reducible assumption | with_reducible refine nextOf_keeps ?_ | with_reducible refine State.Bounds.ite ?_ ?_
    | with_reducible apply State.at_keeps | with_reducible apply State.startMigration_keeps
    | with_reducible apply State.readMram_keeps | with_reducible apply State.drain_keeps
    | with_reducible apply State.endStartup_keeps | with_reducible exact cardOf_keeps _
    | with_reducible refine State.Keeps.ite ?_ ?_ | (with_reducible refine State.Keeps.foldl ?_ ?_ _; intro _ _ _)
    | fail_if_no_progress with_reducible refine State.Keeps.mk' ?_ rfl | split | dsimp only))

theorem execMramRecordDone_keeps {a x : State} (v0) (h : a.Keeps x) : a.Bounds (execMramRecordDone v0 x) := by
  unfold execMramRecordDone
  iterate 40 all_goals (try (first
    | with_reducible assumption | with_reducible refine nextOf_keeps ?_ | with_reducible refine State.Bounds.ite ?_ ?_
    | with_reducible apply State.at_keeps | with_reducible apply State.recordDone_keeps
    | with_reducible apply State.beginHead_keeps | with_reducible apply State.afterTxn_keeps
    | with_reducible exact cardOf_keeps _ | with_reducible refine State.Keeps.ite ?_ ?_
    | (with_reducible refine State.Keeps.foldl ?_ ?_ _; intro _ _ _)
    | fail_if_no_progress with_reducible refine State.Keeps.mk' ?_ rfl
    | with_reducible refine State.Keeps.pair ‹_ = (_, _)› ?_ | split | dsimp only))

theorem execPilotTakeover_keeps {a x : State} (v0 : Cyc) (h : a.Keeps x) : a.Bounds (execPilotTakeover v0 x) := by
  unfold execPilotTakeover
  iterate 40 all_goals (try (first
    | with_reducible assumption | with_reducible refine nextOf_keeps ?_ | with_reducible refine State.Bounds.ite ?_ ?_
    | with_reducible apply State.at_keeps | with_reducible apply State.takeoverDone_keeps
    | with_reducible apply State.drain_keeps | with_reducible refine State.Keeps.ite ?_ ?_
    | (with_reducible refine State.Keeps.foldl ?_ ?_ _; intro _ _ _)
    | fail_if_no_progress with_reducible refine State.Keeps.mk' ?_ rfl | split | dsimp only))

theorem execUnassignedOpcode_keeps {a x : State} (v0 v1) (h : a.Keeps x) : a.Bounds (execUnassignedOpcode v0 v1 x) :=
  nextOf_keeps (State.arrive_keeps _ _ (by rintro _ ⟨⟩) h)

theorem execSpiRead_keeps {a x : State} (t : Cyc) (n : Nat) (h : a.Keeps x) : a.Bounds (execSpiRead t n x) := by
  unfold execSpiRead
  have k := State.hostAt_keeps t h
  generalize x.hostAt t = y at k
  dsimp only
  split
  · exact nextOf_keeps (State.misoOff_keeps k)
  · split
    · split
      · exact nextOf_keeps (State.irq_keeps (State.Keeps.mk' k rfl))
      · refine nextOf_keeps (State.irq_keeps (State.modSess_keeps _ (State.Keeps.mk' k rfl) (fun e he => ?_)))
        exact Nat.le_trans (List.drop_sublist 1 e.unacked).length_le he
    · exact nextOf_keeps (State.Keeps.mk' k rfl)

theorem execSpiStatus_keeps {a x : State} (v0 v1) (h : a.Keeps x) : a.Bounds (execSpiStatus v0 v1 x) := by
  unfold execSpiStatus
  iterate 40 all_goals (try (first
    | with_reducible assumption | with_reducible refine nextOf_keeps ?_ | with_reducible refine State.Bounds.ite ?_ ?_
    | with_reducible apply State.hostAt_keeps | with_reducible apply State.misoOff_keeps
    | with_reducible exact cardOf_keeps _ | with_reducible refine State.Keeps.ite ?_ ?_
    | (with_reducible refine State.Keeps.foldl ?_ ?_ _; intro _ _ _)
    | fail_if_no_progress with_reducible refine State.Keeps.mk' ?_ rfl | split | dsimp only))

theorem execSceneDatagram_keeps {a x : State} (v0 : Cyc) (v1 : Datagram) (h : a.Keeps x) :
    a.Bounds (execSceneDatagram v0 v1 x) := by
  unfold execSceneDatagram
  iterate 40 all_goals (try (first
    | with_reducible assumption | with_reducible refine nextOf_keeps ?_ | with_reducible refine State.Bounds.ite ?_ ?_
    | with_reducible apply State.hostAt_keeps | with_reducible apply State.sceneAdmit_keeps
    | with_reducible apply State.arrive_keeps | with_reducible apply State.groupIn_keeps
    | with_reducible apply State.tally_keeps | with_reducible exact cardOf_keeps _
    | with_reducible refine State.Keeps.ite ?_ ?_ | (with_reducible refine State.Keeps.foldl ?_ ?_ _; intro _ _ _)
    | fail_if_no_progress with_reducible refine State.Keeps.mk' ?_ rfl | split | dsimp only))

theorem execGangwayRetransmission_keeps {a x : State} (v0 : BitVec 16) (v1 : Packet) (h : a.Keeps x) :
    a.Bounds (execGangwayRetransmission v0 v1 x) := by
  unfold execGangwayRetransmission
  iterate 40 all_goals (try (first
    | with_reducible assumption | with_reducible refine nextOf_keeps ?_ | with_reducible refine State.Bounds.ite ?_ ?_
    | with_reducible apply State.arrive_keeps | with_reducible exact cardOf_keeps _
    | with_reducible refine State.Keeps.ite ?_ ?_ | (with_reducible refine State.Keeps.foldl ?_ ?_ _; intro _ _ _)
    | fail_if_no_progress with_reducible refine State.Keeps.mk' ?_ rfl | split | dsimp only))

theorem execSceneChunk_keeps {a x : State} (v0 : Cyc) (h : a.Keeps x) : a.Bounds (execSceneChunk v0 x) := by
  unfold execSceneChunk
  iterate 40 all_goals (try (first
    | with_reducible assumption | with_reducible refine nextOf_keeps ?_ | with_reducible refine State.Bounds.ite ?_ ?_
    | with_reducible apply State.hostAt_keeps | with_reducible apply State.nextChunk_keeps
    | with_reducible apply State.extraHeartbeat_keeps | with_reducible refine State.Keeps.ite ?_ ?_
    | (with_reducible refine State.Keeps.foldl ?_ ?_ _; intro _ _ _)
    | fail_if_no_progress with_reducible refine State.Keeps.mk' ?_ rfl | split | dsimp only))

theorem execHeartbeatReceived_keeps {a x : State} (v0 : Cyc) (v1 : Datagram) (h : a.Keeps x) :
    a.Bounds (execHeartbeatReceived v0 v1 x) := by
  unfold execHeartbeatReceived
  iterate 40 all_goals (try (first
    | with_reducible assumption | with_reducible refine nextOf_keeps ?_ | with_reducible refine State.Bounds.ite ?_ ?_
    | with_reducible apply State.groupArrives_keeps | with_reducible refine State.Keeps.ite ?_ ?_
    | (with_reducible refine State.Keeps.foldl ?_ ?_ _; intro _ _ _)
    | fail_if_no_progress with_reducible refine State.Keeps.mk' ?_ rfl | split | dsimp only))

theorem execGroupCommitReceived_keeps {a x : State} (v0 : Cyc) (v1 : Datagram) (h : a.Keeps x) :
    a.Bounds (execGroupCommitReceived v0 v1 x) := by
  unfold execGroupCommitReceived
  iterate 40 all_goals (try (first
    | with_reducible assumption | with_reducible refine nextOf_keeps ?_ | with_reducible refine State.Bounds.ite ?_ ?_
    | with_reducible apply State.groupArrives_keeps | with_reducible refine State.Keeps.ite ?_ ?_
    | (with_reducible refine State.Keeps.foldl ?_ ?_ _; intro _ _ _)
    | fail_if_no_progress with_reducible refine State.Keeps.mk' ?_ rfl | split | dsimp only))

theorem execRepairReqReceived_keeps {a x : State} (v0 : Cyc) (v1 : Datagram) (h : a.Keeps x) :
    a.Bounds (execRepairReqReceived v0 v1 x) := by
  unfold execRepairReqReceived
  iterate 40 all_goals (try (first
    | with_reducible assumption | with_reducible refine nextOf_keeps ?_ | with_reducible refine State.Bounds.ite ?_ ?_
    | with_reducible apply State.groupArrives_keeps | with_reducible refine State.Keeps.ite ?_ ?_
    | (with_reducible refine State.Keeps.foldl ?_ ?_ _; intro _ _ _)
    | fail_if_no_progress with_reducible refine State.Keeps.mk' ?_ rfl | split | dsimp only))

theorem execRepairReceived_keeps {a x : State} (v0 : Cyc) (v1 : Datagram) (h : a.Keeps x) :
    a.Bounds (execRepairReceived v0 v1 x) := by
  unfold execRepairReceived
  iterate 40 all_goals (try (first
    | with_reducible assumption | with_reducible refine nextOf_keeps ?_ | with_reducible refine State.Bounds.ite ?_ ?_
    | with_reducible apply State.groupArrives_keeps | with_reducible refine State.Keeps.ite ?_ ?_
    | (with_reducible refine State.Keeps.foldl ?_ ?_ _; intro _ _ _)
    | fail_if_no_progress with_reducible refine State.Keeps.mk' ?_ rfl | split | dsimp only))

theorem execPair_keeps {a x : State} (v0 : Packet) (h : a.Keeps x) : a.Bounds (execPair v0 x) :=
  runCommand_keeps cardPair_keeps _ h

theorem execUnpair_keeps {a x : State} (v0 : Packet) (h : a.Keeps x) : a.Bounds (execUnpair v0 x) :=
  runCommand_keeps cardUnpair_keeps _ h

theorem execSessionQuery_keeps {a x : State} (v0 : Packet) (h : a.Keeps x) : a.Bounds (execSessionQuery v0 x) :=
  runCommand_keeps cardSessionQuery_keeps _ h

theorem execEventAck_keeps {a x : State} (v0 : Packet) (h : a.Keeps x) : a.Bounds (execEventAck v0 x) :=
  runCommand_keeps cardEventAck_keeps _ h

theorem execDeviceInfo_keeps {a x : State} (v0 : Packet) (h : a.Keeps x) : a.Bounds (execDeviceInfo v0 x) :=
  runCommand_keeps cardDeviceInfo_keeps _ h

theorem execSessionSubscribe_keeps {a x : State} (v0 : Packet) (h : a.Keeps x) : a.Bounds (execSessionSubscribe v0 x) :=
  runCommand_keeps cardSessionSubscribe_keeps _ h

theorem execGangwayConfigure_keeps {a x : State} (v0 : Packet) (h : a.Keeps x) : a.Bounds (execGangwayConfigure v0 x) :=
  runCommand_keeps cardGangwayConfigure_keeps _ h

theorem execGangwayEcho_keeps {a x : State} (v0 : Packet) (h : a.Keeps x) : a.Bounds (execGangwayEcho v0 x) :=
  runCommand_keeps cardGangwayEcho_keeps _ h

theorem execMooringConfigure_keeps {a x : State} (v0 : Packet) (h : a.Keeps x) : a.Bounds (execMooringConfigure v0 x) :=
  runCommand_keeps cardMooringConfigure_keeps _ h

theorem execMooringReset_keeps {a x : State} (v0 : Packet) (h : a.Keeps x) : a.Bounds (execMooringReset v0 x) :=
  runCommand_keeps cardMooringReset_keeps _ h

theorem execMooringQuery_keeps {a x : State} (v0 : Packet) (h : a.Keeps x) : a.Bounds (execMooringQuery v0 x) :=
  runCommand_keeps cardMooringQuery_keeps _ h

theorem execIngestConfigure_keeps {a x : State} (v0 : Packet) (h : a.Keeps x) : a.Bounds (execIngestConfigure v0 x) :=
  runCommand_keeps cardIngestConfigure_keeps _ h

theorem execCrcCompute_keeps {a x : State} (v0 : Packet) (h : a.Keeps x) : a.Bounds (execCrcCompute v0 x) :=
  runCommand_keeps cardCrcCompute_keeps _ h

theorem execCodecConfigure_keeps {a x : State} (v0 : Packet) (h : a.Keeps x) : a.Bounds (execCodecConfigure v0 x) :=
  runCommand_keeps cardCodecConfigure_keeps _ h

theorem execCodecQuery_keeps {a x : State} (v0 : Packet) (h : a.Keeps x) : a.Bounds (execCodecQuery v0 x) :=
  runCommand_keeps cardCodecQuery_keeps _ h

theorem execCodecDecompress_keeps {a x : State} (v0 : Packet) (h : a.Keeps x) : a.Bounds (execCodecDecompress v0 x) :=
  runCommand_keeps cardCodecDecompress_keeps _ h

theorem execCodecCompress_keeps {a x : State} (v0 : Packet) (h : a.Keeps x) : a.Bounds (execCodecCompress v0 x) :=
  runCommand_keeps cardCodecCompress_keeps _ h

theorem execServiceConfigure_keeps {a x : State} (v0 : Packet) (h : a.Keeps x) : a.Bounds (execServiceConfigure v0 x) :=
  runCommand_keeps cardServiceConfigure_keeps _ h

theorem execPlanQuery_keeps {a x : State} (v0 : Packet) (h : a.Keeps x) : a.Bounds (execPlanQuery v0 x) :=
  runCommand_keeps cardPlanQuery_keeps _ h

theorem execScanoutConfigure_keeps {a x : State} (v0 : Packet) (h : a.Keeps x) : a.Bounds (execScanoutConfigure v0 x) :=
  runCommand_keeps cardScanoutConfigure_keeps _ h

theorem execOverlayCommit_keeps {a x : State} (v0 : Packet) (h : a.Keeps x) : a.Bounds (execOverlayCommit v0 x) :=
  runCommand_keeps cardOverlayCommit_keeps _ h

theorem execGammaSet_keeps {a x : State} (v0 : Packet) (h : a.Keeps x) : a.Bounds (execGammaSet v0 x) :=
  runCommand_keeps cardGammaSet_keeps _ h

theorem execLanternConfigure_keeps {a x : State} (v0 : Packet) (h : a.Keeps x) : a.Bounds (execLanternConfigure v0 x) :=
  runCommand_keeps cardLanternConfigure_keeps _ h

theorem execLanternWrite_keeps {a x : State} (v0 : Packet) (h : a.Keeps x) : a.Bounds (execLanternWrite v0 x) :=
  runCommand_keeps cardLanternWrite_keeps _ h

theorem execOpticsSet_keeps {a x : State} (v0 : Packet) (h : a.Keeps x) : a.Bounds (execOpticsSet v0 x) :=
  runCommand_keeps cardOpticsSet_keeps _ h

theorem execCorrMapLoad_keeps {a x : State} (v0 : Packet) (h : a.Keeps x) : a.Bounds (execCorrMapLoad v0 x) :=
  runCommand_keeps cardCorrMapLoad_keeps _ h

theorem execCorrMapCommit_keeps {a x : State} (v0 : Packet) (h : a.Keeps x) : a.Bounds (execCorrMapCommit v0 x) :=
  runCommand_keeps cardCorrMapCommit_keeps _ h

theorem execFanConfigure_keeps {a x : State} (v0 : Packet) (h : a.Keeps x) : a.Bounds (execFanConfigure v0 x) :=
  runCommand_keeps cardFanConfigure_keeps _ h

theorem execLathEvaluate_keeps {a x : State} (v0 : Packet) (h : a.Keeps x) : a.Bounds (execLathEvaluate v0 x) :=
  runCommand_keeps cardLathEvaluate_keeps _ h

theorem execSurfaceCreate_keeps {a x : State} (v0 : Packet) (h : a.Keeps x) : a.Bounds (execSurfaceCreate v0 x) :=
  runCommand_keeps cardSurfaceCreate_keeps _ h

theorem execSurfaceDestroy_keeps {a x : State} (v0 : Packet) (h : a.Keeps x) : a.Bounds (execSurfaceDestroy v0 x) :=
  runCommand_keeps cardSurfaceDestroy_keeps _ h

theorem execSurfaceWrite_keeps {a x : State} (v0 : Packet) (h : a.Keeps x) : a.Bounds (execSurfaceWrite v0 x) :=
  runCommand_keeps cardSurfaceWrite_keeps _ h

theorem execSkimListWrite_keeps {a x : State} (v0 : Packet) (h : a.Keeps x) : a.Bounds (execSkimListWrite v0 x) :=
  runCommand_keeps cardSkimListWrite_keeps _ h

theorem execSkimSubmit_keeps {a x : State} (v0 : Packet) (h : a.Keeps x) : a.Bounds (execSkimSubmit v0 x) :=
  runCommand_keeps cardSkimSubmit_keeps _ h

theorem execLinkConfigure_keeps {a x : State} (v0 : Packet) (h : a.Keeps x) : a.Bounds (execLinkConfigure v0 x) :=
  runCommand_keeps cardLinkConfigure_keeps _ h

theorem execLinkRetrain_keeps {a x : State} (v0 : Packet) (h : a.Keeps x) : a.Bounds (execLinkRetrain v0 x) :=
  runCommand_keeps cardLinkRetrain_keeps _ h

theorem execLinkTest_keeps {a x : State} (v0 : Packet) (h : a.Keeps x) : a.Bounds (execLinkTest v0 x) :=
  runCommand_keeps cardLinkTest_keeps _ h

theorem execBbConfigure_keeps {a x : State} (v0 : Packet) (h : a.Keeps x) : a.Bounds (execBbConfigure v0 x) :=
  runCommand_keeps cardBbConfigure_keeps _ h

theorem execBbTest_keeps {a x : State} (v0 : Packet) (h : a.Keeps x) : a.Bounds (execBbTest v0 x) :=
  runCommand_keeps cardBbTest_keeps _ h

theorem execLinkQuery_keeps {a x : State} (v0 : Packet) (h : a.Keeps x) : a.Bounds (execLinkQuery v0 x) :=
  runCommand_keeps cardLinkQuery_keeps _ h

theorem execBridgeSet_keeps {a x : State} (v0 : Packet) (h : a.Keeps x) : a.Bounds (execBridgeSet v0 x) :=
  runCommand_keeps cardBridgeSet_keeps _ h

theorem execTimeConfigure_keeps {a x : State} (v0 : Packet) (h : a.Keeps x) : a.Bounds (execTimeConfigure v0 x) :=
  runCommand_keeps cardTimeConfigure_keeps _ h

theorem execTriggerConfigure_keeps {a x : State} (v0 : Packet) (h : a.Keeps x) : a.Bounds (execTriggerConfigure v0 x) :=
  runCommand_keeps cardTriggerConfigure_keeps _ h

theorem execTimeStep_keeps {a x : State} (v0 : Packet) (h : a.Keeps x) : a.Bounds (execTimeStep v0 x) :=
  runCommand_keeps cardTimeStep_keeps _ h

theorem execGroupConfigure_keeps {a x : State} (v0 : Packet) (h : a.Keeps x) : a.Bounds (execGroupConfigure v0 x) :=
  runCommand_keeps cardGroupConfigure_keeps _ h

theorem execMemConfigure_keeps {a x : State} (v0 : Packet) (h : a.Keeps x) : a.Bounds (execMemConfigure v0 x) :=
  runCommand_keeps cardMemConfigure_keeps _ h

theorem execMemQuery_keeps {a x : State} (v0 : Packet) (h : a.Keeps x) : a.Bounds (execMemQuery v0 x) :=
  runCommand_keeps cardMemQuery_keeps _ h

theorem execMemCalibrate_keeps {a x : State} (v0 : Packet) (h : a.Keeps x) : a.Bounds (execMemCalibrate v0 x) :=
  runCommand_keeps cardMemCalibrate_keeps _ h

theorem execStore_keeps {a x : State} (v0 : Packet) (h : a.Keeps x) : a.Bounds (execStore v0 x) :=
  runCommand_keeps cardStore_keeps _ h

theorem execSettingsErase_keeps {a x : State} (v0 : Packet) (h : a.Keeps x) : a.Bounds (execSettingsErase v0 x) :=
  runCommand_keeps cardSettingsErase_keeps _ h

theorem execFactoryWrite_keeps {a x : State} (v0 : Packet) (h : a.Keeps x) : a.Bounds (execFactoryWrite v0 x) :=
  runCommand_keeps cardFactoryWrite_keeps _ h

theorem execNvmQuery_keeps {a x : State} (v0 : Packet) (h : a.Keeps x) : a.Bounds (execNvmQuery v0 x) :=
  runCommand_keeps cardNvmQuery_keeps _ h

theorem execSettingsRevert_keeps {a x : State} (v0 : Packet) (h : a.Keeps x) : a.Bounds (execSettingsRevert v0 x) :=
  runCommand_keeps cardSettingsRevert_keeps _ h

theorem execImageLoad_keeps {a x : State} (v0 : Packet) (h : a.Keeps x) : a.Bounds (execImageLoad v0 x) :=
  runCommand_keeps cardImageLoad_keeps _ h

theorem execImageVerify_keeps {a x : State} (v0 : Packet) (h : a.Keeps x) : a.Bounds (execImageVerify v0 x) :=
  runCommand_keeps cardImageVerify_keeps _ h

theorem execImageActivate_keeps {a x : State} (v0 : Packet) (h : a.Keeps x) : a.Bounds (execImageActivate v0 x) :=
  runCommand_keeps cardImageActivate_keeps _ h

theorem execImageActivateConfirm_keeps {a x : State} (v0 : Packet) (h : a.Keeps x) :
    a.Bounds (execImageActivateConfirm v0 x) :=
  runCommand_keeps cardImageActivate_keeps _ h

theorem execImageActivateAbandon_keeps {a x : State} (v0 : Packet) (h : a.Keeps x) :
    a.Bounds (execImageActivateAbandon v0 x) :=
  runCommand_keeps cardImageActivate_keeps _ h

theorem execFirmwareQuery_keeps {a x : State} (v0 : Packet) (h : a.Keeps x) : a.Bounds (execFirmwareQuery v0 x) :=
  runCommand_keeps cardFirmwareQuery_keeps _ h

theorem execDeviceRestart_keeps {a x : State} (v0 : Packet) (h : a.Keeps x) : a.Bounds (execDeviceRestart v0 x) :=
  runCommand_keeps cardDeviceRestart_keeps _ h

theorem execSelfTestMramScan_keeps {a x : State} (v0 : Packet) (h : a.Keeps x) : a.Bounds (execSelfTestMramScan v0 x) :=
  runCommand_keeps cardSelfTest_keeps _ h

theorem execSelfTestScanoutPath_keeps {a x : State} (v0 : Packet) (h : a.Keeps x) :
    a.Bounds (execSelfTestScanoutPath v0 x) :=
  runCommand_keeps cardSelfTest_keeps _ h

theorem execPowerConfigure_keeps {a x : State} (v0 : Packet) (h : a.Keeps x) : a.Bounds (execPowerConfigure v0 x) :=
  runCommand_keeps cardPowerConfigure_keeps _ h

theorem execBacklightConfigure_keeps {a x : State} (v0 : Packet) (h : a.Keeps x) :
    a.Bounds (execBacklightConfigure v0 x) :=
  runCommand_keeps cardBacklightConfigure_keeps _ h

theorem execRailProfileSet_keeps {a x : State} (v0 : Packet) (h : a.Keeps x) : a.Bounds (execRailProfileSet v0 x) :=
  runCommand_keeps cardRailProfileSet_keeps _ h

theorem execThermalQuery_keeps {a x : State} (v0 : Packet) (h : a.Keeps x) : a.Bounds (execThermalQuery v0 x) :=
  runCommand_keeps cardThermalQuery_keeps _ h

theorem execFasciaConfigure_keeps {a x : State} (v0 : Packet) (h : a.Keeps x) : a.Bounds (execFasciaConfigure v0 x) :=
  runCommand_keeps cardFasciaConfigure_keeps _ h

theorem execFasciaImage_keeps {a x : State} (v0 : Packet) (h : a.Keeps x) : a.Bounds (execFasciaImage v0 x) :=
  runCommand_keeps cardFasciaImage_keeps _ h

theorem execFasciaQuery_keeps {a x : State} (v0 : Packet) (h : a.Keeps x) : a.Bounds (execFasciaQuery v0 x) :=
  runCommand_keeps cardFasciaQuery_keeps _ h

theorem execObjectRead_keeps {a x : State} (v0 : Packet) (h : a.Keeps x) : a.Bounds (execObjectRead v0 x) :=
  runCommand_keeps cardObjectRead_keeps _ h

theorem execTallyRead_keeps {a x : State} (v0 : Packet) (h : a.Keeps x) : a.Bounds (execTallyRead v0 x) :=
  runCommand_keeps cardTallyRead_keeps _ h

theorem execWakeConfigure_keeps {a x : State} (v0 : Packet) (h : a.Keeps x) : a.Bounds (execWakeConfigure v0 x) :=
  runCommand_keeps cardWakeConfigure_keeps _ h

theorem execWakeSubscribe_keeps {a x : State} (v0 : Packet) (h : a.Keeps x) : a.Bounds (execWakeSubscribe v0 x) :=
  runCommand_keeps cardWakeSubscribe_keeps _ h

theorem execTallyExport_keeps {a x : State} (v0 : Packet) (h : a.Keeps x) : a.Bounds (execTallyExport v0 x) :=
  runCommand_keeps cardTallyExport_keeps _ h

end Sys2Proof.Machine
end

