-- ==== Sys2Proof/Laws/State.lean ====
section
/-! SUPPORT. What each shared update leaves as it was, one lemma for each part of the state, so that no proof unfolds a record
update; and what a read gives after an update of the same thing. -/

namespace Sys2Proof.Machine

/-! ## Reads after updates -/

theorem nth_modAt {α : Type} (l : List α) (i j : Nat) (f : α → α) (d : α) :
    nth (modAt l i f) j d = if i = j ∧ j < l.length then f (nth l j d) else nth l j d := by
  unfold nth modAt
  simp only [List.getD_eq_getElem?_getD, List.getElem?_modify]
  by_cases h : i = j
  · subst h
    by_cases hi : i < l.length
    · simp [hi]
    · simp [hi]
  · simp [h]

theorem State.obj_setObj (s : State) (id j : Nat) (ws : List Word) :
    (s.setObj id ws).obj j = if j = id then ws else s.obj j := by
  unfold State.obj objIn State.setObj
  simp only [Tab.get?_put]
  by_cases h : j = id <;> simp [h]

theorem State.moor_setMoor (s : State) (n k : Nat) (m : Mooring) :
    (s.setMoor n m).moor k = if k = n then m else s.moor k := Tab.getD_put _ _ _ _ _

theorem State.sess_modSess (s : State) (n k : Nat) (f : Session → Session) :
    (s.modSess n f).sess k = if n = k ∧ k < s.gw.sessions.length then f (s.sess k) else s.sess k := nth_modAt _ _ _ _ _

theorem State.port_modPort (s : State) (n k : Nat) (f : Port → Port) :
    (s.modPort n f).port k = if n = k ∧ k < s.ports.length then f (s.port k) else s.port k := nth_modAt _ _ _ _ _

theorem State.bbp_modBb (s : State) (n k : Nat) (f : Backbone → Backbone) :
    (s.modBb n f).bbp k = if n = k ∧ k < s.bb.length then f (s.bbp k) else s.bbp k := nth_modAt _ _ _ _ _

theorem State.chan_modChan (s : State) (n k : Nat) (f : Channel → Channel) :
    (s.modChan n f).chan k = if n = k ∧ k < s.dram.channels.length then f (s.chan k) else s.chan k := nth_modAt _ _ _ _ _

theorem State.sector_modSector (s : State) (n k : Nat) (f : SectorScan → SectorScan) :
    (s.modSector n f).sector k = if n = k ∧ k < s.scan.sectors.length then f (s.sector k) else s.sector k :=
  nth_modAt _ _ _ _ _

/-! ## What an update leaves -/

@[simp] theorem State.modBb_time (s : State) (v0 v1) : (State.modBb s v0 v1).time = s.time := rfl
@[simp] theorem State.modBb_gw (s : State) (v0 v1) : (State.modBb s v0 v1).gw = s.gw := rfl
@[simp] theorem State.modBb_cfg (s : State) (v0 v1) : (State.modBb s v0 v1).cfg = s.cfg := rfl
@[simp] theorem State.modBb_mram (s : State) (v0 v1) : (State.modBb s v0 v1).mram = s.mram := rfl
@[simp] theorem State.modBb_nvm (s : State) (v0 v1) : (State.modBb s v0 v1).nvm = s.nvm := rfl
@[simp] theorem State.modBb_start (s : State) (v0 v1) : (State.modBb s v0 v1).start = s.start := rfl
@[simp] theorem State.modBb_wake (s : State) (v0 v1) : (State.modBb s v0 v1).wake = s.wake := rfl
@[simp] theorem State.modBb_obs (s : State) (v0 v1) : (State.modBb s v0 v1).obs = s.obs := rfl
@[simp] theorem State.modBb_ingest (s : State) (v0 v1) : (State.modBb s v0 v1).ingest = s.ingest := rfl
@[simp] theorem State.modBb_codec (s : State) (v0 v1) : (State.modBb s v0 v1).codec = s.codec := rfl
@[simp] theorem State.modBb_harbour (s : State) (v0 v1) : (State.modBb s v0 v1).harbour = s.harbour := rfl
@[simp] theorem State.modBb_optics (s : State) (v0 v1) : (State.modBb s v0 v1).optics = s.optics := rfl
@[simp] theorem State.modBb_synth (s : State) (v0 v1) : (State.modBb s v0 v1).synth = s.synth := rfl
@[simp] theorem State.modBb_skim (s : State) (v0 v1) : (State.modBb s v0 v1).skim = s.skim := rfl
@[simp] theorem State.modBb_scan (s : State) (v0 v1) : (State.modBb s v0 v1).scan = s.scan := rfl
@[simp] theorem State.modBb_ports (s : State) (v0 v1) : (State.modBb s v0 v1).ports = s.ports := rfl
@[simp] theorem State.modBb_bridge (s : State) (v0 v1) : (State.modBb s v0 v1).bridge = s.bridge := rfl
@[simp] theorem State.modBb_group (s : State) (v0 v1) : (State.modBb s v0 v1).group = s.group := rfl
@[simp] theorem State.modBb_dram (s : State) (v0 v1) : (State.modBb s v0 v1).dram = s.dram := rfl
@[simp] theorem State.modBb_power (s : State) (v0 v1) : (State.modBb s v0 v1).power = s.power := rfl
@[simp] theorem State.modBb_fascia (s : State) (v0 v1) : (State.modBb s v0 v1).fascia = s.fascia := rfl
@[simp] theorem State.modBb_pending (s : State) (v0 v1) : (State.modBb s v0 v1).pending = s.pending := rfl
@[simp] theorem State.tallyBy_time (s : State) (v0 v1) : (State.tallyBy s v0 v1).time = s.time := rfl
@[simp] theorem State.tallyBy_gw (s : State) (v0 v1) : (State.tallyBy s v0 v1).gw = s.gw := rfl
@[simp] theorem State.tallyBy_cfg (s : State) (v0 v1) : (State.tallyBy s v0 v1).cfg = s.cfg := rfl
@[simp] theorem State.tallyBy_mram (s : State) (v0 v1) : (State.tallyBy s v0 v1).mram = s.mram := rfl
@[simp] theorem State.tallyBy_nvm (s : State) (v0 v1) : (State.tallyBy s v0 v1).nvm = s.nvm := rfl
@[simp] theorem State.tallyBy_start (s : State) (v0 v1) : (State.tallyBy s v0 v1).start = s.start := rfl
@[simp] theorem State.tallyBy_wake (s : State) (v0 v1) : (State.tallyBy s v0 v1).wake = s.wake := rfl
@[simp] theorem State.tallyBy_ingest (s : State) (v0 v1) : (State.tallyBy s v0 v1).ingest = s.ingest := rfl
@[simp] theorem State.tallyBy_codec (s : State) (v0 v1) : (State.tallyBy s v0 v1).codec = s.codec := rfl
@[simp] theorem State.tallyBy_harbour (s : State) (v0 v1) : (State.tallyBy s v0 v1).harbour = s.harbour := rfl
@[simp] theorem State.tallyBy_optics (s : State) (v0 v1) : (State.tallyBy s v0 v1).optics = s.optics := rfl
@[simp] theorem State.tallyBy_synth (s : State) (v0 v1) : (State.tallyBy s v0 v1).synth = s.synth := rfl
@[simp] theorem State.tallyBy_skim (s : State) (v0 v1) : (State.tallyBy s v0 v1).skim = s.skim := rfl
@[simp] theorem State.tallyBy_scan (s : State) (v0 v1) : (State.tallyBy s v0 v1).scan = s.scan := rfl
@[simp] theorem State.tallyBy_ports (s : State) (v0 v1) : (State.tallyBy s v0 v1).ports = s.ports := rfl
@[simp] theorem State.tallyBy_bb (s : State) (v0 v1) : (State.tallyBy s v0 v1).bb = s.bb := rfl
@[simp] theorem State.tallyBy_bridge (s : State) (v0 v1) : (State.tallyBy s v0 v1).bridge = s.bridge := rfl
@[simp] theorem State.tallyBy_group (s : State) (v0 v1) : (State.tallyBy s v0 v1).group = s.group := rfl
@[simp] theorem State.tallyBy_dram (s : State) (v0 v1) : (State.tallyBy s v0 v1).dram = s.dram := rfl
@[simp] theorem State.tallyBy_power (s : State) (v0 v1) : (State.tallyBy s v0 v1).power = s.power := rfl
@[simp] theorem State.tallyBy_fascia (s : State) (v0 v1) : (State.tallyBy s v0 v1).fascia = s.fascia := rfl
@[simp] theorem State.tallyBy_pending (s : State) (v0 v1) : (State.tallyBy s v0 v1).pending = s.pending := rfl
@[simp] theorem State.modPlane_time (s : State) (v0 v1) : (State.modPlane s v0 v1).time = s.time := rfl
@[simp] theorem State.modPlane_gw (s : State) (v0 v1) : (State.modPlane s v0 v1).gw = s.gw := rfl
@[simp] theorem State.modPlane_cfg (s : State) (v0 v1) : (State.modPlane s v0 v1).cfg = s.cfg := rfl
@[simp] theorem State.modPlane_mram (s : State) (v0 v1) : (State.modPlane s v0 v1).mram = s.mram := rfl
@[simp] theorem State.modPlane_nvm (s : State) (v0 v1) : (State.modPlane s v0 v1).nvm = s.nvm := rfl
@[simp] theorem State.modPlane_start (s : State) (v0 v1) : (State.modPlane s v0 v1).start = s.start := rfl
@[simp] theorem State.modPlane_wake (s : State) (v0 v1) : (State.modPlane s v0 v1).wake = s.wake := rfl
@[simp] theorem State.modPlane_obs (s : State) (v0 v1) : (State.modPlane s v0 v1).obs = s.obs := rfl
@[simp] theorem State.modPlane_ingest (s : State) (v0 v1) : (State.modPlane s v0 v1).ingest = s.ingest := rfl
@[simp] theorem State.modPlane_codec (s : State) (v0 v1) : (State.modPlane s v0 v1).codec = s.codec := rfl
@[simp] theorem State.modPlane_harbour (s : State) (v0 v1) : (State.modPlane s v0 v1).harbour = s.harbour := rfl
@[simp] theorem State.modPlane_optics (s : State) (v0 v1) : (State.modPlane s v0 v1).optics = s.optics := rfl
@[simp] theorem State.modPlane_synth (s : State) (v0 v1) : (State.modPlane s v0 v1).synth = s.synth := rfl
@[simp] theorem State.modPlane_skim (s : State) (v0 v1) : (State.modPlane s v0 v1).skim = s.skim := rfl
@[simp] theorem State.modPlane_ports (s : State) (v0 v1) : (State.modPlane s v0 v1).ports = s.ports := rfl
@[simp] theorem State.modPlane_bb (s : State) (v0 v1) : (State.modPlane s v0 v1).bb = s.bb := rfl
@[simp] theorem State.modPlane_bridge (s : State) (v0 v1) : (State.modPlane s v0 v1).bridge = s.bridge := rfl
@[simp] theorem State.modPlane_group (s : State) (v0 v1) : (State.modPlane s v0 v1).group = s.group := rfl
@[simp] theorem State.modPlane_dram (s : State) (v0 v1) : (State.modPlane s v0 v1).dram = s.dram := rfl
@[simp] theorem State.modPlane_power (s : State) (v0 v1) : (State.modPlane s v0 v1).power = s.power := rfl
@[simp] theorem State.modPlane_fascia (s : State) (v0 v1) : (State.modPlane s v0 v1).fascia = s.fascia := rfl
@[simp] theorem State.modPlane_pending (s : State) (v0 v1) : (State.modPlane s v0 v1).pending = s.pending := rfl
@[simp] theorem State.modSess_time (s : State) (v0 v1) : (State.modSess s v0 v1).time = s.time := rfl
@[simp] theorem State.modSess_cfg (s : State) (v0 v1) : (State.modSess s v0 v1).cfg = s.cfg := rfl
@[simp] theorem State.modSess_mram (s : State) (v0 v1) : (State.modSess s v0 v1).mram = s.mram := rfl
@[simp] theorem State.modSess_nvm (s : State) (v0 v1) : (State.modSess s v0 v1).nvm = s.nvm := rfl
@[simp] theorem State.modSess_start (s : State) (v0 v1) : (State.modSess s v0 v1).start = s.start := rfl
@[simp] theorem State.modSess_wake (s : State) (v0 v1) : (State.modSess s v0 v1).wake = s.wake := rfl
@[simp] theorem State.modSess_obs (s : State) (v0 v1) : (State.modSess s v0 v1).obs = s.obs := rfl
@[simp] theorem State.modSess_ingest (s : State) (v0 v1) : (State.modSess s v0 v1).ingest = s.ingest := rfl
@[simp] theorem State.modSess_codec (s : State) (v0 v1) : (State.modSess s v0 v1).codec = s.codec := rfl
@[simp] theorem State.modSess_harbour (s : State) (v0 v1) : (State.modSess s v0 v1).harbour = s.harbour := rfl
@[simp] theorem State.modSess_optics (s : State) (v0 v1) : (State.modSess s v0 v1).optics = s.optics := rfl
@[simp] theorem State.modSess_synth (s : State) (v0 v1) : (State.modSess s v0 v1).synth = s.synth := rfl
@[simp] theorem State.modSess_skim (s : State) (v0 v1) : (State.modSess s v0 v1).skim = s.skim := rfl
@[simp] theorem State.modSess_scan (s : State) (v0 v1) : (State.modSess s v0 v1).scan = s.scan := rfl
@[simp] theorem State.modSess_ports (s : State) (v0 v1) : (State.modSess s v0 v1).ports = s.ports := rfl
@[simp] theorem State.modSess_bb (s : State) (v0 v1) : (State.modSess s v0 v1).bb = s.bb := rfl
@[simp] theorem State.modSess_bridge (s : State) (v0 v1) : (State.modSess s v0 v1).bridge = s.bridge := rfl
@[simp] theorem State.modSess_group (s : State) (v0 v1) : (State.modSess s v0 v1).group = s.group := rfl
@[simp] theorem State.modSess_dram (s : State) (v0 v1) : (State.modSess s v0 v1).dram = s.dram := rfl
@[simp] theorem State.modSess_power (s : State) (v0 v1) : (State.modSess s v0 v1).power = s.power := rfl
@[simp] theorem State.modSess_fascia (s : State) (v0 v1) : (State.modSess s v0 v1).fascia = s.fascia := rfl
@[simp] theorem State.modSess_pending (s : State) (v0 v1) : (State.modSess s v0 v1).pending = s.pending := rfl
@[simp] theorem State.irq_time (s : State) : (State.irq s).time = s.time := rfl
@[simp] theorem State.irq_cfg (s : State) : (State.irq s).cfg = s.cfg := rfl
@[simp] theorem State.irq_mram (s : State) : (State.irq s).mram = s.mram := rfl
@[simp] theorem State.irq_nvm (s : State) : (State.irq s).nvm = s.nvm := rfl
@[simp] theorem State.irq_start (s : State) : (State.irq s).start = s.start := rfl
@[simp] theorem State.irq_wake (s : State) : (State.irq s).wake = s.wake := rfl
@[simp] theorem State.irq_obs (s : State) : (State.irq s).obs = s.obs := rfl
@[simp] theorem State.irq_ingest (s : State) : (State.irq s).ingest = s.ingest := rfl
@[simp] theorem State.irq_codec (s : State) : (State.irq s).codec = s.codec := rfl
@[simp] theorem State.irq_harbour (s : State) : (State.irq s).harbour = s.harbour := rfl
@[simp] theorem State.irq_optics (s : State) : (State.irq s).optics = s.optics := rfl
@[simp] theorem State.irq_synth (s : State) : (State.irq s).synth = s.synth := rfl
@[simp] theorem State.irq_skim (s : State) : (State.irq s).skim = s.skim := rfl
@[simp] theorem State.irq_scan (s : State) : (State.irq s).scan = s.scan := rfl
@[simp] theorem State.irq_ports (s : State) : (State.irq s).ports = s.ports := rfl
@[simp] theorem State.irq_bb (s : State) : (State.irq s).bb = s.bb := rfl
@[simp] theorem State.irq_bridge (s : State) : (State.irq s).bridge = s.bridge := rfl
@[simp] theorem State.irq_group (s : State) : (State.irq s).group = s.group := rfl
@[simp] theorem State.irq_dram (s : State) : (State.irq s).dram = s.dram := rfl
@[simp] theorem State.irq_power (s : State) : (State.irq s).power = s.power := rfl
@[simp] theorem State.irq_fascia (s : State) : (State.irq s).fascia = s.fascia := rfl
@[simp] theorem State.irq_pending (s : State) : (State.irq s).pending = s.pending := rfl
@[simp] theorem State.modPort_time (s : State) (v0 v1) : (State.modPort s v0 v1).time = s.time := rfl
@[simp] theorem State.modPort_gw (s : State) (v0 v1) : (State.modPort s v0 v1).gw = s.gw := rfl
@[simp] theorem State.modPort_cfg (s : State) (v0 v1) : (State.modPort s v0 v1).cfg = s.cfg := rfl
@[simp] theorem State.modPort_mram (s : State) (v0 v1) : (State.modPort s v0 v1).mram = s.mram := rfl
@[simp] theorem State.modPort_nvm (s : State) (v0 v1) : (State.modPort s v0 v1).nvm = s.nvm := rfl
@[simp] theorem State.modPort_start (s : State) (v0 v1) : (State.modPort s v0 v1).start = s.start := rfl
@[simp] theorem State.modPort_wake (s : State) (v0 v1) : (State.modPort s v0 v1).wake = s.wake := rfl
@[simp] theorem State.modPort_obs (s : State) (v0 v1) : (State.modPort s v0 v1).obs = s.obs := rfl
@[simp] theorem State.modPort_ingest (s : State) (v0 v1) : (State.modPort s v0 v1).ingest = s.ingest := rfl
@[simp] theorem State.modPort_codec (s : State) (v0 v1) : (State.modPort s v0 v1).codec = s.codec := rfl
@[simp] theorem State.modPort_harbour (s : State) (v0 v1) : (State.modPort s v0 v1).harbour = s.harbour := rfl
@[simp] theorem State.modPort_optics (s : State) (v0 v1) : (State.modPort s v0 v1).optics = s.optics := rfl
@[simp] theorem State.modPort_synth (s : State) (v0 v1) : (State.modPort s v0 v1).synth = s.synth := rfl
@[simp] theorem State.modPort_skim (s : State) (v0 v1) : (State.modPort s v0 v1).skim = s.skim := rfl
@[simp] theorem State.modPort_scan (s : State) (v0 v1) : (State.modPort s v0 v1).scan = s.scan := rfl
@[simp] theorem State.modPort_bb (s : State) (v0 v1) : (State.modPort s v0 v1).bb = s.bb := rfl
@[simp] theorem State.modPort_bridge (s : State) (v0 v1) : (State.modPort s v0 v1).bridge = s.bridge := rfl
@[simp] theorem State.modPort_group (s : State) (v0 v1) : (State.modPort s v0 v1).group = s.group := rfl
@[simp] theorem State.modPort_dram (s : State) (v0 v1) : (State.modPort s v0 v1).dram = s.dram := rfl
@[simp] theorem State.modPort_power (s : State) (v0 v1) : (State.modPort s v0 v1).power = s.power := rfl
@[simp] theorem State.modPort_fascia (s : State) (v0 v1) : (State.modPort s v0 v1).fascia = s.fascia := rfl
@[simp] theorem State.modPort_pending (s : State) (v0 v1) : (State.modPort s v0 v1).pending = s.pending := rfl
@[simp] theorem State.modSector_time (s : State) (v0 v1) : (State.modSector s v0 v1).time = s.time := rfl
@[simp] theorem State.modSector_gw (s : State) (v0 v1) : (State.modSector s v0 v1).gw = s.gw := rfl
@[simp] theorem State.modSector_cfg (s : State) (v0 v1) : (State.modSector s v0 v1).cfg = s.cfg := rfl
@[simp] theorem State.modSector_mram (s : State) (v0 v1) : (State.modSector s v0 v1).mram = s.mram := rfl
@[simp] theorem State.modSector_nvm (s : State) (v0 v1) : (State.modSector s v0 v1).nvm = s.nvm := rfl
@[simp] theorem State.modSector_start (s : State) (v0 v1) : (State.modSector s v0 v1).start = s.start := rfl
@[simp] theorem State.modSector_wake (s : State) (v0 v1) : (State.modSector s v0 v1).wake = s.wake := rfl
@[simp] theorem State.modSector_obs (s : State) (v0 v1) : (State.modSector s v0 v1).obs = s.obs := rfl
@[simp] theorem State.modSector_ingest (s : State) (v0 v1) : (State.modSector s v0 v1).ingest = s.ingest := rfl
@[simp] theorem State.modSector_codec (s : State) (v0 v1) : (State.modSector s v0 v1).codec = s.codec := rfl
@[simp] theorem State.modSector_harbour (s : State) (v0 v1) : (State.modSector s v0 v1).harbour = s.harbour := rfl
@[simp] theorem State.modSector_optics (s : State) (v0 v1) : (State.modSector s v0 v1).optics = s.optics := rfl
@[simp] theorem State.modSector_synth (s : State) (v0 v1) : (State.modSector s v0 v1).synth = s.synth := rfl
@[simp] theorem State.modSector_skim (s : State) (v0 v1) : (State.modSector s v0 v1).skim = s.skim := rfl
@[simp] theorem State.modSector_ports (s : State) (v0 v1) : (State.modSector s v0 v1).ports = s.ports := rfl
@[simp] theorem State.modSector_bb (s : State) (v0 v1) : (State.modSector s v0 v1).bb = s.bb := rfl
@[simp] theorem State.modSector_bridge (s : State) (v0 v1) : (State.modSector s v0 v1).bridge = s.bridge := rfl
@[simp] theorem State.modSector_group (s : State) (v0 v1) : (State.modSector s v0 v1).group = s.group := rfl
@[simp] theorem State.modSector_dram (s : State) (v0 v1) : (State.modSector s v0 v1).dram = s.dram := rfl
@[simp] theorem State.modSector_power (s : State) (v0 v1) : (State.modSector s v0 v1).power = s.power := rfl
@[simp] theorem State.modSector_fascia (s : State) (v0 v1) : (State.modSector s v0 v1).fascia = s.fascia := rfl
@[simp] theorem State.modSector_pending (s : State) (v0 v1) : (State.modSector s v0 v1).pending = s.pending := rfl
@[simp] theorem State.wakeBoundary_time (s : State) : (State.wakeBoundary s).time = s.time := rfl
@[simp] theorem State.wakeBoundary_gw (s : State) : (State.wakeBoundary s).gw = s.gw := rfl
@[simp] theorem State.wakeBoundary_cfg (s : State) : (State.wakeBoundary s).cfg = s.cfg := rfl
@[simp] theorem State.wakeBoundary_mram (s : State) : (State.wakeBoundary s).mram = s.mram := rfl
@[simp] theorem State.wakeBoundary_nvm (s : State) : (State.wakeBoundary s).nvm = s.nvm := rfl
@[simp] theorem State.wakeBoundary_start (s : State) : (State.wakeBoundary s).start = s.start := rfl
@[simp] theorem State.wakeBoundary_obs (s : State) : (State.wakeBoundary s).obs = s.obs := rfl
@[simp] theorem State.wakeBoundary_ingest (s : State) : (State.wakeBoundary s).ingest = s.ingest := rfl
@[simp] theorem State.wakeBoundary_codec (s : State) : (State.wakeBoundary s).codec = s.codec := rfl
@[simp] theorem State.wakeBoundary_harbour (s : State) : (State.wakeBoundary s).harbour = s.harbour := rfl
@[simp] theorem State.wakeBoundary_optics (s : State) : (State.wakeBoundary s).optics = s.optics := rfl
@[simp] theorem State.wakeBoundary_synth (s : State) : (State.wakeBoundary s).synth = s.synth := rfl
@[simp] theorem State.wakeBoundary_skim (s : State) : (State.wakeBoundary s).skim = s.skim := rfl
@[simp] theorem State.wakeBoundary_scan (s : State) : (State.wakeBoundary s).scan = s.scan := rfl
@[simp] theorem State.wakeBoundary_ports (s : State) : (State.wakeBoundary s).ports = s.ports := rfl
@[simp] theorem State.wakeBoundary_bb (s : State) : (State.wakeBoundary s).bb = s.bb := rfl
@[simp] theorem State.wakeBoundary_bridge (s : State) : (State.wakeBoundary s).bridge = s.bridge := rfl
@[simp] theorem State.wakeBoundary_group (s : State) : (State.wakeBoundary s).group = s.group := rfl
@[simp] theorem State.wakeBoundary_dram (s : State) : (State.wakeBoundary s).dram = s.dram := rfl
@[simp] theorem State.wakeBoundary_power (s : State) : (State.wakeBoundary s).power = s.power := rfl
@[simp] theorem State.wakeBoundary_fascia (s : State) : (State.wakeBoundary s).fascia = s.fascia := rfl
@[simp] theorem State.wakeBoundary_pending (s : State) : (State.wakeBoundary s).pending = s.pending := rfl
@[simp] theorem State.modChan_time (s : State) (v0 v1) : (State.modChan s v0 v1).time = s.time := rfl
@[simp] theorem State.modChan_gw (s : State) (v0 v1) : (State.modChan s v0 v1).gw = s.gw := rfl
@[simp] theorem State.modChan_cfg (s : State) (v0 v1) : (State.modChan s v0 v1).cfg = s.cfg := rfl
@[simp] theorem State.modChan_mram (s : State) (v0 v1) : (State.modChan s v0 v1).mram = s.mram := rfl
@[simp] theorem State.modChan_nvm (s : State) (v0 v1) : (State.modChan s v0 v1).nvm = s.nvm := rfl
@[simp] theorem State.modChan_start (s : State) (v0 v1) : (State.modChan s v0 v1).start = s.start := rfl
@[simp] theorem State.modChan_wake (s : State) (v0 v1) : (State.modChan s v0 v1).wake = s.wake := rfl
@[simp] theorem State.modChan_obs (s : State) (v0 v1) : (State.modChan s v0 v1).obs = s.obs := rfl
@[simp] theorem State.modChan_ingest (s : State) (v0 v1) : (State.modChan s v0 v1).ingest = s.ingest := rfl
@[simp] theorem State.modChan_codec (s : State) (v0 v1) : (State.modChan s v0 v1).codec = s.codec := rfl
@[simp] theorem State.modChan_harbour (s : State) (v0 v1) : (State.modChan s v0 v1).harbour = s.harbour := rfl
@[simp] theorem State.modChan_optics (s : State) (v0 v1) : (State.modChan s v0 v1).optics = s.optics := rfl
@[simp] theorem State.modChan_synth (s : State) (v0 v1) : (State.modChan s v0 v1).synth = s.synth := rfl
@[simp] theorem State.modChan_skim (s : State) (v0 v1) : (State.modChan s v0 v1).skim = s.skim := rfl
@[simp] theorem State.modChan_scan (s : State) (v0 v1) : (State.modChan s v0 v1).scan = s.scan := rfl
@[simp] theorem State.modChan_ports (s : State) (v0 v1) : (State.modChan s v0 v1).ports = s.ports := rfl
@[simp] theorem State.modChan_bb (s : State) (v0 v1) : (State.modChan s v0 v1).bb = s.bb := rfl
@[simp] theorem State.modChan_bridge (s : State) (v0 v1) : (State.modChan s v0 v1).bridge = s.bridge := rfl
@[simp] theorem State.modChan_group (s : State) (v0 v1) : (State.modChan s v0 v1).group = s.group := rfl
@[simp] theorem State.modChan_power (s : State) (v0 v1) : (State.modChan s v0 v1).power = s.power := rfl
@[simp] theorem State.modChan_fascia (s : State) (v0 v1) : (State.modChan s v0 v1).fascia = s.fascia := rfl
@[simp] theorem State.modChan_pending (s : State) (v0 v1) : (State.modChan s v0 v1).pending = s.pending := rfl
@[simp] theorem State.setMoor_time (s : State) (v0 v1) : (State.setMoor s v0 v1).time = s.time := rfl
@[simp] theorem State.setMoor_gw (s : State) (v0 v1) : (State.setMoor s v0 v1).gw = s.gw := rfl
@[simp] theorem State.setMoor_cfg (s : State) (v0 v1) : (State.setMoor s v0 v1).cfg = s.cfg := rfl
@[simp] theorem State.setMoor_mram (s : State) (v0 v1) : (State.setMoor s v0 v1).mram = s.mram := rfl
@[simp] theorem State.setMoor_nvm (s : State) (v0 v1) : (State.setMoor s v0 v1).nvm = s.nvm := rfl
@[simp] theorem State.setMoor_start (s : State) (v0 v1) : (State.setMoor s v0 v1).start = s.start := rfl
@[simp] theorem State.setMoor_wake (s : State) (v0 v1) : (State.setMoor s v0 v1).wake = s.wake := rfl
@[simp] theorem State.setMoor_obs (s : State) (v0 v1) : (State.setMoor s v0 v1).obs = s.obs := rfl
@[simp] theorem State.setMoor_codec (s : State) (v0 v1) : (State.setMoor s v0 v1).codec = s.codec := rfl
@[simp] theorem State.setMoor_harbour (s : State) (v0 v1) : (State.setMoor s v0 v1).harbour = s.harbour := rfl
@[simp] theorem State.setMoor_optics (s : State) (v0 v1) : (State.setMoor s v0 v1).optics = s.optics := rfl
@[simp] theorem State.setMoor_synth (s : State) (v0 v1) : (State.setMoor s v0 v1).synth = s.synth := rfl
@[simp] theorem State.setMoor_skim (s : State) (v0 v1) : (State.setMoor s v0 v1).skim = s.skim := rfl
@[simp] theorem State.setMoor_scan (s : State) (v0 v1) : (State.setMoor s v0 v1).scan = s.scan := rfl
@[simp] theorem State.setMoor_ports (s : State) (v0 v1) : (State.setMoor s v0 v1).ports = s.ports := rfl
@[simp] theorem State.setMoor_bb (s : State) (v0 v1) : (State.setMoor s v0 v1).bb = s.bb := rfl
@[simp] theorem State.setMoor_bridge (s : State) (v0 v1) : (State.setMoor s v0 v1).bridge = s.bridge := rfl
@[simp] theorem State.setMoor_group (s : State) (v0 v1) : (State.setMoor s v0 v1).group = s.group := rfl
@[simp] theorem State.setMoor_dram (s : State) (v0 v1) : (State.setMoor s v0 v1).dram = s.dram := rfl
@[simp] theorem State.setMoor_power (s : State) (v0 v1) : (State.setMoor s v0 v1).power = s.power := rfl
@[simp] theorem State.setMoor_fascia (s : State) (v0 v1) : (State.setMoor s v0 v1).fascia = s.fascia := rfl
@[simp] theorem State.setMoor_pending (s : State) (v0 v1) : (State.setMoor s v0 v1).pending = s.pending := rfl
@[simp] theorem State.setLane_time (s : State) (v0 v1) : (State.setLane s v0 v1).time = s.time := rfl
@[simp] theorem State.setLane_gw (s : State) (v0 v1) : (State.setLane s v0 v1).gw = s.gw := rfl
@[simp] theorem State.setLane_cfg (s : State) (v0 v1) : (State.setLane s v0 v1).cfg = s.cfg := rfl
@[simp] theorem State.setLane_mram (s : State) (v0 v1) : (State.setLane s v0 v1).mram = s.mram := rfl
@[simp] theorem State.setLane_nvm (s : State) (v0 v1) : (State.setLane s v0 v1).nvm = s.nvm := rfl
@[simp] theorem State.setLane_start (s : State) (v0 v1) : (State.setLane s v0 v1).start = s.start := rfl
@[simp] theorem State.setLane_wake (s : State) (v0 v1) : (State.setLane s v0 v1).wake = s.wake := rfl
@[simp] theorem State.setLane_obs (s : State) (v0 v1) : (State.setLane s v0 v1).obs = s.obs := rfl
@[simp] theorem State.setLane_ingest (s : State) (v0 v1) : (State.setLane s v0 v1).ingest = s.ingest := rfl
@[simp] theorem State.setLane_harbour (s : State) (v0 v1) : (State.setLane s v0 v1).harbour = s.harbour := rfl
@[simp] theorem State.setLane_optics (s : State) (v0 v1) : (State.setLane s v0 v1).optics = s.optics := rfl
@[simp] theorem State.setLane_synth (s : State) (v0 v1) : (State.setLane s v0 v1).synth = s.synth := rfl
@[simp] theorem State.setLane_skim (s : State) (v0 v1) : (State.setLane s v0 v1).skim = s.skim := rfl
@[simp] theorem State.setLane_scan (s : State) (v0 v1) : (State.setLane s v0 v1).scan = s.scan := rfl
@[simp] theorem State.setLane_ports (s : State) (v0 v1) : (State.setLane s v0 v1).ports = s.ports := rfl
@[simp] theorem State.setLane_bb (s : State) (v0 v1) : (State.setLane s v0 v1).bb = s.bb := rfl
@[simp] theorem State.setLane_bridge (s : State) (v0 v1) : (State.setLane s v0 v1).bridge = s.bridge := rfl
@[simp] theorem State.setLane_group (s : State) (v0 v1) : (State.setLane s v0 v1).group = s.group := rfl
@[simp] theorem State.setLane_dram (s : State) (v0 v1) : (State.setLane s v0 v1).dram = s.dram := rfl
@[simp] theorem State.setLane_power (s : State) (v0 v1) : (State.setLane s v0 v1).power = s.power := rfl
@[simp] theorem State.setLane_fascia (s : State) (v0 v1) : (State.setLane s v0 v1).fascia = s.fascia := rfl
@[simp] theorem State.setLane_pending (s : State) (v0 v1) : (State.setLane s v0 v1).pending = s.pending := rfl
@[simp] theorem State.setLib_time (s : State) (v0 v1) : (State.setLib s v0 v1).time = s.time := rfl
@[simp] theorem State.setLib_gw (s : State) (v0 v1) : (State.setLib s v0 v1).gw = s.gw := rfl
@[simp] theorem State.setLib_cfg (s : State) (v0 v1) : (State.setLib s v0 v1).cfg = s.cfg := rfl
@[simp] theorem State.setLib_mram (s : State) (v0 v1) : (State.setLib s v0 v1).mram = s.mram := rfl
@[simp] theorem State.setLib_nvm (s : State) (v0 v1) : (State.setLib s v0 v1).nvm = s.nvm := rfl
@[simp] theorem State.setLib_start (s : State) (v0 v1) : (State.setLib s v0 v1).start = s.start := rfl
@[simp] theorem State.setLib_wake (s : State) (v0 v1) : (State.setLib s v0 v1).wake = s.wake := rfl
@[simp] theorem State.setLib_obs (s : State) (v0 v1) : (State.setLib s v0 v1).obs = s.obs := rfl
@[simp] theorem State.setLib_ingest (s : State) (v0 v1) : (State.setLib s v0 v1).ingest = s.ingest := rfl
@[simp] theorem State.setLib_harbour (s : State) (v0 v1) : (State.setLib s v0 v1).harbour = s.harbour := rfl
@[simp] theorem State.setLib_optics (s : State) (v0 v1) : (State.setLib s v0 v1).optics = s.optics := rfl
@[simp] theorem State.setLib_synth (s : State) (v0 v1) : (State.setLib s v0 v1).synth = s.synth := rfl
@[simp] theorem State.setLib_skim (s : State) (v0 v1) : (State.setLib s v0 v1).skim = s.skim := rfl
@[simp] theorem State.setLib_scan (s : State) (v0 v1) : (State.setLib s v0 v1).scan = s.scan := rfl
@[simp] theorem State.setLib_ports (s : State) (v0 v1) : (State.setLib s v0 v1).ports = s.ports := rfl
@[simp] theorem State.setLib_bb (s : State) (v0 v1) : (State.setLib s v0 v1).bb = s.bb := rfl
@[simp] theorem State.setLib_bridge (s : State) (v0 v1) : (State.setLib s v0 v1).bridge = s.bridge := rfl
@[simp] theorem State.setLib_group (s : State) (v0 v1) : (State.setLib s v0 v1).group = s.group := rfl
@[simp] theorem State.setLib_dram (s : State) (v0 v1) : (State.setLib s v0 v1).dram = s.dram := rfl
@[simp] theorem State.setLib_power (s : State) (v0 v1) : (State.setLib s v0 v1).power = s.power := rfl
@[simp] theorem State.setLib_fascia (s : State) (v0 v1) : (State.setLib s v0 v1).fascia = s.fascia := rfl
@[simp] theorem State.setLib_pending (s : State) (v0 v1) : (State.setLib s v0 v1).pending = s.pending := rfl
@[simp] theorem State.endActivation_time (s : State) : (State.endActivation s).time = s.time := rfl
@[simp] theorem State.endActivation_gw (s : State) : (State.endActivation s).gw = s.gw := rfl
@[simp] theorem State.endActivation_cfg (s : State) : (State.endActivation s).cfg = s.cfg := rfl
@[simp] theorem State.endActivation_mram (s : State) : (State.endActivation s).mram = s.mram := rfl
@[simp] theorem State.endActivation_start (s : State) : (State.endActivation s).start = s.start := rfl
@[simp] theorem State.endActivation_wake (s : State) : (State.endActivation s).wake = s.wake := rfl
@[simp] theorem State.endActivation_obs (s : State) : (State.endActivation s).obs = s.obs := rfl
@[simp] theorem State.endActivation_ingest (s : State) : (State.endActivation s).ingest = s.ingest := rfl
@[simp] theorem State.endActivation_codec (s : State) : (State.endActivation s).codec = s.codec := rfl
@[simp] theorem State.endActivation_harbour (s : State) : (State.endActivation s).harbour = s.harbour := rfl
@[simp] theorem State.endActivation_optics (s : State) : (State.endActivation s).optics = s.optics := rfl
@[simp] theorem State.endActivation_synth (s : State) : (State.endActivation s).synth = s.synth := rfl
@[simp] theorem State.endActivation_skim (s : State) : (State.endActivation s).skim = s.skim := rfl
@[simp] theorem State.endActivation_scan (s : State) : (State.endActivation s).scan = s.scan := rfl
@[simp] theorem State.endActivation_ports (s : State) : (State.endActivation s).ports = s.ports := rfl
@[simp] theorem State.endActivation_bb (s : State) : (State.endActivation s).bb = s.bb := rfl
@[simp] theorem State.endActivation_bridge (s : State) : (State.endActivation s).bridge = s.bridge := rfl
@[simp] theorem State.endActivation_group (s : State) : (State.endActivation s).group = s.group := rfl
@[simp] theorem State.endActivation_dram (s : State) : (State.endActivation s).dram = s.dram := rfl
@[simp] theorem State.endActivation_power (s : State) : (State.endActivation s).power = s.power := rfl
@[simp] theorem State.endActivation_fascia (s : State) : (State.endActivation s).fascia = s.fascia := rfl
@[simp] theorem State.endActivation_pending (s : State) : (State.endActivation s).pending = s.pending := rfl
@[simp] theorem State.setObj_time (s : State) (v0 v1) : (State.setObj s v0 v1).time = s.time := rfl
@[simp] theorem State.setObj_gw (s : State) (v0 v1) : (State.setObj s v0 v1).gw = s.gw := rfl
@[simp] theorem State.setObj_mram (s : State) (v0 v1) : (State.setObj s v0 v1).mram = s.mram := rfl
@[simp] theorem State.setObj_nvm (s : State) (v0 v1) : (State.setObj s v0 v1).nvm = s.nvm := rfl
@[simp] theorem State.setObj_start (s : State) (v0 v1) : (State.setObj s v0 v1).start = s.start := rfl
@[simp] theorem State.setObj_wake (s : State) (v0 v1) : (State.setObj s v0 v1).wake = s.wake := rfl
@[simp] theorem State.setObj_obs (s : State) (v0 v1) : (State.setObj s v0 v1).obs = s.obs := rfl
@[simp] theorem State.setObj_ingest (s : State) (v0 v1) : (State.setObj s v0 v1).ingest = s.ingest := rfl
@[simp] theorem State.setObj_codec (s : State) (v0 v1) : (State.setObj s v0 v1).codec = s.codec := rfl
@[simp] theorem State.setObj_harbour (s : State) (v0 v1) : (State.setObj s v0 v1).harbour = s.harbour := rfl
@[simp] theorem State.setObj_optics (s : State) (v0 v1) : (State.setObj s v0 v1).optics = s.optics := rfl
@[simp] theorem State.setObj_synth (s : State) (v0 v1) : (State.setObj s v0 v1).synth = s.synth := rfl
@[simp] theorem State.setObj_skim (s : State) (v0 v1) : (State.setObj s v0 v1).skim = s.skim := rfl
@[simp] theorem State.setObj_scan (s : State) (v0 v1) : (State.setObj s v0 v1).scan = s.scan := rfl
@[simp] theorem State.setObj_ports (s : State) (v0 v1) : (State.setObj s v0 v1).ports = s.ports := rfl
@[simp] theorem State.setObj_bb (s : State) (v0 v1) : (State.setObj s v0 v1).bb = s.bb := rfl
@[simp] theorem State.setObj_bridge (s : State) (v0 v1) : (State.setObj s v0 v1).bridge = s.bridge := rfl
@[simp] theorem State.setObj_group (s : State) (v0 v1) : (State.setObj s v0 v1).group = s.group := rfl
@[simp] theorem State.setObj_dram (s : State) (v0 v1) : (State.setObj s v0 v1).dram = s.dram := rfl
@[simp] theorem State.setObj_power (s : State) (v0 v1) : (State.setObj s v0 v1).power = s.power := rfl
@[simp] theorem State.setObj_fascia (s : State) (v0 v1) : (State.setObj s v0 v1).fascia = s.fascia := rfl
@[simp] theorem State.setObj_pending (s : State) (v0 v1) : (State.setObj s v0 v1).pending = s.pending := rfl
@[simp] theorem State.oneRecord_time (s : State) : (State.oneRecord s).time = s.time := rfl
@[simp] theorem State.oneRecord_gw (s : State) : (State.oneRecord s).gw = s.gw := rfl
@[simp] theorem State.oneRecord_cfg (s : State) : (State.oneRecord s).cfg = s.cfg := rfl
@[simp] theorem State.oneRecord_mram (s : State) : (State.oneRecord s).mram = s.mram := rfl
@[simp] theorem State.oneRecord_start (s : State) : (State.oneRecord s).start = s.start := rfl
@[simp] theorem State.oneRecord_wake (s : State) : (State.oneRecord s).wake = s.wake := rfl
@[simp] theorem State.oneRecord_obs (s : State) : (State.oneRecord s).obs = s.obs := rfl
@[simp] theorem State.oneRecord_ingest (s : State) : (State.oneRecord s).ingest = s.ingest := rfl
@[simp] theorem State.oneRecord_codec (s : State) : (State.oneRecord s).codec = s.codec := rfl
@[simp] theorem State.oneRecord_harbour (s : State) : (State.oneRecord s).harbour = s.harbour := rfl
@[simp] theorem State.oneRecord_optics (s : State) : (State.oneRecord s).optics = s.optics := rfl
@[simp] theorem State.oneRecord_synth (s : State) : (State.oneRecord s).synth = s.synth := rfl
@[simp] theorem State.oneRecord_skim (s : State) : (State.oneRecord s).skim = s.skim := rfl
@[simp] theorem State.oneRecord_scan (s : State) : (State.oneRecord s).scan = s.scan := rfl
@[simp] theorem State.oneRecord_ports (s : State) : (State.oneRecord s).ports = s.ports := rfl
@[simp] theorem State.oneRecord_bb (s : State) : (State.oneRecord s).bb = s.bb := rfl
@[simp] theorem State.oneRecord_bridge (s : State) : (State.oneRecord s).bridge = s.bridge := rfl
@[simp] theorem State.oneRecord_group (s : State) : (State.oneRecord s).group = s.group := rfl
@[simp] theorem State.oneRecord_dram (s : State) : (State.oneRecord s).dram = s.dram := rfl
@[simp] theorem State.oneRecord_power (s : State) : (State.oneRecord s).power = s.power := rfl
@[simp] theorem State.oneRecord_fascia (s : State) : (State.oneRecord s).fascia = s.fascia := rfl
@[simp] theorem State.oneRecord_pending (s : State) : (State.oneRecord s).pending = s.pending := rfl
@[simp] theorem State.modGang_time (s : State) (v0 v1) : (State.modGang s v0 v1).time = s.time := rfl
@[simp] theorem State.modGang_gw (s : State) (v0 v1) : (State.modGang s v0 v1).gw = s.gw := rfl
@[simp] theorem State.modGang_cfg (s : State) (v0 v1) : (State.modGang s v0 v1).cfg = s.cfg := rfl
@[simp] theorem State.modGang_mram (s : State) (v0 v1) : (State.modGang s v0 v1).mram = s.mram := rfl
@[simp] theorem State.modGang_nvm (s : State) (v0 v1) : (State.modGang s v0 v1).nvm = s.nvm := rfl
@[simp] theorem State.modGang_start (s : State) (v0 v1) : (State.modGang s v0 v1).start = s.start := rfl
@[simp] theorem State.modGang_wake (s : State) (v0 v1) : (State.modGang s v0 v1).wake = s.wake := rfl
@[simp] theorem State.modGang_obs (s : State) (v0 v1) : (State.modGang s v0 v1).obs = s.obs := rfl
@[simp] theorem State.modGang_ingest (s : State) (v0 v1) : (State.modGang s v0 v1).ingest = s.ingest := rfl
@[simp] theorem State.modGang_codec (s : State) (v0 v1) : (State.modGang s v0 v1).codec = s.codec := rfl
@[simp] theorem State.modGang_harbour (s : State) (v0 v1) : (State.modGang s v0 v1).harbour = s.harbour := rfl
@[simp] theorem State.modGang_optics (s : State) (v0 v1) : (State.modGang s v0 v1).optics = s.optics := rfl
@[simp] theorem State.modGang_skim (s : State) (v0 v1) : (State.modGang s v0 v1).skim = s.skim := rfl
@[simp] theorem State.modGang_scan (s : State) (v0 v1) : (State.modGang s v0 v1).scan = s.scan := rfl
@[simp] theorem State.modGang_ports (s : State) (v0 v1) : (State.modGang s v0 v1).ports = s.ports := rfl
@[simp] theorem State.modGang_bb (s : State) (v0 v1) : (State.modGang s v0 v1).bb = s.bb := rfl
@[simp] theorem State.modGang_bridge (s : State) (v0 v1) : (State.modGang s v0 v1).bridge = s.bridge := rfl
@[simp] theorem State.modGang_group (s : State) (v0 v1) : (State.modGang s v0 v1).group = s.group := rfl
@[simp] theorem State.modGang_dram (s : State) (v0 v1) : (State.modGang s v0 v1).dram = s.dram := rfl
@[simp] theorem State.modGang_power (s : State) (v0 v1) : (State.modGang s v0 v1).power = s.power := rfl
@[simp] theorem State.modGang_fascia (s : State) (v0 v1) : (State.modGang s v0 v1).fascia = s.fascia := rfl
@[simp] theorem State.modGang_pending (s : State) (v0 v1) : (State.modGang s v0 v1).pending = s.pending := rfl
@[simp] theorem State.reportSlack_time (s : State) : (State.reportSlack s).time = s.time := rfl
@[simp] theorem State.reportSlack_gw (s : State) : (State.reportSlack s).gw = s.gw := rfl
@[simp] theorem State.reportSlack_cfg (s : State) : (State.reportSlack s).cfg = s.cfg := rfl
@[simp] theorem State.reportSlack_mram (s : State) : (State.reportSlack s).mram = s.mram := rfl
@[simp] theorem State.reportSlack_nvm (s : State) : (State.reportSlack s).nvm = s.nvm := rfl
@[simp] theorem State.reportSlack_start (s : State) : (State.reportSlack s).start = s.start := rfl
@[simp] theorem State.reportSlack_wake (s : State) : (State.reportSlack s).wake = s.wake := rfl
@[simp] theorem State.reportSlack_obs (s : State) : (State.reportSlack s).obs = s.obs := rfl
@[simp] theorem State.reportSlack_ingest (s : State) : (State.reportSlack s).ingest = s.ingest := rfl
@[simp] theorem State.reportSlack_codec (s : State) : (State.reportSlack s).codec = s.codec := rfl
@[simp] theorem State.reportSlack_harbour (s : State) : (State.reportSlack s).harbour = s.harbour := rfl
@[simp] theorem State.reportSlack_optics (s : State) : (State.reportSlack s).optics = s.optics := rfl
@[simp] theorem State.reportSlack_synth (s : State) : (State.reportSlack s).synth = s.synth := rfl
@[simp] theorem State.reportSlack_skim (s : State) : (State.reportSlack s).skim = s.skim := rfl
@[simp] theorem State.reportSlack_ports (s : State) : (State.reportSlack s).ports = s.ports := rfl
@[simp] theorem State.reportSlack_bb (s : State) : (State.reportSlack s).bb = s.bb := rfl
@[simp] theorem State.reportSlack_bridge (s : State) : (State.reportSlack s).bridge = s.bridge := rfl
@[simp] theorem State.reportSlack_group (s : State) : (State.reportSlack s).group = s.group := rfl
@[simp] theorem State.reportSlack_power (s : State) : (State.reportSlack s).power = s.power := rfl
@[simp] theorem State.reportSlack_fascia (s : State) : (State.reportSlack s).fascia = s.fascia := rfl
@[simp] theorem State.reportSlack_pending (s : State) : (State.reportSlack s).pending = s.pending := rfl
@[simp] theorem State.modRail_time (s : State) (v0 v1) : (State.modRail s v0 v1).time = s.time := rfl
@[simp] theorem State.modRail_gw (s : State) (v0 v1) : (State.modRail s v0 v1).gw = s.gw := rfl
@[simp] theorem State.modRail_cfg (s : State) (v0 v1) : (State.modRail s v0 v1).cfg = s.cfg := rfl
@[simp] theorem State.modRail_mram (s : State) (v0 v1) : (State.modRail s v0 v1).mram = s.mram := rfl
@[simp] theorem State.modRail_nvm (s : State) (v0 v1) : (State.modRail s v0 v1).nvm = s.nvm := rfl
@[simp] theorem State.modRail_start (s : State) (v0 v1) : (State.modRail s v0 v1).start = s.start := rfl
@[simp] theorem State.modRail_wake (s : State) (v0 v1) : (State.modRail s v0 v1).wake = s.wake := rfl
@[simp] theorem State.modRail_obs (s : State) (v0 v1) : (State.modRail s v0 v1).obs = s.obs := rfl
@[simp] theorem State.modRail_ingest (s : State) (v0 v1) : (State.modRail s v0 v1).ingest = s.ingest := rfl
@[simp] theorem State.modRail_codec (s : State) (v0 v1) : (State.modRail s v0 v1).codec = s.codec := rfl
@[simp] theorem State.modRail_harbour (s : State) (v0 v1) : (State.modRail s v0 v1).harbour = s.harbour := rfl
@[simp] theorem State.modRail_optics (s : State) (v0 v1) : (State.modRail s v0 v1).optics = s.optics := rfl
@[simp] theorem State.modRail_synth (s : State) (v0 v1) : (State.modRail s v0 v1).synth = s.synth := rfl
@[simp] theorem State.modRail_skim (s : State) (v0 v1) : (State.modRail s v0 v1).skim = s.skim := rfl
@[simp] theorem State.modRail_scan (s : State) (v0 v1) : (State.modRail s v0 v1).scan = s.scan := rfl
@[simp] theorem State.modRail_ports (s : State) (v0 v1) : (State.modRail s v0 v1).ports = s.ports := rfl
@[simp] theorem State.modRail_bb (s : State) (v0 v1) : (State.modRail s v0 v1).bb = s.bb := rfl
@[simp] theorem State.modRail_bridge (s : State) (v0 v1) : (State.modRail s v0 v1).bridge = s.bridge := rfl
@[simp] theorem State.modRail_group (s : State) (v0 v1) : (State.modRail s v0 v1).group = s.group := rfl
@[simp] theorem State.modRail_dram (s : State) (v0 v1) : (State.modRail s v0 v1).dram = s.dram := rfl
@[simp] theorem State.modRail_fascia (s : State) (v0 v1) : (State.modRail s v0 v1).fascia = s.fascia := rfl
@[simp] theorem State.modRail_pending (s : State) (v0 v1) : (State.modRail s v0 v1).pending = s.pending := rfl
@[simp] theorem State.setSurf_time (s : State) (v0 v1) : (State.setSurf s v0 v1).time = s.time := rfl
@[simp] theorem State.setSurf_gw (s : State) (v0 v1) : (State.setSurf s v0 v1).gw = s.gw := rfl
@[simp] theorem State.setSurf_cfg (s : State) (v0 v1) : (State.setSurf s v0 v1).cfg = s.cfg := rfl
@[simp] theorem State.setSurf_mram (s : State) (v0 v1) : (State.setSurf s v0 v1).mram = s.mram := rfl
@[simp] theorem State.setSurf_nvm (s : State) (v0 v1) : (State.setSurf s v0 v1).nvm = s.nvm := rfl
@[simp] theorem State.setSurf_start (s : State) (v0 v1) : (State.setSurf s v0 v1).start = s.start := rfl
@[simp] theorem State.setSurf_wake (s : State) (v0 v1) : (State.setSurf s v0 v1).wake = s.wake := rfl
@[simp] theorem State.setSurf_obs (s : State) (v0 v1) : (State.setSurf s v0 v1).obs = s.obs := rfl
@[simp] theorem State.setSurf_ingest (s : State) (v0 v1) : (State.setSurf s v0 v1).ingest = s.ingest := rfl
@[simp] theorem State.setSurf_codec (s : State) (v0 v1) : (State.setSurf s v0 v1).codec = s.codec := rfl
@[simp] theorem State.setSurf_harbour (s : State) (v0 v1) : (State.setSurf s v0 v1).harbour = s.harbour := rfl
@[simp] theorem State.setSurf_optics (s : State) (v0 v1) : (State.setSurf s v0 v1).optics = s.optics := rfl
@[simp] theorem State.setSurf_synth (s : State) (v0 v1) : (State.setSurf s v0 v1).synth = s.synth := rfl
@[simp] theorem State.setSurf_scan (s : State) (v0 v1) : (State.setSurf s v0 v1).scan = s.scan := rfl
@[simp] theorem State.setSurf_ports (s : State) (v0 v1) : (State.setSurf s v0 v1).ports = s.ports := rfl
@[simp] theorem State.setSurf_bb (s : State) (v0 v1) : (State.setSurf s v0 v1).bb = s.bb := rfl
@[simp] theorem State.setSurf_bridge (s : State) (v0 v1) : (State.setSurf s v0 v1).bridge = s.bridge := rfl
@[simp] theorem State.setSurf_group (s : State) (v0 v1) : (State.setSurf s v0 v1).group = s.group := rfl
@[simp] theorem State.setSurf_dram (s : State) (v0 v1) : (State.setSurf s v0 v1).dram = s.dram := rfl
@[simp] theorem State.setSurf_power (s : State) (v0 v1) : (State.setSurf s v0 v1).power = s.power := rfl
@[simp] theorem State.setSurf_fascia (s : State) (v0 v1) : (State.setSurf s v0 v1).fascia = s.fascia := rfl
@[simp] theorem State.setSurf_pending (s : State) (v0 v1) : (State.setSurf s v0 v1).pending = s.pending := rfl
@[simp] theorem State.queueReq_time (s : State) (v0 v1 v2) : (State.queueReq s v0 v1 v2).time = s.time := rfl
@[simp] theorem State.queueReq_gw (s : State) (v0 v1 v2) : (State.queueReq s v0 v1 v2).gw = s.gw := rfl
@[simp] theorem State.queueReq_cfg (s : State) (v0 v1 v2) : (State.queueReq s v0 v1 v2).cfg = s.cfg := rfl
@[simp] theorem State.queueReq_mram (s : State) (v0 v1 v2) : (State.queueReq s v0 v1 v2).mram = s.mram := rfl
@[simp] theorem State.queueReq_nvm (s : State) (v0 v1 v2) : (State.queueReq s v0 v1 v2).nvm = s.nvm := rfl
@[simp] theorem State.queueReq_start (s : State) (v0 v1 v2) : (State.queueReq s v0 v1 v2).start = s.start := rfl
@[simp] theorem State.queueReq_wake (s : State) (v0 v1 v2) : (State.queueReq s v0 v1 v2).wake = s.wake := rfl
@[simp] theorem State.queueReq_obs (s : State) (v0 v1 v2) : (State.queueReq s v0 v1 v2).obs = s.obs := rfl
@[simp] theorem State.queueReq_ingest (s : State) (v0 v1 v2) : (State.queueReq s v0 v1 v2).ingest = s.ingest := rfl
@[simp] theorem State.queueReq_codec (s : State) (v0 v1 v2) : (State.queueReq s v0 v1 v2).codec = s.codec := rfl
@[simp] theorem State.queueReq_optics (s : State) (v0 v1 v2) : (State.queueReq s v0 v1 v2).optics = s.optics := rfl
@[simp] theorem State.queueReq_synth (s : State) (v0 v1 v2) : (State.queueReq s v0 v1 v2).synth = s.synth := rfl
@[simp] theorem State.queueReq_skim (s : State) (v0 v1 v2) : (State.queueReq s v0 v1 v2).skim = s.skim := rfl
@[simp] theorem State.queueReq_scan (s : State) (v0 v1 v2) : (State.queueReq s v0 v1 v2).scan = s.scan := rfl
@[simp] theorem State.queueReq_ports (s : State) (v0 v1 v2) : (State.queueReq s v0 v1 v2).ports = s.ports := rfl
@[simp] theorem State.queueReq_bb (s : State) (v0 v1 v2) : (State.queueReq s v0 v1 v2).bb = s.bb := rfl
@[simp] theorem State.queueReq_bridge (s : State) (v0 v1 v2) : (State.queueReq s v0 v1 v2).bridge = s.bridge := rfl
@[simp] theorem State.queueReq_group (s : State) (v0 v1 v2) : (State.queueReq s v0 v1 v2).group = s.group := rfl
@[simp] theorem State.queueReq_dram (s : State) (v0 v1 v2) : (State.queueReq s v0 v1 v2).dram = s.dram := rfl
@[simp] theorem State.queueReq_power (s : State) (v0 v1 v2) : (State.queueReq s v0 v1 v2).power = s.power := rfl
@[simp] theorem State.queueReq_fascia (s : State) (v0 v1 v2) : (State.queueReq s v0 v1 v2).fascia = s.fascia := rfl
@[simp] theorem State.queueReq_pending (s : State) (v0 v1 v2) : (State.queueReq s v0 v1 v2).pending = s.pending := rfl
@[simp] theorem State.tally_time (s : State) (v0) : (State.tally s v0).time = s.time := rfl
@[simp] theorem State.tally_gw (s : State) (v0) : (State.tally s v0).gw = s.gw := rfl
@[simp] theorem State.tally_cfg (s : State) (v0) : (State.tally s v0).cfg = s.cfg := rfl
@[simp] theorem State.tally_mram (s : State) (v0) : (State.tally s v0).mram = s.mram := rfl
@[simp] theorem State.tally_nvm (s : State) (v0) : (State.tally s v0).nvm = s.nvm := rfl
@[simp] theorem State.tally_start (s : State) (v0) : (State.tally s v0).start = s.start := rfl
@[simp] theorem State.tally_wake (s : State) (v0) : (State.tally s v0).wake = s.wake := rfl
@[simp] theorem State.tally_ingest (s : State) (v0) : (State.tally s v0).ingest = s.ingest := rfl
@[simp] theorem State.tally_codec (s : State) (v0) : (State.tally s v0).codec = s.codec := rfl
@[simp] theorem State.tally_harbour (s : State) (v0) : (State.tally s v0).harbour = s.harbour := rfl
@[simp] theorem State.tally_optics (s : State) (v0) : (State.tally s v0).optics = s.optics := rfl
@[simp] theorem State.tally_synth (s : State) (v0) : (State.tally s v0).synth = s.synth := rfl
@[simp] theorem State.tally_skim (s : State) (v0) : (State.tally s v0).skim = s.skim := rfl
@[simp] theorem State.tally_scan (s : State) (v0) : (State.tally s v0).scan = s.scan := rfl
@[simp] theorem State.tally_ports (s : State) (v0) : (State.tally s v0).ports = s.ports := rfl
@[simp] theorem State.tally_bb (s : State) (v0) : (State.tally s v0).bb = s.bb := rfl
@[simp] theorem State.tally_bridge (s : State) (v0) : (State.tally s v0).bridge = s.bridge := rfl
@[simp] theorem State.tally_group (s : State) (v0) : (State.tally s v0).group = s.group := rfl
@[simp] theorem State.tally_dram (s : State) (v0) : (State.tally s v0).dram = s.dram := rfl
@[simp] theorem State.tally_power (s : State) (v0) : (State.tally s v0).power = s.power := rfl
@[simp] theorem State.tally_fascia (s : State) (v0) : (State.tally s v0).fascia = s.fascia := rfl
@[simp] theorem State.tally_pending (s : State) (v0) : (State.tally s v0).pending = s.pending := rfl
@[simp] theorem State.modMoor_time (s : State) (v0 v1) : (State.modMoor s v0 v1).time = s.time := rfl
@[simp] theorem State.modMoor_gw (s : State) (v0 v1) : (State.modMoor s v0 v1).gw = s.gw := rfl
@[simp] theorem State.modMoor_cfg (s : State) (v0 v1) : (State.modMoor s v0 v1).cfg = s.cfg := rfl
@[simp] theorem State.modMoor_mram (s : State) (v0 v1) : (State.modMoor s v0 v1).mram = s.mram := rfl
@[simp] theorem State.modMoor_nvm (s : State) (v0 v1) : (State.modMoor s v0 v1).nvm = s.nvm := rfl
@[simp] theorem State.modMoor_start (s : State) (v0 v1) : (State.modMoor s v0 v1).start = s.start := rfl
@[simp] theorem State.modMoor_wake (s : State) (v0 v1) : (State.modMoor s v0 v1).wake = s.wake := rfl
@[simp] theorem State.modMoor_obs (s : State) (v0 v1) : (State.modMoor s v0 v1).obs = s.obs := rfl
@[simp] theorem State.modMoor_codec (s : State) (v0 v1) : (State.modMoor s v0 v1).codec = s.codec := rfl
@[simp] theorem State.modMoor_harbour (s : State) (v0 v1) : (State.modMoor s v0 v1).harbour = s.harbour := rfl
@[simp] theorem State.modMoor_optics (s : State) (v0 v1) : (State.modMoor s v0 v1).optics = s.optics := rfl
@[simp] theorem State.modMoor_synth (s : State) (v0 v1) : (State.modMoor s v0 v1).synth = s.synth := rfl
@[simp] theorem State.modMoor_skim (s : State) (v0 v1) : (State.modMoor s v0 v1).skim = s.skim := rfl
@[simp] theorem State.modMoor_scan (s : State) (v0 v1) : (State.modMoor s v0 v1).scan = s.scan := rfl
@[simp] theorem State.modMoor_ports (s : State) (v0 v1) : (State.modMoor s v0 v1).ports = s.ports := rfl
@[simp] theorem State.modMoor_bb (s : State) (v0 v1) : (State.modMoor s v0 v1).bb = s.bb := rfl
@[simp] theorem State.modMoor_bridge (s : State) (v0 v1) : (State.modMoor s v0 v1).bridge = s.bridge := rfl
@[simp] theorem State.modMoor_group (s : State) (v0 v1) : (State.modMoor s v0 v1).group = s.group := rfl
@[simp] theorem State.modMoor_dram (s : State) (v0 v1) : (State.modMoor s v0 v1).dram = s.dram := rfl
@[simp] theorem State.modMoor_power (s : State) (v0 v1) : (State.modMoor s v0 v1).power = s.power := rfl
@[simp] theorem State.modMoor_fascia (s : State) (v0 v1) : (State.modMoor s v0 v1).fascia = s.fascia := rfl
@[simp] theorem State.modMoor_pending (s : State) (v0 v1) : (State.modMoor s v0 v1).pending = s.pending := rfl
@[simp] theorem State.took_gw (s : State) : (State.took s).gw = s.gw := rfl
@[simp] theorem State.took_cfg (s : State) : (State.took s).cfg = s.cfg := rfl
@[simp] theorem State.took_mram (s : State) : (State.took s).mram = s.mram := rfl
@[simp] theorem State.took_nvm (s : State) : (State.took s).nvm = s.nvm := rfl
@[simp] theorem State.took_start (s : State) : (State.took s).start = s.start := rfl
@[simp] theorem State.took_wake (s : State) : (State.took s).wake = s.wake := rfl
@[simp] theorem State.took_obs (s : State) : (State.took s).obs = s.obs := rfl
@[simp] theorem State.took_ingest (s : State) : (State.took s).ingest = s.ingest := rfl
@[simp] theorem State.took_codec (s : State) : (State.took s).codec = s.codec := rfl
@[simp] theorem State.took_harbour (s : State) : (State.took s).harbour = s.harbour := rfl
@[simp] theorem State.took_optics (s : State) : (State.took s).optics = s.optics := rfl
@[simp] theorem State.took_synth (s : State) : (State.took s).synth = s.synth := rfl
@[simp] theorem State.took_skim (s : State) : (State.took s).skim = s.skim := rfl
@[simp] theorem State.took_scan (s : State) : (State.took s).scan = s.scan := rfl
@[simp] theorem State.took_ports (s : State) : (State.took s).ports = s.ports := rfl
@[simp] theorem State.took_bb (s : State) : (State.took s).bb = s.bb := rfl
@[simp] theorem State.took_bridge (s : State) : (State.took s).bridge = s.bridge := rfl
@[simp] theorem State.took_group (s : State) : (State.took s).group = s.group := rfl
@[simp] theorem State.took_dram (s : State) : (State.took s).dram = s.dram := rfl
@[simp] theorem State.took_power (s : State) : (State.took s).power = s.power := rfl
@[simp] theorem State.took_fascia (s : State) : (State.took s).fascia = s.fascia := rfl
@[simp] theorem State.took_pending (s : State) : (State.took s).pending = s.pending := rfl
@[simp] theorem State.modDomain_gw (s : State) (v0 v1) : (State.modDomain s v0 v1).gw = s.gw := rfl
@[simp] theorem State.modDomain_cfg (s : State) (v0 v1) : (State.modDomain s v0 v1).cfg = s.cfg := rfl
@[simp] theorem State.modDomain_mram (s : State) (v0 v1) : (State.modDomain s v0 v1).mram = s.mram := rfl
@[simp] theorem State.modDomain_nvm (s : State) (v0 v1) : (State.modDomain s v0 v1).nvm = s.nvm := rfl
@[simp] theorem State.modDomain_start (s : State) (v0 v1) : (State.modDomain s v0 v1).start = s.start := rfl
@[simp] theorem State.modDomain_wake (s : State) (v0 v1) : (State.modDomain s v0 v1).wake = s.wake := rfl
@[simp] theorem State.modDomain_obs (s : State) (v0 v1) : (State.modDomain s v0 v1).obs = s.obs := rfl
@[simp] theorem State.modDomain_ingest (s : State) (v0 v1) : (State.modDomain s v0 v1).ingest = s.ingest := rfl
@[simp] theorem State.modDomain_codec (s : State) (v0 v1) : (State.modDomain s v0 v1).codec = s.codec := rfl
@[simp] theorem State.modDomain_harbour (s : State) (v0 v1) : (State.modDomain s v0 v1).harbour = s.harbour := rfl
@[simp] theorem State.modDomain_optics (s : State) (v0 v1) : (State.modDomain s v0 v1).optics = s.optics := rfl
@[simp] theorem State.modDomain_synth (s : State) (v0 v1) : (State.modDomain s v0 v1).synth = s.synth := rfl
@[simp] theorem State.modDomain_skim (s : State) (v0 v1) : (State.modDomain s v0 v1).skim = s.skim := rfl
@[simp] theorem State.modDomain_scan (s : State) (v0 v1) : (State.modDomain s v0 v1).scan = s.scan := rfl
@[simp] theorem State.modDomain_ports (s : State) (v0 v1) : (State.modDomain s v0 v1).ports = s.ports := rfl
@[simp] theorem State.modDomain_bb (s : State) (v0 v1) : (State.modDomain s v0 v1).bb = s.bb := rfl
@[simp] theorem State.modDomain_bridge (s : State) (v0 v1) : (State.modDomain s v0 v1).bridge = s.bridge := rfl
@[simp] theorem State.modDomain_group (s : State) (v0 v1) : (State.modDomain s v0 v1).group = s.group := rfl
@[simp] theorem State.modDomain_dram (s : State) (v0 v1) : (State.modDomain s v0 v1).dram = s.dram := rfl
@[simp] theorem State.modDomain_power (s : State) (v0 v1) : (State.modDomain s v0 v1).power = s.power := rfl
@[simp] theorem State.modDomain_fascia (s : State) (v0 v1) : (State.modDomain s v0 v1).fascia = s.fascia := rfl
@[simp] theorem State.modDomain_pending (s : State) (v0 v1) : (State.modDomain s v0 v1).pending = s.pending := rfl
@[simp] theorem State.awaitCarry_gw (s : State) (v0) : (State.awaitCarry s v0).gw = s.gw := rfl
@[simp] theorem State.awaitCarry_cfg (s : State) (v0) : (State.awaitCarry s v0).cfg = s.cfg := rfl
@[simp] theorem State.awaitCarry_mram (s : State) (v0) : (State.awaitCarry s v0).mram = s.mram := rfl
@[simp] theorem State.awaitCarry_nvm (s : State) (v0) : (State.awaitCarry s v0).nvm = s.nvm := rfl
@[simp] theorem State.awaitCarry_start (s : State) (v0) : (State.awaitCarry s v0).start = s.start := rfl
@[simp] theorem State.awaitCarry_wake (s : State) (v0) : (State.awaitCarry s v0).wake = s.wake := rfl
@[simp] theorem State.awaitCarry_obs (s : State) (v0) : (State.awaitCarry s v0).obs = s.obs := rfl
@[simp] theorem State.awaitCarry_ingest (s : State) (v0) : (State.awaitCarry s v0).ingest = s.ingest := rfl
@[simp] theorem State.awaitCarry_codec (s : State) (v0) : (State.awaitCarry s v0).codec = s.codec := rfl
@[simp] theorem State.awaitCarry_harbour (s : State) (v0) : (State.awaitCarry s v0).harbour = s.harbour := rfl
@[simp] theorem State.awaitCarry_optics (s : State) (v0) : (State.awaitCarry s v0).optics = s.optics := rfl
@[simp] theorem State.awaitCarry_synth (s : State) (v0) : (State.awaitCarry s v0).synth = s.synth := rfl
@[simp] theorem State.awaitCarry_skim (s : State) (v0) : (State.awaitCarry s v0).skim = s.skim := rfl
@[simp] theorem State.awaitCarry_scan (s : State) (v0) : (State.awaitCarry s v0).scan = s.scan := rfl
@[simp] theorem State.awaitCarry_ports (s : State) (v0) : (State.awaitCarry s v0).ports = s.ports := rfl
@[simp] theorem State.awaitCarry_bb (s : State) (v0) : (State.awaitCarry s v0).bb = s.bb := rfl
@[simp] theorem State.awaitCarry_bridge (s : State) (v0) : (State.awaitCarry s v0).bridge = s.bridge := rfl
@[simp] theorem State.awaitCarry_group (s : State) (v0) : (State.awaitCarry s v0).group = s.group := rfl
@[simp] theorem State.awaitCarry_dram (s : State) (v0) : (State.awaitCarry s v0).dram = s.dram := rfl
@[simp] theorem State.awaitCarry_power (s : State) (v0) : (State.awaitCarry s v0).power = s.power := rfl
@[simp] theorem State.awaitCarry_fascia (s : State) (v0) : (State.awaitCarry s v0).fascia = s.fascia := rfl
@[simp] theorem State.awaitCarry_pending (s : State) (v0) : (State.awaitCarry s v0).pending = s.pending := rfl
@[simp] theorem State.request_time (s : State) (v0) : (State.request s v0).time = s.time := rfl
@[simp] theorem State.request_gw (s : State) (v0) : (State.request s v0).gw = s.gw := rfl
@[simp] theorem State.request_cfg (s : State) (v0) : (State.request s v0).cfg = s.cfg := rfl
@[simp] theorem State.request_mram (s : State) (v0) : (State.request s v0).mram = s.mram := rfl
@[simp] theorem State.request_nvm (s : State) (v0) : (State.request s v0).nvm = s.nvm := rfl
@[simp] theorem State.request_start (s : State) (v0) : (State.request s v0).start = s.start := rfl
@[simp] theorem State.request_wake (s : State) (v0) : (State.request s v0).wake = s.wake := rfl
@[simp] theorem State.request_obs (s : State) (v0) : (State.request s v0).obs = s.obs := rfl
@[simp] theorem State.request_ingest (s : State) (v0) : (State.request s v0).ingest = s.ingest := rfl
@[simp] theorem State.request_codec (s : State) (v0) : (State.request s v0).codec = s.codec := rfl
@[simp] theorem State.request_harbour (s : State) (v0) : (State.request s v0).harbour = s.harbour := rfl
@[simp] theorem State.request_optics (s : State) (v0) : (State.request s v0).optics = s.optics := rfl
@[simp] theorem State.request_synth (s : State) (v0) : (State.request s v0).synth = s.synth := rfl
@[simp] theorem State.request_skim (s : State) (v0) : (State.request s v0).skim = s.skim := rfl
@[simp] theorem State.request_scan (s : State) (v0) : (State.request s v0).scan = s.scan := rfl
@[simp] theorem State.request_ports (s : State) (v0) : (State.request s v0).ports = s.ports := rfl
@[simp] theorem State.request_bb (s : State) (v0) : (State.request s v0).bb = s.bb := rfl
@[simp] theorem State.request_bridge (s : State) (v0) : (State.request s v0).bridge = s.bridge := rfl
@[simp] theorem State.request_group (s : State) (v0) : (State.request s v0).group = s.group := rfl
@[simp] theorem State.request_power (s : State) (v0) : (State.request s v0).power = s.power := rfl
@[simp] theorem State.request_fascia (s : State) (v0) : (State.request s v0).fascia = s.fascia := rfl
@[simp] theorem State.request_pending (s : State) (v0) : (State.request s v0).pending = s.pending := rfl
@[simp] theorem State.slackWakes_time (s : State) : (State.slackWakes s).time = s.time := rfl
@[simp] theorem State.slackWakes_gw (s : State) : (State.slackWakes s).gw = s.gw := rfl
@[simp] theorem State.slackWakes_cfg (s : State) : (State.slackWakes s).cfg = s.cfg := rfl
@[simp] theorem State.slackWakes_mram (s : State) : (State.slackWakes s).mram = s.mram := rfl
@[simp] theorem State.slackWakes_nvm (s : State) : (State.slackWakes s).nvm = s.nvm := rfl
@[simp] theorem State.slackWakes_start (s : State) : (State.slackWakes s).start = s.start := rfl
@[simp] theorem State.slackWakes_wake (s : State) : (State.slackWakes s).wake = s.wake := rfl
@[simp] theorem State.slackWakes_obs (s : State) : (State.slackWakes s).obs = s.obs := rfl
@[simp] theorem State.slackWakes_ingest (s : State) : (State.slackWakes s).ingest = s.ingest := rfl
@[simp] theorem State.slackWakes_codec (s : State) : (State.slackWakes s).codec = s.codec := rfl
@[simp] theorem State.slackWakes_harbour (s : State) : (State.slackWakes s).harbour = s.harbour := rfl
@[simp] theorem State.slackWakes_optics (s : State) : (State.slackWakes s).optics = s.optics := rfl
@[simp] theorem State.slackWakes_synth (s : State) : (State.slackWakes s).synth = s.synth := rfl
@[simp] theorem State.slackWakes_skim (s : State) : (State.slackWakes s).skim = s.skim := rfl
@[simp] theorem State.slackWakes_scan (s : State) : (State.slackWakes s).scan = s.scan := rfl
@[simp] theorem State.slackWakes_ports (s : State) : (State.slackWakes s).ports = s.ports := rfl
@[simp] theorem State.slackWakes_bb (s : State) : (State.slackWakes s).bb = s.bb := rfl
@[simp] theorem State.slackWakes_bridge (s : State) : (State.slackWakes s).bridge = s.bridge := rfl
@[simp] theorem State.slackWakes_group (s : State) : (State.slackWakes s).group = s.group := rfl
@[simp] theorem State.slackWakes_power (s : State) : (State.slackWakes s).power = s.power := rfl
@[simp] theorem State.slackWakes_fascia (s : State) : (State.slackWakes s).fascia = s.fascia := rfl
@[simp] theorem State.slackWakes_pending (s : State) : (State.slackWakes s).pending = s.pending := rfl
@[simp] theorem State.dramMoved_time (s : State) (v0) : (State.dramMoved s v0).time = s.time := rfl
@[simp] theorem State.dramMoved_gw (s : State) (v0) : (State.dramMoved s v0).gw = s.gw := rfl
@[simp] theorem State.dramMoved_cfg (s : State) (v0) : (State.dramMoved s v0).cfg = s.cfg := rfl
@[simp] theorem State.dramMoved_mram (s : State) (v0) : (State.dramMoved s v0).mram = s.mram := rfl
@[simp] theorem State.dramMoved_nvm (s : State) (v0) : (State.dramMoved s v0).nvm = s.nvm := rfl
@[simp] theorem State.dramMoved_start (s : State) (v0) : (State.dramMoved s v0).start = s.start := rfl
@[simp] theorem State.dramMoved_wake (s : State) (v0) : (State.dramMoved s v0).wake = s.wake := rfl
@[simp] theorem State.dramMoved_obs (s : State) (v0) : (State.dramMoved s v0).obs = s.obs := rfl
@[simp] theorem State.dramMoved_ingest (s : State) (v0) : (State.dramMoved s v0).ingest = s.ingest := rfl
@[simp] theorem State.dramMoved_codec (s : State) (v0) : (State.dramMoved s v0).codec = s.codec := rfl
@[simp] theorem State.dramMoved_optics (s : State) (v0) : (State.dramMoved s v0).optics = s.optics := rfl
@[simp] theorem State.dramMoved_synth (s : State) (v0) : (State.dramMoved s v0).synth = s.synth := rfl
@[simp] theorem State.dramMoved_skim (s : State) (v0) : (State.dramMoved s v0).skim = s.skim := rfl
@[simp] theorem State.dramMoved_scan (s : State) (v0) : (State.dramMoved s v0).scan = s.scan := rfl
@[simp] theorem State.dramMoved_ports (s : State) (v0) : (State.dramMoved s v0).ports = s.ports := rfl
@[simp] theorem State.dramMoved_bb (s : State) (v0) : (State.dramMoved s v0).bb = s.bb := rfl
@[simp] theorem State.dramMoved_bridge (s : State) (v0) : (State.dramMoved s v0).bridge = s.bridge := rfl
@[simp] theorem State.dramMoved_group (s : State) (v0) : (State.dramMoved s v0).group = s.group := rfl
@[simp] theorem State.dramMoved_dram (s : State) (v0) : (State.dramMoved s v0).dram = s.dram := rfl
@[simp] theorem State.dramMoved_power (s : State) (v0) : (State.dramMoved s v0).power = s.power := rfl
@[simp] theorem State.dramMoved_fascia (s : State) (v0) : (State.dramMoved s v0).fascia = s.fascia := rfl
@[simp] theorem State.dramMoved_pending (s : State) (v0) : (State.dramMoved s v0).pending = s.pending := rfl
@[simp] theorem State.ingestWrote_time (s : State) (v0) : (State.ingestWrote s v0).time = s.time := rfl
@[simp] theorem State.ingestWrote_gw (s : State) (v0) : (State.ingestWrote s v0).gw = s.gw := rfl
@[simp] theorem State.ingestWrote_cfg (s : State) (v0) : (State.ingestWrote s v0).cfg = s.cfg := rfl
@[simp] theorem State.ingestWrote_mram (s : State) (v0) : (State.ingestWrote s v0).mram = s.mram := rfl
@[simp] theorem State.ingestWrote_nvm (s : State) (v0) : (State.ingestWrote s v0).nvm = s.nvm := rfl
@[simp] theorem State.ingestWrote_start (s : State) (v0) : (State.ingestWrote s v0).start = s.start := rfl
@[simp] theorem State.ingestWrote_wake (s : State) (v0) : (State.ingestWrote s v0).wake = s.wake := rfl
@[simp] theorem State.ingestWrote_obs (s : State) (v0) : (State.ingestWrote s v0).obs = s.obs := rfl
@[simp] theorem State.ingestWrote_codec (s : State) (v0) : (State.ingestWrote s v0).codec = s.codec := rfl
@[simp] theorem State.ingestWrote_optics (s : State) (v0) : (State.ingestWrote s v0).optics = s.optics := rfl
@[simp] theorem State.ingestWrote_synth (s : State) (v0) : (State.ingestWrote s v0).synth = s.synth := rfl
@[simp] theorem State.ingestWrote_skim (s : State) (v0) : (State.ingestWrote s v0).skim = s.skim := rfl
@[simp] theorem State.ingestWrote_scan (s : State) (v0) : (State.ingestWrote s v0).scan = s.scan := rfl
@[simp] theorem State.ingestWrote_ports (s : State) (v0) : (State.ingestWrote s v0).ports = s.ports := rfl
@[simp] theorem State.ingestWrote_bb (s : State) (v0) : (State.ingestWrote s v0).bb = s.bb := rfl
@[simp] theorem State.ingestWrote_bridge (s : State) (v0) : (State.ingestWrote s v0).bridge = s.bridge := rfl
@[simp] theorem State.ingestWrote_group (s : State) (v0) : (State.ingestWrote s v0).group = s.group := rfl
@[simp] theorem State.ingestWrote_dram (s : State) (v0) : (State.ingestWrote s v0).dram = s.dram := rfl
@[simp] theorem State.ingestWrote_power (s : State) (v0) : (State.ingestWrote s v0).power = s.power := rfl
@[simp] theorem State.ingestWrote_fascia (s : State) (v0) : (State.ingestWrote s v0).fascia = s.fascia := rfl
@[simp] theorem State.ingestWrote_pending (s : State) (v0) : (State.ingestWrote s v0).pending = s.pending := rfl
@[simp] theorem State.otherMoved_time (s : State) (v0) : (State.otherMoved s v0).time = s.time := rfl
@[simp] theorem State.otherMoved_gw (s : State) (v0) : (State.otherMoved s v0).gw = s.gw := rfl
@[simp] theorem State.otherMoved_cfg (s : State) (v0) : (State.otherMoved s v0).cfg = s.cfg := rfl
@[simp] theorem State.otherMoved_mram (s : State) (v0) : (State.otherMoved s v0).mram = s.mram := rfl
@[simp] theorem State.otherMoved_nvm (s : State) (v0) : (State.otherMoved s v0).nvm = s.nvm := rfl
@[simp] theorem State.otherMoved_start (s : State) (v0) : (State.otherMoved s v0).start = s.start := rfl
@[simp] theorem State.otherMoved_wake (s : State) (v0) : (State.otherMoved s v0).wake = s.wake := rfl
@[simp] theorem State.otherMoved_obs (s : State) (v0) : (State.otherMoved s v0).obs = s.obs := rfl
@[simp] theorem State.otherMoved_ingest (s : State) (v0) : (State.otherMoved s v0).ingest = s.ingest := rfl
@[simp] theorem State.otherMoved_codec (s : State) (v0) : (State.otherMoved s v0).codec = s.codec := rfl
@[simp] theorem State.otherMoved_optics (s : State) (v0) : (State.otherMoved s v0).optics = s.optics := rfl
@[simp] theorem State.otherMoved_synth (s : State) (v0) : (State.otherMoved s v0).synth = s.synth := rfl
@[simp] theorem State.otherMoved_skim (s : State) (v0) : (State.otherMoved s v0).skim = s.skim := rfl
@[simp] theorem State.otherMoved_scan (s : State) (v0) : (State.otherMoved s v0).scan = s.scan := rfl
@[simp] theorem State.otherMoved_ports (s : State) (v0) : (State.otherMoved s v0).ports = s.ports := rfl
@[simp] theorem State.otherMoved_bb (s : State) (v0) : (State.otherMoved s v0).bb = s.bb := rfl
@[simp] theorem State.otherMoved_bridge (s : State) (v0) : (State.otherMoved s v0).bridge = s.bridge := rfl
@[simp] theorem State.otherMoved_group (s : State) (v0) : (State.otherMoved s v0).group = s.group := rfl
@[simp] theorem State.otherMoved_dram (s : State) (v0) : (State.otherMoved s v0).dram = s.dram := rfl
@[simp] theorem State.otherMoved_power (s : State) (v0) : (State.otherMoved s v0).power = s.power := rfl
@[simp] theorem State.otherMoved_fascia (s : State) (v0) : (State.otherMoved s v0).fascia = s.fascia := rfl
@[simp] theorem State.otherMoved_pending (s : State) (v0) : (State.otherMoved s v0).pending = s.pending := rfl
@[simp] theorem State.bgDid_time (s : State) (v0) : (State.bgDid s v0).time = s.time := rfl
@[simp] theorem State.bgDid_gw (s : State) (v0) : (State.bgDid s v0).gw = s.gw := rfl
@[simp] theorem State.bgDid_cfg (s : State) (v0) : (State.bgDid s v0).cfg = s.cfg := rfl
@[simp] theorem State.bgDid_mram (s : State) (v0) : (State.bgDid s v0).mram = s.mram := rfl
@[simp] theorem State.bgDid_nvm (s : State) (v0) : (State.bgDid s v0).nvm = s.nvm := rfl
@[simp] theorem State.bgDid_start (s : State) (v0) : (State.bgDid s v0).start = s.start := rfl
@[simp] theorem State.bgDid_wake (s : State) (v0) : (State.bgDid s v0).wake = s.wake := rfl
@[simp] theorem State.bgDid_obs (s : State) (v0) : (State.bgDid s v0).obs = s.obs := rfl
@[simp] theorem State.bgDid_ingest (s : State) (v0) : (State.bgDid s v0).ingest = s.ingest := rfl
@[simp] theorem State.bgDid_codec (s : State) (v0) : (State.bgDid s v0).codec = s.codec := rfl
@[simp] theorem State.bgDid_optics (s : State) (v0) : (State.bgDid s v0).optics = s.optics := rfl
@[simp] theorem State.bgDid_synth (s : State) (v0) : (State.bgDid s v0).synth = s.synth := rfl
@[simp] theorem State.bgDid_skim (s : State) (v0) : (State.bgDid s v0).skim = s.skim := rfl
@[simp] theorem State.bgDid_scan (s : State) (v0) : (State.bgDid s v0).scan = s.scan := rfl
@[simp] theorem State.bgDid_ports (s : State) (v0) : (State.bgDid s v0).ports = s.ports := rfl
@[simp] theorem State.bgDid_bb (s : State) (v0) : (State.bgDid s v0).bb = s.bb := rfl
@[simp] theorem State.bgDid_bridge (s : State) (v0) : (State.bgDid s v0).bridge = s.bridge := rfl
@[simp] theorem State.bgDid_group (s : State) (v0) : (State.bgDid s v0).group = s.group := rfl
@[simp] theorem State.bgDid_dram (s : State) (v0) : (State.bgDid s v0).dram = s.dram := rfl
@[simp] theorem State.bgDid_power (s : State) (v0) : (State.bgDid s v0).power = s.power := rfl
@[simp] theorem State.bgDid_fascia (s : State) (v0) : (State.bgDid s v0).fascia = s.fascia := rfl
@[simp] theorem State.bgDid_pending (s : State) (v0) : (State.bgDid s v0).pending = s.pending := rfl
@[simp] theorem State.unlearn_time (s : State) (v0) : (State.unlearn s v0).time = s.time := rfl
@[simp] theorem State.unlearn_gw (s : State) (v0) : (State.unlearn s v0).gw = s.gw := rfl
@[simp] theorem State.unlearn_cfg (s : State) (v0) : (State.unlearn s v0).cfg = s.cfg := rfl
@[simp] theorem State.unlearn_mram (s : State) (v0) : (State.unlearn s v0).mram = s.mram := rfl
@[simp] theorem State.unlearn_nvm (s : State) (v0) : (State.unlearn s v0).nvm = s.nvm := rfl
@[simp] theorem State.unlearn_start (s : State) (v0) : (State.unlearn s v0).start = s.start := rfl
@[simp] theorem State.unlearn_wake (s : State) (v0) : (State.unlearn s v0).wake = s.wake := rfl
@[simp] theorem State.unlearn_obs (s : State) (v0) : (State.unlearn s v0).obs = s.obs := rfl
@[simp] theorem State.unlearn_ingest (s : State) (v0) : (State.unlearn s v0).ingest = s.ingest := rfl
@[simp] theorem State.unlearn_codec (s : State) (v0) : (State.unlearn s v0).codec = s.codec := rfl
@[simp] theorem State.unlearn_harbour (s : State) (v0) : (State.unlearn s v0).harbour = s.harbour := rfl
@[simp] theorem State.unlearn_optics (s : State) (v0) : (State.unlearn s v0).optics = s.optics := rfl
@[simp] theorem State.unlearn_synth (s : State) (v0) : (State.unlearn s v0).synth = s.synth := rfl
@[simp] theorem State.unlearn_skim (s : State) (v0) : (State.unlearn s v0).skim = s.skim := rfl
@[simp] theorem State.unlearn_scan (s : State) (v0) : (State.unlearn s v0).scan = s.scan := rfl
@[simp] theorem State.unlearn_ports (s : State) (v0) : (State.unlearn s v0).ports = s.ports := rfl
@[simp] theorem State.unlearn_bb (s : State) (v0) : (State.unlearn s v0).bb = s.bb := rfl
@[simp] theorem State.unlearn_group (s : State) (v0) : (State.unlearn s v0).group = s.group := rfl
@[simp] theorem State.unlearn_dram (s : State) (v0) : (State.unlearn s v0).dram = s.dram := rfl
@[simp] theorem State.unlearn_power (s : State) (v0) : (State.unlearn s v0).power = s.power := rfl
@[simp] theorem State.unlearn_fascia (s : State) (v0) : (State.unlearn s v0).fascia = s.fascia := rfl
@[simp] theorem State.unlearn_pending (s : State) (v0) : (State.unlearn s v0).pending = s.pending := rfl
@[simp] theorem State.setCrc_time (s : State) (v0 v1 v2) : (State.setCrc s v0 v1 v2).time = s.time := rfl
@[simp] theorem State.setCrc_gw (s : State) (v0 v1 v2) : (State.setCrc s v0 v1 v2).gw = s.gw := rfl
@[simp] theorem State.setCrc_cfg (s : State) (v0 v1 v2) : (State.setCrc s v0 v1 v2).cfg = s.cfg := rfl
@[simp] theorem State.setCrc_mram (s : State) (v0 v1 v2) : (State.setCrc s v0 v1 v2).mram = s.mram := rfl
@[simp] theorem State.setCrc_nvm (s : State) (v0 v1 v2) : (State.setCrc s v0 v1 v2).nvm = s.nvm := rfl
@[simp] theorem State.setCrc_start (s : State) (v0 v1 v2) : (State.setCrc s v0 v1 v2).start = s.start := rfl
@[simp] theorem State.setCrc_wake (s : State) (v0 v1 v2) : (State.setCrc s v0 v1 v2).wake = s.wake := rfl
@[simp] theorem State.setCrc_obs (s : State) (v0 v1 v2) : (State.setCrc s v0 v1 v2).obs = s.obs := rfl
@[simp] theorem State.setCrc_codec (s : State) (v0 v1 v2) : (State.setCrc s v0 v1 v2).codec = s.codec := rfl
@[simp] theorem State.setCrc_harbour (s : State) (v0 v1 v2) : (State.setCrc s v0 v1 v2).harbour = s.harbour := rfl
@[simp] theorem State.setCrc_optics (s : State) (v0 v1 v2) : (State.setCrc s v0 v1 v2).optics = s.optics := rfl
@[simp] theorem State.setCrc_synth (s : State) (v0 v1 v2) : (State.setCrc s v0 v1 v2).synth = s.synth := rfl
@[simp] theorem State.setCrc_skim (s : State) (v0 v1 v2) : (State.setCrc s v0 v1 v2).skim = s.skim := rfl
@[simp] theorem State.setCrc_scan (s : State) (v0 v1 v2) : (State.setCrc s v0 v1 v2).scan = s.scan := rfl
@[simp] theorem State.setCrc_ports (s : State) (v0 v1 v2) : (State.setCrc s v0 v1 v2).ports = s.ports := rfl
@[simp] theorem State.setCrc_bb (s : State) (v0 v1 v2) : (State.setCrc s v0 v1 v2).bb = s.bb := rfl
@[simp] theorem State.setCrc_bridge (s : State) (v0 v1 v2) : (State.setCrc s v0 v1 v2).bridge = s.bridge := rfl
@[simp] theorem State.setCrc_group (s : State) (v0 v1 v2) : (State.setCrc s v0 v1 v2).group = s.group := rfl
@[simp] theorem State.setCrc_dram (s : State) (v0 v1 v2) : (State.setCrc s v0 v1 v2).dram = s.dram := rfl
@[simp] theorem State.setCrc_power (s : State) (v0 v1 v2) : (State.setCrc s v0 v1 v2).power = s.power := rfl
@[simp] theorem State.setCrc_fascia (s : State) (v0 v1 v2) : (State.setCrc s v0 v1 v2).fascia = s.fascia := rfl
@[simp] theorem State.setCrc_pending (s : State) (v0 v1 v2) : (State.setCrc s v0 v1 v2).pending = s.pending := rfl
@[simp] theorem State.movePhi_time (s : State) (v0 v1) : (State.movePhi s v0 v1).time = s.time := rfl
@[simp] theorem State.movePhi_gw (s : State) (v0 v1) : (State.movePhi s v0 v1).gw = s.gw := rfl
@[simp] theorem State.movePhi_cfg (s : State) (v0 v1) : (State.movePhi s v0 v1).cfg = s.cfg := rfl
@[simp] theorem State.movePhi_mram (s : State) (v0 v1) : (State.movePhi s v0 v1).mram = s.mram := rfl
@[simp] theorem State.movePhi_nvm (s : State) (v0 v1) : (State.movePhi s v0 v1).nvm = s.nvm := rfl
@[simp] theorem State.movePhi_start (s : State) (v0 v1) : (State.movePhi s v0 v1).start = s.start := rfl
@[simp] theorem State.movePhi_wake (s : State) (v0 v1) : (State.movePhi s v0 v1).wake = s.wake := rfl
@[simp] theorem State.movePhi_obs (s : State) (v0 v1) : (State.movePhi s v0 v1).obs = s.obs := rfl
@[simp] theorem State.movePhi_ingest (s : State) (v0 v1) : (State.movePhi s v0 v1).ingest = s.ingest := rfl
@[simp] theorem State.movePhi_codec (s : State) (v0 v1) : (State.movePhi s v0 v1).codec = s.codec := rfl
@[simp] theorem State.movePhi_harbour (s : State) (v0 v1) : (State.movePhi s v0 v1).harbour = s.harbour := rfl
@[simp] theorem State.movePhi_optics (s : State) (v0 v1) : (State.movePhi s v0 v1).optics = s.optics := rfl
@[simp] theorem State.movePhi_synth (s : State) (v0 v1) : (State.movePhi s v0 v1).synth = s.synth := rfl
@[simp] theorem State.movePhi_skim (s : State) (v0 v1) : (State.movePhi s v0 v1).skim = s.skim := rfl
@[simp] theorem State.movePhi_ports (s : State) (v0 v1) : (State.movePhi s v0 v1).ports = s.ports := rfl
@[simp] theorem State.movePhi_bb (s : State) (v0 v1) : (State.movePhi s v0 v1).bb = s.bb := rfl
@[simp] theorem State.movePhi_bridge (s : State) (v0 v1) : (State.movePhi s v0 v1).bridge = s.bridge := rfl
@[simp] theorem State.movePhi_group (s : State) (v0 v1) : (State.movePhi s v0 v1).group = s.group := rfl
@[simp] theorem State.movePhi_dram (s : State) (v0 v1) : (State.movePhi s v0 v1).dram = s.dram := rfl
@[simp] theorem State.movePhi_power (s : State) (v0 v1) : (State.movePhi s v0 v1).power = s.power := rfl
@[simp] theorem State.movePhi_fascia (s : State) (v0 v1) : (State.movePhi s v0 v1).fascia = s.fascia := rfl
@[simp] theorem State.movePhi_pending (s : State) (v0 v1) : (State.movePhi s v0 v1).pending = s.pending := rfl
@[simp] theorem State.setClane_time (s : State) (v0 v1) : (State.setClane s v0 v1).time = s.time := rfl
@[simp] theorem State.setClane_gw (s : State) (v0 v1) : (State.setClane s v0 v1).gw = s.gw := rfl
@[simp] theorem State.setClane_cfg (s : State) (v0 v1) : (State.setClane s v0 v1).cfg = s.cfg := rfl
@[simp] theorem State.setClane_mram (s : State) (v0 v1) : (State.setClane s v0 v1).mram = s.mram := rfl
@[simp] theorem State.setClane_nvm (s : State) (v0 v1) : (State.setClane s v0 v1).nvm = s.nvm := rfl
@[simp] theorem State.setClane_start (s : State) (v0 v1) : (State.setClane s v0 v1).start = s.start := rfl
@[simp] theorem State.setClane_wake (s : State) (v0 v1) : (State.setClane s v0 v1).wake = s.wake := rfl
@[simp] theorem State.setClane_obs (s : State) (v0 v1) : (State.setClane s v0 v1).obs = s.obs := rfl
@[simp] theorem State.setClane_ingest (s : State) (v0 v1) : (State.setClane s v0 v1).ingest = s.ingest := rfl
@[simp] theorem State.setClane_harbour (s : State) (v0 v1) : (State.setClane s v0 v1).harbour = s.harbour := rfl
@[simp] theorem State.setClane_optics (s : State) (v0 v1) : (State.setClane s v0 v1).optics = s.optics := rfl
@[simp] theorem State.setClane_synth (s : State) (v0 v1) : (State.setClane s v0 v1).synth = s.synth := rfl
@[simp] theorem State.setClane_skim (s : State) (v0 v1) : (State.setClane s v0 v1).skim = s.skim := rfl
@[simp] theorem State.setClane_scan (s : State) (v0 v1) : (State.setClane s v0 v1).scan = s.scan := rfl
@[simp] theorem State.setClane_ports (s : State) (v0 v1) : (State.setClane s v0 v1).ports = s.ports := rfl
@[simp] theorem State.setClane_bb (s : State) (v0 v1) : (State.setClane s v0 v1).bb = s.bb := rfl
@[simp] theorem State.setClane_bridge (s : State) (v0 v1) : (State.setClane s v0 v1).bridge = s.bridge := rfl
@[simp] theorem State.setClane_group (s : State) (v0 v1) : (State.setClane s v0 v1).group = s.group := rfl
@[simp] theorem State.setClane_dram (s : State) (v0 v1) : (State.setClane s v0 v1).dram = s.dram := rfl
@[simp] theorem State.setClane_power (s : State) (v0 v1) : (State.setClane s v0 v1).power = s.power := rfl
@[simp] theorem State.setClane_fascia (s : State) (v0 v1) : (State.setClane s v0 v1).fascia = s.fascia := rfl
@[simp] theorem State.setClane_pending (s : State) (v0 v1) : (State.setClane s v0 v1).pending = s.pending := rfl
@[simp] theorem State.putCopy_time (s : State) (v0 v1 v2) : (State.putCopy s v0 v1 v2).time = s.time := rfl
@[simp] theorem State.putCopy_gw (s : State) (v0 v1 v2) : (State.putCopy s v0 v1 v2).gw = s.gw := rfl
@[simp] theorem State.putCopy_cfg (s : State) (v0 v1 v2) : (State.putCopy s v0 v1 v2).cfg = s.cfg := rfl
@[simp] theorem State.putCopy_mram (s : State) (v0 v1 v2) : (State.putCopy s v0 v1 v2).mram = s.mram := rfl
@[simp] theorem State.putCopy_nvm (s : State) (v0 v1 v2) : (State.putCopy s v0 v1 v2).nvm = s.nvm := rfl
@[simp] theorem State.putCopy_start (s : State) (v0 v1 v2) : (State.putCopy s v0 v1 v2).start = s.start := rfl
@[simp] theorem State.putCopy_wake (s : State) (v0 v1 v2) : (State.putCopy s v0 v1 v2).wake = s.wake := rfl
@[simp] theorem State.putCopy_obs (s : State) (v0 v1 v2) : (State.putCopy s v0 v1 v2).obs = s.obs := rfl
@[simp] theorem State.putCopy_ingest (s : State) (v0 v1 v2) : (State.putCopy s v0 v1 v2).ingest = s.ingest := rfl
@[simp] theorem State.putCopy_codec (s : State) (v0 v1 v2) : (State.putCopy s v0 v1 v2).codec = s.codec := rfl
@[simp] theorem State.putCopy_optics (s : State) (v0 v1 v2) : (State.putCopy s v0 v1 v2).optics = s.optics := rfl
@[simp] theorem State.putCopy_skim (s : State) (v0 v1 v2) : (State.putCopy s v0 v1 v2).skim = s.skim := rfl
@[simp] theorem State.putCopy_scan (s : State) (v0 v1 v2) : (State.putCopy s v0 v1 v2).scan = s.scan := rfl
@[simp] theorem State.putCopy_ports (s : State) (v0 v1 v2) : (State.putCopy s v0 v1 v2).ports = s.ports := rfl
@[simp] theorem State.putCopy_bb (s : State) (v0 v1 v2) : (State.putCopy s v0 v1 v2).bb = s.bb := rfl
@[simp] theorem State.putCopy_bridge (s : State) (v0 v1 v2) : (State.putCopy s v0 v1 v2).bridge = s.bridge := rfl
@[simp] theorem State.putCopy_group (s : State) (v0 v1 v2) : (State.putCopy s v0 v1 v2).group = s.group := rfl
@[simp] theorem State.putCopy_dram (s : State) (v0 v1 v2) : (State.putCopy s v0 v1 v2).dram = s.dram := rfl
@[simp] theorem State.putCopy_power (s : State) (v0 v1 v2) : (State.putCopy s v0 v1 v2).power = s.power := rfl
@[simp] theorem State.putCopy_fascia (s : State) (v0 v1 v2) : (State.putCopy s v0 v1 v2).fascia = s.fascia := rfl
@[simp] theorem State.putCopy_pending (s : State) (v0 v1 v2) : (State.putCopy s v0 v1 v2).pending = s.pending := rfl
@[simp] theorem State.takeWindow_time (s : State) (v0 v1) : (State.takeWindow s v0 v1).time = s.time := rfl
@[simp] theorem State.takeWindow_gw (s : State) (v0 v1) : (State.takeWindow s v0 v1).gw = s.gw := rfl
@[simp] theorem State.takeWindow_cfg (s : State) (v0 v1) : (State.takeWindow s v0 v1).cfg = s.cfg := rfl
@[simp] theorem State.takeWindow_mram (s : State) (v0 v1) : (State.takeWindow s v0 v1).mram = s.mram := rfl
@[simp] theorem State.takeWindow_nvm (s : State) (v0 v1) : (State.takeWindow s v0 v1).nvm = s.nvm := rfl
@[simp] theorem State.takeWindow_start (s : State) (v0 v1) : (State.takeWindow s v0 v1).start = s.start := rfl
@[simp] theorem State.takeWindow_wake (s : State) (v0 v1) : (State.takeWindow s v0 v1).wake = s.wake := rfl
@[simp] theorem State.takeWindow_obs (s : State) (v0 v1) : (State.takeWindow s v0 v1).obs = s.obs := rfl
@[simp] theorem State.takeWindow_ingest (s : State) (v0 v1) : (State.takeWindow s v0 v1).ingest = s.ingest := rfl
@[simp] theorem State.takeWindow_codec (s : State) (v0 v1) : (State.takeWindow s v0 v1).codec = s.codec := rfl
@[simp] theorem State.takeWindow_optics (s : State) (v0 v1) : (State.takeWindow s v0 v1).optics = s.optics := rfl
@[simp] theorem State.takeWindow_synth (s : State) (v0 v1) : (State.takeWindow s v0 v1).synth = s.synth := rfl
@[simp] theorem State.takeWindow_skim (s : State) (v0 v1) : (State.takeWindow s v0 v1).skim = s.skim := rfl
@[simp] theorem State.takeWindow_scan (s : State) (v0 v1) : (State.takeWindow s v0 v1).scan = s.scan := rfl
@[simp] theorem State.takeWindow_ports (s : State) (v0 v1) : (State.takeWindow s v0 v1).ports = s.ports := rfl
@[simp] theorem State.takeWindow_bb (s : State) (v0 v1) : (State.takeWindow s v0 v1).bb = s.bb := rfl
@[simp] theorem State.takeWindow_bridge (s : State) (v0 v1) : (State.takeWindow s v0 v1).bridge = s.bridge := rfl
@[simp] theorem State.takeWindow_group (s : State) (v0 v1) : (State.takeWindow s v0 v1).group = s.group := rfl
@[simp] theorem State.takeWindow_dram (s : State) (v0 v1) : (State.takeWindow s v0 v1).dram = s.dram := rfl
@[simp] theorem State.takeWindow_power (s : State) (v0 v1) : (State.takeWindow s v0 v1).power = s.power := rfl
@[simp] theorem State.takeWindow_fascia (s : State) (v0 v1) : (State.takeWindow s v0 v1).fascia = s.fascia := rfl
@[simp] theorem State.takeWindow_pending (s : State) (v0 v1) : (State.takeWindow s v0 v1).pending = s.pending := rfl
@[simp] theorem State.spillOne_time (s : State) (v0 v1 v2) : (State.spillOne s v0 v1 v2).time = s.time := rfl
@[simp] theorem State.spillOne_gw (s : State) (v0 v1 v2) : (State.spillOne s v0 v1 v2).gw = s.gw := rfl
@[simp] theorem State.spillOne_cfg (s : State) (v0 v1 v2) : (State.spillOne s v0 v1 v2).cfg = s.cfg := rfl
@[simp] theorem State.spillOne_mram (s : State) (v0 v1 v2) : (State.spillOne s v0 v1 v2).mram = s.mram := rfl
@[simp] theorem State.spillOne_nvm (s : State) (v0 v1 v2) : (State.spillOne s v0 v1 v2).nvm = s.nvm := rfl
@[simp] theorem State.spillOne_start (s : State) (v0 v1 v2) : (State.spillOne s v0 v1 v2).start = s.start := rfl
@[simp] theorem State.spillOne_wake (s : State) (v0 v1 v2) : (State.spillOne s v0 v1 v2).wake = s.wake := rfl
@[simp] theorem State.spillOne_obs (s : State) (v0 v1 v2) : (State.spillOne s v0 v1 v2).obs = s.obs := rfl
@[simp] theorem State.spillOne_codec (s : State) (v0 v1 v2) : (State.spillOne s v0 v1 v2).codec = s.codec := rfl
@[simp] theorem State.spillOne_harbour (s : State) (v0 v1 v2) : (State.spillOne s v0 v1 v2).harbour = s.harbour := rfl
@[simp] theorem State.spillOne_optics (s : State) (v0 v1 v2) : (State.spillOne s v0 v1 v2).optics = s.optics := rfl
@[simp] theorem State.spillOne_synth (s : State) (v0 v1 v2) : (State.spillOne s v0 v1 v2).synth = s.synth := rfl
@[simp] theorem State.spillOne_skim (s : State) (v0 v1 v2) : (State.spillOne s v0 v1 v2).skim = s.skim := rfl
@[simp] theorem State.spillOne_scan (s : State) (v0 v1 v2) : (State.spillOne s v0 v1 v2).scan = s.scan := rfl
@[simp] theorem State.spillOne_ports (s : State) (v0 v1 v2) : (State.spillOne s v0 v1 v2).ports = s.ports := rfl
@[simp] theorem State.spillOne_bb (s : State) (v0 v1 v2) : (State.spillOne s v0 v1 v2).bb = s.bb := rfl
@[simp] theorem State.spillOne_bridge (s : State) (v0 v1 v2) : (State.spillOne s v0 v1 v2).bridge = s.bridge := rfl
@[simp] theorem State.spillOne_group (s : State) (v0 v1 v2) : (State.spillOne s v0 v1 v2).group = s.group := rfl
@[simp] theorem State.spillOne_dram (s : State) (v0 v1 v2) : (State.spillOne s v0 v1 v2).dram = s.dram := rfl
@[simp] theorem State.spillOne_power (s : State) (v0 v1 v2) : (State.spillOne s v0 v1 v2).power = s.power := rfl
@[simp] theorem State.spillOne_fascia (s : State) (v0 v1 v2) : (State.spillOne s v0 v1 v2).fascia = s.fascia := rfl
@[simp] theorem State.spillOne_pending (s : State) (v0 v1 v2) : (State.spillOne s v0 v1 v2).pending = s.pending := rfl
@[simp] theorem State.takeCodes_time (s : State) (v0) : (State.takeCodes s v0).time = s.time := rfl
@[simp] theorem State.takeCodes_gw (s : State) (v0) : (State.takeCodes s v0).gw = s.gw := rfl
@[simp] theorem State.takeCodes_cfg (s : State) (v0) : (State.takeCodes s v0).cfg = s.cfg := rfl
@[simp] theorem State.takeCodes_mram (s : State) (v0) : (State.takeCodes s v0).mram = s.mram := rfl
@[simp] theorem State.takeCodes_nvm (s : State) (v0) : (State.takeCodes s v0).nvm = s.nvm := rfl
@[simp] theorem State.takeCodes_start (s : State) (v0) : (State.takeCodes s v0).start = s.start := rfl
@[simp] theorem State.takeCodes_wake (s : State) (v0) : (State.takeCodes s v0).wake = s.wake := rfl
@[simp] theorem State.takeCodes_obs (s : State) (v0) : (State.takeCodes s v0).obs = s.obs := rfl
@[simp] theorem State.takeCodes_ingest (s : State) (v0) : (State.takeCodes s v0).ingest = s.ingest := rfl
@[simp] theorem State.takeCodes_codec (s : State) (v0) : (State.takeCodes s v0).codec = s.codec := rfl
@[simp] theorem State.takeCodes_harbour (s : State) (v0) : (State.takeCodes s v0).harbour = s.harbour := rfl
@[simp] theorem State.takeCodes_optics (s : State) (v0) : (State.takeCodes s v0).optics = s.optics := rfl
@[simp] theorem State.takeCodes_synth (s : State) (v0) : (State.takeCodes s v0).synth = s.synth := rfl
@[simp] theorem State.takeCodes_skim (s : State) (v0) : (State.takeCodes s v0).skim = s.skim := rfl
@[simp] theorem State.takeCodes_scan (s : State) (v0) : (State.takeCodes s v0).scan = s.scan := rfl
@[simp] theorem State.takeCodes_ports (s : State) (v0) : (State.takeCodes s v0).ports = s.ports := rfl
@[simp] theorem State.takeCodes_bb (s : State) (v0) : (State.takeCodes s v0).bb = s.bb := rfl
@[simp] theorem State.takeCodes_bridge (s : State) (v0) : (State.takeCodes s v0).bridge = s.bridge := rfl
@[simp] theorem State.takeCodes_group (s : State) (v0) : (State.takeCodes s v0).group = s.group := rfl
@[simp] theorem State.takeCodes_dram (s : State) (v0) : (State.takeCodes s v0).dram = s.dram := rfl
@[simp] theorem State.takeCodes_fascia (s : State) (v0) : (State.takeCodes s v0).fascia = s.fascia := rfl
@[simp] theorem State.takeCodes_pending (s : State) (v0) : (State.takeCodes s v0).pending = s.pending := rfl
@[simp] theorem State.misoWrite_time (s : State) (v0) : (State.misoWrite s v0).time = s.time := rfl
@[simp] theorem State.misoWrite_cfg (s : State) (v0) : (State.misoWrite s v0).cfg = s.cfg := rfl
@[simp] theorem State.misoWrite_mram (s : State) (v0) : (State.misoWrite s v0).mram = s.mram := rfl
@[simp] theorem State.misoWrite_nvm (s : State) (v0) : (State.misoWrite s v0).nvm = s.nvm := rfl
@[simp] theorem State.misoWrite_start (s : State) (v0) : (State.misoWrite s v0).start = s.start := rfl
@[simp] theorem State.misoWrite_wake (s : State) (v0) : (State.misoWrite s v0).wake = s.wake := rfl
@[simp] theorem State.misoWrite_obs (s : State) (v0) : (State.misoWrite s v0).obs = s.obs := rfl
@[simp] theorem State.misoWrite_ingest (s : State) (v0) : (State.misoWrite s v0).ingest = s.ingest := rfl
@[simp] theorem State.misoWrite_codec (s : State) (v0) : (State.misoWrite s v0).codec = s.codec := rfl
@[simp] theorem State.misoWrite_harbour (s : State) (v0) : (State.misoWrite s v0).harbour = s.harbour := rfl
@[simp] theorem State.misoWrite_optics (s : State) (v0) : (State.misoWrite s v0).optics = s.optics := rfl
@[simp] theorem State.misoWrite_synth (s : State) (v0) : (State.misoWrite s v0).synth = s.synth := rfl
@[simp] theorem State.misoWrite_skim (s : State) (v0) : (State.misoWrite s v0).skim = s.skim := rfl
@[simp] theorem State.misoWrite_scan (s : State) (v0) : (State.misoWrite s v0).scan = s.scan := rfl
@[simp] theorem State.misoWrite_ports (s : State) (v0) : (State.misoWrite s v0).ports = s.ports := rfl
@[simp] theorem State.misoWrite_bb (s : State) (v0) : (State.misoWrite s v0).bb = s.bb := rfl
@[simp] theorem State.misoWrite_bridge (s : State) (v0) : (State.misoWrite s v0).bridge = s.bridge := rfl
@[simp] theorem State.misoWrite_group (s : State) (v0) : (State.misoWrite s v0).group = s.group := rfl
@[simp] theorem State.misoWrite_dram (s : State) (v0) : (State.misoWrite s v0).dram = s.dram := rfl
@[simp] theorem State.misoWrite_power (s : State) (v0) : (State.misoWrite s v0).power = s.power := rfl
@[simp] theorem State.misoWrite_fascia (s : State) (v0) : (State.misoWrite s v0).fascia = s.fascia := rfl
@[simp] theorem State.misoWrite_pending (s : State) (v0) : (State.misoWrite s v0).pending = s.pending := rfl
@[simp] theorem State.quayPeak_time (s : State) : (State.quayPeak s).time = s.time := rfl
@[simp] theorem State.quayPeak_gw (s : State) : (State.quayPeak s).gw = s.gw := rfl
@[simp] theorem State.quayPeak_cfg (s : State) : (State.quayPeak s).cfg = s.cfg := rfl
@[simp] theorem State.quayPeak_mram (s : State) : (State.quayPeak s).mram = s.mram := rfl
@[simp] theorem State.quayPeak_nvm (s : State) : (State.quayPeak s).nvm = s.nvm := rfl
@[simp] theorem State.quayPeak_start (s : State) : (State.quayPeak s).start = s.start := rfl
@[simp] theorem State.quayPeak_wake (s : State) : (State.quayPeak s).wake = s.wake := rfl
@[simp] theorem State.quayPeak_obs (s : State) : (State.quayPeak s).obs = s.obs := rfl
@[simp] theorem State.quayPeak_codec (s : State) : (State.quayPeak s).codec = s.codec := rfl
@[simp] theorem State.quayPeak_harbour (s : State) : (State.quayPeak s).harbour = s.harbour := rfl
@[simp] theorem State.quayPeak_optics (s : State) : (State.quayPeak s).optics = s.optics := rfl
@[simp] theorem State.quayPeak_synth (s : State) : (State.quayPeak s).synth = s.synth := rfl
@[simp] theorem State.quayPeak_skim (s : State) : (State.quayPeak s).skim = s.skim := rfl
@[simp] theorem State.quayPeak_scan (s : State) : (State.quayPeak s).scan = s.scan := rfl
@[simp] theorem State.quayPeak_ports (s : State) : (State.quayPeak s).ports = s.ports := rfl
@[simp] theorem State.quayPeak_bb (s : State) : (State.quayPeak s).bb = s.bb := rfl
@[simp] theorem State.quayPeak_bridge (s : State) : (State.quayPeak s).bridge = s.bridge := rfl
@[simp] theorem State.quayPeak_group (s : State) : (State.quayPeak s).group = s.group := rfl
@[simp] theorem State.quayPeak_dram (s : State) : (State.quayPeak s).dram = s.dram := rfl
@[simp] theorem State.quayPeak_power (s : State) : (State.quayPeak s).power = s.power := rfl
@[simp] theorem State.quayPeak_fascia (s : State) : (State.quayPeak s).fascia = s.fascia := rfl
@[simp] theorem State.quayPeak_pending (s : State) : (State.quayPeak s).pending = s.pending := rfl
@[simp] theorem State.unauthCount_time (s : State) : (State.unauthCount s).time = s.time := rfl
@[simp] theorem State.unauthCount_cfg (s : State) : (State.unauthCount s).cfg = s.cfg := rfl
@[simp] theorem State.unauthCount_mram (s : State) : (State.unauthCount s).mram = s.mram := rfl
@[simp] theorem State.unauthCount_nvm (s : State) : (State.unauthCount s).nvm = s.nvm := rfl
@[simp] theorem State.unauthCount_start (s : State) : (State.unauthCount s).start = s.start := rfl
@[simp] theorem State.unauthCount_wake (s : State) : (State.unauthCount s).wake = s.wake := rfl
@[simp] theorem State.unauthCount_obs (s : State) : (State.unauthCount s).obs = s.obs := rfl
@[simp] theorem State.unauthCount_ingest (s : State) : (State.unauthCount s).ingest = s.ingest := rfl
@[simp] theorem State.unauthCount_codec (s : State) : (State.unauthCount s).codec = s.codec := rfl
@[simp] theorem State.unauthCount_harbour (s : State) : (State.unauthCount s).harbour = s.harbour := rfl
@[simp] theorem State.unauthCount_optics (s : State) : (State.unauthCount s).optics = s.optics := rfl
@[simp] theorem State.unauthCount_synth (s : State) : (State.unauthCount s).synth = s.synth := rfl
@[simp] theorem State.unauthCount_skim (s : State) : (State.unauthCount s).skim = s.skim := rfl
@[simp] theorem State.unauthCount_scan (s : State) : (State.unauthCount s).scan = s.scan := rfl
@[simp] theorem State.unauthCount_ports (s : State) : (State.unauthCount s).ports = s.ports := rfl
@[simp] theorem State.unauthCount_bb (s : State) : (State.unauthCount s).bb = s.bb := rfl
@[simp] theorem State.unauthCount_bridge (s : State) : (State.unauthCount s).bridge = s.bridge := rfl
@[simp] theorem State.unauthCount_group (s : State) : (State.unauthCount s).group = s.group := rfl
@[simp] theorem State.unauthCount_dram (s : State) : (State.unauthCount s).dram = s.dram := rfl
@[simp] theorem State.unauthCount_power (s : State) : (State.unauthCount s).power = s.power := rfl
@[simp] theorem State.unauthCount_fascia (s : State) : (State.unauthCount s).fascia = s.fascia := rfl
@[simp] theorem State.unauthCount_pending (s : State) : (State.unauthCount s).pending = s.pending := rfl
@[simp] theorem State.fasciaMarked_time (s : State) : (State.fasciaMarked s).time = s.time := rfl
@[simp] theorem State.fasciaMarked_gw (s : State) : (State.fasciaMarked s).gw = s.gw := rfl
@[simp] theorem State.fasciaMarked_cfg (s : State) : (State.fasciaMarked s).cfg = s.cfg := rfl
@[simp] theorem State.fasciaMarked_mram (s : State) : (State.fasciaMarked s).mram = s.mram := rfl
@[simp] theorem State.fasciaMarked_nvm (s : State) : (State.fasciaMarked s).nvm = s.nvm := rfl
@[simp] theorem State.fasciaMarked_start (s : State) : (State.fasciaMarked s).start = s.start := rfl
@[simp] theorem State.fasciaMarked_wake (s : State) : (State.fasciaMarked s).wake = s.wake := rfl
@[simp] theorem State.fasciaMarked_obs (s : State) : (State.fasciaMarked s).obs = s.obs := rfl
@[simp] theorem State.fasciaMarked_ingest (s : State) : (State.fasciaMarked s).ingest = s.ingest := rfl
@[simp] theorem State.fasciaMarked_codec (s : State) : (State.fasciaMarked s).codec = s.codec := rfl
@[simp] theorem State.fasciaMarked_harbour (s : State) : (State.fasciaMarked s).harbour = s.harbour := rfl
@[simp] theorem State.fasciaMarked_optics (s : State) : (State.fasciaMarked s).optics = s.optics := rfl
@[simp] theorem State.fasciaMarked_synth (s : State) : (State.fasciaMarked s).synth = s.synth := rfl
@[simp] theorem State.fasciaMarked_skim (s : State) : (State.fasciaMarked s).skim = s.skim := rfl
@[simp] theorem State.fasciaMarked_scan (s : State) : (State.fasciaMarked s).scan = s.scan := rfl
@[simp] theorem State.fasciaMarked_ports (s : State) : (State.fasciaMarked s).ports = s.ports := rfl
@[simp] theorem State.fasciaMarked_bb (s : State) : (State.fasciaMarked s).bb = s.bb := rfl
@[simp] theorem State.fasciaMarked_bridge (s : State) : (State.fasciaMarked s).bridge = s.bridge := rfl
@[simp] theorem State.fasciaMarked_group (s : State) : (State.fasciaMarked s).group = s.group := rfl
@[simp] theorem State.fasciaMarked_dram (s : State) : (State.fasciaMarked s).dram = s.dram := rfl
@[simp] theorem State.fasciaMarked_power (s : State) : (State.fasciaMarked s).power = s.power := rfl
@[simp] theorem State.fasciaMarked_pending (s : State) : (State.fasciaMarked s).pending = s.pending := rfl
@[simp] theorem State.snapTick_time (s : State) (v0) : (State.snapTick s v0).time = s.time := rfl
@[simp] theorem State.snapTick_gw (s : State) (v0) : (State.snapTick s v0).gw = s.gw := rfl
@[simp] theorem State.snapTick_cfg (s : State) (v0) : (State.snapTick s v0).cfg = s.cfg := rfl
@[simp] theorem State.snapTick_mram (s : State) (v0) : (State.snapTick s v0).mram = s.mram := rfl
@[simp] theorem State.snapTick_nvm (s : State) (v0) : (State.snapTick s v0).nvm = s.nvm := rfl
@[simp] theorem State.snapTick_start (s : State) (v0) : (State.snapTick s v0).start = s.start := rfl
@[simp] theorem State.snapTick_wake (s : State) (v0) : (State.snapTick s v0).wake = s.wake := rfl
@[simp] theorem State.snapTick_ingest (s : State) (v0) : (State.snapTick s v0).ingest = s.ingest := rfl
@[simp] theorem State.snapTick_codec (s : State) (v0) : (State.snapTick s v0).codec = s.codec := rfl
@[simp] theorem State.snapTick_harbour (s : State) (v0) : (State.snapTick s v0).harbour = s.harbour := rfl
@[simp] theorem State.snapTick_optics (s : State) (v0) : (State.snapTick s v0).optics = s.optics := rfl
@[simp] theorem State.snapTick_synth (s : State) (v0) : (State.snapTick s v0).synth = s.synth := rfl
@[simp] theorem State.snapTick_skim (s : State) (v0) : (State.snapTick s v0).skim = s.skim := rfl
@[simp] theorem State.snapTick_scan (s : State) (v0) : (State.snapTick s v0).scan = s.scan := rfl
@[simp] theorem State.snapTick_ports (s : State) (v0) : (State.snapTick s v0).ports = s.ports := rfl
@[simp] theorem State.snapTick_bb (s : State) (v0) : (State.snapTick s v0).bb = s.bb := rfl
@[simp] theorem State.snapTick_bridge (s : State) (v0) : (State.snapTick s v0).bridge = s.bridge := rfl
@[simp] theorem State.snapTick_group (s : State) (v0) : (State.snapTick s v0).group = s.group := rfl
@[simp] theorem State.snapTick_dram (s : State) (v0) : (State.snapTick s v0).dram = s.dram := rfl
@[simp] theorem State.snapTick_power (s : State) (v0) : (State.snapTick s v0).power = s.power := rfl
@[simp] theorem State.snapTick_fascia (s : State) (v0) : (State.snapTick s v0).fascia = s.fascia := rfl
@[simp] theorem State.snapTick_pending (s : State) (v0) : (State.snapTick s v0).pending = s.pending := rfl
@[simp] theorem State.countsTick_time (s : State) (v0) : (State.countsTick s v0).time = s.time := rfl
@[simp] theorem State.countsTick_gw (s : State) (v0) : (State.countsTick s v0).gw = s.gw := rfl
@[simp] theorem State.countsTick_cfg (s : State) (v0) : (State.countsTick s v0).cfg = s.cfg := rfl
@[simp] theorem State.countsTick_mram (s : State) (v0) : (State.countsTick s v0).mram = s.mram := rfl
@[simp] theorem State.countsTick_nvm (s : State) (v0) : (State.countsTick s v0).nvm = s.nvm := rfl
@[simp] theorem State.countsTick_start (s : State) (v0) : (State.countsTick s v0).start = s.start := rfl
@[simp] theorem State.countsTick_wake (s : State) (v0) : (State.countsTick s v0).wake = s.wake := rfl
@[simp] theorem State.countsTick_obs (s : State) (v0) : (State.countsTick s v0).obs = s.obs := rfl
@[simp] theorem State.countsTick_ingest (s : State) (v0) : (State.countsTick s v0).ingest = s.ingest := rfl
@[simp] theorem State.countsTick_optics (s : State) (v0) : (State.countsTick s v0).optics = s.optics := rfl
@[simp] theorem State.countsTick_synth (s : State) (v0) : (State.countsTick s v0).synth = s.synth := rfl
@[simp] theorem State.countsTick_scan (s : State) (v0) : (State.countsTick s v0).scan = s.scan := rfl
@[simp] theorem State.countsTick_ports (s : State) (v0) : (State.countsTick s v0).ports = s.ports := rfl
@[simp] theorem State.countsTick_bb (s : State) (v0) : (State.countsTick s v0).bb = s.bb := rfl
@[simp] theorem State.countsTick_bridge (s : State) (v0) : (State.countsTick s v0).bridge = s.bridge := rfl
@[simp] theorem State.countsTick_group (s : State) (v0) : (State.countsTick s v0).group = s.group := rfl
@[simp] theorem State.countsTick_dram (s : State) (v0) : (State.countsTick s v0).dram = s.dram := rfl
@[simp] theorem State.countsTick_power (s : State) (v0) : (State.countsTick s v0).power = s.power := rfl
@[simp] theorem State.countsTick_fascia (s : State) (v0) : (State.countsTick s v0).fascia = s.fascia := rfl
@[simp] theorem State.countsTick_pending (s : State) (v0) : (State.countsTick s v0).pending = s.pending := rfl
@[simp] theorem State.trigsLow_gw (s : State) : (State.trigsLow s).gw = s.gw := rfl
@[simp] theorem State.trigsLow_cfg (s : State) : (State.trigsLow s).cfg = s.cfg := rfl
@[simp] theorem State.trigsLow_mram (s : State) : (State.trigsLow s).mram = s.mram := rfl
@[simp] theorem State.trigsLow_nvm (s : State) : (State.trigsLow s).nvm = s.nvm := rfl
@[simp] theorem State.trigsLow_start (s : State) : (State.trigsLow s).start = s.start := rfl
@[simp] theorem State.trigsLow_wake (s : State) : (State.trigsLow s).wake = s.wake := rfl
@[simp] theorem State.trigsLow_obs (s : State) : (State.trigsLow s).obs = s.obs := rfl
@[simp] theorem State.trigsLow_ingest (s : State) : (State.trigsLow s).ingest = s.ingest := rfl
@[simp] theorem State.trigsLow_codec (s : State) : (State.trigsLow s).codec = s.codec := rfl
@[simp] theorem State.trigsLow_harbour (s : State) : (State.trigsLow s).harbour = s.harbour := rfl
@[simp] theorem State.trigsLow_optics (s : State) : (State.trigsLow s).optics = s.optics := rfl
@[simp] theorem State.trigsLow_synth (s : State) : (State.trigsLow s).synth = s.synth := rfl
@[simp] theorem State.trigsLow_skim (s : State) : (State.trigsLow s).skim = s.skim := rfl
@[simp] theorem State.trigsLow_scan (s : State) : (State.trigsLow s).scan = s.scan := rfl
@[simp] theorem State.trigsLow_ports (s : State) : (State.trigsLow s).ports = s.ports := rfl
@[simp] theorem State.trigsLow_bb (s : State) : (State.trigsLow s).bb = s.bb := rfl
@[simp] theorem State.trigsLow_bridge (s : State) : (State.trigsLow s).bridge = s.bridge := rfl
@[simp] theorem State.trigsLow_group (s : State) : (State.trigsLow s).group = s.group := rfl
@[simp] theorem State.trigsLow_dram (s : State) : (State.trigsLow s).dram = s.dram := rfl
@[simp] theorem State.trigsLow_power (s : State) : (State.trigsLow s).power = s.power := rfl
@[simp] theorem State.trigsLow_fascia (s : State) : (State.trigsLow s).fascia = s.fascia := rfl
@[simp] theorem State.trigsLow_pending (s : State) : (State.trigsLow s).pending = s.pending := rfl
@[simp] theorem State.clearFaults_time (s : State) : (State.clearFaults s).time = s.time := rfl
@[simp] theorem State.clearFaults_gw (s : State) : (State.clearFaults s).gw = s.gw := rfl
@[simp] theorem State.clearFaults_cfg (s : State) : (State.clearFaults s).cfg = s.cfg := rfl
@[simp] theorem State.clearFaults_mram (s : State) : (State.clearFaults s).mram = s.mram := rfl
@[simp] theorem State.clearFaults_nvm (s : State) : (State.clearFaults s).nvm = s.nvm := rfl
@[simp] theorem State.clearFaults_start (s : State) : (State.clearFaults s).start = s.start := rfl
@[simp] theorem State.clearFaults_wake (s : State) : (State.clearFaults s).wake = s.wake := rfl
@[simp] theorem State.clearFaults_obs (s : State) : (State.clearFaults s).obs = s.obs := rfl
@[simp] theorem State.clearFaults_ingest (s : State) : (State.clearFaults s).ingest = s.ingest := rfl
@[simp] theorem State.clearFaults_codec (s : State) : (State.clearFaults s).codec = s.codec := rfl
@[simp] theorem State.clearFaults_harbour (s : State) : (State.clearFaults s).harbour = s.harbour := rfl
@[simp] theorem State.clearFaults_optics (s : State) : (State.clearFaults s).optics = s.optics := rfl
@[simp] theorem State.clearFaults_synth (s : State) : (State.clearFaults s).synth = s.synth := rfl
@[simp] theorem State.clearFaults_skim (s : State) : (State.clearFaults s).skim = s.skim := rfl
@[simp] theorem State.clearFaults_scan (s : State) : (State.clearFaults s).scan = s.scan := rfl
@[simp] theorem State.clearFaults_ports (s : State) : (State.clearFaults s).ports = s.ports := rfl
@[simp] theorem State.clearFaults_bb (s : State) : (State.clearFaults s).bb = s.bb := rfl
@[simp] theorem State.clearFaults_bridge (s : State) : (State.clearFaults s).bridge = s.bridge := rfl
@[simp] theorem State.clearFaults_group (s : State) : (State.clearFaults s).group = s.group := rfl
@[simp] theorem State.clearFaults_dram (s : State) : (State.clearFaults s).dram = s.dram := rfl
@[simp] theorem State.clearFaults_fascia (s : State) : (State.clearFaults s).fascia = s.fascia := rfl
@[simp] theorem State.clearFaults_pending (s : State) : (State.clearFaults s).pending = s.pending := rfl
@[simp] theorem State.zonesFall_time (s : State) (v0) : (State.zonesFall s v0).time = s.time := rfl
@[simp] theorem State.zonesFall_gw (s : State) (v0) : (State.zonesFall s v0).gw = s.gw := rfl
@[simp] theorem State.zonesFall_cfg (s : State) (v0) : (State.zonesFall s v0).cfg = s.cfg := rfl
@[simp] theorem State.zonesFall_mram (s : State) (v0) : (State.zonesFall s v0).mram = s.mram := rfl
@[simp] theorem State.zonesFall_nvm (s : State) (v0) : (State.zonesFall s v0).nvm = s.nvm := rfl
@[simp] theorem State.zonesFall_start (s : State) (v0) : (State.zonesFall s v0).start = s.start := rfl
@[simp] theorem State.zonesFall_wake (s : State) (v0) : (State.zonesFall s v0).wake = s.wake := rfl
@[simp] theorem State.zonesFall_obs (s : State) (v0) : (State.zonesFall s v0).obs = s.obs := rfl
@[simp] theorem State.zonesFall_ingest (s : State) (v0) : (State.zonesFall s v0).ingest = s.ingest := rfl
@[simp] theorem State.zonesFall_codec (s : State) (v0) : (State.zonesFall s v0).codec = s.codec := rfl
@[simp] theorem State.zonesFall_harbour (s : State) (v0) : (State.zonesFall s v0).harbour = s.harbour := rfl
@[simp] theorem State.zonesFall_optics (s : State) (v0) : (State.zonesFall s v0).optics = s.optics := rfl
@[simp] theorem State.zonesFall_synth (s : State) (v0) : (State.zonesFall s v0).synth = s.synth := rfl
@[simp] theorem State.zonesFall_skim (s : State) (v0) : (State.zonesFall s v0).skim = s.skim := rfl
@[simp] theorem State.zonesFall_ports (s : State) (v0) : (State.zonesFall s v0).ports = s.ports := rfl
@[simp] theorem State.zonesFall_bb (s : State) (v0) : (State.zonesFall s v0).bb = s.bb := rfl
@[simp] theorem State.zonesFall_bridge (s : State) (v0) : (State.zonesFall s v0).bridge = s.bridge := rfl
@[simp] theorem State.zonesFall_group (s : State) (v0) : (State.zonesFall s v0).group = s.group := rfl
@[simp] theorem State.zonesFall_dram (s : State) (v0) : (State.zonesFall s v0).dram = s.dram := rfl
@[simp] theorem State.zonesFall_power (s : State) (v0) : (State.zonesFall s v0).power = s.power := rfl
@[simp] theorem State.zonesFall_fascia (s : State) (v0) : (State.zonesFall s v0).fascia = s.fascia := rfl
@[simp] theorem State.zonesFall_pending (s : State) (v0) : (State.zonesFall s v0).pending = s.pending := rfl
@[simp] theorem State.leaveGroup_time (s : State) : (State.leaveGroup s).time = s.time := rfl
@[simp] theorem State.leaveGroup_gw (s : State) : (State.leaveGroup s).gw = s.gw := rfl
@[simp] theorem State.leaveGroup_cfg (s : State) : (State.leaveGroup s).cfg = s.cfg := rfl
@[simp] theorem State.leaveGroup_mram (s : State) : (State.leaveGroup s).mram = s.mram := rfl
@[simp] theorem State.leaveGroup_nvm (s : State) : (State.leaveGroup s).nvm = s.nvm := rfl
@[simp] theorem State.leaveGroup_start (s : State) : (State.leaveGroup s).start = s.start := rfl
@[simp] theorem State.leaveGroup_wake (s : State) : (State.leaveGroup s).wake = s.wake := rfl
@[simp] theorem State.leaveGroup_obs (s : State) : (State.leaveGroup s).obs = s.obs := rfl
@[simp] theorem State.leaveGroup_codec (s : State) : (State.leaveGroup s).codec = s.codec := rfl
@[simp] theorem State.leaveGroup_harbour (s : State) : (State.leaveGroup s).harbour = s.harbour := rfl
@[simp] theorem State.leaveGroup_optics (s : State) : (State.leaveGroup s).optics = s.optics := rfl
@[simp] theorem State.leaveGroup_synth (s : State) : (State.leaveGroup s).synth = s.synth := rfl
@[simp] theorem State.leaveGroup_skim (s : State) : (State.leaveGroup s).skim = s.skim := rfl
@[simp] theorem State.leaveGroup_scan (s : State) : (State.leaveGroup s).scan = s.scan := rfl
@[simp] theorem State.leaveGroup_ports (s : State) : (State.leaveGroup s).ports = s.ports := rfl
@[simp] theorem State.leaveGroup_bb (s : State) : (State.leaveGroup s).bb = s.bb := rfl
@[simp] theorem State.leaveGroup_bridge (s : State) : (State.leaveGroup s).bridge = s.bridge := rfl
@[simp] theorem State.leaveGroup_dram (s : State) : (State.leaveGroup s).dram = s.dram := rfl
@[simp] theorem State.leaveGroup_power (s : State) : (State.leaveGroup s).power = s.power := rfl
@[simp] theorem State.leaveGroup_fascia (s : State) : (State.leaveGroup s).fascia = s.fascia := rfl
@[simp] theorem State.leaveGroup_pending (s : State) : (State.leaveGroup s).pending = s.pending := rfl
@[simp] theorem State.sliceTaken_time (s : State) (v0) : (State.sliceTaken s v0).time = s.time := rfl
@[simp] theorem State.sliceTaken_gw (s : State) (v0) : (State.sliceTaken s v0).gw = s.gw := rfl
@[simp] theorem State.sliceTaken_cfg (s : State) (v0) : (State.sliceTaken s v0).cfg = s.cfg := rfl
@[simp] theorem State.sliceTaken_mram (s : State) (v0) : (State.sliceTaken s v0).mram = s.mram := rfl
@[simp] theorem State.sliceTaken_nvm (s : State) (v0) : (State.sliceTaken s v0).nvm = s.nvm := rfl
@[simp] theorem State.sliceTaken_start (s : State) (v0) : (State.sliceTaken s v0).start = s.start := rfl
@[simp] theorem State.sliceTaken_wake (s : State) (v0) : (State.sliceTaken s v0).wake = s.wake := rfl
@[simp] theorem State.sliceTaken_obs (s : State) (v0) : (State.sliceTaken s v0).obs = s.obs := rfl
@[simp] theorem State.sliceTaken_ingest (s : State) (v0) : (State.sliceTaken s v0).ingest = s.ingest := rfl
@[simp] theorem State.sliceTaken_codec (s : State) (v0) : (State.sliceTaken s v0).codec = s.codec := rfl
@[simp] theorem State.sliceTaken_optics (s : State) (v0) : (State.sliceTaken s v0).optics = s.optics := rfl
@[simp] theorem State.sliceTaken_synth (s : State) (v0) : (State.sliceTaken s v0).synth = s.synth := rfl
@[simp] theorem State.sliceTaken_skim (s : State) (v0) : (State.sliceTaken s v0).skim = s.skim := rfl
@[simp] theorem State.sliceTaken_scan (s : State) (v0) : (State.sliceTaken s v0).scan = s.scan := rfl
@[simp] theorem State.sliceTaken_ports (s : State) (v0) : (State.sliceTaken s v0).ports = s.ports := rfl
@[simp] theorem State.sliceTaken_bb (s : State) (v0) : (State.sliceTaken s v0).bb = s.bb := rfl
@[simp] theorem State.sliceTaken_bridge (s : State) (v0) : (State.sliceTaken s v0).bridge = s.bridge := rfl
@[simp] theorem State.sliceTaken_group (s : State) (v0) : (State.sliceTaken s v0).group = s.group := rfl
@[simp] theorem State.sliceTaken_dram (s : State) (v0) : (State.sliceTaken s v0).dram = s.dram := rfl
@[simp] theorem State.sliceTaken_power (s : State) (v0) : (State.sliceTaken s v0).power = s.power := rfl
@[simp] theorem State.sliceTaken_fascia (s : State) (v0) : (State.sliceTaken s v0).fascia = s.fascia := rfl
@[simp] theorem State.sliceTaken_pending (s : State) (v0) : (State.sliceTaken s v0).pending = s.pending := rfl
@[simp] theorem State.markTrained_time (s : State) (v0) : (State.markTrained s v0).time = s.time := rfl
@[simp] theorem State.markTrained_gw (s : State) (v0) : (State.markTrained s v0).gw = s.gw := rfl
@[simp] theorem State.markTrained_cfg (s : State) (v0) : (State.markTrained s v0).cfg = s.cfg := rfl
@[simp] theorem State.markTrained_mram (s : State) (v0) : (State.markTrained s v0).mram = s.mram := rfl
@[simp] theorem State.markTrained_nvm (s : State) (v0) : (State.markTrained s v0).nvm = s.nvm := rfl
@[simp] theorem State.markTrained_start (s : State) (v0) : (State.markTrained s v0).start = s.start := rfl
@[simp] theorem State.markTrained_wake (s : State) (v0) : (State.markTrained s v0).wake = s.wake := rfl
@[simp] theorem State.markTrained_obs (s : State) (v0) : (State.markTrained s v0).obs = s.obs := rfl
@[simp] theorem State.markTrained_ingest (s : State) (v0) : (State.markTrained s v0).ingest = s.ingest := rfl
@[simp] theorem State.markTrained_codec (s : State) (v0) : (State.markTrained s v0).codec = s.codec := rfl
@[simp] theorem State.markTrained_harbour (s : State) (v0) : (State.markTrained s v0).harbour = s.harbour := rfl
@[simp] theorem State.markTrained_optics (s : State) (v0) : (State.markTrained s v0).optics = s.optics := rfl
@[simp] theorem State.markTrained_synth (s : State) (v0) : (State.markTrained s v0).synth = s.synth := rfl
@[simp] theorem State.markTrained_skim (s : State) (v0) : (State.markTrained s v0).skim = s.skim := rfl
@[simp] theorem State.markTrained_ports (s : State) (v0) : (State.markTrained s v0).ports = s.ports := rfl
@[simp] theorem State.markTrained_bb (s : State) (v0) : (State.markTrained s v0).bb = s.bb := rfl
@[simp] theorem State.markTrained_bridge (s : State) (v0) : (State.markTrained s v0).bridge = s.bridge := rfl
@[simp] theorem State.markTrained_group (s : State) (v0) : (State.markTrained s v0).group = s.group := rfl
@[simp] theorem State.markTrained_dram (s : State) (v0) : (State.markTrained s v0).dram = s.dram := rfl
@[simp] theorem State.markTrained_power (s : State) (v0) : (State.markTrained s v0).power = s.power := rfl
@[simp] theorem State.markTrained_fascia (s : State) (v0) : (State.markTrained s v0).fascia = s.fascia := rfl
@[simp] theorem State.markTrained_pending (s : State) (v0) : (State.markTrained s v0).pending = s.pending := rfl
@[simp] theorem State.setCctx_time (s : State) (v0 v1) : (State.setCctx s v0 v1).time = s.time := rfl
@[simp] theorem State.setCctx_gw (s : State) (v0 v1) : (State.setCctx s v0 v1).gw = s.gw := rfl
@[simp] theorem State.setCctx_cfg (s : State) (v0 v1) : (State.setCctx s v0 v1).cfg = s.cfg := rfl
@[simp] theorem State.setCctx_mram (s : State) (v0 v1) : (State.setCctx s v0 v1).mram = s.mram := rfl
@[simp] theorem State.setCctx_nvm (s : State) (v0 v1) : (State.setCctx s v0 v1).nvm = s.nvm := rfl
@[simp] theorem State.setCctx_start (s : State) (v0 v1) : (State.setCctx s v0 v1).start = s.start := rfl
@[simp] theorem State.setCctx_wake (s : State) (v0 v1) : (State.setCctx s v0 v1).wake = s.wake := rfl
@[simp] theorem State.setCctx_obs (s : State) (v0 v1) : (State.setCctx s v0 v1).obs = s.obs := rfl
@[simp] theorem State.setCctx_ingest (s : State) (v0 v1) : (State.setCctx s v0 v1).ingest = s.ingest := rfl
@[simp] theorem State.setCctx_harbour (s : State) (v0 v1) : (State.setCctx s v0 v1).harbour = s.harbour := rfl
@[simp] theorem State.setCctx_optics (s : State) (v0 v1) : (State.setCctx s v0 v1).optics = s.optics := rfl
@[simp] theorem State.setCctx_synth (s : State) (v0 v1) : (State.setCctx s v0 v1).synth = s.synth := rfl
@[simp] theorem State.setCctx_skim (s : State) (v0 v1) : (State.setCctx s v0 v1).skim = s.skim := rfl
@[simp] theorem State.setCctx_scan (s : State) (v0 v1) : (State.setCctx s v0 v1).scan = s.scan := rfl
@[simp] theorem State.setCctx_ports (s : State) (v0 v1) : (State.setCctx s v0 v1).ports = s.ports := rfl
@[simp] theorem State.setCctx_bb (s : State) (v0 v1) : (State.setCctx s v0 v1).bb = s.bb := rfl
@[simp] theorem State.setCctx_bridge (s : State) (v0 v1) : (State.setCctx s v0 v1).bridge = s.bridge := rfl
@[simp] theorem State.setCctx_group (s : State) (v0 v1) : (State.setCctx s v0 v1).group = s.group := rfl
@[simp] theorem State.setCctx_dram (s : State) (v0 v1) : (State.setCctx s v0 v1).dram = s.dram := rfl
@[simp] theorem State.setCctx_power (s : State) (v0 v1) : (State.setCctx s v0 v1).power = s.power := rfl
@[simp] theorem State.setCctx_fascia (s : State) (v0 v1) : (State.setCctx s v0 v1).fascia = s.fascia := rfl
@[simp] theorem State.setCctx_pending (s : State) (v0 v1) : (State.setCctx s v0 v1).pending = s.pending := rfl
@[simp] theorem State.pmSend_time (s : State) (v0 v1 v2) : (State.pmSend s v0 v1 v2).time = s.time := rfl
@[simp] theorem State.pmSend_gw (s : State) (v0 v1 v2) : (State.pmSend s v0 v1 v2).gw = s.gw := rfl
@[simp] theorem State.pmSend_cfg (s : State) (v0 v1 v2) : (State.pmSend s v0 v1 v2).cfg = s.cfg := rfl
@[simp] theorem State.pmSend_mram (s : State) (v0 v1 v2) : (State.pmSend s v0 v1 v2).mram = s.mram := rfl
@[simp] theorem State.pmSend_nvm (s : State) (v0 v1 v2) : (State.pmSend s v0 v1 v2).nvm = s.nvm := rfl
@[simp] theorem State.pmSend_start (s : State) (v0 v1 v2) : (State.pmSend s v0 v1 v2).start = s.start := rfl
@[simp] theorem State.pmSend_wake (s : State) (v0 v1 v2) : (State.pmSend s v0 v1 v2).wake = s.wake := rfl
@[simp] theorem State.pmSend_obs (s : State) (v0 v1 v2) : (State.pmSend s v0 v1 v2).obs = s.obs := rfl
@[simp] theorem State.pmSend_ingest (s : State) (v0 v1 v2) : (State.pmSend s v0 v1 v2).ingest = s.ingest := rfl
@[simp] theorem State.pmSend_codec (s : State) (v0 v1 v2) : (State.pmSend s v0 v1 v2).codec = s.codec := rfl
@[simp] theorem State.pmSend_harbour (s : State) (v0 v1 v2) : (State.pmSend s v0 v1 v2).harbour = s.harbour := rfl
@[simp] theorem State.pmSend_optics (s : State) (v0 v1 v2) : (State.pmSend s v0 v1 v2).optics = s.optics := rfl
@[simp] theorem State.pmSend_synth (s : State) (v0 v1 v2) : (State.pmSend s v0 v1 v2).synth = s.synth := rfl
@[simp] theorem State.pmSend_skim (s : State) (v0 v1 v2) : (State.pmSend s v0 v1 v2).skim = s.skim := rfl
@[simp] theorem State.pmSend_scan (s : State) (v0 v1 v2) : (State.pmSend s v0 v1 v2).scan = s.scan := rfl
@[simp] theorem State.pmSend_ports (s : State) (v0 v1 v2) : (State.pmSend s v0 v1 v2).ports = s.ports := rfl
@[simp] theorem State.pmSend_bb (s : State) (v0 v1 v2) : (State.pmSend s v0 v1 v2).bb = s.bb := rfl
@[simp] theorem State.pmSend_bridge (s : State) (v0 v1 v2) : (State.pmSend s v0 v1 v2).bridge = s.bridge := rfl
@[simp] theorem State.pmSend_group (s : State) (v0 v1 v2) : (State.pmSend s v0 v1 v2).group = s.group := rfl
@[simp] theorem State.pmSend_dram (s : State) (v0 v1 v2) : (State.pmSend s v0 v1 v2).dram = s.dram := rfl
@[simp] theorem State.pmSend_fascia (s : State) (v0 v1 v2) : (State.pmSend s v0 v1 v2).fascia = s.fascia := rfl
@[simp] theorem State.pmSend_pending (s : State) (v0 v1 v2) : (State.pmSend s v0 v1 v2).pending = s.pending := rfl
@[simp] theorem State.startSweep_time (s : State) (v0 v1) : (State.startSweep s v0 v1).time = s.time := rfl
@[simp] theorem State.startSweep_gw (s : State) (v0 v1) : (State.startSweep s v0 v1).gw = s.gw := rfl
@[simp] theorem State.startSweep_cfg (s : State) (v0 v1) : (State.startSweep s v0 v1).cfg = s.cfg := rfl
@[simp] theorem State.startSweep_mram (s : State) (v0 v1) : (State.startSweep s v0 v1).mram = s.mram := rfl
@[simp] theorem State.startSweep_nvm (s : State) (v0 v1) : (State.startSweep s v0 v1).nvm = s.nvm := rfl
@[simp] theorem State.startSweep_start (s : State) (v0 v1) : (State.startSweep s v0 v1).start = s.start := rfl
@[simp] theorem State.startSweep_wake (s : State) (v0 v1) : (State.startSweep s v0 v1).wake = s.wake := rfl
@[simp] theorem State.startSweep_obs (s : State) (v0 v1) : (State.startSweep s v0 v1).obs = s.obs := rfl
@[simp] theorem State.startSweep_ingest (s : State) (v0 v1) : (State.startSweep s v0 v1).ingest = s.ingest := rfl
@[simp] theorem State.startSweep_codec (s : State) (v0 v1) : (State.startSweep s v0 v1).codec = s.codec := rfl
@[simp] theorem State.startSweep_harbour (s : State) (v0 v1) : (State.startSweep s v0 v1).harbour = s.harbour := rfl
@[simp] theorem State.startSweep_optics (s : State) (v0 v1) : (State.startSweep s v0 v1).optics = s.optics := rfl
@[simp] theorem State.startSweep_synth (s : State) (v0 v1) : (State.startSweep s v0 v1).synth = s.synth := rfl
@[simp] theorem State.startSweep_skim (s : State) (v0 v1) : (State.startSweep s v0 v1).skim = s.skim := rfl
@[simp] theorem State.startSweep_scan (s : State) (v0 v1) : (State.startSweep s v0 v1).scan = s.scan := rfl
@[simp] theorem State.startSweep_ports (s : State) (v0 v1) : (State.startSweep s v0 v1).ports = s.ports := rfl
@[simp] theorem State.startSweep_bb (s : State) (v0 v1) : (State.startSweep s v0 v1).bb = s.bb := rfl
@[simp] theorem State.startSweep_bridge (s : State) (v0 v1) : (State.startSweep s v0 v1).bridge = s.bridge := rfl
@[simp] theorem State.startSweep_group (s : State) (v0 v1) : (State.startSweep s v0 v1).group = s.group := rfl
@[simp] theorem State.startSweep_power (s : State) (v0 v1) : (State.startSweep s v0 v1).power = s.power := rfl
@[simp] theorem State.startSweep_fascia (s : State) (v0 v1) : (State.startSweep s v0 v1).fascia = s.fascia := rfl
@[simp] theorem State.startSweep_pending (s : State) (v0 v1) : (State.startSweep s v0 v1).pending = s.pending := rfl
@[simp] theorem State.attemptEnds_time (s : State) (v0) : (State.attemptEnds s v0).time = s.time := rfl
@[simp] theorem State.attemptEnds_gw (s : State) (v0) : (State.attemptEnds s v0).gw = s.gw := rfl
@[simp] theorem State.attemptEnds_cfg (s : State) (v0) : (State.attemptEnds s v0).cfg = s.cfg := rfl
@[simp] theorem State.attemptEnds_mram (s : State) (v0) : (State.attemptEnds s v0).mram = s.mram := rfl
@[simp] theorem State.attemptEnds_nvm (s : State) (v0) : (State.attemptEnds s v0).nvm = s.nvm := rfl
@[simp] theorem State.attemptEnds_start (s : State) (v0) : (State.attemptEnds s v0).start = s.start := rfl
@[simp] theorem State.attemptEnds_wake (s : State) (v0) : (State.attemptEnds s v0).wake = s.wake := rfl
@[simp] theorem State.attemptEnds_obs (s : State) (v0) : (State.attemptEnds s v0).obs = s.obs := rfl
@[simp] theorem State.attemptEnds_ingest (s : State) (v0) : (State.attemptEnds s v0).ingest = s.ingest := rfl
@[simp] theorem State.attemptEnds_codec (s : State) (v0) : (State.attemptEnds s v0).codec = s.codec := rfl
@[simp] theorem State.attemptEnds_harbour (s : State) (v0) : (State.attemptEnds s v0).harbour = s.harbour := rfl
@[simp] theorem State.attemptEnds_optics (s : State) (v0) : (State.attemptEnds s v0).optics = s.optics := rfl
@[simp] theorem State.attemptEnds_synth (s : State) (v0) : (State.attemptEnds s v0).synth = s.synth := rfl
@[simp] theorem State.attemptEnds_skim (s : State) (v0) : (State.attemptEnds s v0).skim = s.skim := rfl
@[simp] theorem State.attemptEnds_scan (s : State) (v0) : (State.attemptEnds s v0).scan = s.scan := rfl
@[simp] theorem State.attemptEnds_ports (s : State) (v0) : (State.attemptEnds s v0).ports = s.ports := rfl
@[simp] theorem State.attemptEnds_bb (s : State) (v0) : (State.attemptEnds s v0).bb = s.bb := rfl
@[simp] theorem State.attemptEnds_bridge (s : State) (v0) : (State.attemptEnds s v0).bridge = s.bridge := rfl
@[simp] theorem State.attemptEnds_group (s : State) (v0) : (State.attemptEnds s v0).group = s.group := rfl
@[simp] theorem State.attemptEnds_dram (s : State) (v0) : (State.attemptEnds s v0).dram = s.dram := rfl
@[simp] theorem State.attemptEnds_fascia (s : State) (v0) : (State.attemptEnds s v0).fascia = s.fascia := rfl
@[simp] theorem State.attemptEnds_pending (s : State) (v0) : (State.attemptEnds s v0).pending = s.pending := rfl
@[simp] theorem State.writeHeader_time (s : State) (v0 v1) : (State.writeHeader s v0 v1).time = s.time := rfl
@[simp] theorem State.writeHeader_gw (s : State) (v0 v1) : (State.writeHeader s v0 v1).gw = s.gw := rfl
@[simp] theorem State.writeHeader_cfg (s : State) (v0 v1) : (State.writeHeader s v0 v1).cfg = s.cfg := rfl
@[simp] theorem State.writeHeader_nvm (s : State) (v0 v1) : (State.writeHeader s v0 v1).nvm = s.nvm := rfl
@[simp] theorem State.writeHeader_start (s : State) (v0 v1) : (State.writeHeader s v0 v1).start = s.start := rfl
@[simp] theorem State.writeHeader_wake (s : State) (v0 v1) : (State.writeHeader s v0 v1).wake = s.wake := rfl
@[simp] theorem State.writeHeader_obs (s : State) (v0 v1) : (State.writeHeader s v0 v1).obs = s.obs := rfl
@[simp] theorem State.writeHeader_ingest (s : State) (v0 v1) : (State.writeHeader s v0 v1).ingest = s.ingest := rfl
@[simp] theorem State.writeHeader_codec (s : State) (v0 v1) : (State.writeHeader s v0 v1).codec = s.codec := rfl
@[simp] theorem State.writeHeader_harbour (s : State) (v0 v1) : (State.writeHeader s v0 v1).harbour = s.harbour := rfl
@[simp] theorem State.writeHeader_optics (s : State) (v0 v1) : (State.writeHeader s v0 v1).optics = s.optics := rfl
@[simp] theorem State.writeHeader_synth (s : State) (v0 v1) : (State.writeHeader s v0 v1).synth = s.synth := rfl
@[simp] theorem State.writeHeader_skim (s : State) (v0 v1) : (State.writeHeader s v0 v1).skim = s.skim := rfl
@[simp] theorem State.writeHeader_scan (s : State) (v0 v1) : (State.writeHeader s v0 v1).scan = s.scan := rfl
@[simp] theorem State.writeHeader_ports (s : State) (v0 v1) : (State.writeHeader s v0 v1).ports = s.ports := rfl
@[simp] theorem State.writeHeader_bb (s : State) (v0 v1) : (State.writeHeader s v0 v1).bb = s.bb := rfl
@[simp] theorem State.writeHeader_bridge (s : State) (v0 v1) : (State.writeHeader s v0 v1).bridge = s.bridge := rfl
@[simp] theorem State.writeHeader_group (s : State) (v0 v1) : (State.writeHeader s v0 v1).group = s.group := rfl
@[simp] theorem State.writeHeader_dram (s : State) (v0 v1) : (State.writeHeader s v0 v1).dram = s.dram := rfl
@[simp] theorem State.writeHeader_power (s : State) (v0 v1) : (State.writeHeader s v0 v1).power = s.power := rfl
@[simp] theorem State.writeHeader_fascia (s : State) (v0 v1) : (State.writeHeader s v0 v1).fascia = s.fascia := rfl
@[simp] theorem State.writeHeader_pending (s : State) (v0 v1) : (State.writeHeader s v0 v1).pending = s.pending := rfl
@[simp] theorem State.takeSecurity_time (s : State) : (State.takeSecurity s).time = s.time := rfl
@[simp] theorem State.takeSecurity_cfg (s : State) : (State.takeSecurity s).cfg = s.cfg := rfl
@[simp] theorem State.takeSecurity_mram (s : State) : (State.takeSecurity s).mram = s.mram := rfl
@[simp] theorem State.takeSecurity_start (s : State) : (State.takeSecurity s).start = s.start := rfl
@[simp] theorem State.takeSecurity_wake (s : State) : (State.takeSecurity s).wake = s.wake := rfl
@[simp] theorem State.takeSecurity_obs (s : State) : (State.takeSecurity s).obs = s.obs := rfl
@[simp] theorem State.takeSecurity_ingest (s : State) : (State.takeSecurity s).ingest = s.ingest := rfl
@[simp] theorem State.takeSecurity_codec (s : State) : (State.takeSecurity s).codec = s.codec := rfl
@[simp] theorem State.takeSecurity_harbour (s : State) : (State.takeSecurity s).harbour = s.harbour := rfl
@[simp] theorem State.takeSecurity_optics (s : State) : (State.takeSecurity s).optics = s.optics := rfl
@[simp] theorem State.takeSecurity_synth (s : State) : (State.takeSecurity s).synth = s.synth := rfl
@[simp] theorem State.takeSecurity_skim (s : State) : (State.takeSecurity s).skim = s.skim := rfl
@[simp] theorem State.takeSecurity_scan (s : State) : (State.takeSecurity s).scan = s.scan := rfl
@[simp] theorem State.takeSecurity_ports (s : State) : (State.takeSecurity s).ports = s.ports := rfl
@[simp] theorem State.takeSecurity_bb (s : State) : (State.takeSecurity s).bb = s.bb := rfl
@[simp] theorem State.takeSecurity_bridge (s : State) : (State.takeSecurity s).bridge = s.bridge := rfl
@[simp] theorem State.takeSecurity_group (s : State) : (State.takeSecurity s).group = s.group := rfl
@[simp] theorem State.takeSecurity_dram (s : State) : (State.takeSecurity s).dram = s.dram := rfl
@[simp] theorem State.takeSecurity_power (s : State) : (State.takeSecurity s).power = s.power := rfl
@[simp] theorem State.takeSecurity_fascia (s : State) : (State.takeSecurity s).fascia = s.fascia := rfl
@[simp] theorem State.takeSecurity_pending (s : State) : (State.takeSecurity s).pending = s.pending := rfl
@[simp] theorem State.laneOut_time (s : State) (v0 v1) : (State.laneOut s v0 v1).time = s.time := rfl
@[simp] theorem State.laneOut_gw (s : State) (v0 v1) : (State.laneOut s v0 v1).gw = s.gw := rfl
@[simp] theorem State.laneOut_cfg (s : State) (v0 v1) : (State.laneOut s v0 v1).cfg = s.cfg := rfl
@[simp] theorem State.laneOut_mram (s : State) (v0 v1) : (State.laneOut s v0 v1).mram = s.mram := rfl
@[simp] theorem State.laneOut_nvm (s : State) (v0 v1) : (State.laneOut s v0 v1).nvm = s.nvm := rfl
@[simp] theorem State.laneOut_start (s : State) (v0 v1) : (State.laneOut s v0 v1).start = s.start := rfl
@[simp] theorem State.laneOut_wake (s : State) (v0 v1) : (State.laneOut s v0 v1).wake = s.wake := rfl
@[simp] theorem State.laneOut_obs (s : State) (v0 v1) : (State.laneOut s v0 v1).obs = s.obs := rfl
@[simp] theorem State.laneOut_ingest (s : State) (v0 v1) : (State.laneOut s v0 v1).ingest = s.ingest := rfl
@[simp] theorem State.laneOut_harbour (s : State) (v0 v1) : (State.laneOut s v0 v1).harbour = s.harbour := rfl
@[simp] theorem State.laneOut_optics (s : State) (v0 v1) : (State.laneOut s v0 v1).optics = s.optics := rfl
@[simp] theorem State.laneOut_synth (s : State) (v0 v1) : (State.laneOut s v0 v1).synth = s.synth := rfl
@[simp] theorem State.laneOut_skim (s : State) (v0 v1) : (State.laneOut s v0 v1).skim = s.skim := rfl
@[simp] theorem State.laneOut_scan (s : State) (v0 v1) : (State.laneOut s v0 v1).scan = s.scan := rfl
@[simp] theorem State.laneOut_ports (s : State) (v0 v1) : (State.laneOut s v0 v1).ports = s.ports := rfl
@[simp] theorem State.laneOut_bb (s : State) (v0 v1) : (State.laneOut s v0 v1).bb = s.bb := rfl
@[simp] theorem State.laneOut_bridge (s : State) (v0 v1) : (State.laneOut s v0 v1).bridge = s.bridge := rfl
@[simp] theorem State.laneOut_group (s : State) (v0 v1) : (State.laneOut s v0 v1).group = s.group := rfl
@[simp] theorem State.laneOut_dram (s : State) (v0 v1) : (State.laneOut s v0 v1).dram = s.dram := rfl
@[simp] theorem State.laneOut_power (s : State) (v0 v1) : (State.laneOut s v0 v1).power = s.power := rfl
@[simp] theorem State.laneOut_fascia (s : State) (v0 v1) : (State.laneOut s v0 v1).fascia = s.fascia := rfl
@[simp] theorem State.laneOut_pending (s : State) (v0 v1) : (State.laneOut s v0 v1).pending = s.pending := rfl
@[simp] theorem State.enqueue_time (s : State) (v0 v1) : (State.enqueue s v0 v1).time = s.time := rfl
@[simp] theorem State.enqueue_gw (s : State) (v0 v1) : (State.enqueue s v0 v1).gw = s.gw := rfl
@[simp] theorem State.enqueue_cfg (s : State) (v0 v1) : (State.enqueue s v0 v1).cfg = s.cfg := rfl
@[simp] theorem State.enqueue_mram (s : State) (v0 v1) : (State.enqueue s v0 v1).mram = s.mram := rfl
@[simp] theorem State.enqueue_nvm (s : State) (v0 v1) : (State.enqueue s v0 v1).nvm = s.nvm := rfl
@[simp] theorem State.enqueue_start (s : State) (v0 v1) : (State.enqueue s v0 v1).start = s.start := rfl
@[simp] theorem State.enqueue_wake (s : State) (v0 v1) : (State.enqueue s v0 v1).wake = s.wake := rfl
@[simp] theorem State.enqueue_obs (s : State) (v0 v1) : (State.enqueue s v0 v1).obs = s.obs := rfl
@[simp] theorem State.enqueue_ingest (s : State) (v0 v1) : (State.enqueue s v0 v1).ingest = s.ingest := rfl
@[simp] theorem State.enqueue_codec (s : State) (v0 v1) : (State.enqueue s v0 v1).codec = s.codec := rfl
@[simp] theorem State.enqueue_harbour (s : State) (v0 v1) : (State.enqueue s v0 v1).harbour = s.harbour := rfl
@[simp] theorem State.enqueue_optics (s : State) (v0 v1) : (State.enqueue s v0 v1).optics = s.optics := rfl
@[simp] theorem State.enqueue_synth (s : State) (v0 v1) : (State.enqueue s v0 v1).synth = s.synth := rfl
@[simp] theorem State.enqueue_skim (s : State) (v0 v1) : (State.enqueue s v0 v1).skim = s.skim := rfl
@[simp] theorem State.enqueue_scan (s : State) (v0 v1) : (State.enqueue s v0 v1).scan = s.scan := rfl
@[simp] theorem State.enqueue_ports (s : State) (v0 v1) : (State.enqueue s v0 v1).ports = s.ports := rfl
@[simp] theorem State.enqueue_bb (s : State) (v0 v1) : (State.enqueue s v0 v1).bb = s.bb := rfl
@[simp] theorem State.enqueue_group (s : State) (v0 v1) : (State.enqueue s v0 v1).group = s.group := rfl
@[simp] theorem State.enqueue_dram (s : State) (v0 v1) : (State.enqueue s v0 v1).dram = s.dram := rfl
@[simp] theorem State.enqueue_power (s : State) (v0 v1) : (State.enqueue s v0 v1).power = s.power := rfl
@[simp] theorem State.enqueue_fascia (s : State) (v0 v1) : (State.enqueue s v0 v1).fascia = s.fascia := rfl
@[simp] theorem State.enqueue_pending (s : State) (v0 v1) : (State.enqueue s v0 v1).pending = s.pending := rfl
@[simp] theorem State.restripe_time (s : State) (v0) : (State.restripe s v0).time = s.time := rfl
@[simp] theorem State.restripe_gw (s : State) (v0) : (State.restripe s v0).gw = s.gw := rfl
@[simp] theorem State.restripe_cfg (s : State) (v0) : (State.restripe s v0).cfg = s.cfg := rfl
@[simp] theorem State.restripe_mram (s : State) (v0) : (State.restripe s v0).mram = s.mram := rfl
@[simp] theorem State.restripe_nvm (s : State) (v0) : (State.restripe s v0).nvm = s.nvm := rfl
@[simp] theorem State.restripe_start (s : State) (v0) : (State.restripe s v0).start = s.start := rfl
@[simp] theorem State.restripe_wake (s : State) (v0) : (State.restripe s v0).wake = s.wake := rfl
@[simp] theorem State.restripe_obs (s : State) (v0) : (State.restripe s v0).obs = s.obs := rfl
@[simp] theorem State.restripe_ingest (s : State) (v0) : (State.restripe s v0).ingest = s.ingest := rfl
@[simp] theorem State.restripe_codec (s : State) (v0) : (State.restripe s v0).codec = s.codec := rfl
@[simp] theorem State.restripe_harbour (s : State) (v0) : (State.restripe s v0).harbour = s.harbour := rfl
@[simp] theorem State.restripe_optics (s : State) (v0) : (State.restripe s v0).optics = s.optics := rfl
@[simp] theorem State.restripe_synth (s : State) (v0) : (State.restripe s v0).synth = s.synth := rfl
@[simp] theorem State.restripe_scan (s : State) (v0) : (State.restripe s v0).scan = s.scan := rfl
@[simp] theorem State.restripe_ports (s : State) (v0) : (State.restripe s v0).ports = s.ports := rfl
@[simp] theorem State.restripe_bb (s : State) (v0) : (State.restripe s v0).bb = s.bb := rfl
@[simp] theorem State.restripe_bridge (s : State) (v0) : (State.restripe s v0).bridge = s.bridge := rfl
@[simp] theorem State.restripe_group (s : State) (v0) : (State.restripe s v0).group = s.group := rfl
@[simp] theorem State.restripe_power (s : State) (v0) : (State.restripe s v0).power = s.power := rfl
@[simp] theorem State.restripe_fascia (s : State) (v0) : (State.restripe s v0).fascia = s.fascia := rfl
@[simp] theorem State.restripe_pending (s : State) (v0) : (State.restripe s v0).pending = s.pending := rfl
@[simp] theorem State.zeroFailed_time (s : State) : (State.zeroFailed s).time = s.time := rfl
@[simp] theorem State.zeroFailed_gw (s : State) : (State.zeroFailed s).gw = s.gw := rfl
@[simp] theorem State.zeroFailed_cfg (s : State) : (State.zeroFailed s).cfg = s.cfg := rfl
@[simp] theorem State.zeroFailed_mram (s : State) : (State.zeroFailed s).mram = s.mram := rfl
@[simp] theorem State.zeroFailed_nvm (s : State) : (State.zeroFailed s).nvm = s.nvm := rfl
@[simp] theorem State.zeroFailed_start (s : State) : (State.zeroFailed s).start = s.start := rfl
@[simp] theorem State.zeroFailed_wake (s : State) : (State.zeroFailed s).wake = s.wake := rfl
@[simp] theorem State.zeroFailed_obs (s : State) : (State.zeroFailed s).obs = s.obs := rfl
@[simp] theorem State.zeroFailed_ingest (s : State) : (State.zeroFailed s).ingest = s.ingest := rfl
@[simp] theorem State.zeroFailed_codec (s : State) : (State.zeroFailed s).codec = s.codec := rfl
@[simp] theorem State.zeroFailed_harbour (s : State) : (State.zeroFailed s).harbour = s.harbour := rfl
@[simp] theorem State.zeroFailed_optics (s : State) : (State.zeroFailed s).optics = s.optics := rfl
@[simp] theorem State.zeroFailed_synth (s : State) : (State.zeroFailed s).synth = s.synth := rfl
@[simp] theorem State.zeroFailed_scan (s : State) : (State.zeroFailed s).scan = s.scan := rfl
@[simp] theorem State.zeroFailed_ports (s : State) : (State.zeroFailed s).ports = s.ports := rfl
@[simp] theorem State.zeroFailed_bb (s : State) : (State.zeroFailed s).bb = s.bb := rfl
@[simp] theorem State.zeroFailed_bridge (s : State) : (State.zeroFailed s).bridge = s.bridge := rfl
@[simp] theorem State.zeroFailed_group (s : State) : (State.zeroFailed s).group = s.group := rfl
@[simp] theorem State.zeroFailed_dram (s : State) : (State.zeroFailed s).dram = s.dram := rfl
@[simp] theorem State.zeroFailed_power (s : State) : (State.zeroFailed s).power = s.power := rfl
@[simp] theorem State.zeroFailed_fascia (s : State) : (State.zeroFailed s).fascia = s.fascia := rfl
@[simp] theorem State.zeroFailed_pending (s : State) : (State.zeroFailed s).pending = s.pending := rfl
@[simp] theorem State.beginTxn_time (s : State) (v0 v1) : (State.beginTxn s v0 v1).time = s.time := rfl
@[simp] theorem State.beginTxn_gw (s : State) (v0 v1) : (State.beginTxn s v0 v1).gw = s.gw := rfl
@[simp] theorem State.beginTxn_cfg (s : State) (v0 v1) : (State.beginTxn s v0 v1).cfg = s.cfg := rfl
@[simp] theorem State.beginTxn_mram (s : State) (v0 v1) : (State.beginTxn s v0 v1).mram = s.mram := rfl
@[simp] theorem State.beginTxn_start (s : State) (v0 v1) : (State.beginTxn s v0 v1).start = s.start := rfl
@[simp] theorem State.beginTxn_wake (s : State) (v0 v1) : (State.beginTxn s v0 v1).wake = s.wake := rfl
@[simp] theorem State.beginTxn_obs (s : State) (v0 v1) : (State.beginTxn s v0 v1).obs = s.obs := rfl
@[simp] theorem State.beginTxn_ingest (s : State) (v0 v1) : (State.beginTxn s v0 v1).ingest = s.ingest := rfl
@[simp] theorem State.beginTxn_codec (s : State) (v0 v1) : (State.beginTxn s v0 v1).codec = s.codec := rfl
@[simp] theorem State.beginTxn_harbour (s : State) (v0 v1) : (State.beginTxn s v0 v1).harbour = s.harbour := rfl
@[simp] theorem State.beginTxn_optics (s : State) (v0 v1) : (State.beginTxn s v0 v1).optics = s.optics := rfl
@[simp] theorem State.beginTxn_synth (s : State) (v0 v1) : (State.beginTxn s v0 v1).synth = s.synth := rfl
@[simp] theorem State.beginTxn_skim (s : State) (v0 v1) : (State.beginTxn s v0 v1).skim = s.skim := rfl
@[simp] theorem State.beginTxn_scan (s : State) (v0 v1) : (State.beginTxn s v0 v1).scan = s.scan := rfl
@[simp] theorem State.beginTxn_ports (s : State) (v0 v1) : (State.beginTxn s v0 v1).ports = s.ports := rfl
@[simp] theorem State.beginTxn_bb (s : State) (v0 v1) : (State.beginTxn s v0 v1).bb = s.bb := rfl
@[simp] theorem State.beginTxn_bridge (s : State) (v0 v1) : (State.beginTxn s v0 v1).bridge = s.bridge := rfl
@[simp] theorem State.beginTxn_group (s : State) (v0 v1) : (State.beginTxn s v0 v1).group = s.group := rfl
@[simp] theorem State.beginTxn_dram (s : State) (v0 v1) : (State.beginTxn s v0 v1).dram = s.dram := rfl
@[simp] theorem State.beginTxn_power (s : State) (v0 v1) : (State.beginTxn s v0 v1).power = s.power := rfl
@[simp] theorem State.beginTxn_fascia (s : State) (v0 v1) : (State.beginTxn s v0 v1).fascia = s.fascia := rfl
@[simp] theorem State.beginTxn_pending (s : State) (v0 v1) : (State.beginTxn s v0 v1).pending = s.pending := rfl
@[simp] theorem State.lineCounted_time (s : State) (v0 v1) : (State.lineCounted s v0 v1).time = s.time := rfl
@[simp] theorem State.lineCounted_gw (s : State) (v0 v1) : (State.lineCounted s v0 v1).gw = s.gw := rfl
@[simp] theorem State.lineCounted_cfg (s : State) (v0 v1) : (State.lineCounted s v0 v1).cfg = s.cfg := rfl
@[simp] theorem State.lineCounted_mram (s : State) (v0 v1) : (State.lineCounted s v0 v1).mram = s.mram := rfl
@[simp] theorem State.lineCounted_nvm (s : State) (v0 v1) : (State.lineCounted s v0 v1).nvm = s.nvm := rfl
@[simp] theorem State.lineCounted_start (s : State) (v0 v1) : (State.lineCounted s v0 v1).start = s.start := rfl
@[simp] theorem State.lineCounted_wake (s : State) (v0 v1) : (State.lineCounted s v0 v1).wake = s.wake := rfl
@[simp] theorem State.lineCounted_ingest (s : State) (v0 v1) : (State.lineCounted s v0 v1).ingest = s.ingest := rfl
@[simp] theorem State.lineCounted_codec (s : State) (v0 v1) : (State.lineCounted s v0 v1).codec = s.codec := rfl
@[simp] theorem State.lineCounted_harbour (s : State) (v0 v1) : (State.lineCounted s v0 v1).harbour = s.harbour := rfl
@[simp] theorem State.lineCounted_optics (s : State) (v0 v1) : (State.lineCounted s v0 v1).optics = s.optics := rfl
@[simp] theorem State.lineCounted_synth (s : State) (v0 v1) : (State.lineCounted s v0 v1).synth = s.synth := rfl
@[simp] theorem State.lineCounted_skim (s : State) (v0 v1) : (State.lineCounted s v0 v1).skim = s.skim := rfl
@[simp] theorem State.lineCounted_scan (s : State) (v0 v1) : (State.lineCounted s v0 v1).scan = s.scan := rfl
@[simp] theorem State.lineCounted_ports (s : State) (v0 v1) : (State.lineCounted s v0 v1).ports = s.ports := rfl
@[simp] theorem State.lineCounted_bb (s : State) (v0 v1) : (State.lineCounted s v0 v1).bb = s.bb := rfl
@[simp] theorem State.lineCounted_bridge (s : State) (v0 v1) : (State.lineCounted s v0 v1).bridge = s.bridge := rfl
@[simp] theorem State.lineCounted_group (s : State) (v0 v1) : (State.lineCounted s v0 v1).group = s.group := rfl
@[simp] theorem State.lineCounted_power (s : State) (v0 v1) : (State.lineCounted s v0 v1).power = s.power := rfl
@[simp] theorem State.lineCounted_fascia (s : State) (v0 v1) : (State.lineCounted s v0 v1).fascia = s.fascia := rfl
@[simp] theorem State.lineCounted_pending (s : State) (v0 v1) : (State.lineCounted s v0 v1).pending = s.pending := rfl

end Sys2Proof.Machine
end

