-- ==== Sys2Proof/Machine/Pins.lean ====
section
/-! DEFINITION. The pins (R526, R470, R493, R513): the levels of the digital outputs, as functions of State. -/

namespace Sys2Proof.Machine

/-- The levels of the digital outputs of R526; none stands for a pin that is not driven: unpowered, released or at high
impedance. -/
structure Pins where
  panelEn    : List (Option Bool)      -- PANEL_EN0 to PANEL_EN7
  zones      : List (Option Bool)      -- BL_ZONE0 to BL_ZONE15
  grp        : Option Nat              -- BL_GRP0 to BL_GRP3
  ilim       : Option Nat              -- R470 BL_ILIM: cycles of 1,024 for which it is high
  trig       : List (Option Bool)      -- TRIG0 to TRIG3
  fascia     : Option FasciaPins       -- FCLK, FDAT, FLAT, FOE
  thermN     : Option Bool             -- THERM_N, released or low
  irqN       : Option Bool             -- GW_IRQ_N
  miso       : Option Bool             -- GW_MISO between transactions
  wake       : Option (Bool × Nat)     -- WAKE_CLK, WAKE_D3 to WAKE_D0
  pm         : Option Bool             -- PM_SCL and PM_SDA between transactions
  dramResetN : Option Bool             -- DRAM_RESET_N0 and DRAM_RESET_N1
  deriving DecidableEq, Repr

/-- R468: a zone may be lit: one is lit, is scheduled to be, or meets the conditions of R468 in the present field. -/
def State.zoneMay (s : State) : Bool :=
  s.start.phase == .running &&
  (s.scan.zones.any id || !s.scan.sched.isEmpty || (List.range 16).any (fun z => s.zoneLit s.scan.field z))

/-- R470: the cycles for which BL_ILIM is high: ILIM_OUT, and none whenever no zone may be lit. -/
def State.blIlim (s : State) : Nat := if s.zoneMay then s.power.ilimOut else 0

/-- R526: DRAM_RESET_N0 and DRAM_RESET_N1 are high from the end of pilot boot until the device halts or is reset. -/
def State.dramReset (s : State) : Bool :=
  match s.start.phase with | .running | .restarting | .shuttingDown => true | _ => false

/-- R526: the levels of the outputs. -/
def State.pins (s : State) : Pins :=
  if s.start.phase = .unpowered then
    { panelEn := List.replicate 8 none, zones := List.replicate 16 none, grp := none, ilim := none, trig := List.replicate 4 none,
      fascia := none, thermN := none, irqN := none, miso := none, wake := none, pm := none, dramResetN := none }
  else
    { panelEn := s.power.rails.map (fun r => some r.enable), zones := s.scan.zones.map some, grp := some s.scan.blGrp,
      ilim := some s.blIlim, trig := s.time.trigs.map (fun g => some g.level), fascia := some s.fasciaPins,
      thermN := if s.power.thermN then none else some false, irqN := some s.gw.irqN, miso := none,
      wake := some (if s.start.phase = .halted then (false, 0) else s.wakePins), pm := none, dramResetN := some s.dramReset }

end Sys2Proof.Machine
end

