-- ==== Sys2Proof/WellFormed.lean ====
section
/-! DEFINITION. Which commands can arise: unit numbers that exist, packets and datagrams that the transports can carry
(R72, R395, R400, R401), and readings of the sizes the manual gives. A command that is not well formed still has a
meaning; it changes at most the time. -/

namespace Sys2Proof

/-- A UDP payload of at most 65,507 bytes, an SPI packet of at most 4,608 (R395, R401), a payload that the packet's
length can hold and addresses of their widths. -/
def Packet.wf (p : Packet) : Bool :=
  decide (p.payload.length ≤ 65507) && decide (p.count ≤ 65507) &&
  (match p.via with
   | .udp srcIp srcPort dstIp dstPort _ _ _ =>
     decide (srcIp < 2 ^ 32 ∧ srcPort < 2 ^ 16 ∧ dstIp < 2 ^ 32 ∧ dstPort < 2 ^ 16)
   | .spi _ => true)

/-- A UDP datagram over IPv4: addresses and ports of their widths, an IPv4 length that holds the payload (R72). -/
def Datagram.wf (d : Datagram) : Bool :=
  decide (d.srcIp < 2 ^ 32 ∧ d.srcPort < 2 ^ 16 ∧ d.dstIp < 2 ^ 32 ∧ d.dstPort < 2 ^ 16) &&
  decide (d.payload.length + 28 ≤ d.ipLen) && decide (d.ipLen < 2 ^ 16)

/-- An Ethernet frame: tag fields of their widths and 0 in an untagged frame (R325), a length that holds the payload (R323). -/
def Frame.wf (f : Frame) : Bool :=
  decide (f.pcp < 8) && (f.tags != 0 || f.pcp == 0 && f.vid == 0) && decide (f.vid < 4096) && decide (18 + f.payload.length ≤ f.length)

/-- Whether a command's operands lie in the ranges of the manual. -/
def Instr.wf : Instr → Bool
  | .pair p | .unpair p | .sessionQuery p | .eventAck p | .deviceInfo p | .sessionSubscribe p | .gangwayConfigure p
  | .mooringConfigure p | .mooringReset p | .mooringQuery p | .ingestConfigure p | .crcCompute p | .codecConfigure p
  | .codecQuery p | .codecDecompress p | .codecCompress p | .serviceConfigure p | .planQuery p | .scanoutConfigure p
  | .overlayCommit p | .gammaSet p | .lanternConfigure p | .lanternWrite p | .opticsSet p | .corrMapLoad p
  | .corrMapCommit p | .fanConfigure p | .lathEvaluate p | .surfaceCreate p | .surfaceDestroy p | .surfaceWrite p
  | .skimListWrite p | .skimSubmit p | .linkConfigure p | .linkRetrain p | .linkTest p | .bbConfigure p | .bbTest p
  | .linkQuery p | .bridgeSet p | .timeConfigure p | .triggerConfigure p | .timeStep p | .groupConfigure p
  | .memConfigure p | .memQuery p | .memCalibrate p | .store p | .settingsRevert p | .settingsErase p | .factoryWrite p
  | .nvmQuery p | .imageLoad p | .imageVerify p | .imageActivate p | .imageActivateConfirm p | .imageActivateAbandon p
  | .firmwareQuery p | .deviceRestart p | .powerConfigure p | .backlightConfigure p | .railProfileSet p
  | .thermalQuery p | .fasciaConfigure p | .fasciaImage p | .fasciaQuery p | .objectRead p | .tallyRead p
  | .wakeConfigure p | .wakeSubscribe p | .tallyExport p | .selfTestMramScan p | .selfTestScanoutPath p
  | .gangwayEcho p | .gangwayRetransmission _ p | .unassignedOpcode _ p => p.wf
  | .spiRead _ bytes | .spiStatus _ bytes => decide (bytes ≤ 4608)
  | .eventResend _ slot => decide (slot < 16)
  | .sceneDatagram _ d | .heartbeatReceived _ d | .groupCommitReceived _ d | .repairReqReceived _ d
  | .repairReceived _ d => d.wf
  | .nackDue _ m | .decompressionResume _ m | .libraryPieceRelease _ m | .repairReqSend _ m => decide (m < 1024)
  | .librarySegmentRead _ m f seg size => decide (m < 1024 ∧ f < 2 ^ 64 ∧ size < 2 ^ 32) && seg.chans.all (· < 16)
  | .decompressionJobStart _ lane => decide (lane.k < 8)
  | .decompressionJobEnd _ lane => decide (lane < 8)
  | .compressionBlockDone _ lane => decide (lane.k < 2)
  | .compressionPreempt _ lane => decide (lane < 2)
  | .overlayFetchReturn _ sector plane row => decide (sector < 16 ∧ plane < 2 ∧ row.k < 2048)
  | .overlayUnderrun _ sector plane => decide (sector < 16 ∧ plane < 2)
  | .backlightZoneRise _ z | .backlightZoneFall _ z => decide (z < 16)
  | .blankingWindow _ p | .teEdge _ p | .teWindowEnd _ p | .hpdHigh _ p | .hpdUnplug _ p | .trainingPhaseDone _ p
  | .trainingPhaseTimeout _ p | .auxTimeout _ p => decide (p < 16)
  | .tileStart _ g => decide (g < 16)
  | .tileFinish _ g => decide (g.k < 16)
  | .cacheLineFill _ g m c _ _ _ line _ => decide (g < 16 ∧ m < 1024 ∧ c < 64 ∧ line < 1024)
  | .irqHpd _ p _ | .linkRecalUnit _ p _ | .laneEqPoll _ p _ => decide (p < 16)
  | .auxReply _ p a =>
    decide (p < 16) && (match a with | .caps c => decide (c.lanes ≤ 4 ∧ c.rates.length ≤ 3) | _ => true)
  | .linkTestEnd _ p errors sinkErr _ _ => decide (p < 16 ∧ errors.length ≤ 4 ∧ sinkErr.length ≤ 4)
  | .bbTestEnd _ b errors => decide (b < 2 ∧ errors < 2 ^ 32)
  | .bbPortUp _ b | .bbPortDown _ b | .adaptFreeze _ b | .adaptResume _ b | .lpiEntry _ b | .lpiWake _ b
  | .egressTransmit _ b | .gateEntryChange _ b | .pdelayReqSend _ b | .receiveQuietStart _ b
  | .receiveQuietEnd _ b => decide (b < 2)
  | .linePortFrame _ b f => decide (b < 2) && f.wf
  | .syncReceived _ b m => decide (b < 2 ∧ m.domain < 256 ∧ m.sequenceId < 65536)
  | .announceReceived _ b m => decide (b < 2 ∧ m.domain < 256 ∧ m.stepsRemoved < 65536)
  | .pdelayReqReceived _ b q _ => decide (b < 2 ∧ q < 65536)
  | .pdelayRespReceived _ b q _ _ ratio => decide (b < 2 ∧ q < 65536 ∧ ratio < 2 ^ 32)
  | .syncTimeout _ d | .announceTimeout _ d => decide (d < 2)
  | .trigRise _ k | .trigFall _ k | .evtCapture _ k _ => decide (k < 4)
  | .rankDead _ r => decide (r < 8)
  | .refreshDue _ c | .refpbIssue _ c | .lowPowerExit _ c | .frequencyChangeStart _ c
  | .frequencySwitchDone _ c | .powerDownEntry _ c _ => decide (c < 16)
  | .mr4Read _ c rate => decide (c < 16) && (match rate with | some r => decide (r < 8) | none => true)
  | .rowActivation _ c bank row req => decide (c < 16 ∧ bank < 32 ∧ row < 2 ^ 16 ∧ req < 2 ^ 16)
  | .dramLineRead _ c _ req _ => decide (c < 16 ∧ req < 2 ^ 16)
  | .dramSweepDone _ c lanes => decide (c < 16 ∧ lanes.length ≤ 4)
  | .libraryCompressionUnit _ block => decide (block.length ≤ 131072)
  | .housekeepingRoundEnd _ r => decide (r.codes.length = 64) && r.codes.all (· < 4096)
  | .railPgRise _ r | .railPgLost _ r => decide (r < 8)
  | .dramTrainingDone _ result => decide (result.length = 16)
  | .tftpWriteRequest _ ip port _ _ _ => decide (ip < 2 ^ 32 ∧ port < 2 ^ 16)
  | .tftpDataBlock _ ip port block data =>
    decide (ip < 2 ^ 32 ∧ port < 2 ^ 16 ∧ block < 2 ^ 16 ∧ data.length ≤ 65464)
  | .recoverySpiWrite _ slot offset data => decide (slot < 2 ∧ offset < 2 ^ 32 ∧ data.length ≤ 4608)
  | .recoverySpiFinish _ slot size => decide (slot < 2 ∧ size < 2 ^ 32)
  | .keyDebounced .. | .sealDebounced .. | .sceneChunk .. | .quaySpill .. | .sceneCut .. | .planComplete ..
  | .fieldTick .. | .imageReady .. | .healthDeadline .. | .healthConfirm .. | .pilotWatchdogExpiry .. | .tideMark ..
  | .commitLatch .. | .overlayPrefetchStart .. | .lineStart .. | .testRequestTimeout .. | .skimPieceStart ..
  | .skimEntryDone .. | .bollardComplete .. | .surfaceClearDone .. | .corrMapCheckDone .. | .addressAgeOut ..
  | .followUpTimeout .. | .switchInstant .. | .slewEnd .. | .clockCarry .. | .acquireTimeout .. | .groupJoined ..
  | .groupCommitSend .. | .breakwaterWindowClear .. | .patrolScrubUnit .. | .dramRecalUnit ..
  | .journalCompactionUnit .. | .wakeDrainUnit .. | .mramRecordDone .. | .storeTokenRefill .. | .nvmWindowRetry ..
  | .housekeepingRoundStart .. | .shutdownHalt .. | .avsCriticalMargin .. | .railUpStep .. | .railPgTimeout ..
  | .railDownStep .. | .railRetry .. | .fasciaFrame .. | .fasciaUpdateStart .. | .wakePinExport .. | .resetRelease ..
  | .resetAssert .. | .supplyRemoved .. | .sramTestDone .. | .recoveryPresenceSample .. | .slotCheckDone ..
  | .pilotBootDone .. | .imageVerifyDone .. | .restartReset .. | .recoverySpiStatus .. | .recoveryVerifyDone ..
  | .mramScanDone .. | .pilotTakeover .. => true

end Sys2Proof
end

