-- ==== Sys2Proof/Tests/Slice0.lean ====
section
/-! SUPPORT. Tests: small states that meet the hypotheses of each statement, the ill-formed terms that WellFormed refuses,
and the worked examples of the manual. -/

namespace Sys2Proof.Tests

open Sys2Proof Sys2Proof.Machine

set_option Elab.async false

/-! ## Small states -/

/-- A state with one field of a settings object changed, in its working copy and as sampled at the scene cut. -/
def put (s : State) (f : Fld) (v : Nat) : State :=
  let ws := s.obj f.obj
  let new := ws.set f.word (BitVec.ofNat 32 ((nth ws f.word 0).toNat - fieldOf ws f.word f.lo f.w * 2 ^ f.lo + v * 2 ^ f.lo))
  { s with cfg := { s.cfg with work := Tab.put s.cfg.work f.obj new, cut := Tab.put s.cfg.cut f.obj new } }

/-- A device that runs, with its clock locked, inside the temperature window, 50.24 ms into local time. -/
def on : State :=
  { start := { phase := .running }, nvm := { interpreting := true },
    time := { cyc := 1000000000000, clk := 50240000 * 2 ^ 32, state := .locked, carryFmt := false } }

/-- The scene cut, the tick and the commit latch of field 12 taken: the device has nothing to do before a host (R9). -/
def calm (s : State) : State :=
  { s with harbour := { s.harbour with lastCut := some 12 }
           scan := { s.scan with ticked := true, field := 12, latchField := some 12 } }

/-- The same in panel mode 0x01. -/
def lit : State := { on with scan := { mode := 1, k := 4 } }

/-- The same with both backbone ports up. -/
def up : State := { on with bb := [{ link := 1 }, { link := 1 }] }

/-- The same with one mooring. -/
def moored (m : Mooring) : State := { on with ingest := { moorings := [(0, m)] } }

/-- The same with a paired session 0 and 15, each with one event unacknowledged. -/
def noted : State :=
  let x : Session := { paired := true, unacked := [{ seq := 0, cls := 0, bytes := [1], sentAt := 0 }] }
  { on with gw := { sessions := List.replicate 16 x } }

/-- A member of a display group with a lead, whose mooring 0 is shared and may be repaired. -/
def led : State :=
  put (put { (moored { state := 2, session := 1, scene := { shared := true } }) with group := { leadRank := some 0 } } F.GROUP_EN 1)
    F.REPAIR_EN 1 |> fun s => put (put s F.M_NACK_EN 1) F.M_NACK_TRIES 1

def home : Nat := 5
def scenePort : Nat := State.reset.get F.SCENE_PORT
def cmdPort : Nat := State.reset.get F.GANGWAY_PORT
def groupPort : Nat := State.reset.get F.GROUP_PORT

/-- The running device with an address. -/
def addressed : State := put (calm on) F.DEV_IP home

/-- A datagram to an address and port. -/
def dg (ip port : Nat) : Datagram :=
  { srcIp := 1, srcPort := 1, dstIp := ip, dstPort := port, ipLen := 28, ipOptions := false, fragment := false,
    badChecksum := false, payload := [] }

def frame0 : Frame :=
  { dst := 1, src := 2, tags := 0, pcp := 0, vid := 0, etherType := 0x0800, length := 64, fcsOk := true, payload := [] }
def queued (n : Nat) : QFrame := { f := { frame0 with length := n }, stamp := none, own := true }
/-- Both ports up and a frame of a length that waits on port 0. -/
def waits (n : Nat) : State := { up with bridge := { egress := [[[queued n]]] } }
def sync0 : SyncMsg :=
  { followUp := false, twoStep := false, domain := State.reset.get F.DOMAIN0, sequenceId := 0, sourcePort := 0, originNs := 0,
    correction := 0, intervalNs := 1 }
def ann0 : AnnounceMsg :=
  { domain := State.reset.get F.DOMAIN0, gmIdentity := 1, stepsRemoved := 0, intervalNs := 1 }
def status0 : LaneStatus := { eqDone := false, cdsDone := false, locked := false, presets := [], symErr := 0 }
def readings0 : Readings := { codes := [], margin := 0 }
def lib0 : LibRead :=
  { segment := [], size := 0, output := [], written := 0, released := 0, code := 0, errOffset := 0, committed := 0,
    started := true, suspended := true, done := false, order := 0, crc := (0, 0), repair := false, saved := none, part := [] }
def surf0 : Surface := { format := 0, width := 4096, height := 2048, clearing := false, bytes := [] }
def coat0 : Coat :=
  { width := 1, height := 1, originX := 0, originY := 0, baseZ := 0, pitchX := 0, pitchY := 0, relief := 0, phaseX := 0,
    phaseY := 0, init := 0, place := {}, seq := 0, tiles := [], rtiles := [] }
def tile0 : TilePlan :=
  { sector := 0, row := 0, col := 0, coats := [], znear := none, vis := 0, step := 0, handling := .rendered, pos := 0,
    fans := 0, gang := 0, rho := 0, nmiss := 0, nmax := 0, cost := 0 }
def copy0 : ReplayCopy :=
  { frame := 0, k := 0, pos := 0, field := 0, wrote := 0, late := false, optics := [], corr := none, words := [] }
def training0 (p : TrainPhase) (since : Nat) : Training :=
  { phase := p, start := 0, pstart := since, cfg := [], rate := 0, lanes := 0, first := false }
def test0 : LaneTest :=
  { slot := 0, tag := 0, mode := 0, pattern := 0, gens := [], injectLog := 0, lanes := 0, rate := 0, duration := 0, back := 0, field := 0,
    irq := false }
def fascia0 : FasciaUpdate :=
  { image := [], stage := .frames, source := 0, seq := 0, done := none, band := 0, reset := 0, prep := 0, select := 0, evol := 0,
    commons := 0, segments := 0, range := (0, 0), frame := 0, shown := true, boundary := 0, frameCyc := 0,
    phase := 0, left := 0, abort := false, resetLeft := false,
    restore := false }

/-- A correction map of one node with the offset 0, in the staging buffer (R200), and its SHA-384 (R202). -/
def map0 : List Host.Cell :=
  [(0, 0x4C), (1, 0x43), (2, 0x50), (3, 0x4D), (4, 1), (5, 0), (6, 0), (7, 0), (8, 1), (9, 0), (10, 1), (11, 0), (12, 0), (13, 0),
   (14, 0), (15, 0), (16, 0), (17, 0)]
def mapHash : List Word :=
  [0x16C34641, 0x53A43C9B, 0x77195463, 0x06D0CDDE, 0x6910DEEF, 0x48747F6B, 0x5DA951A9, 0x7F121D23, 0xE242251A, 0xC5C75D24,
   0x21DEFBED, 0xACDB1905]

/-- Panel mode 0x01, line 0 of field 12, an overlay on sector 0 whose rows the FIFO does not hold. -/
def starving : State :=
  { lit with
    time := { lit.time with clk := 50272000 * 2 ^ 32 }
    ports := [{ state := 3, planFrom := some 0 }]
    scan := { lit.scan with planes := [{ surface := 3 }, {}] }
    skim := { surfaces := [(3, surf0)] } }


/-! ### Group messages -/

/-- A device of a display group, with an address and no lead heard. -/
def grouped : State := put addressed F.GROUP_EN 1
/-- The device with mooring 0 group-shared and to be repaired. -/
def sharing (s : State) : State :=
  put { s with ingest := { moorings := [(0, { state := 2, scene := { shared := true } })] } } F.REPAIR_EN 1
/-- The device with the device of RANK 1 as its lead. -/
def follows (s : State) : State := sharing { s with group := { s.group with leadRank := some 1 } }
/-- The device as the lead. -/
def leading : State := sharing { grouped with group := { lead := true } }
/-- A group message of a group, a rank and a type in epoch 0 (R350). -/
def groupMsg (id rank type : Nat) (pl : List Byte) : Datagram :=
  let head : List Byte := le 2 0x4C47 ++ [1, byte type] ++ le 2 (32 + pl.length) ++ [byte id, byte rank] ++ le 4 0 ++ le 8 0 ++ zeros 8
  { dg home groupPort with payload := head ++ le 4 (crc32c (head ++ pl)) ++ pl, ipLen := 60 + pl.length }
/-- One from the device of RANK 1 of the device's own group. -/
def groupDg (type : Nat) (pl : List Byte) : Datagram := groupMsg (State.reset.get F.GROUP_ID) 1 type pl
/-- A Zstandard frame of no content, one raw last block (R138, R145). -/
def emptyStream : List Byte := le 4 0xFD2FB528 ++ [0x20, 0, 1, 0, 0]

/-! ### Queues and units -/

def chunk0 : Chunk :=
  { seq := 0, frame := 0, type := 4, session := 0, payload := [], bytes := [], length := 36, refused := false, loc := .quay,
    order := 0, place := {} }
/-- A mooring with a chunk in the Quay, a datagram of a length before it, and one memory channel. -/
def quayed (n : Nat) : State :=
  { on with
    ingest := { moorings := [(0, { state := 2, chunks := [chunk0] })], quay := [{ d := { dg 0 0 with ipLen := n }, offset := 0, port := 0 }] }
    dram := { channels := [{ state := 1 }] } }
/-- A job on lane C0 and one memory channel. -/
def cjob (bs : List Byte) : State :=
  { on with codec := { clanes := [[newJob .trial bs], []] }, dram := { channels := [{ state := 1 }] } }
/-- The ceiling of compression, drain and scrub used up in this field period (R57). -/
def paced (s : State) : State := { s with harbour := { s.harbour with otherPace := (s.dueTick, 10 ^ 12) } }
def bbTest0 (dir : Nat) : BbTest := { slot := 0, tag := 0, pattern := 0, gen := 0, dir := dir, duration := 1 }
/-- A gang with a stored tile of a preload list left, on the plan of one coat. -/
def filling : State :=
  { on with
    harbour := { cur := { scenes := [(0, { coats := [(0, coat0)] })] } }
    synth := { gangs := [{ todo := [(0, 0, false, 0, 0)] }] } }

/-- A journal of two pages with nothing in them yet. -/
def twoPages : Mram :=
  { pages := [{ number := 0, header := headerBytes 1, body := [] }, { number := 1, header := headerBytes 2, body := [] }] }
/-- A gang with a tile in progress whose samples lie on a coat that has not come into its cache. -/
def unread : State :=
  let c : Coat := { coat0 with width := 1024, height := 1024, originX := -4000000, originY := -4000000, pitchX := 65536, pitchY := 65536 }
  { on with
    harbour := { cur := { scenes := [(0, { coats := [(0, c)] })], tiles := [{ tile0 with coats := [(0, 0)] }] } }
    synth := { gangs := [{ running := [(0, 0, 0)] }] } }
/-- The background use of every channel in this field lies beyond what any plan leaves (R181). -/
def usedUp : State := { on with harbour := { bgPace := (0, List.replicate 16 (10 ^ 12)) } }


/-! ## Packets that pass R403 -/

/-- The running device with the seal open and the key turned, every session paired, session 1 with events sent, port 0 of
the panel up, one channel that serves, a mooring, a surface, an image verified in the other slot, and an address. -/
def host : State :=
  let head : List Host.Cell := (List.range 64).map (fun i => (i, 0))
  let e : Session := { paired := true, evSent := true }
  { addressed with
    gw := { key := true, sealOpen := true, sessions := List.replicate 16 e }
    dram := { channels := [{ state := 1 }] }
    ingest := { moorings := [(0, { state := 2 })] }
    skim := { surfaces := [(3, surf0)] }
    mram := { slotA := { bytes := head, state := .running }, slotB := { bytes := head, state := .valid } } }

/-- The same with panel mode 0x01, port 0 up and no channel missing. -/
def shows : State :=
  { put host F.PANEL_MODE 1 with
    scan := { (calm on).scan with mode := 1, k := 4 }
    ports := List.replicate 16 { state := 3, planFrom := some 0 }
    dram := { channels := List.replicate 16 { state := 1 } } }

/-- A packet of SEQ 1 and TAG 1 with its CRC. -/
def packet (opcode : Nat) (via : Via) (token : BitVec 64) (payload : List Byte) : Packet :=
  let p : Packet :=
    { t := 0, via := via, count := payload.length + 20, magic := 0xC7, version := 1, tag := 1, seq := 1,
      length := BitVec.ofNat 16 (payload.length + 20), token := token, payload := payload, crc := 0 }
  { p with crc := BitVec.ofNat 32 (commandCrc opcode p) }

theorem crcBit_lt (r : Nat) (h : r < 2 ^ 32) : crcBit r < 2 ^ 32 := by
  unfold crcBit
  split
  · exact Nat.xor_lt_two_pow (by omega) (by decide)
  · omega

theorem crcRun_lt (bs : List Byte) (r : Nat) (h : r < 2 ^ 32) : crcRun r bs < 2 ^ 32 := by
  induction bs generalizing r with
  | nil => exact h
  | cons b bs ih =>
    have hb : b.toNat < 2 ^ 32 := Nat.lt_of_lt_of_le b.isLt (by decide)
    exact ih _ (by unfold crcByte; exact crcBit_lt _ (crcBit_lt _ (crcBit_lt _ (crcBit_lt _ (crcBit_lt _ (crcBit_lt _
      (crcBit_lt _ (crcBit_lt _ (Nat.xor_lt_two_pow h hb)))))))))

/-- The packet carries the CRC of R397. -/
theorem packet_crc (opcode : Nat) (via : Via) (token : BitVec 64) (payload : List Byte) :
    (packet opcode via token payload).crc.toNat = commandCrc opcode (packet opcode via token payload) := by
  have h (bs : List Byte) : crc32c bs < 2 ^ 32 := Nat.xor_lt_two_pow (crcRun_lt bs _ (by decide)) (by decide)
  simp only [packet, commandCrc, commandBytes, BitVec.toNat_ofNat, Nat.mod_eq_of_lt (h _)]

/-- A packet of session 15, over SPI. -/
def spi (k : Card) (payload : List Byte) : Packet := packet k.opcode (.spi true) 15 payload

/-- A packet of session 1, over UDP. -/
def udp (k : Card) (payload : List Byte) : Packet :=
  packet k.opcode (.udp 9 9 home cmdPort false false false) 1 payload

/-- Whether a packet of session `n` passes every step of R403 but that of the CRC. -/
def passes (s : State) (k : Card) (p : Packet) (n : Nat) : Bool :=
  decide ((s.heard p).front p = .pass) && headerOk p && decide (p.token ≠ 0) &&
  decide ((s.heard p).slotOf p.token.toNat p.spi = some n) &&
  (((s.heard p).sess n).fresh || newer8 p.seq.toNat ((s.heard p).sess n).lastSeq) && (s.heard p).berthRoom p.spi &&
  (s.heard p).nvm.interpreting && decide ((s.heard p).nvm.held = none) &&
  decide ((s.served p n).verdict (some k) (s.senderOf p n) p.payload = Status.OK)

theorem passes_of (s : State) (k : Card) (p : Packet) (n : Nat) (c : p.crc.toNat = commandCrc k.opcode p)
    (h : passes s k p n = true) : s.Passes k p n := by
  simp only [passes, Bool.and_eq_true, Bool.or_eq_true, decide_eq_true_eq] at h
  obtain ⟨⟨⟨⟨⟨⟨⟨⟨a, b⟩, d⟩, e⟩, f⟩, g⟩, i⟩, u⟩, j⟩ := h
  exact ⟨a, b, c, d, e, f, g, i, u, j⟩

/-- Whether a packet with TOKEN 0 passes every step of R403 but that of the CRC. -/
def passesOpen (s : State) (k : Card) (p : Packet) : Bool :=
  decide ((s.heard p).front p = .pass) && headerOk p && decide (p.token = 0) &&
  (s.heard p).berthRoom p.spi && (s.heard p).nvm.interpreting && decide ((s.heard p).nvm.held = none) &&
  (s.heard p).unauthRoom &&
  decide ((s.heard p).unauthCount.verdict (some k) ((s.heard p).callerOf p none) p.payload = Status.OK)

theorem passesOpen_of (s : State) (k : Card) (p : Packet) (c : p.crc.toNat = commandCrc k.opcode p)
    (h : passesOpen s k p = true) : s.PassesOpen k p := by
  simp only [passesOpen, Bool.and_eq_true, decide_eq_true_eq] at h
  obtain ⟨⟨⟨⟨⟨⟨⟨a, b⟩, d⟩, e⟩, f⟩, u⟩, g⟩, i⟩ := h
  exact ⟨a, b, c, d, e, f, u, g, i⟩

/-- Whether a packet of session `n` passes steps 1 to 4 of R403 but that of the CRC. -/
def known (s : State) (p : Packet) (n : Nat) : Bool :=
  decide ((s.heard p).front p = .pass) && headerOk p && decide (p.token ≠ 0) &&
  decide ((s.heard p).slotOf p.token.toNat p.spi = some n)

theorem known_of (s : State) (op : Nat) (p : Packet) (n : Nat) (c : p.crc.toNat = commandCrc op p)
    (h : known s p n = true) : s.Known op p n := by
  simp only [known, Bool.and_eq_true, decide_eq_true_eq] at h
  obtain ⟨⟨⟨a, b⟩, d⟩, e⟩ := h
  exact ⟨a, b, c, d, e⟩

/-- The Reset words of an object, as bytes. -/
def words (id : Nat) : List Byte := ofWords (resetWords id)


/-! ## Witnesses of the statements about commands -/

theorem witness_SettingsCommandsWriteTheirObject :
    (∃ (s : State) (p : Packet) (n : Nat), s.Passes cardCodecConfigure p n) ∧
    (∃ (s : State) (p : Packet) (n : Nat), s.Passes cardMooringConfigure p n) ∧
    (∃ (s : State) (p : Packet) (n : Nat), s.Passes cardLanternConfigure p n) ∧
    (∃ (s : State) (p : Packet) (n : Nat), s.Passes cardFanConfigure p n) ∧
    (∃ (s : State) (p : Packet) (n : Nat), s.Passes cardLinkConfigure p n) ∧
    (∃ (s : State) (p : Packet) (n : Nat), s.Passes cardMemConfigure p n) ∧
    (∃ (s : State) (p : Packet) (n : Nat), s.Passes cardBacklightConfigure p n) ∧
    (∃ (s : State) (p : Packet) (n : Nat), s.Passes cardPowerConfigure p n) ∧
    (∃ (s : State) (p : Packet) (n : Nat), s.Passes cardOpticsSet p n) ∧
    (∃ (s : State) (p : Packet) (n : Nat), s.Passes cardWakeConfigure p n) ∧
    (∃ (s : State) (p : Packet) (n : Nat), s.Passes cardWakeSubscribe p n) ∧
    (∃ (s : State) (p : Packet) (n : Nat), s.Passes cardGammaSet p n) ∧
    (∃ (s : State) (p : Packet) (n : Nat), s.Passes cardLanternWrite p n) ∧
    (∃ (s : State) (p : Packet) (n : Nat), s.Passes cardGangwayConfigure p n) ∧
    (∃ (s : State) (p : Packet) (n : Nat), s.Passes cardIngestConfigure p n) :=
  ⟨⟨host, spi cardCodecConfigure (words 0x1200), 15, passes_of _ _ _ _ (packet_crc ..) (by decide +kernel)⟩,
   ⟨host, spi cardMooringConfigure ([0, 0, 0, 0] ++ words 0x1400), 15, passes_of _ _ _ _ (packet_crc ..)
     (by decide +kernel)⟩,
   ⟨host, spi cardLanternConfigure (words 0x1804), 15, passes_of _ _ _ _ (packet_crc ..) (by decide +kernel)⟩,
   ⟨host, spi cardFanConfigure (words 0x1824), 15, passes_of _ _ _ _ (packet_crc ..) (by decide +kernel)⟩,
   ⟨host, spi cardLinkConfigure ([0, 0, 0, 0] ++ words 0x1900), 15, passes_of _ _ _ _ (packet_crc ..)
     (by decide +kernel)⟩,
   ⟨host, spi cardMemConfigure (words 0x1D00), 15, passes_of _ _ _ _ (packet_crc ..) (by decide +kernel)⟩,
   ⟨host, spi cardBacklightConfigure (words 0x1E10), 15, passes_of _ _ _ _ (packet_crc ..) (by decide +kernel)⟩,
   ⟨host, spi cardPowerConfigure ([0, 0, 0, 0] ++ words 0x1E20), 15, passes_of _ _ _ _ (packet_crc ..)
     (by decide +kernel)⟩,
   ⟨host, spi cardOpticsSet ([0, 0, 0, 0] ++ words 0x1820), 15, passes_of _ _ _ _ (packet_crc ..) (by decide +kernel)⟩,
   ⟨host, spi cardWakeConfigure (zeros 4), 15, passes_of _ _ _ _ (packet_crc ..) (by decide +kernel)⟩,
   ⟨host, spi cardWakeSubscribe (zeros 8), 15, passes_of _ _ _ _ (packet_crc ..) (by decide +kernel)⟩,
   ⟨host, spi cardGammaSet ([0, 0, 0, 0, 1, 0, 0, 0, 0, 0, 0, 0]), 15, passes_of _ _ _ _ (packet_crc ..)
     (by decide +kernel)⟩,
   ⟨host, spi cardLanternWrite ([0, 0, 0, 0, 1, 0, 0, 0, 7, 0, 0, 0]), 15, passes_of _ _ _ _ (packet_crc ..)
     (by decide +kernel)⟩,
   ⟨host, spi cardGangwayConfigure (words 0x1000), 15, passes_of _ _ _ _ (packet_crc ..) (by decide +kernel)⟩,
   ⟨host, spi cardIngestConfigure (words 0x1100), 15, passes_of _ _ _ _ (packet_crc ..) (by decide +kernel)⟩⟩

theorem witness_SettingsCommandsWithFurtherEffects :
    (∃ (s : State) (p : Packet) (n : Nat), s.Passes cardRailProfileSet p n) ∧
    (∃ (s : State) (p : Packet) (n : Nat), s.Passes cardFasciaConfigure p n) ∧
    (∃ (s : State) (p : Packet) (n : Nat), s.Passes cardTimeConfigure p n) ∧
    (∃ (s : State) (p : Packet) (n : Nat), s.Passes cardTimeStep p n) ∧
    (∃ (s : State) (p : Packet) (n : Nat), s.Passes cardSettingsRevert p n) ∧
    (∃ (s : State) (p : Packet) (n : Nat), s.Passes cardServiceConfigure p n) ∧
    (∃ (s : State) (p : Packet) (n : Nat), s.Passes cardBridgeSet p n ∧ num p.payload 0 1 < 2) ∧
    (∃ (s : State) (p : Packet) (n : Nat), s.Passes cardBridgeSet p n ∧ 2 ≤ num p.payload 0 1) ∧
    (∃ (s : State) (p : Packet) (n : Nat), s.Passes cardBbConfigure p n) ∧
    (∃ (s : State) (p : Packet) (n : Nat), s.Passes cardTriggerConfigure p n) ∧
    (∃ (s : State) (p : Packet) (n : Nat), s.Passes cardGroupConfigure p n) :=
  ⟨⟨host, spi cardRailProfileSet (words 0x1E00), 15, passes_of _ _ _ _ (packet_crc ..) (by decide +kernel)⟩,
   ⟨host, spi cardFasciaConfigure ([0, 0, 0, 0] ++ words 0x1F00), 15, passes_of _ _ _ _ (packet_crc ..)
     (by decide +kernel)⟩,
   ⟨host, spi cardTimeConfigure (words 0x1B00), 15, passes_of _ _ _ _ (packet_crc ..) (by decide +kernel)⟩,
   ⟨host, spi cardTimeStep (zeros 12), 15, passes_of _ _ _ _ (packet_crc ..) (by decide +kernel)⟩,
   ⟨host, spi cardSettingsRevert (zeros 4), 15, passes_of _ _ _ _ (packet_crc ..) (by decide +kernel)⟩,
   ⟨host, spi cardServiceConfigure (words 0x1300), 15, passes_of _ _ _ _ (packet_crc ..) (by decide +kernel)⟩,
   ⟨host, spi cardBridgeSet ([0, 0, 0, 0] ++ words 0x1A00), 15, passes_of _ _ _ _ (packet_crc ..) (by decide +kernel),
     (by decide +kernel)⟩,
   ⟨host, spi cardBridgeSet ([2, 0, 0, 0] ++ words 0x1A10), 15, passes_of _ _ _ _ (packet_crc ..) (by decide +kernel),
     (by decide +kernel)⟩,
   ⟨host, spi cardBbConfigure ([0, 0, 0, 0] ++ words 0x1910), 15, passes_of _ _ _ _ (packet_crc ..)
     (by decide +kernel)⟩,
   ⟨host, spi cardTriggerConfigure ([0, 0, 0, 0] ++ words 0x1B10), 15, passes_of _ _ _ _ (packet_crc ..)
     (by decide +kernel)⟩,
   ⟨host, spi cardGroupConfigure (words 0x1C00), 15, passes_of _ _ _ _ (packet_crc ..) (by decide +kernel)⟩⟩

theorem witness_QueriesAnswerAndChangeNothingElse :
    (∃ (s : State) (p : Packet) (n : Nat), s.Passes cardSessionQuery p n) ∧
    (∃ (s : State) (p : Packet) (n : Nat), s.Passes cardDeviceInfo p n) ∧
    (∃ (s : State) (p : Packet) (n : Nat), s.Passes cardMooringQuery p n) ∧
    (∃ (s : State) (p : Packet) (n : Nat), s.Passes cardCodecQuery p n) ∧
    (∃ (s : State) (p : Packet) (n : Nat), s.Passes cardPlanQuery p n) ∧
    (∃ (s : State) (p : Packet) (n : Nat), s.Passes cardLinkQuery p n) ∧
    (∃ (s : State) (p : Packet) (n : Nat), s.Passes cardMemQuery p n) ∧
    (∃ (s : State) (p : Packet) (n : Nat), s.Passes cardNvmQuery p n) ∧
    (∃ (s : State) (p : Packet) (n : Nat), s.Passes cardFirmwareQuery p n) ∧
    (∃ (s : State) (p : Packet) (n : Nat), s.Passes cardThermalQuery p n) ∧
    (∃ (s : State) (p : Packet) (n : Nat), s.Passes cardFasciaQuery p n) ∧
    (∃ (s : State) (p : Packet) (n : Nat), s.Passes cardTallyRead p n) ∧
    (∃ (s : State) (p : Packet) (n : Nat), s.Passes cardObjectRead p n) ∧
    (∃ (s : State) (p : Packet) (n : Nat), s.Passes cardGangwayEcho p n) ∧
    (∃ (s : State) (p : Packet) (n : Nat), s.Passes cardLathEvaluate p n) :=
  ⟨⟨host, spi cardSessionQuery (zeros 4), 15, passes_of _ _ _ _ (packet_crc ..) (by decide +kernel)⟩,
   ⟨host, spi cardDeviceInfo ([]), 15, passes_of _ _ _ _ (packet_crc ..) (by decide +kernel)⟩,
   ⟨host, spi cardMooringQuery (zeros 4), 15, passes_of _ _ _ _ (packet_crc ..) (by decide +kernel)⟩,
   ⟨host, spi cardCodecQuery ([]), 15, passes_of _ _ _ _ (packet_crc ..) (by decide +kernel)⟩,
   ⟨host, spi cardPlanQuery ([]), 15, passes_of _ _ _ _ (packet_crc ..) (by decide +kernel)⟩,
   ⟨host, spi cardLinkQuery (zeros 4), 15, passes_of _ _ _ _ (packet_crc ..) (by decide +kernel)⟩,
   ⟨host, spi cardMemQuery (zeros 4), 15, passes_of _ _ _ _ (packet_crc ..) (by decide +kernel)⟩,
   ⟨host, spi cardNvmQuery ([]), 15, passes_of _ _ _ _ (packet_crc ..) (by decide +kernel)⟩,
   ⟨host, spi cardFirmwareQuery ([]), 15, passes_of _ _ _ _ (packet_crc ..) (by decide +kernel)⟩,
   ⟨host, spi cardThermalQuery ([]), 15, passes_of _ _ _ _ (packet_crc ..) (by decide +kernel)⟩,
   ⟨host, spi cardFasciaQuery ([]), 15, passes_of _ _ _ _ (packet_crc ..) (by decide +kernel)⟩,
   ⟨host, spi cardTallyRead (le 2 0x3000 ++ le 2 1), 15, passes_of _ _ _ _ (packet_crc ..) (by decide +kernel)⟩,
   ⟨host, spi cardObjectRead (le 2 0x1000 ++ le 2 4 ++ zeros 4), 15, passes_of _ _ _ _ (packet_crc ..)
     (by decide +kernel)⟩,
   ⟨host, spi cardGangwayEcho (zeros 4), 15, passes_of _ _ _ _ (packet_crc ..) (by decide +kernel)⟩,
   ⟨shows, spi cardLathEvaluate (zeros 8), 15, passes_of _ _ _ _ (packet_crc ..) (by decide +kernel)⟩⟩

theorem witness_SessionCommands :
    (∃ (s : State) (p : Packet), s.PassesOpen cardPair p) ∧
    (∃ (s : State) (p : Packet), s.PassesOpen cardDeviceInfo p) ∧
    (∃ (s : State) (p : Packet) (n : Nat), s.Passes cardSessionSubscribe p n) ∧
    (∃ (s : State) (p : Packet) (n : Nat), s.Passes cardUnpair p n) ∧
    (∃ (s : State) (p : Packet) (n : Nat), s.Passes cardEventAck p n ∧ n ≠ 15 ∧ ((s.served p n).sess n).evSent = true) ∧
    (∃ (s : State) (p : Packet) (n : Nat), s.Passes cardEventAck p n ∧ (n = 15 ∨ ((s.served p n).sess n).evSent =
      false)) :=
  ⟨⟨host, packet cardPair.opcode (.spi true) 0 (zeros 20), passesOpen_of _ _ _ (packet_crc ..) (by decide +kernel)⟩,
   ⟨host, packet cardDeviceInfo.opcode (.spi true) 0 ([]), passesOpen_of _ _ _ (packet_crc ..) (by decide +kernel)⟩,
   ⟨host, spi cardSessionSubscribe (zeros 4), 15, passes_of _ _ _ _ (packet_crc ..) (by decide +kernel)⟩,
   ⟨host, spi cardUnpair ([0xFF, 0, 0, 0]), 15, passes_of _ _ _ _ (packet_crc ..) (by decide +kernel)⟩,
   ⟨host, udp cardEventAck ([0xFF, 0, 0, 0]), 1, passes_of _ _ _ _ (packet_crc ..) (by decide +kernel),
     (by decide +kernel), (by decide +kernel)⟩,
   ⟨host, spi cardEventAck ([0xFF, 0, 0, 0]), 15, passes_of _ _ _ _ (packet_crc ..) (by decide +kernel),
     (by decide +kernel)⟩⟩

theorem witness_DataCommandsWriteTheirBytes :
    (∃ (s : State) (p : Packet) (n : Nat), s.Passes cardCrcCompute p n) ∧
    (∃ (s : State) (p : Packet) (n : Nat), s.Passes cardCodecDecompress p n) ∧
    (∃ (s : State) (p : Packet) (n : Nat), s.Passes cardCodecCompress p n) ∧
    (∃ (s : State) (p : Packet) (n : Nat), s.Passes cardCorrMapLoad p n) ∧
    (∃ (s : State) (p : Packet) (n : Nat), s.Passes cardSurfaceWrite p n) ∧
    (∃ (s : State) (p : Packet) (n : Nat), s.Passes cardSurfaceDestroy p n) ∧
    (∃ (s : State) (p : Packet) (n : Nat), s.Passes cardSkimListWrite p n) ∧
    (∃ (s : State) (p : Packet) (n : Nat), s.Passes cardImageLoad p n) :=
  ⟨⟨host, spi cardCrcCompute ([0, 0, 0, 0, 1, 0, 0, 0, 7, 0, 0, 0]), 15, passes_of _ _ _ _ (packet_crc ..)
     (by decide +kernel)⟩,
   ⟨host, spi cardCodecDecompress ([1, 0, 1, 0, 0, 0, 0, 0, 7, 0, 0, 0]), 15, passes_of _ _ _ _ (packet_crc ..)
     (by decide +kernel)⟩,
   ⟨host, spi cardCodecCompress (zeros 4), 15, passes_of _ _ _ _ (packet_crc ..) (by decide +kernel)⟩,
   ⟨host, spi cardCorrMapLoad ([0, 0, 0, 0, 1, 0, 0, 0, 7, 0, 0, 0]), 15, passes_of _ _ _ _ (packet_crc ..)
     (by decide +kernel)⟩,
   ⟨host, spi cardSurfaceWrite ([3, 0, 1, 0, 0, 0, 0, 0, 7, 0, 0, 0]), 15, passes_of _ _ _ _ (packet_crc ..)
     (by decide +kernel)⟩,
   ⟨host, spi cardSurfaceDestroy ([3, 0, 0, 0]), 15, passes_of _ _ _ _ (packet_crc ..) (by decide +kernel)⟩,
   ⟨host, spi cardSkimListWrite ([0, 1, 0, 0] ++ zeros 32), 15, passes_of _ _ _ _ (packet_crc ..) (by decide +kernel)⟩,
   ⟨host, spi cardImageLoad ([0, 0, 0, 0, 1, 0, 0, 0, 7, 0, 0, 0]), 15, passes_of _ _ _ _ (packet_crc ..)
     (by decide +kernel)⟩⟩

theorem witness_DeferredDisplayCommands :
    (∃ (s : State) (p : Packet) (n : Nat), s.Passes cardScanoutConfigure p n) ∧
    (∃ (s : State) (p : Packet) (n : Nat), s.Passes cardOverlayCommit p n) ∧
    (∃ (s : State) (p : Packet) (n : Nat), s.Passes cardMooringReset p n) ∧
    (∃ (s : State) (p : Packet) (n : Nat), s.Passes cardCorrMapCommit p n) ∧
    (∃ (s : State) (p : Packet) (n : Nat), s.Passes cardSurfaceCreate p n) ∧
    (∃ (s : State) (p : Packet) (n : Nat), s.Passes cardSkimSubmit p n) ∧
    (∃ (s : State) (p : Packet) (n : Nat), s.Passes cardLinkRetrain p n) ∧
    (∃ (s : State) (p : Packet) (n : Nat), s.Passes cardLinkTest p n ∧ (((s.accepted cardLinkTest p n []).took).port
      (num p.payload 0 1)).state = 3) ∧
    (∃ (s : State) (p : Packet) (n : Nat), s.Passes cardLinkTest p n ∧ (((s.accepted cardLinkTest p n []).took).port
      (num p.payload 0 1)).state ≠ 3) ∧
    (∃ (s : State) (p : Packet) (n : Nat), s.Passes cardBbTest p n) ∧
    (∃ (s : State) (p : Packet) (n : Nat), s.Passes cardMemCalibrate p n) :=
  ⟨⟨host, spi cardScanoutConfigure (words 0x1800), 15, passes_of _ _ _ _ (packet_crc ..) (by decide +kernel)⟩,
   ⟨shows, spi cardOverlayCommit ([0, 0, 3, 0] ++ zeros 8), 15, passes_of _ _ _ _ (packet_crc ..) (by decide +kernel)⟩,
   ⟨host, spi cardMooringReset (zeros 4), 15, passes_of _ _ _ _ (packet_crc ..) (by decide +kernel)⟩,
   ⟨host, spi cardCorrMapCommit (le 4 18), 15, passes_of _ _ _ _ (packet_crc ..) (by decide +kernel)⟩,
   ⟨host, spi cardSurfaceCreate ([4, 0, 0, 0, 0, 0, 0, 0]), 15, passes_of _ _ _ _ (packet_crc ..) (by decide +kernel)⟩,
   ⟨{ shows with skim := { surfaces := [(3, surf0)], lists := [(0, [(0, 1), (2, 3)])] } }, spi cardSkimSubmit ([0, 0,
     0, 0, 1, 0, 0, 0]), 15, passes_of _ _ _ _ (packet_crc ..) (by decide +kernel)⟩,
   ⟨shows, spi cardLinkRetrain (zeros 4), 15, passes_of _ _ _ _ (packet_crc ..) (by decide +kernel)⟩,
   ⟨shows, spi cardLinkTest ([0, 1, 0, 0, 0, 1, 0, 0, 1, 0, 0, 0]), 15, passes_of _ _ _ _ (packet_crc ..)
     (by decide +kernel), (by decide +kernel)⟩,
   ⟨host, spi cardLinkTest ([0, 1, 0, 0, 0, 0, 1, 0, 1, 0, 0, 0]), 15, passes_of _ _ _ _ (packet_crc ..)
     (by decide +kernel), (by decide +kernel)⟩,
   ⟨host, spi cardBbTest ([0, 0, 1, 0, 1, 0, 0, 0]), 15, passes_of _ _ _ _ (packet_crc ..) (by decide +kernel)⟩,
   ⟨host, spi cardMemCalibrate ([1, 0, 0, 1]), 15, passes_of _ _ _ _ (packet_crc ..) (by decide +kernel)⟩⟩

theorem witness_DeferredStorageAndServiceCommands :
    (∃ (s : State) (p : Packet) (n : Nat), s.Passes cardStore p n) ∧
    (∃ (s : State) (p : Packet) (n : Nat), s.Passes cardSettingsErase p n) ∧
    (∃ (s : State) (p : Packet) (n : Nat), s.Passes cardFactoryWrite p n) ∧
    (∃ (s : State) (p : Packet) (n : Nat), s.Passes cardImageVerify p n) ∧
    (∃ (s : State) (p : Packet) (n : Nat), s.Passes cardImageActivate p n ∧ num p.payload 0 1 = 0) ∧
    (∃ (s : State) (p : Packet) (n : Nat), s.Passes cardImageActivate p n ∧ num p.payload 0 1 = 1) ∧
    (∃ (s : State) (p : Packet) (n : Nat), s.Passes cardImageActivate p n ∧ num p.payload 0 1 = 2) ∧
    (∃ (s : State) (p : Packet) (n : Nat), s.Passes cardDeviceRestart p n) ∧
    (∃ (s : State) (p : Packet) (n : Nat), s.Passes cardFasciaImage p n) ∧
    (∃ (s : State) (p : Packet) (n : Nat), s.Passes cardTallyExport p n) ∧
    (∃ (s : State) (p : Packet) (n : Nat), s.Passes cardSelfTest p n ∧ num p.payload 0 1 = 0) ∧
    (∃ (s : State) (p : Packet) (n : Nat), s.Passes cardSelfTest p n ∧ num p.payload 0 1 ≠ 0) :=
  ⟨⟨host, spi cardStore ([]), 15, passes_of _ _ _ _ (packet_crc ..) (by decide +kernel)⟩,
   ⟨host, spi cardSettingsErase ([]), 15, passes_of _ _ _ _ (packet_crc ..) (by decide +kernel)⟩,
   ⟨host, spi cardFactoryWrite (zeros 12), 15, passes_of _ _ _ _ (packet_crc ..) (by decide +kernel)⟩,
   ⟨host, spi cardImageVerify ([]), 15, passes_of _ _ _ _ (packet_crc ..) (by decide +kernel)⟩,
   ⟨{ host with cfg := {} }, spi cardImageActivate (zeros 4), 15, passes_of _ _ _ _ (packet_crc ..)
     (by decide +kernel), (by decide +kernel)⟩,
   ⟨{ host with nvm := { host.nvm with phase := .trial, deadline := some (10 ^ 13) } }, spi cardImageActivate ([1, 0,
     0, 0]), 15, passes_of _ _ _ _ (packet_crc ..) (by decide +kernel), (by decide +kernel)⟩,
   ⟨{ host with nvm := { host.nvm with phase := .trial, deadline := some (10 ^ 13) } }, spi cardImageActivate ([2, 0,
     0, 0]), 15, passes_of _ _ _ _ (packet_crc ..) (by decide +kernel), (by decide +kernel)⟩,
   ⟨host, spi cardDeviceRestart ([]), 15, passes_of _ _ _ _ (packet_crc ..) (by decide +kernel)⟩,
   ⟨(put host F.FA_ENABLE 1), spi cardFasciaImage (zeros 28), 15, passes_of _ _ _ _ (packet_crc ..)
     (by decide +kernel)⟩,
   ⟨(put host F.COLLECTOR_IP 1), spi cardTallyExport ([]), 15, passes_of _ _ _ _ (packet_crc ..) (by decide +kernel)⟩,
   ⟨host, spi cardSelfTest (zeros 4), 15, passes_of _ _ _ _ (packet_crc ..) (by decide +kernel), (by decide +kernel)⟩,
   ⟨shows, spi cardSelfTest ([1, 1, 1, 0]), 15, passes_of _ _ _ _ (packet_crc ..) (by decide +kernel),
     (by decide +kernel)⟩⟩

/-! ## Witnesses of the statements about events -/

theorem witness_SpiTransactionsAndPresence :
    (∃ (s a : State) (t : Cyc), ∃ n, ∃ cmd : Instr, cmd = .spiStatus t n ∧ a = s.hostAt t ∧ a.spiAnswers = false) ∧
    (∃ (s a : State) (t : Cyc), ∃ n, ∃ cmd : Instr, cmd = .spiStatus t n ∧ a = s.hostAt t ∧ a.spiAnswers = true) ∧
    (∃ (s a : State) (t : Cyc), ∃ n, ∃ cmd : Instr, cmd = .spiRead t n ∧ a = s.hostAt t ∧ a.spiAnswers = false) ∧
    (∃ (s a : State) (t : Cyc), ∃ n, ∃ cmd : Instr, cmd = .spiRead t n ∧ a = s.hostAt t ∧ a.spiAnswers = true ∧
      a.outbound = []) ∧
    (∃ (s a : State) (t : Cyc), ∃ n, ∃ head, ∃ rest, ∃ cmd : Instr, cmd = .spiRead t n ∧ a = s.hostAt t ∧ a.spiAnswers
      = true ∧ a.outbound = head :: rest ∧ n + 1 < 6 + head.length) ∧
    (∃ (s a : State) (t : Cyc), ∃ n, ∃ head, ∃ rest, ∃ cmd : Instr, cmd = .spiRead t n ∧ a = s.hostAt t ∧ a.spiAnswers
      = true ∧ a.gw.spiReplies = head :: rest ∧ head ≠ [] ∧ 6 + head.length ≤ n + 1) ∧
    (∃ (s a : State) (t : Cyc), ∃ n, ∃ head, ∃ rest, ∃ cmd : Instr, cmd = .spiRead t n ∧ a = s.hostAt t ∧ a.spiAnswers
      = true ∧ a.gw.spiReplies = [] ∧ a.outbound = head :: rest ∧ head ≠ [] ∧ 6 + head.length ≤ n + 1) ∧
    (∃ (s a : State) (t : Cyc), ∃ k, ∃ x, ∃ r, ∃ cmd : Instr, cmd = .eventResend t k ∧ a = s.at t ∧ (a.sess k).unacked
      = x :: r ∧ a.serving = true ∧ k < 15 ∧ (a.sess k).paired = true ∧ a.get F.UDP_EN = 1 ∧ x.sentAt + msCyc (a.get
      F.EVENT_RESEND_MS) ≤ a.time.cyc) ∧
    (∃ (s a : State) (t : Cyc), ∃ k, ∃ x, ∃ r, ∃ cmd : Instr, cmd = .eventResend t k ∧ a = s.at t ∧ (a.sess k).unacked
      = x :: r ∧ ¬ (a.serving = true ∧ k < 15 ∧ (a.sess k).paired = true ∧ a.get F.UDP_EN = 1 ∧ x.sentAt + msCyc
      (a.get F.EVENT_RESEND_MS) ≤ a.time.cyc)) ∧
    (∃ (s a : State) (t : Cyc), ∃ k, ∃ cmd : Instr, cmd = .eventResend t k ∧ a = s.at t ∧ (a.sess k).unacked = []) ∧
    (∃ (s a : State) (t : Cyc), ∃ b, ∃ cmd : Instr, cmd = .keyDebounced t b ∧ a = s.at t ∧ (a.alive = false ∨ a.gw.key
      = b)) ∧
    (∃ (s a : State) (t : Cyc), ∃ b, ∃ cmd : Instr, cmd = .keyDebounced t b ∧ a = s.at t ∧ a.alive = true ∧ a.gw.key ≠
      b ∧ a.serving = false) ∧
    (∃ (s a : State) (t : Cyc), ∃ b, ∃ cmd : Instr, cmd = .keyDebounced t b ∧ a = s.at t ∧ a.alive = true ∧ a.gw.key ≠
      b ∧ a.serving = true) ∧
    (∃ (s a : State) (t : Cyc), ∃ b, ∃ cmd : Instr, cmd = .sealDebounced t b ∧ a = s.at t ∧ (a.alive = false ∨
      a.gw.sealOpen = b)) ∧
    (∃ (s a : State) (t : Cyc), ∃ b, ∃ cmd : Instr, cmd = .sealDebounced t b ∧ a = s.at t ∧ a.alive = true ∧
      a.gw.sealOpen ≠ b ∧ a.serving = false) ∧
    (∃ (s a : State) (t : Cyc), ∃ b, ∃ cmd : Instr, cmd = .sealDebounced t b ∧ a = s.at t ∧ a.alive = true ∧
      a.gw.sealOpen ≠ b ∧ a.serving = true) :=
  ⟨⟨State.reset, _, 0, 0, _, rfl, rfl, (by decide +kernel)⟩,
   ⟨(calm on), _, 0, 0, _, rfl, rfl, (by decide +kernel)⟩,
   ⟨State.reset, _, 0, 0, _, rfl, rfl, (by decide +kernel)⟩,
   ⟨(calm on), _, 0, 0, _, rfl, rfl, (by decide +kernel), (by decide +kernel)⟩,
   ⟨{ (calm on) with gw := { (calm on).gw with spiReplies := [[1]] } }, _, 0, 0, _, _, _, rfl, rfl,
     (by decide +kernel), rfl, (by decide +kernel)⟩,
   ⟨{ (calm on) with gw := { (calm on).gw with spiReplies := [[1]] } }, _, 0, 6, _, _, _, rfl, rfl,
     (by decide +kernel), rfl, (by decide +kernel), (by decide +kernel)⟩,
   ⟨(calm noted), _, 0, 6, _, _, _, rfl, rfl, (by decide +kernel), (by decide +kernel), rfl, (by decide +kernel),
     (by decide +kernel)⟩,
   ⟨noted, _, 0, 0, _, _, _, rfl, rfl, rfl, (by decide +kernel), (by decide +kernel), (by decide +kernel),
     (by decide +kernel), (by decide +kernel)⟩,
   ⟨noted, _, 0, 15, _, _, _, rfl, rfl, rfl, (by decide +kernel)⟩,
   ⟨State.reset, _, 0, 0, _, rfl, rfl, (by decide +kernel)⟩,
   ⟨State.reset, _, 0, 0, _, rfl, rfl, (by decide +kernel)⟩,
   ⟨{ State.reset with start := { State.reset.start with phase := .rom } }, _, 0, true, _, rfl, rfl,
     (by decide +kernel), (by decide +kernel), (by decide +kernel)⟩,
   ⟨on, _, 0, true, _, rfl, rfl, (by decide +kernel), (by decide +kernel), (by decide +kernel)⟩,
   ⟨State.reset, _, 0, 0, _, rfl, rfl, (by decide +kernel)⟩,
   ⟨{ State.reset with start := { State.reset.start with phase := .rom } }, _, 0, true, _, rfl, rfl,
     (by decide +kernel), (by decide +kernel), (by decide +kernel)⟩,
   ⟨on, _, 0, true, _, rfl, rfl, (by decide +kernel), (by decide +kernel), (by decide +kernel)⟩⟩

theorem witness_DatagramsAreSortedByPortAndAddress :
    (∃ (s a : State) (t : Cyc), ∃ d, ∃ cmd : Instr, cmd = .sceneDatagram t d ∧ a = s.hostAt t ∧ (a.serving = false ∨
      a.get F.DEV_IP = 0)) ∧
    (∃ (s a : State) (t : Cyc), ∃ d, ∃ cmd : Instr, cmd = .sceneDatagram t d ∧ a = s.hostAt t ∧ a.serving = true ∧
      a.get F.DEV_IP ≠ 0 ∧ a.traffic d.dstIp d.dstPort = .scene) ∧
    (∃ (s a : State) (t : Cyc), ∃ d, ∃ cmd : Instr, cmd = .sceneDatagram t d ∧ a = s.hostAt t ∧ a.serving = true ∧
      a.get F.DEV_IP ≠ 0 ∧ a.traffic d.dstIp d.dstPort = .command) ∧
    (∃ (s a : State) (t : Cyc), ∃ d, ∃ cmd : Instr, cmd = .sceneDatagram t d ∧ a = s.hostAt t ∧ a.serving = true ∧
      a.get F.DEV_IP ≠ 0 ∧ a.traffic d.dstIp d.dstPort = .group) ∧
    (∃ (s a : State) (t : Cyc), ∃ d, ∃ cmd : Instr, cmd = .sceneDatagram t d ∧ a = s.hostAt t ∧ a.serving = true ∧
      a.get F.DEV_IP ≠ 0 ∧ a.traffic d.dstIp d.dstPort = .other) ∧
    (∃ (s a : State) (t : Cyc), ∃ d, ∃ cmd : Instr, cmd = .heartbeatReceived t d ∧ a = s.hostAt t ∧ (a.serving = true
      ∧ a.get F.DEV_IP ≠ 0 ∧ a.traffic d.dstIp d.dstPort = .group)) ∧
    (∃ (s a : State) (t : Cyc), ∃ d, ∃ cmd : Instr, cmd = .heartbeatReceived t d ∧ a = s.hostAt t ∧ ¬ (a.serving =
      true ∧ a.get F.DEV_IP ≠ 0 ∧ a.traffic d.dstIp d.dstPort = .group)) ∧
    (∃ (s a : State) (t : Cyc), ∃ d, ∃ cmd : Instr, cmd = .groupCommitReceived t d ∧ a = s.hostAt t ∧ (a.serving =
      true ∧ a.get F.DEV_IP ≠ 0 ∧ a.traffic d.dstIp d.dstPort = .group)) ∧
    (∃ (s a : State) (t : Cyc), ∃ d, ∃ cmd : Instr, cmd = .groupCommitReceived t d ∧ a = s.hostAt t ∧ ¬ (a.serving =
      true ∧ a.get F.DEV_IP ≠ 0 ∧ a.traffic d.dstIp d.dstPort = .group)) ∧
    (∃ (s a : State) (t : Cyc), ∃ d, ∃ cmd : Instr, cmd = .repairReqReceived t d ∧ a = s.hostAt t ∧ (a.serving = true
      ∧ a.get F.DEV_IP ≠ 0 ∧ a.traffic d.dstIp d.dstPort = .group)) ∧
    (∃ (s a : State) (t : Cyc), ∃ d, ∃ cmd : Instr, cmd = .repairReqReceived t d ∧ a = s.hostAt t ∧ ¬ (a.serving =
      true ∧ a.get F.DEV_IP ≠ 0 ∧ a.traffic d.dstIp d.dstPort = .group)) ∧
    (∃ (s a : State) (t : Cyc), ∃ d, ∃ cmd : Instr, cmd = .repairReceived t d ∧ a = s.hostAt t ∧ (a.serving = true ∧
      a.get F.DEV_IP ≠ 0 ∧ a.traffic d.dstIp d.dstPort = .group)) ∧
    (∃ (s a : State) (t : Cyc), ∃ d, ∃ cmd : Instr, cmd = .repairReceived t d ∧ a = s.hostAt t ∧ ¬ (a.serving = true ∧
      a.get F.DEV_IP ≠ 0 ∧ a.traffic d.dstIp d.dstPort = .group)) ∧
    (∃ (s a : State) (t : Cyc), ∃ cmd : Instr, cmd = .sceneChunk t ∧ a = s.hostAt t ∧ (a.serving = true)) ∧
    (∃ (s a : State) (t : Cyc), ∃ cmd : Instr, cmd = .sceneChunk t ∧ a = s.hostAt t ∧ ¬ (a.serving = true)) :=
  ⟨⟨State.reset, _, 0, (dg 0 0), _, rfl, rfl, (by decide +kernel)⟩,
   ⟨addressed, _, 0, (dg home scenePort), _, rfl, rfl, (by decide +kernel), (by decide +kernel), (by decide +kernel)⟩,
   ⟨addressed, _, 0, (dg home cmdPort), _, rfl, rfl, (by decide +kernel), (by decide +kernel), (by decide +kernel)⟩,
   ⟨addressed, _, 0, (dg home groupPort), _, rfl, rfl, (by decide +kernel), (by decide +kernel), (by decide +kernel)⟩,
   ⟨addressed, _, 0, (dg 9 9), _, rfl, rfl, (by decide +kernel), (by decide +kernel), (by decide +kernel)⟩,
   ⟨addressed, _, 0, (dg home groupPort), _, rfl, rfl, (by decide +kernel)⟩,
   ⟨State.reset, _, 0, (dg 0 0), _, rfl, rfl, (by decide +kernel)⟩,
   ⟨addressed, _, 0, (dg home groupPort), _, rfl, rfl, (by decide +kernel)⟩,
   ⟨State.reset, _, 0, (dg 0 0), _, rfl, rfl, (by decide +kernel)⟩,
   ⟨addressed, _, 0, (dg home groupPort), _, rfl, rfl, (by decide +kernel)⟩,
   ⟨State.reset, _, 0, (dg 0 0), _, rfl, rfl, (by decide +kernel)⟩,
   ⟨addressed, _, 0, (dg home groupPort), _, rfl, rfl, (by decide +kernel)⟩,
   ⟨State.reset, _, 0, (dg 0 0), _, rfl, rfl, (by decide +kernel)⟩,
   ⟨on, _, 0, _, rfl, rfl, (by decide +kernel)⟩,
   ⟨State.reset, _, 0, _, rfl, rfl, (by decide +kernel)⟩⟩

theorem witness_SceneDatagramsEnterTheQuay :
    (∃ (s a : State) (t : Cyc), ∃ d, ∃ m, ∃ cmd : Instr, cmd = .sceneDatagram t d ∧ a = s.hostAt t ∧ a.serving = true
      ∧ a.get F.DEV_IP ≠ 0 ∧ a.traffic d.dstIp d.dstPort = .scene ∧ m = num d.payload 6 2 ∧ a.quayUsed + d.ipLen ≤
      (7936 - 256 * (if 1023 < m then 3 else a.cutI F.M_PRIORITY m)) * 1024 ∧ (d.ipOptions = false ∧ d.fragment =
      false ∧ d.badChecksum = false ∧ d.payload.length ≤ 9166)) ∧
    (∃ (s a : State) (t : Cyc), ∃ d, ∃ m, ∃ cmd : Instr, cmd = .sceneDatagram t d ∧ a = s.hostAt t ∧ a.serving = true
      ∧ a.get F.DEV_IP ≠ 0 ∧ a.traffic d.dstIp d.dstPort = .scene ∧ m = num d.payload 6 2 ∧ a.quayUsed + d.ipLen ≤
      (7936 - 256 * (if 1023 < m then 3 else a.cutI F.M_PRIORITY m)) * 1024 ∧ (d.ipOptions = true ∨ d.fragment = true
      ∨ d.badChecksum = true ∨ 9166 < d.payload.length)) ∧
    (∃ (s a : State) (t : Cyc), ∃ d, ∃ m, ∃ cmd : Instr, cmd = .sceneDatagram t d ∧ a = s.hostAt t ∧ a.serving = true
      ∧ a.get F.DEV_IP ≠ 0 ∧ a.traffic d.dstIp d.dstPort = .scene ∧ m = num d.payload 6 2 ∧ m ≤ 1023 ∧ (7936 - 256 *
      a.cutI F.M_PRIORITY m) * 1024 < a.quayUsed + d.ipLen) ∧
    (∃ (s a : State) (t : Cyc), ∃ d, ∃ m, ∃ cmd : Instr, cmd = .sceneDatagram t d ∧ a = s.hostAt t ∧ a.serving = true
      ∧ a.get F.DEV_IP ≠ 0 ∧ a.traffic d.dstIp d.dstPort = .scene ∧ m = num d.payload 6 2 ∧ 1023 < m ∧ (7936 - 256 *
      3) * 1024 < a.quayUsed + d.ipLen) :=
  ⟨⟨addressed, _, 0, { dg home scenePort with ipLen := 7602176 }, _, _, rfl, rfl, (by decide +kernel),
     (by decide +kernel), (by decide +kernel), rfl, (by decide +kernel), (by decide +kernel)⟩,
   ⟨addressed, _, 0, { dg home scenePort with ipOptions := true }, _, _, rfl, rfl, (by decide +kernel),
     (by decide +kernel), (by decide +kernel), rfl, (by decide +kernel), (by decide +kernel)⟩,
   ⟨addressed, _, 0, { dg home scenePort with ipLen := 7602177 }, _, _, rfl, rfl, (by decide +kernel),
     (by decide +kernel), (by decide +kernel), rfl, (by decide +kernel), (by decide +kernel)⟩,
   ⟨addressed, _, 0, { dg home scenePort with payload := List.replicate 8 0xFF, ipLen := 7340033 }, _, _, rfl, rfl,
     (by decide +kernel), (by decide +kernel), (by decide +kernel), rfl, (by decide +kernel), (by decide +kernel)⟩⟩

theorem witness_GroupMessagesAreTaken :
    (∃ (s a : State) (t : Cyc), ∃ d, ∃ cmd : Instr, cmd = .heartbeatReceived t d ∧ a = s.hostAt t ∧ a.serving = true ∧
      a.get F.DEV_IP ≠ 0 ∧ a.traffic d.dstIp d.dstPort = .group ∧ a.get F.GROUP_EN = 0) ∧
    (∃ (s a : State) (t : Cyc), ∃ d, ∃ cmd : Instr, cmd = .heartbeatReceived t d ∧ a = s.hostAt t ∧ a.serving = true ∧
      a.get F.DEV_IP ≠ 0 ∧ a.traffic d.dstIp d.dstPort = .group ∧ a.get F.GROUP_EN = 1 ∧ a.quayTakes .group d.ipLen []
      = false) ∧
    (∃ (s a : State) (t : Cyc), ∃ d, ∃ cmd : Instr, cmd = .heartbeatReceived t d ∧ a = s.hostAt t ∧ a.serving = true ∧
      a.get F.DEV_IP ≠ 0 ∧ a.traffic d.dstIp d.dstPort = .group ∧ a.get F.GROUP_EN = 1 ∧ a.quayTakes .group d.ipLen []
      = true ∧ (groupFramed d = false ∨ groupPayloadOk (num d.payload 3 1) (d.payload.drop 32) = false)) ∧
    (∃ (s a : State) (t : Cyc), ∃ d, ∃ cmd : Instr, cmd = .heartbeatReceived t d ∧ a = s.hostAt t ∧ a.serving = true ∧
      a.get F.DEV_IP ≠ 0 ∧ a.traffic d.dstIp d.dstPort = .group ∧ a.get F.GROUP_EN = 1 ∧ a.quayTakes .group d.ipLen []
      = true ∧ groupFramed d = true ∧ groupPayloadOk (num d.payload 3 1) (d.payload.drop 32) = true ∧ num d.payload 6
      1 ≠ a.get F.GROUP_ID) ∧
    (∃ (s a : State) (t : Cyc), ∃ d, ∃ cmd : Instr, cmd = .heartbeatReceived t d ∧ a = s.hostAt t ∧ a.serving = true ∧
      a.get F.DEV_IP ≠ 0 ∧ a.traffic d.dstIp d.dstPort = .group ∧ a.get F.GROUP_EN = 1 ∧ a.quayTakes .group d.ipLen []
      = true ∧ groupFramed d = true ∧ groupPayloadOk (num d.payload 3 1) (d.payload.drop 32) = true ∧ num d.payload 6
      1 = a.get F.GROUP_ID ∧ num d.payload 7 1 = a.get F.RANK ∧ d.srcIp ≠ a.get F.DEV_IP) ∧
    (∃ (s a : State) (t : Cyc), ∃ d, ∃ cmd : Instr, cmd = .heartbeatReceived t d ∧ a = s.hostAt t ∧ a.serving = true ∧
      a.get F.DEV_IP ≠ 0 ∧ a.traffic d.dstIp d.dstPort = .group ∧ a.get F.GROUP_EN = 1 ∧ a.quayTakes .group d.ipLen []
      = true ∧ groupFramed d = true ∧ groupPayloadOk (num d.payload 3 1) (d.payload.drop 32) = true ∧ num d.payload 6
      1 = a.get F.GROUP_ID ∧ num d.payload 7 1 = a.get F.RANK ∧ d.srcIp = a.get F.DEV_IP) ∧
    (∃ (s a : State) (t : Cyc), ∃ d, ∃ cmd : Instr, cmd = .groupCommitReceived t d ∧ a = s.hostAt t ∧ a.serving = true
      ∧ a.get F.DEV_IP ≠ 0 ∧ a.traffic d.dstIp d.dstPort = .group ∧ a.get F.GROUP_EN = 0) ∧
    (∃ (s a : State) (t : Cyc), ∃ d, ∃ cmd : Instr, cmd = .groupCommitReceived t d ∧ a = s.hostAt t ∧ a.serving = true
      ∧ a.get F.DEV_IP ≠ 0 ∧ a.traffic d.dstIp d.dstPort = .group ∧ a.get F.GROUP_EN = 1 ∧ a.quayTakes .group d.ipLen
      [] = false) ∧
    (∃ (s a : State) (t : Cyc), ∃ d, ∃ cmd : Instr, cmd = .groupCommitReceived t d ∧ a = s.hostAt t ∧ a.serving = true
      ∧ a.get F.DEV_IP ≠ 0 ∧ a.traffic d.dstIp d.dstPort = .group ∧ a.get F.GROUP_EN = 1 ∧ a.quayTakes .group d.ipLen
      [] = true ∧ (groupFramed d = false ∨ groupPayloadOk (num d.payload 3 1) (d.payload.drop 32) = false)) ∧
    (∃ (s a : State) (t : Cyc), ∃ d, ∃ cmd : Instr, cmd = .groupCommitReceived t d ∧ a = s.hostAt t ∧ a.serving = true
      ∧ a.get F.DEV_IP ≠ 0 ∧ a.traffic d.dstIp d.dstPort = .group ∧ a.get F.GROUP_EN = 1 ∧ a.quayTakes .group d.ipLen
      [] = true ∧ groupFramed d = true ∧ groupPayloadOk (num d.payload 3 1) (d.payload.drop 32) = true ∧ num d.payload
      6 1 ≠ a.get F.GROUP_ID) ∧
    (∃ (s a : State) (t : Cyc), ∃ d, ∃ cmd : Instr, cmd = .groupCommitReceived t d ∧ a = s.hostAt t ∧ a.serving = true
      ∧ a.get F.DEV_IP ≠ 0 ∧ a.traffic d.dstIp d.dstPort = .group ∧ a.get F.GROUP_EN = 1 ∧ a.quayTakes .group d.ipLen
      [] = true ∧ groupFramed d = true ∧ groupPayloadOk (num d.payload 3 1) (d.payload.drop 32) = true ∧ num d.payload
      6 1 = a.get F.GROUP_ID ∧ num d.payload 7 1 = a.get F.RANK ∧ d.srcIp ≠ a.get F.DEV_IP) ∧
    (∃ (s a : State) (t : Cyc), ∃ d, ∃ cmd : Instr, cmd = .groupCommitReceived t d ∧ a = s.hostAt t ∧ a.serving = true
      ∧ a.get F.DEV_IP ≠ 0 ∧ a.traffic d.dstIp d.dstPort = .group ∧ a.get F.GROUP_EN = 1 ∧ a.quayTakes .group d.ipLen
      [] = true ∧ groupFramed d = true ∧ groupPayloadOk (num d.payload 3 1) (d.payload.drop 32) = true ∧ num d.payload
      6 1 = a.get F.GROUP_ID ∧ num d.payload 7 1 = a.get F.RANK ∧ d.srcIp = a.get F.DEV_IP) ∧
    (∃ (s a : State) (t : Cyc), ∃ d, ∃ cmd : Instr, cmd = .repairReqReceived t d ∧ a = s.hostAt t ∧ a.serving = true ∧
      a.get F.DEV_IP ≠ 0 ∧ a.traffic d.dstIp d.dstPort = .group ∧ a.get F.GROUP_EN = 0) ∧
    (∃ (s a : State) (t : Cyc), ∃ d, ∃ cmd : Instr, cmd = .repairReqReceived t d ∧ a = s.hostAt t ∧ a.serving = true ∧
      a.get F.DEV_IP ≠ 0 ∧ a.traffic d.dstIp d.dstPort = .group ∧ a.get F.GROUP_EN = 1 ∧ a.quayTakes .group d.ipLen []
      = false) ∧
    (∃ (s a : State) (t : Cyc), ∃ d, ∃ cmd : Instr, cmd = .repairReqReceived t d ∧ a = s.hostAt t ∧ a.serving = true ∧
      a.get F.DEV_IP ≠ 0 ∧ a.traffic d.dstIp d.dstPort = .group ∧ a.get F.GROUP_EN = 1 ∧ a.quayTakes .group d.ipLen []
      = true ∧ (groupFramed d = false ∨ groupPayloadOk (num d.payload 3 1) (d.payload.drop 32) = false)) ∧
    (∃ (s a : State) (t : Cyc), ∃ d, ∃ cmd : Instr, cmd = .repairReqReceived t d ∧ a = s.hostAt t ∧ a.serving = true ∧
      a.get F.DEV_IP ≠ 0 ∧ a.traffic d.dstIp d.dstPort = .group ∧ a.get F.GROUP_EN = 1 ∧ a.quayTakes .group d.ipLen []
      = true ∧ groupFramed d = true ∧ groupPayloadOk (num d.payload 3 1) (d.payload.drop 32) = true ∧ num d.payload 6
      1 ≠ a.get F.GROUP_ID) ∧
    (∃ (s a : State) (t : Cyc), ∃ d, ∃ cmd : Instr, cmd = .repairReqReceived t d ∧ a = s.hostAt t ∧ a.serving = true ∧
      a.get F.DEV_IP ≠ 0 ∧ a.traffic d.dstIp d.dstPort = .group ∧ a.get F.GROUP_EN = 1 ∧ a.quayTakes .group d.ipLen []
      = true ∧ groupFramed d = true ∧ groupPayloadOk (num d.payload 3 1) (d.payload.drop 32) = true ∧ num d.payload 6
      1 = a.get F.GROUP_ID ∧ num d.payload 7 1 = a.get F.RANK ∧ d.srcIp ≠ a.get F.DEV_IP) ∧
    (∃ (s a : State) (t : Cyc), ∃ d, ∃ cmd : Instr, cmd = .repairReqReceived t d ∧ a = s.hostAt t ∧ a.serving = true ∧
      a.get F.DEV_IP ≠ 0 ∧ a.traffic d.dstIp d.dstPort = .group ∧ a.get F.GROUP_EN = 1 ∧ a.quayTakes .group d.ipLen []
      = true ∧ groupFramed d = true ∧ groupPayloadOk (num d.payload 3 1) (d.payload.drop 32) = true ∧ num d.payload 6
      1 = a.get F.GROUP_ID ∧ num d.payload 7 1 = a.get F.RANK ∧ d.srcIp = a.get F.DEV_IP) ∧
    (∃ (s a : State) (t : Cyc), ∃ d, ∃ cmd : Instr, cmd = .repairReceived t d ∧ a = s.hostAt t ∧ a.serving = true ∧
      a.get F.DEV_IP ≠ 0 ∧ a.traffic d.dstIp d.dstPort = .group ∧ a.get F.GROUP_EN = 0) ∧
    (∃ (s a : State) (t : Cyc), ∃ d, ∃ cmd : Instr, cmd = .repairReceived t d ∧ a = s.hostAt t ∧ a.serving = true ∧
      a.get F.DEV_IP ≠ 0 ∧ a.traffic d.dstIp d.dstPort = .group ∧ a.get F.GROUP_EN = 1 ∧ a.quayTakes .group d.ipLen []
      = false) ∧
    (∃ (s a : State) (t : Cyc), ∃ d, ∃ cmd : Instr, cmd = .repairReceived t d ∧ a = s.hostAt t ∧ a.serving = true ∧
      a.get F.DEV_IP ≠ 0 ∧ a.traffic d.dstIp d.dstPort = .group ∧ a.get F.GROUP_EN = 1 ∧ a.quayTakes .group d.ipLen []
      = true ∧ (groupFramed d = false ∨ groupPayloadOk (num d.payload 3 1) (d.payload.drop 32) = false)) ∧
    (∃ (s a : State) (t : Cyc), ∃ d, ∃ cmd : Instr, cmd = .repairReceived t d ∧ a = s.hostAt t ∧ a.serving = true ∧
      a.get F.DEV_IP ≠ 0 ∧ a.traffic d.dstIp d.dstPort = .group ∧ a.get F.GROUP_EN = 1 ∧ a.quayTakes .group d.ipLen []
      = true ∧ groupFramed d = true ∧ groupPayloadOk (num d.payload 3 1) (d.payload.drop 32) = true ∧ num d.payload 6
      1 ≠ a.get F.GROUP_ID) ∧
    (∃ (s a : State) (t : Cyc), ∃ d, ∃ cmd : Instr, cmd = .repairReceived t d ∧ a = s.hostAt t ∧ a.serving = true ∧
      a.get F.DEV_IP ≠ 0 ∧ a.traffic d.dstIp d.dstPort = .group ∧ a.get F.GROUP_EN = 1 ∧ a.quayTakes .group d.ipLen []
      = true ∧ groupFramed d = true ∧ groupPayloadOk (num d.payload 3 1) (d.payload.drop 32) = true ∧ num d.payload 6
      1 = a.get F.GROUP_ID ∧ num d.payload 7 1 = a.get F.RANK ∧ d.srcIp ≠ a.get F.DEV_IP) ∧
    (∃ (s a : State) (t : Cyc), ∃ d, ∃ cmd : Instr, cmd = .repairReceived t d ∧ a = s.hostAt t ∧ a.serving = true ∧
      a.get F.DEV_IP ≠ 0 ∧ a.traffic d.dstIp d.dstPort = .group ∧ a.get F.GROUP_EN = 1 ∧ a.quayTakes .group d.ipLen []
      = true ∧ groupFramed d = true ∧ groupPayloadOk (num d.payload 3 1) (d.payload.drop 32) = true ∧ num d.payload 6
      1 = a.get F.GROUP_ID ∧ num d.payload 7 1 = a.get F.RANK ∧ d.srcIp = a.get F.DEV_IP) ∧
    (∃ (s a : State) (t : Cyc), ∃ d, ∃ u, ∃ cmd : Instr, cmd = .heartbeatReceived t d ∧ a = s.hostAt t ∧ a.serving =
      true ∧ a.get F.DEV_IP ≠ 0 ∧ a.traffic d.dstIp d.dstPort = .group ∧ a.get F.GROUP_EN = 1 ∧ a.quayTakes .group
      d.ipLen [] = true ∧ groupFramed d = true ∧ groupPayloadOk (num d.payload 3 1) (d.payload.drop 32) = true ∧ num
      d.payload 6 1 = a.get F.GROUP_ID ∧ num d.payload 7 1 ≠ a.get F.RANK ∧ u = { a with
      group := { a.group with address := modAt a.group.address (num d.payload 7 1) (fun _ => d.srcIp) } } ∧ num
      d.payload 3 1 = 1) ∧
    (∃ (s a : State) (t : Cyc), ∃ d, ∃ u, ∃ v, ∃ cmd : Instr, cmd = .groupCommitReceived t d ∧ a = s.hostAt t ∧
      a.serving = true ∧ a.get F.DEV_IP ≠ 0 ∧ a.traffic d.dstIp d.dstPort = .group ∧ a.get F.GROUP_EN = 1 ∧
      a.quayTakes .group d.ipLen [] = true ∧ groupFramed d = true ∧ groupPayloadOk (num d.payload 3 1) (d.payload.drop
      32) = true ∧ num d.payload 6 1 = a.get F.GROUP_ID ∧ num d.payload 7 1 ≠ a.get F.RANK ∧ u = { a with
      group := { a.group with address := modAt a.group.address (num d.payload 7 1) (fun _ => d.srcIp) } } ∧ num
      d.payload 3 1 = 2 ∧ v = u.takeEpoch (num d.payload 7 1) (num d.payload 8 4) true false ∧ v.fromLead (num
      d.payload 7 1) (num d.payload 8 4) = false) ∧
    (∃ (s a : State) (t : Cyc), ∃ d, ∃ u, ∃ v, ∃ c, ∃ cmd : Instr, cmd = .groupCommitReceived t d ∧ a = s.hostAt t ∧
      a.serving = true ∧ a.get F.DEV_IP ≠ 0 ∧ a.traffic d.dstIp d.dstPort = .group ∧ a.get F.GROUP_EN = 1 ∧
      a.quayTakes .group d.ipLen [] = true ∧ groupFramed d = true ∧ groupPayloadOk (num d.payload 3 1) (d.payload.drop
      32) = true ∧ num d.payload 6 1 = a.get F.GROUP_ID ∧ num d.payload 7 1 ≠ a.get F.RANK ∧ u = { a with
      group := { a.group with address := modAt a.group.address (num d.payload 7 1) (fun _ => d.srcIp) } } ∧ num
      d.payload 3 1 = 2 ∧ v = u.takeEpoch (num d.payload 7 1) (num d.payload 8 4) true false ∧ v.fromLead (num
      d.payload 7 1) (num d.payload 8 4) = true ∧ c = (num d.payload 12 8 / v.scan.k + 1) * v.scan.k) ∧
    (∃ (s a : State) (t : Cyc), ∃ d, ∃ u, ∃ v, ∃ cmd : Instr, cmd = .repairReqReceived t d ∧ a = s.hostAt t ∧
      a.serving = true ∧ a.get F.DEV_IP ≠ 0 ∧ a.traffic d.dstIp d.dstPort = .group ∧ a.get F.GROUP_EN = 1 ∧
      a.quayTakes .group d.ipLen [] = true ∧ groupFramed d = true ∧ groupPayloadOk (num d.payload 3 1) (d.payload.drop
      32) = true ∧ num d.payload 6 1 = a.get F.GROUP_ID ∧ num d.payload 7 1 ≠ a.get F.RANK ∧ u = { a with
      group := { a.group with address := modAt a.group.address (num d.payload 7 1) (fun _ => d.srcIp) } } ∧ num
      d.payload 3 1 = 3 ∧ v = u.takeEpoch (num d.payload 7 1) (num d.payload 8 4) false false ∧ (v.group.lead = false
      ∨ v.repairable (num (d.payload.drop 32) 0 2) = false)) ∧
    (∃ (s a : State) (t : Cyc), ∃ d, ∃ u, ∃ v, ∃ (rs : List (Nat × Nat)), ∃ l, ∃ cmd : Instr, cmd = .repairReqReceived
      t d ∧ a = s.hostAt t ∧ a.serving = true ∧ a.get F.DEV_IP ≠ 0 ∧ a.traffic d.dstIp d.dstPort = .group ∧ a.get
      F.GROUP_EN = 1 ∧ a.quayTakes .group d.ipLen [] = true ∧ groupFramed d = true ∧ groupPayloadOk (num d.payload 3
      1) (d.payload.drop 32) = true ∧ num d.payload 6 1 = a.get F.GROUP_ID ∧ num d.payload 7 1 ≠ a.get F.RANK ∧ u = {
      a with
      group := { a.group with address := modAt a.group.address (num d.payload 7 1) (fun _ => d.srcIp) } } ∧ num
      d.payload 3 1 = 3 ∧ v = u.takeEpoch (num d.payload 7 1) (num d.payload 8 4) false false ∧ v.group.lead = true ∧
      v.repairable (num (d.payload.drop 32) 0 2) = true ∧ rs = (List.range (num (d.payload.drop 32) 2 2)).map (fun i
      => (num (d.payload.drop 32) (4 + 8 * i) 4, num (d.payload.drop 32) (8 + 8 * i) 4)) ∧ l = sortBy (fun x y =>
      decide (dist32 x.seq (v.moor (num (d.payload.drop 32) 0 2)).base < dist32 y.seq (v.moor (num (d.payload.drop 32)
      0 2)).base)) ((v.moor (num (d.payload.drop 32) 0 2)).chunks.filter (fun x => x.bytes != [] && decide
      (x.bytes.length ≤ 9100) && rs.any (fun r => decide (dist32 x.seq r.1 < r.2))))) ∧
    (∃ (s a : State) (t : Cyc), ∃ d, ∃ u, ∃ v, ∃ n, ∃ cmd : Instr, cmd = .repairReceived t d ∧ a = s.hostAt t ∧
      a.serving = true ∧ a.get F.DEV_IP ≠ 0 ∧ a.traffic d.dstIp d.dstPort = .group ∧ a.get F.GROUP_EN = 1 ∧
      a.quayTakes .group d.ipLen [] = true ∧ groupFramed d = true ∧ groupPayloadOk (num d.payload 3 1) (d.payload.drop
      32) = true ∧ num d.payload 6 1 = a.get F.GROUP_ID ∧ num d.payload 7 1 ≠ a.get F.RANK ∧ u = { a with
      group := { a.group with address := modAt a.group.address (num d.payload 7 1) (fun _ => d.srcIp) } } ∧ num
      d.payload 3 1 = 4 ∧ v = u.takeEpoch (num d.payload 7 1) (num d.payload 8 4) false false ∧ n = num
      (d.payload.drop 32) 0 2 ∧ v.group.lead = false ∧ v.repairable n = true) ∧
    (∃ (s a : State) (t : Cyc), ∃ d, ∃ u, ∃ v, ∃ cmd : Instr, cmd = .repairReceived t d ∧ a = s.hostAt t ∧ a.serving =
      true ∧ a.get F.DEV_IP ≠ 0 ∧ a.traffic d.dstIp d.dstPort = .group ∧ a.get F.GROUP_EN = 1 ∧ a.quayTakes .group
      d.ipLen [] = true ∧ groupFramed d = true ∧ groupPayloadOk (num d.payload 3 1) (d.payload.drop 32) = true ∧ num
      d.payload 6 1 = a.get F.GROUP_ID ∧ num d.payload 7 1 ≠ a.get F.RANK ∧ u = { a with
      group := { a.group with address := modAt a.group.address (num d.payload 7 1) (fun _ => d.srcIp) } } ∧ num
      d.payload 3 1 = 4 ∧ v = u.takeEpoch (num d.payload 7 1) (num d.payload 8 4) false false ∧ (v.group.lead = true ∨
      v.repairable (num (d.payload.drop 32) 0 2) = false)) :=
  ⟨⟨addressed, _, 0, (dg home groupPort), _, rfl, rfl, (by decide +kernel), (by decide +kernel), (by decide +kernel),
     (by decide +kernel)⟩,
   ⟨grouped, _, 0, { dg home groupPort with ipLen := 9000000 }, _, rfl, rfl, (by decide +kernel), (by decide +kernel),
     (by decide +kernel), (by decide +kernel), (by decide +kernel)⟩,
   ⟨grouped, _, 0, (dg home groupPort), _, rfl, rfl, (by decide +kernel), (by decide +kernel), (by decide +kernel),
     (by decide +kernel), (by decide +kernel), (by decide +kernel)⟩,
   ⟨grouped, _, 0, (groupMsg (State.reset.get F.GROUP_ID + 1) 1 1 (zeros 32)), _, rfl, rfl, (by decide +kernel),
     (by decide +kernel), (by decide +kernel), (by decide +kernel), (by decide +kernel), (by decide +kernel),
     (by decide +kernel), (by decide +kernel)⟩,
   ⟨grouped, _, 0, (groupMsg (State.reset.get F.GROUP_ID) (State.reset.get F.RANK) 1 (zeros 32)), _, rfl, rfl,
     (by decide +kernel), (by decide +kernel), (by decide +kernel), (by decide +kernel), (by decide +kernel),
     (by decide +kernel), (by decide +kernel), (by decide +kernel), (by decide +kernel), (by decide +kernel)⟩,
   ⟨grouped, _, 0, { groupMsg (State.reset.get F.GROUP_ID) (State.reset.get F.RANK) 1 (zeros 32) with srcIp := home },
     _, rfl, rfl, (by decide +kernel), (by decide +kernel), (by decide +kernel), (by decide +kernel),
     (by decide +kernel), (by decide +kernel), (by decide +kernel), (by decide +kernel), (by decide +kernel),
     (by decide +kernel)⟩,
   ⟨addressed, _, 0, (dg home groupPort), _, rfl, rfl, (by decide +kernel), (by decide +kernel), (by decide +kernel),
     (by decide +kernel)⟩,
   ⟨grouped, _, 0, { dg home groupPort with ipLen := 9000000 }, _, rfl, rfl, (by decide +kernel), (by decide +kernel),
     (by decide +kernel), (by decide +kernel), (by decide +kernel)⟩,
   ⟨grouped, _, 0, (dg home groupPort), _, rfl, rfl, (by decide +kernel), (by decide +kernel), (by decide +kernel),
     (by decide +kernel), (by decide +kernel), (by decide +kernel)⟩,
   ⟨grouped, _, 0, (groupMsg (State.reset.get F.GROUP_ID + 1) 1 2 (zeros 8)), _, rfl, rfl, (by decide +kernel),
     (by decide +kernel), (by decide +kernel), (by decide +kernel), (by decide +kernel), (by decide +kernel),
     (by decide +kernel), (by decide +kernel)⟩,
   ⟨grouped, _, 0, (groupMsg (State.reset.get F.GROUP_ID) (State.reset.get F.RANK) 2 (zeros 8)), _, rfl, rfl,
     (by decide +kernel), (by decide +kernel), (by decide +kernel), (by decide +kernel), (by decide +kernel),
     (by decide +kernel), (by decide +kernel), (by decide +kernel), (by decide +kernel), (by decide +kernel)⟩,
   ⟨grouped, _, 0, { groupMsg (State.reset.get F.GROUP_ID) (State.reset.get F.RANK) 2 (zeros 8) with srcIp := home },
     _, rfl, rfl, (by decide +kernel), (by decide +kernel), (by decide +kernel), (by decide +kernel),
     (by decide +kernel), (by decide +kernel), (by decide +kernel), (by decide +kernel), (by decide +kernel),
     (by decide +kernel)⟩,
   ⟨addressed, _, 0, (dg home groupPort), _, rfl, rfl, (by decide +kernel), (by decide +kernel), (by decide +kernel),
     (by decide +kernel)⟩,
   ⟨grouped, _, 0, { dg home groupPort with ipLen := 9000000 }, _, rfl, rfl, (by decide +kernel), (by decide +kernel),
     (by decide +kernel), (by decide +kernel), (by decide +kernel)⟩,
   ⟨grouped, _, 0, (dg home groupPort), _, rfl, rfl, (by decide +kernel), (by decide +kernel), (by decide +kernel),
     (by decide +kernel), (by decide +kernel), (by decide +kernel)⟩,
   ⟨grouped, _, 0, (groupMsg (State.reset.get F.GROUP_ID + 1) 1 3 ([0, 0, 1, 0] ++ zeros 8)), _, rfl, rfl,
     (by decide +kernel), (by decide +kernel), (by decide +kernel), (by decide +kernel), (by decide +kernel),
     (by decide +kernel), (by decide +kernel), (by decide +kernel)⟩,
   ⟨grouped, _, 0, (groupMsg (State.reset.get F.GROUP_ID) (State.reset.get F.RANK) 3 ([0, 0, 1, 0] ++ zeros 8)), _,
     rfl, rfl, (by decide +kernel), (by decide +kernel), (by decide +kernel), (by decide +kernel),
     (by decide +kernel), (by decide +kernel), (by decide +kernel), (by decide +kernel), (by decide +kernel),
     (by decide +kernel)⟩,
   ⟨grouped, _, 0, {
     groupMsg (State.reset.get F.GROUP_ID) (State.reset.get F.RANK) 3 ([0, 0, 1, 0] ++ zeros 8) with srcIp := home },
     _, rfl, rfl, (by decide +kernel), (by decide +kernel), (by decide +kernel), (by decide +kernel),
     (by decide +kernel), (by decide +kernel), (by decide +kernel), (by decide +kernel), (by decide +kernel),
     (by decide +kernel)⟩,
   ⟨addressed, _, 0, (dg home groupPort), _, rfl, rfl, (by decide +kernel), (by decide +kernel), (by decide +kernel),
     (by decide +kernel)⟩,
   ⟨grouped, _, 0, { dg home groupPort with ipLen := 9000000 }, _, rfl, rfl, (by decide +kernel), (by decide +kernel),
     (by decide +kernel), (by decide +kernel), (by decide +kernel)⟩,
   ⟨grouped, _, 0, (dg home groupPort), _, rfl, rfl, (by decide +kernel), (by decide +kernel), (by decide +kernel),
     (by decide +kernel), (by decide +kernel), (by decide +kernel)⟩,
   ⟨grouped, _, 0, (groupMsg (State.reset.get F.GROUP_ID + 1) 1 4 (zeros 4)), _, rfl, rfl, (by decide +kernel),
     (by decide +kernel), (by decide +kernel), (by decide +kernel), (by decide +kernel), (by decide +kernel),
     (by decide +kernel), (by decide +kernel)⟩,
   ⟨grouped, _, 0, (groupMsg (State.reset.get F.GROUP_ID) (State.reset.get F.RANK) 4 (zeros 4)), _, rfl, rfl,
     (by decide +kernel), (by decide +kernel), (by decide +kernel), (by decide +kernel), (by decide +kernel),
     (by decide +kernel), (by decide +kernel), (by decide +kernel), (by decide +kernel), (by decide +kernel)⟩,
   ⟨grouped, _, 0, { groupMsg (State.reset.get F.GROUP_ID) (State.reset.get F.RANK) 4 (zeros 4) with srcIp := home },
     _, rfl, rfl, (by decide +kernel), (by decide +kernel), (by decide +kernel), (by decide +kernel),
     (by decide +kernel), (by decide +kernel), (by decide +kernel), (by decide +kernel), (by decide +kernel),
     (by decide +kernel)⟩,
   ⟨grouped, _, 0, (groupDg 1 (zeros 32)), _, _, rfl, rfl, (by decide +kernel), (by decide +kernel),
     (by decide +kernel), (by decide +kernel), (by decide +kernel), (by decide +kernel), (by decide +kernel),
     (by decide +kernel), (by decide +kernel), rfl, (by decide +kernel)⟩,
   ⟨grouped, _, 0, (groupDg 2 (zeros 8)), _, _, _, rfl, rfl, (by decide +kernel), (by decide +kernel),
     (by decide +kernel), (by decide +kernel), (by decide +kernel), (by decide +kernel), (by decide +kernel),
     (by decide +kernel), (by decide +kernel), rfl, (by decide +kernel), rfl, (by decide +kernel)⟩,
   ⟨(follows grouped), _, 0, (groupDg 2 (zeros 8)), _, _, _, _, rfl, rfl, (by decide +kernel), (by decide +kernel),
     (by decide +kernel), (by decide +kernel), (by decide +kernel), (by decide +kernel), (by decide +kernel),
     (by decide +kernel), (by decide +kernel), rfl, (by decide +kernel), rfl, (by decide +kernel), rfl⟩,
   ⟨grouped, _, 0, (groupDg 3 ([0, 0, 1, 0] ++ zeros 8)), _, _, _, rfl, rfl, (by decide +kernel), (by decide +kernel),
     (by decide +kernel), (by decide +kernel), (by decide +kernel), (by decide +kernel), (by decide +kernel),
     (by decide +kernel), (by decide +kernel), rfl, (by decide +kernel), rfl, (by decide +kernel)⟩,
   ⟨leading, _, 0, (groupDg 3 ([0, 0, 1, 0] ++ zeros 8)), _, _, _, _, _, rfl, rfl, (by decide +kernel),
     (by decide +kernel), (by decide +kernel), (by decide +kernel), (by decide +kernel), (by decide +kernel),
     (by decide +kernel), (by decide +kernel), (by decide +kernel), rfl, (by decide +kernel), rfl,
     (by decide +kernel), (by decide +kernel), rfl, rfl⟩,
   ⟨(follows grouped), _, 0, (groupDg 4 (zeros 4)), _, _, _, _, rfl, rfl, (by decide +kernel), (by decide +kernel),
     (by decide +kernel), (by decide +kernel), (by decide +kernel), (by decide +kernel), (by decide +kernel),
     (by decide +kernel), (by decide +kernel), rfl, (by decide +kernel), rfl, rfl, (by decide +kernel),
     (by decide +kernel)⟩,
   ⟨grouped, _, 0, (groupDg 4 (zeros 4)), _, _, _, rfl, rfl, (by decide +kernel), (by decide +kernel),
     (by decide +kernel), (by decide +kernel), (by decide +kernel), (by decide +kernel), (by decide +kernel),
     (by decide +kernel), (by decide +kernel), rfl, (by decide +kernel), rfl, (by decide +kernel)⟩⟩

theorem witness_QuayAndReportEvents :
    (∃ (s a : State) (t : Cyc), ∃ cmd : Instr, cmd = .quaySpill t ∧ a = s.at t ∧ a.spillable = []) ∧
    (∃ (s a : State) (t : Cyc), ∃ e, ∃ r, ∃ cmd : Instr, cmd = .quaySpill t ∧ a = s.at t ∧ a.spillable = e :: r ∧ ¬
      (spillAt ≤ a.quayUsed ∧ (a.spillOne e.2.1 e.2.2.1 e.2.2.2.1).spillUsed ≤ spillPool ∧ a.ingestRoom e.2.2.2.2 =
      true)) ∧
    (∃ (s a : State) (t : Cyc), ∃ e, ∃ r, ∃ cmd : Instr, cmd = .quaySpill t ∧ a = s.at t ∧ a.spillable = e :: r ∧
      spillAt ≤ a.quayUsed ∧ (a.spillOne e.2.1 e.2.2.1 e.2.2.2.1).spillUsed ≤ spillPool ∧ a.ingestRoom e.2.2.2.2 =
      true) ∧
    (∃ (s a : State) (t : Cyc), ∃ n, ∃ cmd : Instr, cmd = .nackDue t n ∧ a = s.at t ∧ (a.reportsOn n = true ∧ (a.moor
      n).nackPort ≠ 0)) ∧
    (∃ (s a : State) (t : Cyc), ∃ n, ∃ cmd : Instr, cmd = .nackDue t n ∧ a = s.at t ∧ ¬ (a.reportsOn n = true ∧
      (a.moor n).nackPort ≠ 0)) ∧
    (∃ (s a : State) (t : Cyc), ∃ n, ∃ cmd : Instr, cmd = .repairReqSend t n ∧ a = s.at t ∧ (a.reportsOn n = true ∧
      a.repairable n = true ∧ a.hasLead = true)) ∧
    (∃ (s a : State) (t : Cyc), ∃ n, ∃ cmd : Instr, cmd = .repairReqSend t n ∧ a = s.at t ∧ ¬ (a.reportsOn n = true ∧
      a.repairable n = true ∧ a.hasLead = true)) :=
  ⟨⟨on, _, 0, _, rfl, rfl, (by decide +kernel)⟩,
   ⟨(quayed 0), _, 0, _, _, _, rfl, rfl, rfl, (by decide +kernel)⟩,
   ⟨(quayed 7000000), _, 0, _, _, _, rfl, rfl, rfl, (by decide +kernel), (by decide +kernel), (by decide +kernel)⟩,
   ⟨(put (put (moored { state := 2, session := 1, nackPort := 7 }) F.M_NACK_EN 1) F.M_NACK_TRIES 1), _, 0, 0, _, rfl,
     rfl, (by decide +kernel)⟩,
   ⟨State.reset, _, 0, 0, _, rfl, rfl, (by decide +kernel)⟩,
   ⟨led, _, 0, 0, _, rfl, rfl, (by decide +kernel)⟩,
   ⟨State.reset, _, 0, 0, _, rfl, rfl, (by decide +kernel)⟩⟩

theorem witness_LibraryEvents :
    (∃ (s a : State) (t : Cyc), ∃ k, ∃ bad, ∃ cmd : Instr, cmd = .decompressionJobStart t ⟨k, bad⟩ ∧ a = s.at t ∧
      (a.lanesOn = true ∧ k < 8 ∧ nth a.codec.lanes k none = none)) ∧
    (∃ (s a : State) (t : Cyc), ∃ k, ∃ bad, ∃ cmd : Instr, cmd = .decompressionJobStart t ⟨k, bad⟩ ∧ a = s.at t ∧ ¬
      (a.lanesOn = true ∧ k < 8 ∧ nth a.codec.lanes k none = none)) ∧
    (∃ (s a : State) (t : Cyc), ∃ k, ∃ cmd : Instr, cmd = .decompressionJobEnd t k ∧ a = s.at t ∧ (a.lanesOn = false ∨
      a.ingestRoom (a.laneWrites k) = false)) ∧
    (∃ (s a : State) (t : Cyc), ∃ k, ∃ cmd : Instr, cmd = .decompressionJobEnd t k ∧ a = s.at t ∧ nth a.codec.lanes k
      none = none) ∧
    (∃ (s a : State) (t : Cyc), ∃ k, ∃ n, ∃ f, ∃ c, ∃ rel, ∃ x, ∃ y, ∃ i, ∃ raw, ∃ cmd : Instr, cmd =
      .decompressionJobEnd t k ∧ a = s.at t ∧ a.lanesOn = true ∧ a.ingestRoom (a.laneWrites k) = true ∧ nth
      a.codec.lanes k none = some (.tile n f c rel x y i raw)) ∧
    (∃ (s a : State) (t : Cyc), ∃ k, ∃ n, ∃ cmd : Instr, cmd = .decompressionJobEnd t k ∧ a = s.at t ∧ a.lanesOn =
      true ∧ a.ingestRoom (a.laneWrites k) = true ∧ nth a.codec.lanes k none = some (.segment n)) ∧
    (∃ (s a : State) (t : Cyc), ∃ n, ∃ cmd : Instr, cmd = .decompressionResume t n ∧ a = s.at t ∧ Tab.get?
      a.codec.libs n = none) ∧
    (∃ (s a : State) (t : Cyc), ∃ n, ∃ l, ∃ cmd : Instr, cmd = .decompressionResume t n ∧ a = s.at t ∧ Tab.get?
      a.codec.libs n = some l ∧ a.lanesOn = true ∧ (l.repair = true ∨ a.harbour.profile = 1) ∧ l.suspended = true ∧
      l.released = l.written ∧ (a.moor n).laneSet = true ∧ nth a.codec.lanes (a.moor n).lane none = none) ∧
    (∃ (s a : State) (t : Cyc), ∃ n, ∃ l, ∃ cmd : Instr, cmd = .decompressionResume t n ∧ a = s.at t ∧ Tab.get?
      a.codec.libs n = some l ∧ ¬ (a.lanesOn = true ∧ (l.repair = true ∨ a.harbour.profile = 1) ∧ l.suspended = true ∧
      l.released = l.written ∧ (a.moor n).laneSet = true ∧ nth a.codec.lanes (a.moor n).lane none = none)) ∧
    (∃ (s a : State) (t : Cyc), ∃ n, ∃ f, ∃ seg, ∃ size, ∃ chans, ∃ cmd : Instr, cmd = .librarySegmentRead t n f ⟨seg,
      chans⟩ size ∧ a = s.at t ∧ ¬ (a.lanesOn = true ∧ a.harbour.profile = 1 ∧ a.libMoor n = true ∧ Tab.get?
      a.codec.libs n = none ∧ a.scheduled n f = true)) ∧
    (∃ (s a : State) (t : Cyc), ∃ n, ∃ f, ∃ seg, ∃ size, ∃ chans, ∃ l, ∃ u, ∃ cmd : Instr, cmd = .librarySegmentRead t
      n f ⟨seg, chans⟩ size ∧ a = s.at t ∧ l = newRead (blank 4096 (fun i =>
      match chans[i]? with | some c => !(a.chan c).serves | none => false) seg) size (a.ingest.order + 1) false ∧
      a.lanesOn = true ∧ a.harbour.profile = 1 ∧ a.libMoor n = true ∧ Tab.get? a.codec.libs n = none ∧ a.scheduled n f
      = true ∧ u = { a with
      ingest := { a.ingest with order := a.ingest.order + 1 }, harbour :=
      { a.harbour with schedule := Tab.put a.harbour.schedule n f } }) ∧
    (∃ (s a : State) (t : Cyc), ∃ n, ∃ cmd : Instr, cmd = .libraryPieceRelease t n ∧ a = s.at t ∧ Tab.get?
      a.codec.libs n = none) ∧
    (∃ (s a : State) (t : Cyc), ∃ n, ∃ l, ∃ cmd : Instr, cmd = .libraryPieceRelease t n ∧ a = s.at t ∧ Tab.get?
      a.codec.libs n = some l ∧ (a.lanesOn = false ∨ l.repair = false ∧ a.harbour.profile ≠ 1 ∨ l.repair = false ∧
      l.written ≤ l.released ∧ l.done = false)) ∧
    (∃ (s a : State) (t : Cyc), ∃ n, ∃ l, ∃ cmd : Instr, cmd = .libraryPieceRelease t n ∧ a = s.at t ∧ Tab.get?
      a.codec.libs n = some l ∧ a.lanesOn = true ∧ l.repair = false ∧ a.harbour.profile = 1 ∧ l.done = true ∧
      (l.written ≤ l.released ∨ l.code ≠ Zstd.NONE)) ∧
    (∃ (s a : State) (t : Cyc), ∃ n, ∃ l, ∃ b, ∃ u, ∃ rest, ∃ (crc : Nat × Nat), ∃ cmd : Instr, cmd =
      .libraryPieceRelease t n ∧ a = s.at t ∧ Tab.get? a.codec.libs n = some l ∧ a.lanesOn = true ∧ l.repair = false ∧
      a.harbour.profile = 1 ∧ l.released < l.written ∧ l.done = false ∧ b = l.part ++ (l.output.drop l.released).take
      (l.written - l.released) ∧ (a.setCrc (libUnit n) l.crc.1 l.crc.2).libraryChunks (libUnit n) (b.length + 1) l.crc
      b = (u, rest, crc)) ∧
    (∃ (s a : State) (t : Cyc), ∃ n, ∃ l, ∃ b, ∃ u, ∃ rest, ∃ (crc : Nat × Nat), ∃ cmd : Instr, cmd =
      .libraryPieceRelease t n ∧ a = s.at t ∧ Tab.get? a.codec.libs n = some l ∧ a.lanesOn = true ∧ l.repair = false ∧
      a.harbour.profile = 1 ∧ l.released < l.written ∧ l.done = true ∧ l.code = Zstd.NONE ∧ b = l.part ++
      (l.output.drop l.released).take (l.written - l.released) ∧ (a.setCrc (libUnit n) l.crc.1 l.crc.2).libraryChunks
      (libUnit n) (b.length + 1) l.crc b = (u, rest, crc)) ∧
    (∃ (s a : State) (t : Cyc), ∃ n, ∃ l, ∃ b, ∃ cmd : Instr, cmd = .libraryPieceRelease t n ∧ a = s.at t ∧ Tab.get?
      a.codec.libs n = some l ∧ a.lanesOn = true ∧ l.repair = true ∧ b = l.part ++ (l.output.drop l.released).take
      (l.written - l.released) ∧ l.done = false) ∧
    (∃ (s a : State) (t : Cyc), ∃ n, ∃ l, ∃ b, ∃ cmd : Instr, cmd = .libraryPieceRelease t n ∧ a = s.at t ∧ Tab.get?
      a.codec.libs n = some l ∧ a.lanesOn = true ∧ l.repair = true ∧ b = l.part ++ (l.output.drop l.released).take
      (l.written - l.released) ∧ l.done = true ∧ l.code = Zstd.NONE) ∧
    (∃ (s a : State) (t : Cyc), ∃ n, ∃ l, ∃ cmd : Instr, cmd = .libraryPieceRelease t n ∧ a = s.at t ∧ Tab.get?
      a.codec.libs n = some l ∧ a.lanesOn = true ∧ l.repair = true ∧ l.done = true ∧ l.code ≠ Zstd.NONE) :=
  ⟨⟨on, _, 0, 0, [], _, rfl, rfl, (by decide +kernel)⟩,
   ⟨State.reset, _, 0, 0, [], _, rfl, rfl, (by decide +kernel)⟩,
   ⟨State.reset, _, 0, 0, _, rfl, rfl, (by decide +kernel)⟩,
   ⟨State.reset, _, 0, 0, _, rfl, rfl, (by decide +kernel)⟩,
   ⟨{ on with codec := { on.codec with lanes := [some (.tile 0 0 0 false 0 0 [] 0)] } }, _, 0, 0, _, _, _, _, _, _, _,
     _, _, rfl, rfl, (by decide +kernel), (by decide +kernel), rfl⟩,
   ⟨{ on with
     codec := { on.codec with lanes := [some (.segment 0)] }, dram := { channels := [{ state := 1 }] } }, _, 0, 0, _,
     _, rfl, rfl, (by decide +kernel), (by decide +kernel), rfl⟩,
   ⟨State.reset, _, 0, 0, _, rfl, rfl, (by decide +kernel)⟩,
   ⟨{
     moored { laneSet := true } with harbour := { profile := 1 }, codec :=
     { libs := [(0, { lib0 with suspended := true })] } }, _, 0, 0, _, _, rfl, rfl, rfl, (by decide +kernel),
     (by decide +kernel), (by decide +kernel), (by decide +kernel), (by decide +kernel), (by decide +kernel)⟩,
   ⟨{ State.reset with
     codec := { State.reset.codec with libs := [(0, { lib0 with suspended := false })] } }, _, 0, 0, _, _, rfl, rfl,
     rfl, (by decide +kernel)⟩,
   ⟨State.reset, _, 0, 0, 0, [], 0, [], _, rfl, rfl, (by decide +kernel)⟩,
   ⟨{ moored { state := 4 } with harbour := { profile := 1 } }, _, 0, 0, 0, [], 0, [], _, _, _, rfl, rfl, rfl,
     (by decide +kernel), (by decide +kernel), (by decide +kernel), (by decide +kernel), (by decide +kernel), rfl⟩,
   ⟨State.reset, _, 0, 0, _, rfl, rfl, (by decide +kernel)⟩,
   ⟨{ State.reset with codec := { State.reset.codec with libs := [(0, { lib0 with done := false })] } }, _, 0, 0, _,
     _, rfl, rfl, rfl, (by decide +kernel)⟩,
   ⟨{ on with harbour := { profile := 1 }, codec := { libs := [(0, { lib0 with done := true })] } }, _, 0, 0, _, _,
     rfl, rfl, rfl, (by decide +kernel), (by decide +kernel), (by decide +kernel), (by decide +kernel),
     (by decide +kernel)⟩,
   ⟨{ on with
     harbour := { profile := 1 }, codec := { libs := [(0, { lib0 with written := 1, output := [7] })] } }, _, 0, 0, _,
     _, _, _, _, _, rfl, rfl, rfl, (by decide +kernel), (by decide +kernel), (by decide +kernel), (by decide +kernel),
     (by decide +kernel), rfl, rfl⟩,
   ⟨{ on with
     harbour := { profile := 1 }, codec := { libs := [(0, { lib0 with written := 1, output := [7], done := true })] }
     }, _, 0, 0, _, _, _, _, _, _, rfl, rfl, rfl, (by decide +kernel), (by decide +kernel), (by decide +kernel),
     (by decide +kernel), (by decide +kernel), (by decide +kernel), rfl, rfl⟩,
   ⟨{ on with harbour := { profile := 1 }, codec := { libs := [(0, { lib0 with repair := true })] } }, _, 0, 0, _, _,
     _, rfl, rfl, rfl, (by decide +kernel), (by decide +kernel), rfl, (by decide +kernel)⟩,
   ⟨{ on with
     harbour := { profile := 1 }, codec := { libs := [(0, { lib0 with repair := true, done := true })] } }, _, 0, 0,
     _, _, _, rfl, rfl, rfl, (by decide +kernel), (by decide +kernel), rfl, (by decide +kernel), (by decide +kernel)⟩,
   ⟨{ on with
     harbour := { profile := 1 }, codec := { libs := [(0, { lib0 with repair := true, done := true, code := 1 })] } },
     _, 0, 0, _, _, rfl, rfl, rfl, (by decide +kernel), (by decide +kernel), (by decide +kernel), (by decide +kernel)⟩⟩

theorem witness_CompressionEvents :
    (∃ (s a : State) (t : Cyc), ∃ k, ∃ bad, ∃ cmd : Instr, cmd = .compressionBlockDone t ⟨k, bad⟩ ∧ a = s.at t ∧
      a.lanesOn = false) ∧
    (∃ (s a : State) (t : Cyc), ∃ k, ∃ bad, ∃ cmd : Instr, cmd = .compressionBlockDone t ⟨k, bad⟩ ∧ a = s.at t ∧ nth
      a.codec.clanes k [] = []) ∧
    (∃ (s a : State) (t : Cyc), ∃ k, ∃ bad, ∃ j, ∃ r, ∃ cmd : Instr, cmd = .compressionBlockDone t ⟨k, bad⟩ ∧ a = s.at
      t ∧ a.lanesOn = true ∧ nth a.codec.clanes k [] = j :: r ∧ a.destFull j = true) ∧
    (∃ (s a : State) (t : Cyc), ∃ k, ∃ bad, ∃ j, ∃ r, ∃ cmd : Instr, cmd = .compressionBlockDone t ⟨k, bad⟩ ∧ a = s.at
      t ∧ a.lanesOn = true ∧ nth a.codec.clanes k [] = j :: r ∧ a.destFull j = false ∧ a.otherRoom (min 131072
      j.rest.length) = false) ∧
    (∃ (s a : State) (t : Cyc), ∃ k, ∃ bad, ∃ j, ∃ r, ∃ i, ∃ j2, ∃ failed, ∃ last, ∃ w, ∃ x, ∃ y, ∃ z, ∃ cmd : Instr,
      cmd = .compressionBlockDone t ⟨k, bad⟩ ∧ a = s.at t ∧ a.lanesOn = true ∧ nth a.codec.clanes k [] = j :: r ∧
      a.destFull j = false ∧ a.otherRoom (min 131072 j.rest.length) = true ∧ i = blank 64 (bad.filter (· <
      2048)).contains j.rest ∧ CJob.step { j with suspended := false, rest := i } = (j2, failed, last) ∧ w =
      ((a.runHead k).setClane k (j2 :: r)).setCrc 14 j2.crc.1 j2.crc.2 ∧ x = State.otherMoved { w with
      codec := { w.codec with cIn := modAt w.codec.cIn k (· + (j.rest.length - j2.rest.length)) } } (j.rest.length -
      j2.rest.length) ∧ y = (if x.inSlice j then x.sliceTaken (j.rest.length - j2.rest.length) else x) ∧ z = (if
      failed then y.verifyFailed k j.blocks else y)) ∧
    (∃ (s a : State) (t : Cyc), ∃ k, ∃ cmd : Instr, cmd = .compressionPreempt t k ∧ a = s.at t ∧ a.lanesOn = false) ∧
    (∃ (s a : State) (t : Cyc), ∃ k, ∃ cmd : Instr, cmd = .compressionPreempt t k ∧ a = s.at t ∧ a.lanesOn = true ∧
      a.higherJob (nth a.codec.clanes k []) = none) ∧
    (∃ (s a : State) (t : Cyc), ∃ k, ∃ x, ∃ j, ∃ r, ∃ cmd : Instr, cmd = .compressionPreempt t k ∧ a = s.at t ∧
      a.lanesOn = true ∧ a.higherJob (nth a.codec.clanes k []) = some x ∧ nth (a.suspendHead k).codec.clanes k [] = j
      :: r ∧ j.suspended = false) ∧
    (∃ (s a : State) (t : Cyc), ∃ k, ∃ x, ∃ j, ∃ r, ∃ cmd : Instr, cmd = .compressionPreempt t k ∧ a = s.at t ∧
      a.lanesOn = true ∧ a.higherJob (nth a.codec.clanes k []) = some x ∧ nth (a.suspendHead k).codec.clanes k [] = j
      :: r ∧ j.suspended = true) ∧
    (∃ (s a : State) (t : Cyc), ∃ b, ∃ cmd : Instr, cmd = .libraryCompressionUnit t b ∧ a = s.at t ∧ (a.lanesOn = true
      ∧ b.length ≤ 131072 ∧ ¬ (a.wakeWaits = true ∧ a.bgYields 5 4 = true))) ∧
    (∃ (s a : State) (t : Cyc), ∃ b, ∃ cmd : Instr, cmd = .libraryCompressionUnit t b ∧ a = s.at t ∧ ¬ (a.lanesOn =
      true ∧ b.length ≤ 131072 ∧ ¬ (a.wakeWaits = true ∧ a.bgYields 5 4 = true))) ∧
    (∃ (s a : State) (t : Cyc), ∃ w, ∃ l, ∃ cmd : Instr, cmd = .wakeDrainUnit t ∧ a = s.at t ∧ w = a.wakeBoundary ∧ l
      = unitOf 4096 (w.wake.ring.drop w.wake.exported) ∧ w.lanesOn = true ∧ w.wake.exportMode = 2 ∧ w.wake.collector.1
      ≠ 0 ∧ l ≠ [] ∧ w.unitFree = true) ∧
    (∃ (s a : State) (t : Cyc), ∃ w, ∃ cmd : Instr, cmd = .wakeDrainUnit t ∧ a = s.at t ∧ w = a.wakeBoundary ∧ ¬
      (w.lanesOn = true ∧ w.wake.exportMode = 2 ∧ w.wake.collector.1 ≠ 0 ∧ unitOf 4096 (w.wake.ring.drop
      w.wake.exported) ≠ [] ∧ w.unitFree = true)) :=
  ⟨⟨State.reset, _, 0, 0, [], _, rfl, rfl, (by decide +kernel)⟩,
   ⟨State.reset, _, 0, 0, [], _, rfl, rfl, (by decide +kernel)⟩,
   ⟨{ on with
     codec := { on.codec with clanes := [[newJob (.wake 0 0 0 0 0) []], []] }, ingest := { txw := [(2065, [frame0])] }
     }, _, 0, 0, [], _, _, _, rfl, rfl, (by decide +kernel), rfl, (by decide +kernel)⟩,
   ⟨(paced (cjob [7])), _, 0, 0, [], _, _, _, rfl, rfl, (by decide +kernel), rfl, (by decide +kernel),
     (by decide +kernel)⟩,
   ⟨(cjob [7]), _, 0, 0, [], _, _, _, _, _, _, _, _, _, _, _, rfl, rfl, (by decide +kernel), rfl, (by decide +kernel),
     (by decide +kernel), rfl, rfl, rfl, rfl, rfl, rfl⟩,
   ⟨State.reset, _, 0, 0, _, rfl, rfl, (by decide +kernel)⟩,
   ⟨on, _, 0, 0, _, rfl, rfl, (by decide +kernel), (by decide +kernel)⟩,
   ⟨{ on with
     codec :=
     { clanes := [[newJob .library [7], newJob .trial [7]], []], cctx := [some (newJob .library [7]).context, none] }
     }, _, 0, 0, _, _, _, _, rfl, rfl, (by decide +kernel), rfl, rfl, (by decide +kernel)⟩,
   ⟨{ on with codec := { clanes := [[newJob .library [7], newJob .trial [7]], []] } }, _, 0, 0, _, _, _, _, rfl, rfl,
     (by decide +kernel), rfl, rfl, (by decide +kernel)⟩,
   ⟨on, _, 0, [], _, rfl, rfl, (by decide +kernel)⟩,
   ⟨State.reset, _, 0, [], _, rfl, rfl, (by decide +kernel)⟩,
   ⟨(put (put { on with wake := { ring := [{ type := 1, len := 0, seq := 0, ns := 0, payload := [] }] } } F.EXPORT_SEL
     2) F.COLLECTOR_IP 1), _, 0, _, _, _, rfl, rfl, rfl, rfl, (by decide +kernel), (by decide +kernel),
     (by decide +kernel), (by decide +kernel), (by decide +kernel)⟩,
   ⟨State.reset, _, 0, _, _, rfl, rfl, rfl, (by decide +kernel)⟩⟩

theorem witness_FieldEvents :
    (∃ (s a : State) (t : Cyc), ∃ cmd : Instr, cmd = .sceneCut t ∧ a = s.at t ∧ (a.serving = true ∧ a.ticksOn = true ∧
      a.harbour.lastCut ≠ some a.dueCut ∧ ¬ (a.scan.ticked = true ∧ a.dueCut ≤ a.scan.field) ∧ a.scan.notBefore ≤
      a.cutNs a.dueCut)) ∧
    (∃ (s a : State) (t : Cyc), ∃ cmd : Instr, cmd = .sceneCut t ∧ a = s.at t ∧ ¬ (a.serving = true ∧ a.ticksOn = true
      ∧ a.harbour.lastCut ≠ some a.dueCut ∧ ¬ (a.scan.ticked = true ∧ a.dueCut ≤ a.scan.field) ∧ a.scan.notBefore ≤
      a.cutNs a.dueCut)) ∧
    (∃ (s a : State) (t : Cyc), ∃ cmd : Instr, cmd = .planComplete t ∧ a = s.at t ∧ (a.serving = true ∧
      a.harbour.next.built = true)) ∧
    (∃ (s a : State) (t : Cyc), ∃ cmd : Instr, cmd = .planComplete t ∧ a = s.at t ∧ ¬ (a.serving = true ∧
      a.harbour.next.built = true)) ∧
    (∃ (s a : State) (t : Cyc), ∃ n, ∃ cmd : Instr, cmd = .fieldTick t ∧ a = s.at t ∧ a.tickDue = some n) ∧
    (∃ (s a : State) (t : Cyc), ∃ cmd : Instr, cmd = .fieldTick t ∧ a = s.at t ∧ a.tickDue = none) ∧
    (∃ (s a : State) (t : Cyc), ∃ cmd : Instr, cmd = .tideMark t ∧ a = s.at t ∧ (a.linesRun = true ∧ a.scan.lantern =
      false ∧ a.scan.changeT0 = none ∧ a.scan.tide ≠ some a.tideNow ∧ a.scan.notBefore < a.lineNs a.tideNow.1 (32 *
      a.tideNow.2))) ∧
    (∃ (s a : State) (t : Cyc), ∃ cmd : Instr, cmd = .tideMark t ∧ a = s.at t ∧ ¬ (a.linesRun = true ∧ a.scan.lantern
      = false ∧ a.scan.changeT0 = none ∧ a.scan.tide ≠ some a.tideNow ∧ a.scan.notBefore < a.lineNs a.tideNow.1 (32 *
      a.tideNow.2))) ∧
    (∃ (s a : State) (t : Cyc), ∃ cmd : Instr, cmd = .commitLatch t ∧ a = s.at t ∧ (a.serving = true ∧ a.ticksOn =
      true ∧ a.scan.latchField ≠ some a.latchNow ∧ a.scan.notBefore < a.lineNs (a.latchNow - 1) 2048)) ∧
    (∃ (s a : State) (t : Cyc), ∃ cmd : Instr, cmd = .commitLatch t ∧ a = s.at t ∧ ¬ (a.serving = true ∧ a.ticksOn =
      true ∧ a.scan.latchField ≠ some a.latchNow ∧ a.scan.notBefore < a.lineNs (a.latchNow - 1) 2048)) :=
  ⟨⟨on, _, 0, _, rfl, rfl, (by decide +kernel)⟩,
   ⟨State.reset, _, 0, _, rfl, rfl, (by decide +kernel)⟩,
   ⟨{ on with harbour := { on.harbour with next := { built := true } } }, _, 0, _, rfl, rfl, (by decide +kernel)⟩,
   ⟨State.reset, _, 0, _, rfl, rfl, (by decide +kernel)⟩,
   ⟨on, _, 0, 12, _, rfl, rfl, (by decide +kernel)⟩,
   ⟨State.reset, _, 0, _, rfl, rfl, (by decide +kernel)⟩,
   ⟨lit, _, 0, _, rfl, rfl, (by decide +kernel)⟩,
   ⟨State.reset, _, 0, _, rfl, rfl, (by decide +kernel)⟩,
   ⟨on, _, 0, _, rfl, rfl, (by decide +kernel)⟩,
   ⟨State.reset, _, 0, _, rfl, rfl, (by decide +kernel)⟩⟩

theorem witness_TheFieldComesToItsInstants :
    (∃ (s a : State) (t : Cyc), ∃ n, ∃ cmd : Instr, cmd = .sceneCut t ∧ a = s.at t ∧ a.serving = true ∧ a.ticksOn =
      true ∧ n = a.dueCut ∧ a.harbour.lastCut ≠ some n ∧ ¬ (a.scan.ticked = true ∧ n ≤ a.scan.field) ∧
      a.scan.notBefore ≤ a.cutNs n) ∧
    (∃ (s a : State) (t : Cyc), ∃ cmd : Instr, cmd = .planComplete t ∧ a = s.at t ∧ a.serving = true ∧
      a.harbour.next.built = true) ∧
    (∃ (s a : State) (t : Cyc), ∃ n, ∃ cmd : Instr, cmd = .fieldTick t ∧ a = s.at t ∧ a.tickDue = some n ∧ a.serving =
      false) ∧
    (∃ (s a : State) (t : Cyc), ∃ n, ∃ cmd : Instr, cmd = .fieldTick t ∧ a = s.at t ∧ a.tickDue = some n ∧ a.serving =
      true) ∧
    (∃ (s a : State) (t : Cyc), ∃ f, ∃ k, ∃ cmd : Instr, cmd = .tideMark t ∧ a = s.at t ∧ a.linesRun = true ∧
      a.scan.lantern = false ∧ a.scan.changeT0 = none ∧ a.tideNow = (f, k) ∧ a.scan.tide ≠ some (f, k) ∧
      a.scan.notBefore < a.lineNs f (32 * k)) ∧
    (∃ (s a : State) (t : Cyc), ∃ n, ∃ cmd : Instr, cmd = .commitLatch t ∧ a = s.at t ∧ a.serving = true ∧ a.ticksOn =
      true ∧ n = a.latchNow ∧ a.scan.latchField ≠ some n ∧ a.scan.notBefore < a.lineNs (n - 1) 2048) :=
  ⟨⟨on, _, 0, _, _, rfl, rfl, (by decide +kernel), (by decide +kernel), rfl, (by decide +kernel), (by decide +kernel),
     (by decide +kernel)⟩,
   ⟨{ on with harbour := { next := { built := true } } }, _, 0, _, rfl, rfl, (by decide +kernel), (by decide +kernel)⟩,
   ⟨{ on with start := { phase := .bridge } }, _, 0, 12, _, rfl, rfl, (by decide +kernel), (by decide +kernel)⟩,
   ⟨on, _, 0, 12, _, rfl, rfl, (by decide +kernel), (by decide +kernel)⟩,
   ⟨lit, _, 0, 11, 64, _, rfl, rfl, (by decide +kernel), (by decide +kernel), (by decide +kernel),
     (by decide +kernel), (by decide +kernel), (by decide +kernel)⟩,
   ⟨on, _, 0, _, _, rfl, rfl, (by decide +kernel), (by decide +kernel), rfl, (by decide +kernel), (by decide +kernel)⟩⟩

theorem witness_FirmwareHealthEvents :
    (∃ (s a : State) (t : Cyc), ∃ cmd : Instr, cmd = .imageReady t ∧ a = s.at t ∧ (a.serving = true ∧ a.nvm.phase =
      .migrating ∧ a.nvm.migrated = true)) ∧
    (∃ (s a : State) (t : Cyc), ∃ cmd : Instr, cmd = .imageReady t ∧ a = s.at t ∧ ¬ (a.serving = true ∧ a.nvm.phase =
      .migrating ∧ a.nvm.migrated = true)) ∧
    (∃ (s a : State) (t : Cyc), ∃ d, ∃ cmd : Instr, cmd = .healthConfirm t ∧ a = s.at t ∧ a.nvm.deadline = some d ∧
      a.serving = true ∧ a.inTrial = true ∧ a.nvm.interpreting = true ∧ a.time.cyc < d ∧ a.clearing = false ∧
      a.nvm.migrated = true ∧ a.nvm.trialSince + msCyc 10000 ≤ a.time.cyc ∧ (a.nvm.confirmByHost = true →
      a.nvm.hostConfirmed = true) ∧ a.confirming = false) ∧
    (∃ (s a : State) (t : Cyc), ∃ d, ∃ cmd : Instr, cmd = .healthConfirm t ∧ a = s.at t ∧ a.nvm.deadline = some d ∧ ¬
      (a.serving = true ∧ a.inTrial = true ∧ a.nvm.interpreting = true ∧ a.time.cyc < d ∧ a.clearing = false ∧
      a.nvm.migrated = true ∧ a.nvm.trialSince + msCyc 10000 ≤ a.time.cyc ∧ (a.nvm.confirmByHost = true →
      a.nvm.hostConfirmed = true) ∧ a.confirming = false)) ∧
    (∃ (s a : State) (t : Cyc), ∃ cmd : Instr, cmd = .healthConfirm t ∧ a = s.at t ∧ a.nvm.deadline = none) ∧
    (∃ (s a : State) (t : Cyc), ∃ cmd : Instr, cmd = .healthDeadline t ∧ a = s.at t ∧ a.nvm.deadline = none) ∧
    (∃ (s a : State) (t : Cyc), ∃ d, ∃ cmd : Instr, cmd = .healthDeadline t ∧ a = s.at t ∧ a.nvm.deadline = some d ∧
      (a.serving = false ∨ a.inTrial = false ∨ a.time.cyc < d ∨ a.nvm.queue.any (fun x => x.purpose ==
      WriteFor.confirm && x.begun) = true)) ∧
    (∃ (s a : State) (t : Cyc), ∃ d, ∃ cmd : Instr, cmd = .healthDeadline t ∧ a = s.at t ∧ a.nvm.deadline = some d ∧
      a.serving = true ∧ a.inTrial = true ∧ d ≤ a.time.cyc ∧ a.nvm.queue.any (fun x => x.purpose == WriteFor.confirm
      && x.begun) = false ∧ a.nvm.liveTrial = true) ∧
    (∃ (s a : State) (t : Cyc), ∃ d, ∃ cmd : Instr, cmd = .healthDeadline t ∧ a = s.at t ∧ a.nvm.deadline = some d ∧
      a.serving = true ∧ a.inTrial = true ∧ d ≤ a.time.cyc ∧ a.nvm.queue.any (fun x => x.purpose == WriteFor.confirm
      && x.begun) = false ∧ a.nvm.liveTrial = false) ∧
    (∃ (s a : State) (t : Cyc), ∃ cmd : Instr, cmd = .pilotWatchdogExpiry t ∧ a = s.at t ∧ (a.serving = false ∨
      a.nvm.interpreting = false)) ∧
    (∃ (s a : State) (t : Cyc), ∃ cmd : Instr, cmd = .pilotWatchdogExpiry t ∧ a = s.at t ∧ a.serving = true ∧
      a.nvm.interpreting = true ∧ (a.inTrial = true ∨ a.nvm.phase = .handback) ∧ a.nvm.liveTrial = true) ∧
    (∃ (s a : State) (t : Cyc), ∃ cmd : Instr, cmd = .pilotWatchdogExpiry t ∧ a = s.at t ∧ a.serving = true ∧
      a.nvm.interpreting = true ∧ (a.inTrial = true ∨ a.nvm.phase = .handback) ∧ a.nvm.liveTrial = false) ∧
    (∃ (s a : State) (t : Cyc), ∃ cmd : Instr, cmd = .pilotWatchdogExpiry t ∧ a = s.at t ∧ a.serving = true ∧
      a.nvm.interpreting = true ∧ a.inTrial = false ∧ a.nvm.phase = .none) ∧
    (∃ (s a : State) (t : Cyc), ∃ u, ∃ cmd : Instr, cmd = .pilotWatchdogExpiry t ∧ a = s.at t ∧ a.serving = true ∧
      a.nvm.interpreting = true ∧ a.inTrial = false ∧ a.nvm.phase ≠ .handback ∧ a.nvm.phase ≠ .none ∧ u =
      (a.pilotStops.slotsBack .valid).endActivation) ∧
    (∃ (s a : State) (t : Cyc), ∃ cmd : Instr, cmd = .pilotTakeover t ∧ a = s.at t ∧ (a.serving = true ∧
      a.nvm.takeover = true)) ∧
    (∃ (s a : State) (t : Cyc), ∃ cmd : Instr, cmd = .pilotTakeover t ∧ a = s.at t ∧ ¬ (a.serving = true ∧
      a.nvm.takeover = true)) :=
  ⟨⟨{ on with nvm := { on.nvm with phase := .migrating } }, _, 0, _, rfl, rfl, (by decide +kernel)⟩,
   ⟨State.reset, _, 0, _, rfl, rfl, (by decide +kernel)⟩,
   ⟨{ on with
     nvm := { on.nvm with phase := .trial, deadline := some 2000000000000, liveTrial := true } }, _, 0, _, _, rfl,
     rfl, rfl, (by decide +kernel), (by decide +kernel), (by decide +kernel), (by decide +kernel),
     (by decide +kernel), (by decide +kernel), (by decide +kernel), (by decide +kernel), (by decide +kernel)⟩,
   ⟨{ State.reset with nvm := { State.reset.nvm with deadline := some 5 } }, _, 0, _, _, rfl, rfl, rfl,
     (by decide +kernel)⟩,
   ⟨State.reset, _, 0, _, rfl, rfl, (by decide +kernel)⟩,
   ⟨State.reset, _, 0, _, rfl, rfl, (by decide +kernel)⟩,
   ⟨{ State.reset with nvm := { State.reset.nvm with deadline := some 5 } }, _, 0, _, _, rfl, rfl, rfl,
     (by decide +kernel)⟩,
   ⟨{ on with nvm := { on.nvm with phase := .trial, deadline := some 5, liveTrial := true } }, _, 0, _, _, rfl, rfl,
     rfl, (by decide +kernel), (by decide +kernel), (by decide +kernel), (by decide +kernel), (by decide +kernel)⟩,
   ⟨{ on with nvm := { on.nvm with phase := .trial, deadline := some 5, liveTrial := false } }, _, 0, _, _, rfl, rfl,
     rfl, (by decide +kernel), (by decide +kernel), (by decide +kernel), (by decide +kernel), (by decide +kernel)⟩,
   ⟨State.reset, _, 0, _, rfl, rfl, (by decide +kernel)⟩,
   ⟨{ on with nvm := { on.nvm with phase := .trial, deadline := some 5, liveTrial := true } }, _, 0, _, rfl, rfl,
     (by decide +kernel), (by decide +kernel), (by decide +kernel), (by decide +kernel)⟩,
   ⟨{ on with nvm := { on.nvm with phase := .trial, deadline := some 5, liveTrial := false } }, _, 0, _, rfl, rfl,
     (by decide +kernel), (by decide +kernel), (by decide +kernel), (by decide +kernel)⟩,
   ⟨on, _, 0, _, rfl, rfl, (by decide +kernel), (by decide +kernel), (by decide +kernel), (by decide +kernel)⟩,
   ⟨{ on with nvm := { on.nvm with phase := .booting } }, _, 0, _, _, rfl, rfl, (by decide +kernel),
     (by decide +kernel), (by decide +kernel), (by decide +kernel), (by decide +kernel), rfl⟩,
   ⟨{ on with nvm := { on.nvm with takeover := true } }, _, 0, _, rfl, rfl, (by decide +kernel)⟩,
   ⟨State.reset, _, 0, _, rfl, rfl, (by decide +kernel)⟩⟩

theorem witness_VerificationAndScanEnd :
    (∃ (s a : State) (t : Cyc), ∃ cmd : Instr, cmd = .imageVerifyDone t ∧ a = s.at t ∧ a.nvm.verify = none) ∧
    (∃ (s a : State) (t : Cyc), ∃ o, ∃ g, ∃ k, ∃ u, ∃ cmd : Instr, cmd = .imageVerifyDone t ∧ a = s.at t ∧
      a.nvm.verify = some (o, g) ∧ k = a.otherSlot ∧ (a.slot k).state ≠ .trial ∧ (a.slot k).state ≠ .fallback ∧ u =
      State.setSlot { a with nvm := { a.nvm with verify := none } } k (if a.checkSlot k = SlotCheck.ok then .valid
      else .invalid)) ∧
    (∃ (s a : State) (t : Cyc), ∃ o, ∃ g, ∃ k, ∃ u, ∃ cmd : Instr, cmd = .imageVerifyDone t ∧ a = s.at t ∧
      a.nvm.verify = some (o, g) ∧ k = a.otherSlot ∧ ((a.slot k).state = .trial ∨ (a.slot k).state = .fallback) ∧ u =
      { a with nvm := { a.nvm with verify := none } }) ∧
    (∃ (s a : State) (t : Cyc), ∃ cmd : Instr, cmd = .mramScanDone t ∧ a = s.at t ∧ a.nvm.scan = none) ∧
    (∃ (s a : State) (t : Cyc), ∃ o, ∃ g, ∃ bad, ∃ cmd : Instr, cmd = .mramScanDone t ∧ a = s.at t ∧ a.nvm.scan = some
      (o, g) ∧ bad = (a.checkSlot a.nvm.runSlot != SlotCheck.ok)) :=
  ⟨⟨State.reset, _, 0, _, rfl, rfl, (by decide +kernel)⟩,
   ⟨{ State.reset with nvm := { State.reset.nvm with verify := some (0, 0) } }, _, 0, _, _, _, _, _, rfl, rfl, rfl,
     rfl, (by decide +kernel), (by decide +kernel), rfl⟩,
   ⟨{ State.reset with nvm := { verify := some (0, 0) }, mram := { slotB := { state := .trial } } }, _, 0, _, _, _, _,
     _, rfl, rfl, rfl, rfl, (by decide +kernel), rfl⟩,
   ⟨State.reset, _, 0, _, rfl, rfl, (by decide +kernel)⟩,
   ⟨{ State.reset with nvm := { State.reset.nvm with scan := some (0, 0) } }, _, 0, _, _, _, _, rfl, rfl, rfl, rfl⟩⟩

theorem witness_LineEvents :
    (∃ (s a : State) (t : Cyc), ∃ cmd : Instr, cmd = .lineStart t ∧ a = s.at t ∧ (a.linesRun = true ∧ a.scan.line ≠
      some a.lineNow ∧ a.scan.notBefore < a.lineNs a.lineNow.1 a.lineNow.2)) ∧
    (∃ (s a : State) (t : Cyc), ∃ cmd : Instr, cmd = .lineStart t ∧ a = s.at t ∧ ¬ (a.linesRun = true ∧ a.scan.line ≠
      some a.lineNow ∧ a.scan.notBefore < a.lineNs a.lineNow.1 a.lineNow.2)) ∧
    (∃ (s a : State) (t : Cyc), ∃ cmd : Instr, cmd = .overlayPrefetchStart t ∧ a = s.at t ∧ (a.linesRun = true ∧
      a.scan.lantern = false ∧ 2064 ≤ a.lineNow.2)) ∧
    (∃ (s a : State) (t : Cyc), ∃ cmd : Instr, cmd = .overlayPrefetchStart t ∧ a = s.at t ∧ ¬ (a.linesRun = true ∧
      a.scan.lantern = false ∧ 2064 ≤ a.lineNow.2)) ∧
    (∃ (s a : State) (t : Cyc), ∃ k, ∃ pl, ∃ row, ∃ bad, ∃ cmd : Instr, cmd = .overlayFetchReturn t k pl ⟨row, bad⟩ ∧
      a = s.at t ∧ ¬ (a.linesRun = true ∧ a.scan.lantern = false ∧ pl < 2 ∧ (a.surf (nth a.scan.planes pl
      {}).surface).isSome = true)) ∧
    (∃ (s a : State) (t : Cyc), ∃ k, ∃ pl, ∃ row, ∃ bad, ∃ u, ∃ cmd : Instr, cmd = .overlayFetchReturn t k pl ⟨row,
      bad⟩ ∧ a = s.at t ∧ a.linesRun = true ∧ a.scan.lantern = false ∧ pl < 2 ∧ (a.surf (nth a.scan.planes pl
      {}).surface).isSome = true ∧ u = (a.starved k pl).modSector k (fun x => { x with
      fifoRows := modAt x.fifoRows pl (fun r => max r (row + 1)), ovBad := modAt x.ovBad pl (· ++ bad) })) ∧
    (∃ (s a : State) (t : Cyc), ∃ k, ∃ pl, ∃ cmd : Instr, cmd = .overlayUnderrun t k pl ∧ a = s.at t ∧ a.starves k pl
      = false) ∧
    (∃ (s a : State) (t : Cyc), ∃ k, ∃ pl, ∃ cmd : Instr, cmd = .overlayUnderrun t k pl ∧ a = s.at t ∧ a.starves k pl
      = true) ∧
    (∃ (s a : State) (t : Cyc), ∃ z, ∃ cmd : Instr, cmd = .backlightZoneRise t z ∧ a = s.at t ∧ a.scan.sched.find?
      (fun e => e.1 == z) = none) ∧
    (∃ (s a : State) (t : Cyc), ∃ z, ∃ y, ∃ n, ∃ r, ∃ f, ∃ c, ∃ cmd : Instr, cmd = .backlightZoneRise t z ∧ a = s.at t
      ∧ a.scan.sched.find? (fun e => e.1 == z) = some (y, n, r, f, c) ∧ ¬ (r ≤ a.ns ∧ a.ticksOn = true)) ∧
    (∃ (s a : State) (t : Cyc), ∃ z, ∃ y, ∃ n, ∃ r, ∃ f, ∃ c, ∃ cmd : Instr, cmd = .backlightZoneRise t z ∧ a = s.at t
      ∧ a.scan.sched.find? (fun e => e.1 == z) = some (y, n, r, f, c) ∧ r ≤ a.ns ∧ a.ticksOn = true) ∧
    (∃ (s a : State) (t : Cyc), ∃ z, ∃ cmd : Instr, cmd = .backlightZoneFall t z ∧ a = s.at t ∧ a.scan.zoneFall.find?
      (fun e => e.1 == z) = none) ∧
    (∃ (s a : State) (t : Cyc), ∃ z, ∃ y, ∃ f, ∃ cmd : Instr, cmd = .backlightZoneFall t z ∧ a = s.at t ∧
      a.scan.zoneFall.find? (fun e => e.1 == z) = some (y, f) ∧ a.ns < f) ∧
    (∃ (s a : State) (t : Cyc), ∃ z, ∃ y, ∃ f, ∃ cmd : Instr, cmd = .backlightZoneFall t z ∧ a = s.at t ∧
      a.scan.zoneFall.find? (fun e => e.1 == z) = some (y, f) ∧ f ≤ a.ns) :=
  ⟨⟨lit, _, 0, _, rfl, rfl, (by decide +kernel)⟩,
   ⟨State.reset, _, 0, _, rfl, rfl, (by decide +kernel)⟩,
   ⟨lit, _, 0, _, rfl, rfl, (by decide +kernel)⟩,
   ⟨State.reset, _, 0, _, rfl, rfl, (by decide +kernel)⟩,
   ⟨State.reset, _, 0, 0, 0, 0, [], _, rfl, rfl, (by decide +kernel)⟩,
   ⟨{ lit with
     scan := { lit.scan with planes := [{ surface := 3 }, {}] }, skim := { surfaces := [(3, surf0)] } }, _, 0, 0, 0,
     0, [], _, _, rfl, rfl, (by decide +kernel), (by decide +kernel), (by decide +kernel), (by decide +kernel), rfl⟩,
   ⟨State.reset, _, 0, 0, 0, _, rfl, rfl, (by decide +kernel)⟩,
   ⟨starving, _, 0, 0, 0, _, rfl, rfl, (by decide +kernel)⟩,
   ⟨State.reset, _, 0, 0, _, rfl, rfl, (by decide +kernel)⟩,
   ⟨{ State.reset with scan := { State.reset.scan with sched := [(0, 0, 0, 0, 0)] } }, _, 0, 0, _, _, _, _, _, _, rfl,
     rfl, rfl, (by decide +kernel)⟩,
   ⟨{ on with scan := { on.scan with sched := [(0, 0, 0, 0, 0)] } }, _, 0, 0, _, _, _, _, _, _, rfl, rfl, rfl,
     (by decide +kernel), (by decide +kernel)⟩,
   ⟨State.reset, _, 0, 0, _, rfl, rfl, (by decide +kernel)⟩,
   ⟨{ State.reset with scan := { State.reset.scan with zoneFall := [(0, 5)] } }, _, 0, 0, _, _, _, rfl, rfl, rfl,
     (by decide +kernel)⟩,
   ⟨{ State.reset with scan := { State.reset.scan with zoneFall := [(0, 0)] } }, _, 0, 0, _, _, _, rfl, rfl, rfl,
     (by decide +kernel)⟩⟩

theorem witness_TearingEffectAndWindows :
    (∃ (s a : State) (t : Cyc), ∃ k, ∃ cmd : Instr, cmd = .teEdge t k ∧ a = s.at t ∧ (a.serving = false ∨ 16 ≤ k)) ∧
    (∃ (s a : State) (t : Cyc), ∃ k, ∃ u, ∃ cmd : Instr, cmd = .teEdge t k ∧ a = s.at t ∧ a.serving = true ∧ k < 16 ∧
      u = (if fifoRoom (nth a.time.te k []) then
      { a with time := { a.time with te := modAt a.time.te k (fun l => l ++ [a.capture false]) } } else
      State.captureLost { a with time := { a.time with teLost := modAt a.time.teLost k (· + 1) } }) ∧ (u.ticksOn =
      false ∨ u.teFieldNow = none)) ∧
    (∃ (s a : State) (t : Cyc), ∃ k, ∃ u, ∃ n, ∃ cmd : Instr, cmd = .teEdge t k ∧ a = s.at t ∧ a.serving = true ∧ k <
      16 ∧ u = (if fifoRoom (nth a.time.te k []) then
      { a with time := { a.time with te := modAt a.time.te k (fun l => l ++ [a.capture false]) } } else
      State.captureLost { a with time := { a.time with teLost := modAt a.time.teLost k (· + 1) } }) ∧ u.ticksOn = true
      ∧ u.teFieldNow = some n ∧ (u.sector k).teField = some n) ∧
    (∃ (s a : State) (t : Cyc), ∃ k, ∃ u, ∃ n, ∃ cmd : Instr, cmd = .teEdge t k ∧ a = s.at t ∧ a.serving = true ∧ k <
      16 ∧ u = (if fifoRoom (nth a.time.te k []) then
      { a with time := { a.time with te := modAt a.time.te k (fun l => l ++ [a.capture false]) } } else
      State.captureLost { a with time := { a.time with teLost := modAt a.time.teLost k (· + 1) } }) ∧ u.ticksOn = true
      ∧ u.teFieldNow = some n ∧ (u.sector k).teField ≠ some n) ∧
    (∃ (s a : State) (t : Cyc), ∃ k, ∃ cmd : Instr, cmd = .teWindowEnd t k ∧ a = s.at t ∧ [a.lineNow.1, a.lineNow.1 -
      1].find? (fun f => decide (a.teExpected f + fdiv a.fieldPeriod 2 ≤ a.ns)) = none) ∧
    (∃ (s a : State) (t : Cyc), ∃ k, ∃ f, ∃ cmd : Instr, cmd = .teWindowEnd t k ∧ a = s.at t ∧ [a.lineNow.1,
      a.lineNow.1 - 1].find? (fun f => decide (a.teExpected f + fdiv a.fieldPeriod 2 ≤ a.ns)) = some f ∧ (a.serving =
      false ∨ a.ticksOn = false ∨ 16 ≤ k ∨ (a.sector k).teJudged = some f)) ∧
    (∃ (s a : State) (t : Cyc), ∃ k, ∃ f, ∃ u, ∃ cmd : Instr, cmd = .teWindowEnd t k ∧ a = s.at t ∧ [a.lineNow.1,
      a.lineNow.1 - 1].find? (fun f => decide (a.teExpected f + fdiv a.fieldPeriod 2 ≤ a.ns)) = some f ∧ a.serving =
      true ∧ a.ticksOn = true ∧ k < 16 ∧ (a.sector k).teJudged ≠ some f ∧ u = State.modSector
      { a with time := { a.time with te := modAt a.time.te k (fun _ => []) } } k (fun x =>
      { x with teJudged := some f })) ∧
    (∃ (s a : State) (t : Cyc), ∃ k, ∃ n, ∃ cmd : Instr, cmd = .blankingWindow t k ∧ a = s.at t ∧ a.windowField k =
      some n) ∧
    (∃ (s a : State) (t : Cyc), ∃ k, ∃ cmd : Instr, cmd = .blankingWindow t k ∧ a = s.at t ∧ a.windowField k = none) :=
  ⟨⟨State.reset, _, 0, 0, _, rfl, rfl, (by decide +kernel)⟩,
   ⟨{ on with time := { on.time with state := .recovery } }, _, 0, 0, _, _, rfl, rfl, (by decide +kernel),
     (by decide +kernel), rfl, (by decide +kernel)⟩,
   ⟨{ lit with scan := { lit.scan with sectors := [{ teField := some 12 }] } }, _, 0, 0, _, 12, _, rfl, rfl,
     (by decide +kernel), (by decide +kernel), rfl, (by decide +kernel), (by decide +kernel), (by decide +kernel)⟩,
   ⟨lit, _, 0, 0, _, 12, _, rfl, rfl, (by decide +kernel), (by decide +kernel), rfl, (by decide +kernel),
     (by decide +kernel), (by decide +kernel)⟩,
   ⟨State.reset, _, 0, 0, _, rfl, rfl, (by decide +kernel)⟩,
   ⟨{ lit with scan := { lit.scan with sectors := [{ teJudged := some 11 }] } }, _, 0, 0, 11, _, rfl, rfl,
     (by decide +kernel), (by decide +kernel)⟩,
   ⟨lit, _, 0, 0, 11, _, _, rfl, rfl, (by decide +kernel), (by decide +kernel), (by decide +kernel),
     (by decide +kernel), (by decide +kernel), rfl⟩,
   ⟨{ lit with ports := [{ state := 3 }] }, _, 0, 0, 11, _, rfl, rfl, (by decide +kernel)⟩,
   ⟨State.reset, _, 0, 0, _, rfl, rfl, (by decide +kernel)⟩⟩

theorem witness_TrowelEvents :
    (∃ (s a : State) (t : Cyc), ∃ g, ∃ cmd : Instr, cmd = .tileStart t g ∧ a = s.at t ∧ (a.gang g).queue = []) ∧
    (∃ (s a : State) (t : Cyc), ∃ g, ∃ f, ∃ pos, ∃ rest, ∃ cmd : Instr, cmd = .tileStart t g ∧ a = s.at t ∧ (a.gang
      g).queue = (f, pos) :: rest ∧ (a.planOf f).tiles[pos]? = none) ∧
    (∃ (s a : State) (t : Cyc), ∃ g, ∃ f, ∃ pos, ∃ rest, ∃ tp, ∃ cmd : Instr, cmd = .tileStart t g ∧ a = s.at t ∧
      (a.gang g).queue = (f, pos) :: rest ∧ (a.planOf f).tiles[pos]? = some tp ∧ (a.trowelsOn = false ∨ 2 ≤ (a.gang
      g).running.length ∨ (a.gang g).running.all (fun r => r.1 == f) = false ∨ a.slotFree f tp.row = false)) ∧
    (∃ (s a : State) (t : Cyc), ∃ g, ∃ f, ∃ pos, ∃ rest, ∃ tp, ∃ u, ∃ cmd : Instr, cmd = .tileStart t g ∧ a = s.at t ∧
      (a.gang g).queue = (f, pos) :: rest ∧ (a.planOf f).tiles[pos]? = some tp ∧ a.trowelsOn = true ∧ (a.gang
      g).running.length < 2 ∧ (a.gang g).running.all (fun r => r.1 == f) = true ∧ a.slotFree f tp.row = true ∧ u =
      a.modGang g (fun q => { q with queue := rest, running := q.running ++ [(f, pos, a.time.cyc)] })) ∧
    (∃ (s a : State) (t : Cyc), ∃ g, ∃ bad, ∃ cmd : Instr, cmd = .tileFinish t ⟨g, bad⟩ ∧ a = s.at t ∧ ((a.gang
      g).running = [] ∨ a.trowelsOn = false)) ∧
    (∃ (s a : State) (t : Cyc), ∃ g, ∃ bad, ∃ f, ∃ pos, ∃ st, ∃ rest, ∃ cmd : Instr, cmd = .tileFinish t ⟨g, bad⟩ ∧ a
      = s.at t ∧ (a.gang g).running = (f, pos, st) :: rest ∧ (a.planOf f).tiles[pos]? = none) ∧
    (∃ (s a : State) (t : Cyc), ∃ g, ∃ bad, ∃ f, ∃ pos, ∃ st, ∃ rest, ∃ tp, ∃ cmd : Instr, cmd = .tileFinish t ⟨g,
      bad⟩ ∧ a = s.at t ∧ (a.gang g).running = (f, pos, st) :: rest ∧ (a.planOf f).tiles[pos]? = some tp ∧
      (tp.handling ≠ .replayed ∨ a.copyOf tp.sector tp.row tp.col = none) ∧ a.linesCome g f st (a.planOf f) tp =
      false) ∧
    (∃ (s a : State) (t : Cyc), ∃ g, ∃ bad, ∃ f, ∃ pos, ∃ st, ∃ rest, ∃ tp, ∃ u, ∃ c, ∃ cmd : Instr, cmd = .tileFinish
      t ⟨g, bad⟩ ∧ a = s.at t ∧ a.trowelsOn = true ∧ (a.gang g).running = (f, pos, st) :: rest ∧ (a.planOf
      f).tiles[pos]? = some tp ∧ tp.handling = .replayed ∧ a.copyOf tp.sector tp.row tp.col = some c ∧ u = a.modGang g
      (fun q => { q with
      running := rest, lastEnd := a.time.cyc, done := if a.harbour.cur.field = f then q.done ++ [pos] else q.done })) ∧
    (∃ (s a : State) (t : Cyc), ∃ g, ∃ bad, ∃ f, ∃ pos, ∃ st, ∃ rest, ∃ tp, ∃ u, ∃ r, ∃ v, ∃ cmd : Instr, cmd =
      .tileFinish t ⟨g, bad⟩ ∧ a = s.at t ∧ a.trowelsOn = true ∧ (a.gang g).running = (f, pos, st) :: rest ∧ (a.planOf
      f).tiles[pos]? = some tp ∧ (tp.handling ≠ .replayed ∨ a.copyOf tp.sector tp.row tp.col = none) ∧ a.linesCome g f
      st (a.planOf f) tp = true ∧ u = a.modGang g (fun q => { q with
      running := rest, lastEnd := a.time.cyc, done := if a.harbour.cur.field = f then q.done ++ [pos] else q.done }) ∧
      r = ((a.planOf f).job tp ((a.gang g).badLines f)).render ∧ v = (((u.putRing f tp.sector tp.row tp.col
      r.1).countTile f g (r.2.add { clocks := 3 * (a.time.cyc - max st (a.gang g).lastEnd) })).measure (a.planOf f) tp
      r.2.samples)) ∧
    (∃ (s a : State) (t : Cyc), ∃ g, ∃ m, ∃ k, ∃ rel, ∃ col, ∃ row, ∃ line, ∃ bad, ∃ tile, ∃ listed, ∃ (wanted :
      Option Nat), ∃ p, ∃ ch, ∃ cmd : Instr, cmd = .cacheLineFill t g m k rel col row line bad ∧ a = s.at t ∧ tile =
      ((m, k, rel, col, row) : CTile) ∧ listed = a.listedIn g tile line ∧ wanted = (if listed then none else
      a.wantedIn g tile line) ∧ p = a.planOf (wanted.getD a.harbour.cur.field) ∧ ch = a.chan (p.ctileChan tile) ∧
      (a.trowelsOn = false ∨ (rcoatOf p.scenes m k).isNone = true ∨ (listed = false ∧ wanted = none) ∨ ch.sweep.isSome
      = true)) ∧
    (∃ (s a : State) (t : Cyc), ∃ g, ∃ m, ∃ k, ∃ rel, ∃ col, ∃ row, ∃ line, ∃ bad, ∃ tile, ∃ listed, ∃ (wanted :
      Option Nat), ∃ p, ∃ ch, ∃ q, ∃ cmd : Instr, cmd = .cacheLineFill t g m k rel col row line bad ∧ a = s.at t ∧
      tile = ((m, k, rel, col, row) : CTile) ∧ listed = a.listedIn g tile line ∧ wanted = (if listed then none else
      a.wantedIn g tile line) ∧ p = a.planOf (wanted.getD a.harbour.cur.field) ∧ ch = a.chan (p.ctileChan tile) ∧
      a.trowelsOn = true ∧ (rcoatOf p.scenes m k).isNone = false ∧ (listed = true ∨ wanted.isSome = true) ∧
      ch.sweep.isSome = false ∧ q = ((a.gang g).take a.time.cyc (wanted.getD a.harbour.cur.field) (a.gangFuture g)
      (p.tag tile line) (bad || ch.fails)).settleList a.harbour.cur.field a.harbour.cur.lineGen) :=
  ⟨⟨State.reset, _, 0, 0, _, rfl, rfl, (by decide +kernel)⟩,
   ⟨{ State.reset with
     synth := { gangs := [{ queue := [(0, 0)] }] }, harbour := { cur := { tiles := [] } } }, _, 0, 0, _, _, _, _, rfl,
     rfl, rfl, (by decide +kernel)⟩,
   ⟨{ State.reset with
     synth := { gangs := [{ queue := [(0, 0)] }] }, harbour := { cur := { tiles := [tile0] } } }, _, 0, 0, _, _, _, _,
     _, rfl, rfl, rfl, rfl, (by decide +kernel)⟩,
   ⟨{ on with
     synth := { gangs := [{ queue := [(0, 0)] }] }, harbour := { cur := { tiles := [tile0] } } }, _, 0, 0, _, _, _, _,
     _, _, rfl, rfl, rfl, rfl, (by decide +kernel), (by decide +kernel), (by decide +kernel), (by decide +kernel),
     rfl⟩,
   ⟨State.reset, _, 0, 0, [], _, rfl, rfl, (by decide +kernel)⟩,
   ⟨{ State.reset with
     synth := { gangs := [{ running := [(0, 0, 0)] }] }, harbour := { cur := { tiles := [] } } }, _, 0, 0, [], _, _,
     _, _, _, rfl, rfl, rfl, (by decide +kernel)⟩,
   ⟨unread, _, 0, 0, [], _, _, _, _, _, _, rfl, rfl, rfl, rfl, (by decide +kernel), (by decide +kernel)⟩,
   ⟨{ on with
     synth := { gangs := [{ running := [(0, 0, 0)] }], replay := [((0, 0, 0), copy0)] }, harbour :=
     { cur := { tiles := [{ tile0 with handling := .replayed }] } } }, _, 0, 0, [], _, _, _, _, _, _, _, _, rfl, rfl,
     (by decide +kernel), rfl, rfl, (by decide +kernel), rfl, rfl⟩,
   ⟨{ on with
     synth := { gangs := [{ running := [(0, 0, 0)] }] }, harbour := { cur := { tiles := [tile0] } } }, _, 0, 0, [], _,
     _, _, _, _, _, _, _, _, rfl, rfl, (by decide +kernel), rfl, rfl, (by decide +kernel), (by decide +kernel), rfl,
     rfl, rfl⟩,
   ⟨State.reset, _, 0, 0, 0, 0, false, 0, 0, 0, false, _, _, _, _, _, _, rfl, rfl, rfl, rfl, rfl, rfl, rfl,
     (by decide +kernel)⟩,
   ⟨filling, _, 0, 0, 0, 0, false, 0, 0, 0, false, _, _, _, _, _, _, _, rfl, rfl, rfl, rfl, rfl, rfl, rfl,
     (by decide +kernel), (by decide +kernel), (by decide +kernel), (by decide +kernel), rfl⟩⟩

theorem witness_SkimAndCorrectionEvents :
    (∃ (s a : State) (t : Cyc), ∃ cmd : Instr, cmd = .skimPieceStart t ∧ a = s.at t ∧ (a.skimOn = false ∨
      a.skim.running = true ∨ a.skim.queue = [])) ∧
    (∃ (s a : State) (t : Cyc), ∃ i, ∃ k, ∃ f, ∃ c, ∃ o, ∃ g, ∃ rest, ∃ cmd : Instr, cmd = .skimPieceStart t ∧ a =
      s.at t ∧ a.skimOn = true ∧ a.skim.running = false ∧ a.skim.queue = .list i k f c o g :: rest) ∧
    (∃ (s a : State) (t : Cyc), ∃ i, ∃ o, ∃ g, ∃ rest, ∃ cmd : Instr, cmd = .skimPieceStart t ∧ a = s.at t ∧ a.skimOn
      = true ∧ a.skim.running = false ∧ a.skim.queue = .clear i o g :: rest) ∧
    (∃ (s a : State) (t : Cyc), ∃ bad, ∃ cmd : Instr, cmd = .skimEntryDone t bad ∧ a = s.at t ∧ (a.skim.queue = [] ∨
      (a.skimOn = false ∧ (a.serving = false ∨ a.skim.stopping = false)) ∨ a.skim.running = false)) ∧
    (∃ (s a : State) (t : Cyc), ∃ bad, ∃ i, ∃ k, ∃ f, ∃ c, ∃ o, ∃ g, ∃ rest, ∃ cmd : Instr, cmd = .skimEntryDone t bad
      ∧ a = s.at t ∧ a.skim.queue = .list i k f c o g :: rest ∧ ((a.entry i a.skim.index).op = 5 ∨ a.surf (a.entry i
      a.skim.index).dst = none ∨ a.skimPaced (a.entryBytes (a.entry i a.skim.index)) = false)) ∧
    (∃ (s a : State) (t : Cyc), ∃ bad, ∃ i, ∃ o, ∃ g, ∃ rest, ∃ cmd : Instr, cmd = .skimEntryDone t bad ∧ a = s.at t ∧
      a.skim.queue = .clear i o g :: rest) ∧
    (∃ (s a : State) (t : Cyc), ∃ bad, ∃ i, ∃ k, ∃ f, ∃ c, ∃ o, ∃ g, ∃ rest, ∃ e, ∃ d, ∃ bs, ∃ u, ∃ v, ∃ cmd : Instr,
      cmd = .skimEntryDone t bad ∧ a = s.at t ∧ a.skim.queue = .list i k f c o g :: rest ∧ (a.skimOn = true ∨
      (a.serving = true ∧ a.skim.stopping = true)) ∧ a.skim.running = true ∧ e = a.entry i a.skim.index ∧ e.op ≠ 5 ∧
      a.surf e.dst = some d ∧ a.skimPaced (a.entryBytes e) = true ∧ bs = bad.filter (fun x => (a.entryUnits
      e).1.contains x) ∧ u = ((a.setSurf e.dst (a.surfLanded (a.drawn e bs (d.keep a.skim.began (some (a.ns : Int))
      none (e.unitOrder d))))).skimCount ((a.entryUnits e).1.length + (a.entryUnits e).2)).tally T.SKIM_ENTRIES ∧ v =
      (if bs = [] then u else State.tallyBy { u with skim := { u.skim with eccSeen := true } } T.SKIM_ECC_LINE
      bs.length)) ∧
    (∃ (s a : State) (t : Cyc), ∃ cmd : Instr, cmd = .bollardComplete t ∧ a = s.at t ∧ (a.skim.queue = [] ∨ a.skimOn =
      false ∨ a.skim.running = false)) ∧
    (∃ (s a : State) (t : Cyc), ∃ i, ∃ o, ∃ g, ∃ rest, ∃ cmd : Instr, cmd = .bollardComplete t ∧ a = s.at t ∧
      a.skim.queue = .clear i o g :: rest) ∧
    (∃ (s a : State) (t : Cyc), ∃ i, ∃ k, ∃ f, ∃ c, ∃ o, ∃ g, ∃ rest, ∃ cmd : Instr, cmd = .bollardComplete t ∧ a =
      s.at t ∧ a.skim.queue = .list i k f c o g :: rest ∧ ((a.entry i a.skim.index).op ≠ 5 ∨ (a.skim.waiting.isSome =
      true ∧ a.skim.released = false))) ∧
    (∃ (s a : State) (t : Cyc), ∃ i, ∃ k, ∃ f, ∃ c, ∃ o, ∃ g, ∃ rest, ∃ u, ∃ v, ∃ cmd : Instr, cmd = .bollardComplete
      t ∧ a = s.at t ∧ a.skim.queue = .list i k f c o g :: rest ∧ a.skimOn = true ∧ a.skim.running = true ∧ (a.entry i
      a.skim.index).op = 5 ∧ (a.skim.waiting.isSome = true → a.skim.released = true) ∧ u = a.tally T.SKIM_ENTRIES ∧ v
      = (if (a.entry i a.skim.index).notifies then u.sideEvent o g 0x0605 (u.skimBytes i 0 u.skim.index k) else u)) ∧
    (∃ (s a : State) (t : Cyc), ∃ cmd : Instr, cmd = .surfaceClearDone t ∧ a = s.at t ∧ (a.skim.queue = [] ∨ a.skimOn
      = false ∨ a.skim.running = false)) ∧
    (∃ (s a : State) (t : Cyc), ∃ i, ∃ k, ∃ f, ∃ c, ∃ o, ∃ g, ∃ rest, ∃ cmd : Instr, cmd = .surfaceClearDone t ∧ a =
      s.at t ∧ a.skim.queue = .list i k f c o g :: rest) ∧
    (∃ (s a : State) (t : Cyc), ∃ i, ∃ o, ∃ g, ∃ rest, ∃ cmd : Instr, cmd = .surfaceClearDone t ∧ a = s.at t ∧
      a.skim.queue = .clear i o g :: rest ∧ a.surf i = none) ∧
    (∃ (s a : State) (t : Cyc), ∃ i, ∃ o, ∃ g, ∃ rest, ∃ f, ∃ cmd : Instr, cmd = .surfaceClearDone t ∧ a = s.at t ∧
      a.skim.queue = .clear i o g :: rest ∧ a.surf i = some f ∧ a.skimPaced (surfaceBytes f.format f.width f.height) =
      false) ∧
    (∃ (s a : State) (t : Cyc), ∃ i, ∃ o, ∃ g, ∃ rest, ∃ f, ∃ cmd : Instr, cmd = .surfaceClearDone t ∧ a = s.at t ∧
      a.skim.queue = .clear i o g :: rest ∧ a.skimOn = true ∧ a.skim.running = true ∧ a.surf i = some f ∧ a.skimPaced
      (surfaceBytes f.format f.width f.height) = true) ∧
    (∃ (s a : State) (t : Cyc), ∃ cmd : Instr, cmd = .corrMapCheckDone t ∧ a = s.at t ∧ a.optics.commit = none) ∧
    (∃ (s a : State) (t : Cyc), ∃ cmd : Instr, cmd = .corrMapCheckDone t ∧ a = s.at t ∧ (a.serving = false ∨
      a.optics.passed.isSome = true)) ∧
    (∃ (s a : State) (t : Cyc), ∃ o, ∃ g, ∃ z, ∃ h, ∃ cmd : Instr, cmd = .corrMapCheckDone t ∧ a = s.at t ∧
      a.optics.commit = some (o, g, z, h) ∧ a.serving = true ∧ a.optics.passed = none ∧ (commitCheck (blank 64
      a.optics.lost.contains (a.stagingBytes z)) z h).isSome = true) ∧
    (∃ (s a : State) (t : Cyc), ∃ o, ∃ g, ∃ z, ∃ h, ∃ cmd : Instr, cmd = .corrMapCheckDone t ∧ a = s.at t ∧
      a.optics.commit = some (o, g, z, h) ∧ a.serving = true ∧ a.optics.passed = none ∧ commitCheck (blank 64
      a.optics.lost.contains (a.stagingBytes z)) z h = none) :=
  ⟨⟨State.reset, _, 0, _, rfl, rfl, (by decide +kernel)⟩,
   ⟨{ on with skim := { queue := [.list 0 0 0 1 0 0], running := false } }, _, 0, _, _, _, _, _, _, _, _, rfl, rfl,
     (by decide +kernel), (by decide +kernel), rfl⟩,
   ⟨{ on with skim := { queue := [.clear 0 0 0], running := false } }, _, 0, _, _, _, _, _, rfl, rfl,
     (by decide +kernel), (by decide +kernel), rfl⟩,
   ⟨State.reset, _, 0, [], _, rfl, rfl, (by decide +kernel)⟩,
   ⟨{ State.reset with skim := { queue := [.list 0 0 0 1 0 0], running := false } }, _, 0, [], _, _, _, _, _, _, _, _,
     rfl, rfl, rfl, (by decide +kernel)⟩,
   ⟨{ State.reset with skim := { queue := [.clear 0 0 0], running := false } }, _, 0, [], _, _, _, _, _, rfl, rfl,
     rfl⟩,
   ⟨{ on with
     skim := { queue := [.list 0 0 0 1 0 0], running := true, surfaces := [(0, surf0)] }, dram :=
     { channels := List.replicate 16 { state := 1 } } }, _, 0, [], _, _, _, _, _, _, _, _, _, _, _, _, _, rfl, rfl,
     rfl, (by decide +kernel), (by decide +kernel), rfl, (by decide +kernel), rfl, (by decide +kernel), rfl, rfl, rfl⟩,
   ⟨State.reset, _, 0, _, rfl, rfl, (by decide +kernel)⟩,
   ⟨{ State.reset with skim := { queue := [.clear 0 0 0], running := false } }, _, 0, _, _, _, _, _, rfl, rfl, rfl⟩,
   ⟨{ State.reset with skim := { queue := [.list 0 0 0 1 0 0], running := false } }, _, 0, _, _, _, _, _, _, _, _,
     rfl, rfl, rfl, (by decide +kernel)⟩,
   ⟨{ on with skim := { queue := [.list 0 0 0 1 0 0], running := true, lists := [(0, [(0, 5)])] } }, _, 0, _, _, _, _,
     _, _, _, _, _, _, rfl, rfl, rfl, (by decide +kernel), (by decide +kernel), (by decide +kernel),
     (by decide +kernel), rfl, rfl⟩,
   ⟨State.reset, _, 0, _, rfl, rfl, (by decide +kernel)⟩,
   ⟨{ State.reset with skim := { queue := [.list 0 0 0 1 0 0], running := false } }, _, 0, _, _, _, _, _, _, _, _,
     rfl, rfl, rfl⟩,
   ⟨{ State.reset with skim := { queue := [.clear 0 0 0], running := false } }, _, 0, _, _, _, _, _, rfl, rfl, rfl,
     (by decide +kernel)⟩,
   ⟨{ on with skim := { queue := [.clear 0 0 0], running := true, surfaces := [(0, surf0)] } }, _, 0, _, _, _, _, _,
     _, rfl, rfl, rfl, rfl, (by decide +kernel)⟩,
   ⟨{ on with
     skim := { queue := [.clear 0 0 0], running := true, surfaces := [(0, surf0)] }, dram :=
     { channels := List.replicate 16 { state := 1 } } }, _, 0, _, _, _, _, _, _, rfl, rfl, rfl, (by decide +kernel),
     (by decide +kernel), rfl, (by decide +kernel)⟩,
   ⟨State.reset, _, 0, _, rfl, rfl, (by decide +kernel)⟩,
   ⟨State.reset, _, 0, _, rfl, rfl, (by decide +kernel)⟩,
   ⟨{ on with optics := { staging := map0, commit := some (0, 0, 18, mapHash) } }, _, 0, _, _, _, _, _, rfl, rfl, rfl,
     (by decide +kernel), (by decide +kernel), (by decide +kernel)⟩,
   ⟨{ on with optics := { commit := some (0, 0, 0, []) } }, _, 0, _, _, _, _, _, rfl, rfl, rfl, (by decide +kernel),
     (by decide +kernel), (by decide +kernel)⟩⟩

theorem witness_PanelLinkEvents :
    (∃ (s a : State) (t : Cyc), ∃ k, ∃ cmd : Instr, cmd = .hpdHigh t k ∧ a = s.at t ∧ (a.alive = false ∨ 16 ≤ k)) ∧
    (∃ (s a : State) (t : Cyc), ∃ k, ∃ u, ∃ cmd : Instr, cmd = .hpdHigh t k ∧ a = s.at t ∧ a.alive = true ∧ k < 16 ∧ u
      = a.modPort k (fun x => { x with hpd := true }) ∧ (u.port k).state = 1) ∧
    (∃ (s a : State) (t : Cyc), ∃ k, ∃ u, ∃ tr, ∃ cmd : Instr, cmd = .hpdHigh t k ∧ a = s.at t ∧ a.alive = true ∧ k <
      16 ∧ u = a.modPort k (fun x => { x with hpd := true }) ∧ (u.port k).state = 2 ∧ (u.port k).training = some tr) ∧
    (∃ (s a : State) (t : Cyc), ∃ k, ∃ u, ∃ cmd : Instr, cmd = .hpdHigh t k ∧ a = s.at t ∧ a.alive = true ∧ k < 16 ∧ u
      = a.modPort k (fun x => { x with hpd := true }) ∧ (u.port k).state ≠ 1 ∧ ((u.port k).state = 2 → (u.port
      k).training = none)) ∧
    (∃ (s a : State) (t : Cyc), ∃ k, ∃ cmd : Instr, cmd = .hpdUnplug t k ∧ a = s.at t ∧ (a.alive = true ∧ k < 16)) ∧
    (∃ (s a : State) (t : Cyc), ∃ k, ∃ cmd : Instr, cmd = .hpdUnplug t k ∧ a = s.at t ∧ ¬ (a.alive = true ∧ k < 16)) ∧
    (∃ (s a : State) (t : Cyc), ∃ k, ∃ st, ∃ cmd : Instr, cmd = .irqHpd t k st ∧ a = s.at t ∧ (a.port k).state = 1) ∧
    (∃ (s a : State) (t : Cyc), ∃ k, ∃ st, ∃ cmd : Instr, cmd = .irqHpd t k st ∧ a = s.at t ∧ (a.port k).state = 3) ∧
    (∃ (s a : State) (t : Cyc), ∃ k, ∃ st, ∃ x, ∃ cmd : Instr, cmd = .irqHpd t k st ∧ a = s.at t ∧ (a.port k).state =
      4 ∧ (a.port k).test = some x) ∧
    (∃ (s a : State) (t : Cyc), ∃ k, ∃ st, ∃ cmd : Instr, cmd = .irqHpd t k st ∧ a = s.at t ∧ (a.port k).state ≠ 1 ∧
      (a.port k).state ≠ 3 ∧ ((a.port k).state = 4 → (a.port k).test = none)) ∧
    (∃ (s a : State) (t : Cyc), ∃ k, ∃ cmd : Instr, cmd = .trainingPhaseDone t k ∧ a = s.at t ∧ (a.port k).training =
      none) ∧
    (∃ (s a : State) (t : Cyc), ∃ k, ∃ tr, ∃ cmd : Instr, cmd = .trainingPhaseDone t k ∧ a = s.at t ∧ (a.port
      k).training = some tr ∧ (tr.pstart + msCyc (phaseLimit tr.phase).1 ≤ a.time.cyc ∨ (a.port k).phaseOk tr =
      false)) ∧
    (∃ (s a : State) (t : Cyc), ∃ k, ∃ tr, ∃ cmd : Instr, cmd = .trainingPhaseDone t k ∧ a = s.at t ∧ (a.port
      k).training = some tr ∧ a.time.cyc < tr.pstart + msCyc (phaseLimit tr.phase).1 ∧ tr.phase = .hpd ∧ (a.port
      k).hpd = true) ∧
    (∃ (s a : State) (t : Cyc), ∃ k, ∃ tr, ∃ q, ∃ cmd : Instr, cmd = .trainingPhaseDone t k ∧ a = s.at t ∧ (a.port
      k).training = some tr ∧ a.time.cyc < tr.pstart + msCyc (phaseLimit tr.phase).1 ∧ tr.phase = .caps ∧ tr.caps.any
      tr.servedBy = true ∧ q = fieldOf tr.cfg 0 0 4) ∧
    (∃ (s a : State) (t : Cyc), ∃ k, ∃ tr, ∃ cmd : Instr, cmd = .trainingPhaseDone t k ∧ a = s.at t ∧ (a.port
      k).training = some tr ∧ a.time.cyc < tr.pstart + msCyc (phaseLimit tr.phase).1 ∧ tr.phase = .laneEq ∧
      tr.status.any (·.eqDone) = true) ∧
    (∃ (s a : State) (t : Cyc), ∃ k, ∃ tr, ∃ cmd : Instr, cmd = .trainingPhaseDone t k ∧ a = s.at t ∧ (a.port
      k).training = some tr ∧ a.time.cyc < tr.pstart + msCyc (phaseLimit tr.phase).1 ∧ tr.phase = .cds ∧ tr.status.any
      (·.cdsDone) = true) ∧
    (∃ (s a : State) (t : Cyc), ∃ k, ∃ cmd : Instr, cmd = .trainingPhaseTimeout t k ∧ a = s.at t ∧ (a.port k).training
      = none) ∧
    (∃ (s a : State) (t : Cyc), ∃ k, ∃ tr, ∃ cmd : Instr, cmd = .trainingPhaseTimeout t k ∧ a = s.at t ∧ (a.port
      k).training = some tr ∧ a.time.cyc < tr.pstart + msCyc (phaseLimit tr.phase).1) ∧
    (∃ (s a : State) (t : Cyc), ∃ k, ∃ tr, ∃ cmd : Instr, cmd = .trainingPhaseTimeout t k ∧ a = s.at t ∧ (a.port
      k).training = some tr ∧ tr.pstart + msCyc (phaseLimit tr.phase).1 ≤ a.time.cyc) ∧
    (∃ (s a : State) (t : Cyc), ∃ k, ∃ st, ∃ cmd : Instr, cmd = .laneEqPoll t k st ∧ a = s.at t ∧ (a.port k).training
      = none) ∧
    (∃ (s a : State) (t : Cyc), ∃ k, ∃ st, ∃ tr, ∃ cmd : Instr, cmd = .laneEqPoll t k st ∧ a = s.at t ∧ (a.port
      k).training = some tr ∧ tr.phase ≠ .laneEq ∧ tr.phase ≠ .cds) ∧
    (∃ (s a : State) (t : Cyc), ∃ k, ∃ st, ∃ tr, ∃ cmd : Instr, cmd = .laneEqPoll t k st ∧ a = s.at t ∧ (a.port
      k).training = some tr ∧ tr.polled ≠ 0 ∧ a.time.cyc < tr.polled + usCyc (max 400 ((tr.caps.map (·.pollUs)).getD
      0))) ∧
    (∃ (s a : State) (t : Cyc), ∃ k, ∃ st, ∃ tr, ∃ cmd : Instr, cmd = .laneEqPoll t k st ∧ a = s.at t ∧ (a.port
      k).training = some tr ∧ (tr.phase = .laneEq ∨ tr.phase = .cds) ∧ (tr.polled = 0 ∨ tr.polled + usCyc (max 400
      ((tr.caps.map (·.pollUs)).getD 0)) ≤ a.time.cyc)) :=
  ⟨⟨State.reset, _, 0, 0, _, rfl, rfl, (by decide +kernel)⟩,
   ⟨{ on with ports := [{ state := 1 }] }, _, 0, 0, _, _, rfl, rfl, (by decide +kernel), (by decide +kernel), rfl,
     (by decide +kernel)⟩,
   ⟨{ on with ports := [{ state := 2, training := some (training0 .hpd 0) }] }, _, 0, 0, _, _, _, rfl, rfl,
     (by decide +kernel), (by decide +kernel), rfl, (by decide +kernel), rfl⟩,
   ⟨on, _, 0, 0, _, _, rfl, rfl, (by decide +kernel), (by decide +kernel), rfl, (by decide +kernel),
     (by decide +kernel)⟩,
   ⟨on, _, 0, 0, _, rfl, rfl, (by decide +kernel)⟩,
   ⟨State.reset, _, 0, 0, _, rfl, rfl, (by decide +kernel)⟩,
   ⟨{ State.reset with ports := [{ state := 1 }] }, _, 0, 0, none, _, rfl, rfl, (by decide +kernel)⟩,
   ⟨{ State.reset with ports := [{ state := 3 }] }, _, 0, 0, none, _, rfl, rfl, (by decide +kernel)⟩,
   ⟨{ State.reset with ports := [{ state := 4, test := some test0 }] }, _, 0, 0, none, _, _, rfl, rfl,
     (by decide +kernel), rfl⟩,
   ⟨State.reset, _, 0, 0, none, _, rfl, rfl, (by decide +kernel), (by decide +kernel), (by decide +kernel)⟩,
   ⟨State.reset, _, 0, 0, _, rfl, rfl, (by decide +kernel)⟩,
   ⟨{ on with ports := [{ state := 2, training := some (training0 .hpd 0) }] }, _, 0, 0, _, _, rfl, rfl, rfl,
     (by decide +kernel)⟩,
   ⟨{ on with
     ports := [{ state := 2, hpd := true, training := some { training0 .hpd 1000000000000 with rate := 0 } }] }, _, 0,
     0, _, _, rfl, rfl, rfl, (by decide +kernel), (by decide +kernel), (by decide +kernel)⟩,
   ⟨{ on with
     ports :=
     [{ state := 2, hpd := true, training := some { training0 .caps 1000000000000 with caps := some { rev20 := true, coded := true, rates := [0], lanes := 0, pollUs := 0 } } }]
     }, _, 0, 0, _, _, _, rfl, rfl, rfl, (by decide +kernel), (by decide +kernel), (by decide +kernel), rfl⟩,
   ⟨{ on with
     ports :=
     [{ state := 2, hpd := true, training := some { training0 .laneEq 1000000000000 with status := some { status0 with eqDone := true } } }]
     }, _, 0, 0, _, _, rfl, rfl, rfl, (by decide +kernel), (by decide +kernel), (by decide +kernel)⟩,
   ⟨{ on with
     ports :=
     [{ state := 2, hpd := true, training := some { training0 .cds 1000000000000 with status := some { status0 with cdsDone := true } } }]
     }, _, 0, 0, _, _, rfl, rfl, rfl, (by decide +kernel), (by decide +kernel), (by decide +kernel)⟩,
   ⟨State.reset, _, 0, 0, _, rfl, rfl, (by decide +kernel)⟩,
   ⟨{ on with ports := [{ state := 2, training := some (training0 .hpd 1000000000000) }] }, _, 0, 0, _, _, rfl, rfl,
     rfl, (by decide +kernel)⟩,
   ⟨{ on with ports := [{ state := 2, training := some (training0 .hpd 0) }] }, _, 0, 0, _, _, rfl, rfl, rfl,
     (by decide +kernel)⟩,
   ⟨State.reset, _, 0, 0, status0, _, rfl, rfl, (by decide +kernel)⟩,
   ⟨{ State.reset with ports := [{ state := 2, training := some (training0 .hpd 0) }] }, _, 0, 0, status0, _, _, rfl,
     rfl, rfl, (by decide +kernel), (by decide +kernel)⟩,
   ⟨{ on with
     ports :=
     [{ state := 2, hpd := true, training := some { training0 .laneEq 1000000000000 with polled := 1000000000000 } }]
     }, _, 0, 0, status0, _, _, rfl, rfl, rfl, (by decide +kernel), (by decide +kernel)⟩,
   ⟨{ State.reset with ports := [{ state := 2, training := some (training0 .laneEq 0) }] }, _, 0, 0, status0, _, _,
     rfl, rfl, rfl, (by decide +kernel), (by decide +kernel)⟩⟩

theorem witness_AuxRetriesAndTestEnds :
    (∃ (s a : State) (t : Cyc), ∃ k, ∃ cmd : Instr, cmd = .auxReply t k .defer ∧ a = s.at t ∧ (a.port k).defers < 7) ∧
    (∃ (s a : State) (t : Cyc), ∃ k, ∃ cmd : Instr, cmd = .auxReply t k .defer ∧ a = s.at t ∧ 7 ≤ (a.port k).defers) ∧
    (∃ (s a : State) (t : Cyc), ∃ k, ∃ cmd : Instr, cmd = .auxTimeout t k ∧ a = s.at t ∧ (a.port k).noReply < 3) ∧
    (∃ (s a : State) (t : Cyc), ∃ k, ∃ cmd : Instr, cmd = .auxTimeout t k ∧ a = s.at t ∧ 3 ≤ (a.port k).noReply) ∧
    (∃ (s a : State) (t : Cyc), ∃ k, ∃ st, ∃ cmd : Instr, cmd = .linkRecalUnit t k st ∧ a = s.at t ∧ a.recalPort k =
      false) ∧
    (∃ (s a : State) (t : Cyc), ∃ k, ∃ cmd : Instr, cmd = .linkRecalUnit t k none ∧ a = s.at t ∧ a.recalPort k = true) ∧
    (∃ (s a : State) (t : Cyc), ∃ k, ∃ x, ∃ cmd : Instr, cmd = .linkRecalUnit t k (some x) ∧ a = s.at t ∧ a.recalPort
      k = true) ∧
    (∃ (s a : State) (t : Cyc), ∃ k, ∃ errs, ∃ sink, ∃ rd, ∃ st, ∃ cmd : Instr, cmd = .linkTestEnd t k errs sink rd st
      ∧ a = s.at t ∧ (a.port k).test = none) ∧
    (∃ (s a : State) (t : Cyc), ∃ k, ∃ errs, ∃ sink, ∃ rd, ∃ st, ∃ x, ∃ f, ∃ u, ∃ cmd : Instr, cmd = .linkTestEnd t k
      errs sink rd st ∧ a = s.at t ∧ (a.port k).test = some x ∧ f = x.figures a.testLanes errs sink rd ∧ u =
      (a.modPort k (fun q => { q with state := x.back, test := none, sinkPattern := none })).finalEvent x.slot x.tag
      0x0703 Status.OK (testPayload f.2.2.2.2 x.field f.1 f.2.2.1 f.2.1 f.2.2.2.1)) ∧
    (∃ (s a : State) (t : Cyc), ∃ b, ∃ errs, ∃ cmd : Instr, cmd = .bbTestEnd t b errs ∧ a = s.at t ∧ (a.bbp b).test =
      none) ∧
    (∃ (s a : State) (t : Cyc), ∃ b, ∃ errs, ∃ x, ∃ cmd : Instr, cmd = .bbTestEnd t b errs ∧ a = s.at t ∧ (a.bbp
      b).test = some x ∧ bit x.dir 1 = false) ∧
    (∃ (s a : State) (t : Cyc), ∃ b, ∃ errs, ∃ x, ∃ cmd : Instr, cmd = .bbTestEnd t b errs ∧ a = s.at t ∧ (a.bbp
      b).test = some x ∧ bit x.dir 1 = true) :=
  ⟨⟨State.reset, _, 0, 0, _, rfl, rfl, (by decide +kernel)⟩,
   ⟨{ State.reset with ports := [{ defers := 7 }] }, _, 0, 0, _, rfl, rfl, (by decide +kernel)⟩,
   ⟨State.reset, _, 0, 0, _, rfl, rfl, (by decide +kernel)⟩,
   ⟨{ State.reset with ports := [{ noReply := 3 }] }, _, 0, 0, _, rfl, rfl, (by decide +kernel)⟩,
   ⟨State.reset, _, 0, 0, none, _, rfl, rfl, (by decide +kernel)⟩,
   ⟨{ on with ports := [{ state := 3 }] }, _, 0, 0, _, rfl, rfl, (by decide +kernel)⟩,
   ⟨{ on with ports := [{ state := 3 }] }, _, 0, 0, status0, _, rfl, rfl, (by decide +kernel)⟩,
   ⟨State.reset, _, 0, 0, [], [], false, none, _, rfl, rfl, (by decide +kernel)⟩,
   ⟨{ State.reset with ports := [{ test := some test0 }] }, _, 0, 0, [], [], false, none, _, _, _, _, rfl, rfl, rfl,
     rfl, rfl⟩,
   ⟨State.reset, _, 0, 0, 0, _, rfl, rfl, (by decide +kernel)⟩,
   ⟨{ State.reset with bb := [{ test := some (bbTest0 0) }] }, _, 0, 0, 0, _, _, rfl, rfl, rfl, (by decide +kernel)⟩,
   ⟨{ State.reset with bb := [{ test := some (bbTest0 2) }] }, _, 0, 0, 0, _, _, rfl, rfl, rfl, (by decide +kernel)⟩⟩

theorem witness_BackbonePortEvents :
    (∃ (s a : State) (t : Cyc), ∃ b, ∃ cmd : Instr, cmd = .bbPortUp t b ∧ a = s.at t ∧ (a.bridgeOn = true ∧ b < 2 ∧
      a.bbEnabled b = true ∧ (a.bbp b).link = 0)) ∧
    (∃ (s a : State) (t : Cyc), ∃ b, ∃ cmd : Instr, cmd = .bbPortUp t b ∧ a = s.at t ∧ ¬ (a.bridgeOn = true ∧ b < 2 ∧
      a.bbEnabled b = true ∧ (a.bbp b).link = 0)) ∧
    (∃ (s a : State) (t : Cyc), ∃ b, ∃ cmd : Instr, cmd = .adaptFreeze t b ∧ a = s.at t ∧ (a.bbUp b = true)) ∧
    (∃ (s a : State) (t : Cyc), ∃ b, ∃ cmd : Instr, cmd = .adaptFreeze t b ∧ a = s.at t ∧ ¬ (a.bbUp b = true)) ∧
    (∃ (s a : State) (t : Cyc), ∃ b, ∃ cmd : Instr, cmd = .adaptResume t b ∧ a = s.at t ∧ (a.bbUp b = true ∧ (a.bbp
      b).rxLpi = false)) ∧
    (∃ (s a : State) (t : Cyc), ∃ b, ∃ cmd : Instr, cmd = .adaptResume t b ∧ a = s.at t ∧ ¬ (a.bbUp b = true ∧ (a.bbp
      b).rxLpi = false)) ∧
    (∃ (s a : State) (t : Cyc), ∃ b, ∃ cmd : Instr, cmd = .receiveQuietStart t b ∧ a = s.at t ∧ (a.bbUp b = true)) ∧
    (∃ (s a : State) (t : Cyc), ∃ b, ∃ cmd : Instr, cmd = .receiveQuietStart t b ∧ a = s.at t ∧ ¬ (a.bbUp b = true)) ∧
    (∃ (s a : State) (t : Cyc), ∃ b, ∃ cmd : Instr, cmd = .receiveQuietEnd t b ∧ a = s.at t ∧ ((a.bbp b).rxLpi =
      true)) ∧
    (∃ (s a : State) (t : Cyc), ∃ b, ∃ cmd : Instr, cmd = .receiveQuietEnd t b ∧ a = s.at t ∧ ¬ ((a.bbp b).rxLpi =
      true)) ∧
    (∃ (s a : State) (t : Cyc), ∃ b, ∃ cmd : Instr, cmd = .lpiEntry t b ∧ a = s.at t ∧ (a.bbUp b = true ∧ a.getI
      F.BB_EEE_TX b = 1 ∧ (a.queues b).all (·.isEmpty) = true ∧ (a.bbp b).emptyAt + usCyc (a.getI F.BB_LPI_ENTRY b) ≤
      a.time.cyc ∧ a.gateSoon b (Config.wakeNs (a.bbGbps b) + a.getI F.BB_LPI_ENTRY b * 1000) = false)) ∧
    (∃ (s a : State) (t : Cyc), ∃ b, ∃ cmd : Instr, cmd = .lpiEntry t b ∧ a = s.at t ∧ ¬ (a.bbUp b = true ∧ a.getI
      F.BB_EEE_TX b = 1 ∧ (a.queues b).all (·.isEmpty) = true ∧ (a.bbp b).emptyAt + usCyc (a.getI F.BB_LPI_ENTRY b) ≤
      a.time.cyc ∧ a.gateSoon b (Config.wakeNs (a.bbGbps b) + a.getI F.BB_LPI_ENTRY b * 1000) = false)) ∧
    (∃ (s a : State) (t : Cyc), ∃ b, ∃ cmd : Instr, cmd = .lpiWake t b ∧ a = s.at t ∧ ((a.bbp b).txLpi = true ∧
      ((a.queues b).all (·.isEmpty) = false ∨ a.gateSoon b (Config.wakeNs (a.bbGbps b)) = true))) ∧
    (∃ (s a : State) (t : Cyc), ∃ b, ∃ cmd : Instr, cmd = .lpiWake t b ∧ a = s.at t ∧ ¬ ((a.bbp b).txLpi = true ∧
      ((a.queues b).all (·.isEmpty) = false ∨ a.gateSoon b (Config.wakeNs (a.bbGbps b)) = true))) :=
  ⟨⟨(put on F.BB_ENABLE 1), _, 0, 0, _, rfl, rfl, (by decide +kernel)⟩,
   ⟨State.reset, _, 0, 0, _, rfl, rfl, (by decide +kernel)⟩,
   ⟨up, _, 0, 0, _, rfl, rfl, (by decide +kernel)⟩,
   ⟨State.reset, _, 0, 0, _, rfl, rfl, (by decide +kernel)⟩,
   ⟨up, _, 0, 0, _, rfl, rfl, (by decide +kernel)⟩,
   ⟨State.reset, _, 0, 0, _, rfl, rfl, (by decide +kernel)⟩,
   ⟨up, _, 0, 0, _, rfl, rfl, (by decide +kernel)⟩,
   ⟨State.reset, _, 0, 0, _, rfl, rfl, (by decide +kernel)⟩,
   ⟨{ State.reset with bb := [{ rxLpi := true }] }, _, 0, 0, _, rfl, rfl, (by decide +kernel)⟩,
   ⟨State.reset, _, 0, 0, _, rfl, rfl, (by decide +kernel)⟩,
   ⟨(put up F.BB_EEE_TX 1), _, 0, 0, _, rfl, rfl, (by decide +kernel)⟩,
   ⟨State.reset, _, 0, 0, _, rfl, rfl, (by decide +kernel)⟩,
   ⟨{ (waits 64) with bb := [{ link := 1, txLpi := true }] }, _, 0, 0, _, rfl, rfl, (by decide +kernel)⟩,
   ⟨State.reset, _, 0, 0, _, rfl, rfl, (by decide +kernel)⟩⟩

theorem witness_BridgeEvents :
    (∃ (s a : State) (t : Cyc), ∃ b, ∃ f, ∃ cmd : Instr, cmd = .linePortFrame t b f ∧ a = s.at t ∧ (a.bridgeOn = false
      ∨ 2 ≤ b ∨ a.bbUp b = false ∨ f.length < 64)) ∧
    (∃ (s a : State) (t : Cyc), ∃ b, ∃ f, ∃ cmd : Instr, cmd = .linePortFrame t b f ∧ a = s.at t ∧ a.bridgeOn = true ∧
      b < 2 ∧ a.bbUp b = true ∧ 64 ≤ f.length ∧ (9216 < f.length ∨ 2 ≤ f.tags ∨ a.storedBad b f = true)) ∧
    (∃ (s a : State) (t : Cyc), ∃ b, ∃ f, ∃ cmd : Instr, cmd = .linePortFrame t b f ∧ a = s.at t ∧ a.bridgeOn = true ∧
      b < 2 ∧ a.bbUp b = true ∧ 64 ≤ f.length ∧ f.length ≤ 9216 ∧ f.tags < 2 ∧ a.storedBad b f = false ∧ a.vidMember
      (a.vidOf f) = false) ∧
    (∃ (s a : State) (t : Cyc), ∃ b, ∃ f, ∃ cmd : Instr, cmd = .linePortFrame t b f ∧ a = s.at t ∧ a.bridgeOn = true ∧
      b < 2 ∧ a.bbUp b = true ∧ 64 ≤ f.length ∧ f.length ≤ 9216 ∧ f.tags < 2 ∧ a.storedBad b f = false ∧ a.vidMember
      (a.vidOf f) = true ∧ f.etherType.toNat = 0x88F7 ∧ (isPdelay f.payload = true ∨ (isGroup f.dst = false ∧ a.get
      F.LEARN = 1 ∧ a.learnedPort f.dst = some b))) ∧
    (∃ (s a : State) (t : Cyc), ∃ b, ∃ f, ∃ cmd : Instr, cmd = .linePortFrame t b f ∧ a = s.at t ∧ a.bridgeOn = true ∧
      b < 2 ∧ a.bbUp b = true ∧ 64 ≤ f.length ∧ f.length ≤ 9216 ∧ f.tags < 2 ∧ a.storedBad b f = false ∧ a.vidMember
      (a.vidOf f) = true ∧ f.etherType.toNat = 0x88F7 ∧ isPdelay f.payload = false ∧ ¬ (isGroup f.dst = false ∧ a.get
      F.LEARN = 1 ∧ a.learnedPort f.dst = some b)) ∧
    (∃ (s a : State) (t : Cyc), ∃ b, ∃ f, ∃ cmd : Instr, cmd = .linePortFrame t b f ∧ a = s.at t ∧ a.bridgeOn = true ∧
      b < 2 ∧ a.bbUp b = true ∧ 64 ≤ f.length ∧ f.length ≤ 9216 ∧ f.tags < 2 ∧ a.storedBad b f = false ∧ a.vidMember
      (a.vidOf f) = true ∧ f.etherType.toNat ≠ 0x88F7 ∧ isLinkLocal f.dst = true) ∧
    (∃ (s a : State) (t : Cyc), ∃ b, ∃ f, ∃ cmd : Instr, cmd = .linePortFrame t b f ∧ a = s.at t ∧ a.bridgeOn = true ∧
      b < 2 ∧ a.bbUp b = true ∧ 64 ≤ f.length ∧ f.length ≤ 9216 ∧ f.tags < 2 ∧ a.storedBad b f = false ∧ a.vidMember
      (a.vidOf f) = true ∧ f.etherType.toNat ≠ 0x88F7 ∧ isLinkLocal f.dst = false) ∧
    (∃ (s a : State) (t : Cyc), ∃ b, ∃ cmd : Instr, cmd = .egressTransmit t b ∧ a = s.at t ∧ (a.bridgeOn = false ∨ 2 ≤
      b ∨ a.txIdle b = false ∨ a.eligible b = none)) ∧
    (∃ (s a : State) (t : Cyc), ∃ b, ∃ c, ∃ q, ∃ u, ∃ cmd : Instr, cmd = .egressTransmit t b ∧ a = s.at t ∧ a.bridgeOn
      = true ∧ b < 2 ∧ a.txIdle b = true ∧ a.eligible b = some (c, q) ∧ u = { a with
      bridge := { a.bridge with egress := modAt a.bridge.egress b (fun l => modAt l c (fun x => x.drop 1)) } }) ∧
    (∃ (s a : State) (t : Cyc), ∃ b, ∃ cmd : Instr, cmd = .gateEntryChange t b ∧ a = s.at t ∧ (a.serving = false ∨ 2 ≤
      b)) ∧
    (∃ (s a : State) (t : Cyc), ∃ b, ∃ g, ∃ e, ∃ cmd : Instr, cmd = .gateEntryChange t b ∧ a = s.at t ∧ a.serving =
      true ∧ b < 2 ∧ g = (nth a.bridge.gates b {}).promote a.ns ∧ e = (if fieldOf g.words 0 0 1 = 1 ∧ gateBase g.words
      ≤ a.ns then (gateAt g.words a.ns).1 else 0)) :=
  ⟨⟨State.reset, _, 0, 0, frame0, _, rfl, rfl, (by decide +kernel)⟩,
   ⟨up, _, 0, 0, { frame0 with length := 9217 }, _, rfl, rfl, (by decide +kernel), (by decide +kernel),
     (by decide +kernel), (by decide +kernel), (by decide +kernel)⟩,
   ⟨up, _, 0, 0, { frame0 with tags := 1, vid := 5 }, _, rfl, rfl, (by decide +kernel), (by decide +kernel),
     (by decide +kernel), (by decide +kernel), (by decide +kernel), (by decide +kernel), (by decide +kernel),
     (by decide +kernel)⟩,
   ⟨up, _, 0, 0, { frame0 with etherType := 0x88F7, payload := [2] }, _, rfl, rfl, (by decide +kernel),
     (by decide +kernel), (by decide +kernel), (by decide +kernel), (by decide +kernel), (by decide +kernel),
     (by decide +kernel), (by decide +kernel), (by decide +kernel), (by decide +kernel)⟩,
   ⟨up, _, 0, 0, { frame0 with etherType := 0x88F7 }, _, rfl, rfl, (by decide +kernel), (by decide +kernel),
     (by decide +kernel), (by decide +kernel), (by decide +kernel), (by decide +kernel), (by decide +kernel),
     (by decide +kernel), (by decide +kernel), (by decide +kernel), (by decide +kernel)⟩,
   ⟨up, _, 0, 0, { frame0 with dst := 0x0180C2000000 }, _, rfl, rfl, (by decide +kernel), (by decide +kernel),
     (by decide +kernel), (by decide +kernel), (by decide +kernel), (by decide +kernel), (by decide +kernel),
     (by decide +kernel), (by decide +kernel), (by decide +kernel)⟩,
   ⟨up, _, 0, 0, frame0, _, rfl, rfl, (by decide +kernel), (by decide +kernel), (by decide +kernel),
     (by decide +kernel), (by decide +kernel), (by decide +kernel), (by decide +kernel), (by decide +kernel),
     (by decide +kernel), (by decide +kernel)⟩,
   ⟨State.reset, _, 0, 0, _, rfl, rfl, (by decide +kernel)⟩,
   ⟨(waits 64), _, 0, 0, _, _, _, _, rfl, rfl, (by decide +kernel), (by decide +kernel), (by decide +kernel), rfl,
     rfl⟩,
   ⟨State.reset, _, 0, 0, _, rfl, rfl, (by decide +kernel)⟩,
   ⟨on, _, 0, 0, _, _, _, rfl, rfl, (by decide +kernel), (by decide +kernel), rfl, rfl⟩⟩

theorem witness_TimeMessages :
    (∃ (s a : State) (t : Cyc), ∃ b, ∃ m, ∃ cmd : Instr, cmd = .syncReceived t b m ∧ a = s.at t ∧ a.domainOf m.domain
      = none) ∧
    (∃ (s a : State) (t : Cyc), ∃ b, ∃ m, ∃ k, ∃ cmd : Instr, cmd = .syncReceived t b m ∧ a = s.at t ∧ a.domainOf
      m.domain = some k ∧ (a.serving = false ∨ a.bbUp b = false ∨ (a.time.domain k).ann = [] ∨ (a.time.domain k).port
      ≠ b)) ∧
    (∃ (s a : State) (t : Cyc), ∃ b, ∃ m, ∃ k, ∃ cmd : Instr, cmd = .syncReceived t b m ∧ a = s.at t ∧ a.domainOf
      m.domain = some k ∧ a.serving = true ∧ a.bbUp b = true ∧ (a.time.domain k).ann ≠ [] ∧ (a.time.domain k).port = b
      ∧ m.followUp = false ∧ m.twoStep = false) ∧
    (∃ (s a : State) (t : Cyc), ∃ b, ∃ m, ∃ k, ∃ cmd : Instr, cmd = .syncReceived t b m ∧ a = s.at t ∧ a.domainOf
      m.domain = some k ∧ a.serving = true ∧ a.bbUp b = true ∧ (a.time.domain k).ann ≠ [] ∧ (a.time.domain k).port = b
      ∧ m.followUp = false ∧ m.twoStep = true) ∧
    (∃ (s a : State) (t : Cyc), ∃ b, ∃ m, ∃ k, ∃ c, ∃ cmd : Instr, cmd = .syncReceived t b m ∧ a = s.at t ∧ a.domainOf
      m.domain = some k ∧ a.serving = true ∧ a.bbUp b = true ∧ (a.time.domain k).ann ≠ [] ∧ (a.time.domain k).port = b
      ∧ m.followUp = true ∧ (a.time.domain k).pendingTwo = some (m.sequenceId, m.sourcePort, c)) ∧
    (∃ (s a : State) (t : Cyc), ∃ b, ∃ m, ∃ k, ∃ cmd : Instr, cmd = .syncReceived t b m ∧ a = s.at t ∧ a.domainOf
      m.domain = some k ∧ m.followUp = true ∧ (∀ c, (a.time.domain k).pendingTwo ≠ some (m.sequenceId, m.sourcePort,
      c))) ∧
    (∃ (s a : State) (t : Cyc), ∃ b, ∃ m, ∃ cmd : Instr, cmd = .announceReceived t b m ∧ a = s.at t ∧ (a.domainOf
      m.domain = none ∨ a.serving = false ∨ a.bbUp b = false)) ∧
    (∃ (s a : State) (t : Cyc), ∃ b, ∃ m, ∃ k, ∃ cmd : Instr, cmd = .announceReceived t b m ∧ a = s.at t ∧ a.domainOf
      m.domain = some k ∧ a.serving = true ∧ a.bbUp b = true) ∧
    (∃ (s a : State) (t : Cyc), ∃ b, ∃ cmd : Instr, cmd = .pdelayReqSend t b ∧ a = s.at t ∧ ¬ (a.serving = true ∧ b <
      2 ∧ a.bbUp b = true ∧ nth a.time.pdelayAt b 0 + msCyc 1000 ≤ a.time.cyc)) ∧
    (∃ (s a : State) (t : Cyc), ∃ b, ∃ u, ∃ cmd : Instr, cmd = .pdelayReqSend t b ∧ a = s.at t ∧ a.serving = true ∧ b
      < 2 ∧ a.bbUp b = true ∧ nth a.time.pdelayAt b 0 + msCyc 1000 ≤ a.time.cyc ∧ u = { a with
      time :=
      { a.time with pdelayAt := modAt a.time.pdelayAt b (fun _ => a.time.cyc), pdelaySeq := modAt a.time.pdelaySeq b (fun _ => (nth a.time.pdelaySeq b 0 + 1) % 2 ^ 16), pdelay := modAt a.time.pdelay b (fun _ => none) }
      }) ∧
    (∃ (s a : State) (t : Cyc), ∃ b, ∃ q, ∃ r, ∃ cmd : Instr, cmd = .pdelayReqReceived t b q r ∧ a = s.at t ∧ ¬
      (a.serving = true ∧ b < 2 ∧ a.bbUp b = true)) ∧
    (∃ (s a : State) (t : Cyc), ∃ b, ∃ q, ∃ r, ∃ f, ∃ cmd : Instr, cmd = .pdelayReqReceived t b q r ∧ a = s.at t ∧
      a.serving = true ∧ b < 2 ∧ a.bbUp b = true ∧ f = a.ptpFrame (a.pdelayHead b 3 q 0 ++ zeros 10 ++ be 10 r)) ∧
    (∃ (s a : State) (t : Cyc), ∃ (b q t2 t3 ratio : Nat), ∃ cmd : Instr, cmd = .pdelayRespReceived t b q t2 t3 ratio
      ∧ a = s.at t ∧ nth a.time.pdelay b none = none) ∧
    (∃ (s a : State) (t : Cyc), ∃ (b q t2 t3 ratio : Nat), ∃ q1, ∃ t1, ∃ cmd : Instr, cmd = .pdelayRespReceived t b q
      t2 t3 ratio ∧ a = s.at t ∧ nth a.time.pdelay b none = some (q1, t1) ∧ (a.serving = false ∨ q1 ≠ q)) ∧
    (∃ (s a : State) (t : Cyc), ∃ (b q t2 t3 ratio : Nat), ∃ t1, ∃ v, ∃ cmd : Instr, cmd = .pdelayRespReceived t b q
      t2 t3 ratio ∧ a = s.at t ∧ nth a.time.pdelay b none = some (q, t1) ∧ a.serving = true ∧ v = asr (asr
      ((((a.time.clk : Int) - a.ingressLat b) - t1) * ratio) 31 - ((t3 : Int) - t2)) 1) ∧
    (∃ (s a : State) (t : Cyc), ∃ k, ∃ cmd : Instr, cmd = .syncTimeout t k ∧ a = s.at t ∧ (a.serving = true ∧ k < 2 ∧
      (a.time.domain k).tracking ≠ 0 ∧ (a.time.domain k).syncInt ≠ 0 ∧ (a.time.domain k).lastSync + nsCyc (8 *
      (a.time.domain k).syncInt) ≤ a.time.cyc)) ∧
    (∃ (s a : State) (t : Cyc), ∃ k, ∃ cmd : Instr, cmd = .syncTimeout t k ∧ a = s.at t ∧ ¬ (a.serving = true ∧ k < 2
      ∧ (a.time.domain k).tracking ≠ 0 ∧ (a.time.domain k).syncInt ≠ 0 ∧ (a.time.domain k).lastSync + nsCyc (8 *
      (a.time.domain k).syncInt) ≤ a.time.cyc)) ∧
    (∃ (s a : State) (t : Cyc), ∃ k, ∃ cmd : Instr, cmd = .announceTimeout t k ∧ a = s.at t ∧ (a.serving = true ∧ k <
      2 ∧ (a.time.domain k).tracking ≠ 0 ∧ (a.time.domain k).annInt ≠ 0 ∧ (a.time.domain k).lastAnn + nsCyc (3 *
      (a.time.domain k).annInt) ≤ a.time.cyc)) ∧
    (∃ (s a : State) (t : Cyc), ∃ k, ∃ cmd : Instr, cmd = .announceTimeout t k ∧ a = s.at t ∧ ¬ (a.serving = true ∧ k
      < 2 ∧ (a.time.domain k).tracking ≠ 0 ∧ (a.time.domain k).annInt ≠ 0 ∧ (a.time.domain k).lastAnn + nsCyc (3 *
      (a.time.domain k).annInt) ≤ a.time.cyc)) :=
  ⟨⟨State.reset, _, 0, 0, { sync0 with domain := 99 }, _, rfl, rfl, (by decide +kernel)⟩,
   ⟨State.reset, _, 0, 0, sync0, 0, _, rfl, rfl, (by decide +kernel), (by decide +kernel)⟩,
   ⟨{ up with time := { up.time with domains := [{ ann := [(0, 0, 0)] }, {}] } }, _, 0, 0, sync0, 0, _, rfl, rfl,
     (by decide +kernel), (by decide +kernel), (by decide +kernel), (by decide +kernel), (by decide +kernel),
     (by decide +kernel), (by decide +kernel)⟩,
   ⟨{ up with time := { up.time with domains := [{ ann := [(0, 0, 0)] }, {}] } }, _, 0, 0,
     { sync0 with twoStep := true }, 0, _, rfl, rfl, (by decide +kernel), (by decide +kernel), (by decide +kernel),
     (by decide +kernel), (by decide +kernel), (by decide +kernel), (by decide +kernel)⟩,
   ⟨{ up with
     time := { up.time with domains := [{ ann := [(0, 0, 0)], pendingTwo := some (0, 0, 9) }, {}] } }, _, 0, 0,
     { sync0 with followUp := true }, 0, _, _, rfl, rfl, (by decide +kernel), (by decide +kernel),
     (by decide +kernel), (by decide +kernel), (by decide +kernel), (by decide +kernel), rfl⟩,
   ⟨State.reset, _, 0, 0, { sync0 with followUp := true }, 0, _, rfl, rfl, (by decide +kernel), (by decide +kernel),
     (fun _ h => by cases h)⟩,
   ⟨State.reset, _, 0, 0, { ann0 with domain := 99 }, _, rfl, rfl, (by decide +kernel)⟩,
   ⟨up, _, 0, 0, ann0, 0, _, rfl, rfl, (by decide +kernel), (by decide +kernel), (by decide +kernel)⟩,
   ⟨State.reset, _, 0, 0, _, rfl, rfl, (by decide +kernel)⟩,
   ⟨up, _, 0, 0, _, _, rfl, rfl, (by decide +kernel), (by decide +kernel), (by decide +kernel), (by decide +kernel),
     rfl⟩,
   ⟨State.reset, _, 0, 0, 0, 0, _, rfl, rfl, (by decide +kernel)⟩,
   ⟨up, _, 0, 0, 0, 0, _, _, rfl, rfl, (by decide +kernel), (by decide +kernel), (by decide +kernel), rfl⟩,
   ⟨State.reset, _, 0, 0, 0, 0, 0, 0, _, rfl, rfl, (by decide +kernel)⟩,
   ⟨{ State.reset with time := { pdelay := [some (1, 0), none] } }, _, 0, 0, 0, 0, 0, 0, _, _, _, rfl, rfl, rfl,
     (by decide +kernel)⟩,
   ⟨{ on with time := { on.time with pdelay := [some (1, 0), none] } }, _, 0, 0, 1, 0, 0, 0, _, _, _, rfl, rfl, rfl,
     (by decide +kernel), rfl⟩,
   ⟨{ on with time := { on.time with domains := [{ tracking := 1, syncInt := 1 }, {}] } }, _, 0, 0, _, rfl, rfl,
     (by decide +kernel)⟩,
   ⟨State.reset, _, 0, 0, _, rfl, rfl, (by decide +kernel)⟩,
   ⟨{ on with time := { on.time with domains := [{ tracking := 1, annInt := 1 }, {}] } }, _, 0, 0, _, rfl, rfl,
     (by decide +kernel)⟩,
   ⟨State.reset, _, 0, 0, _, rfl, rfl, (by decide +kernel)⟩⟩

theorem witness_ClockAndTriggerEvents :
    (∃ (s a : State) (t : Cyc), ∃ cmd : Instr, cmd = .switchInstant t ∧ a = s.at t ∧ a.time.switchTo = none) ∧
    (∃ (s a : State) (t : Cyc), ∃ k, ∃ z, ∃ cmd : Instr, cmd = .switchInstant t ∧ a = s.at t ∧ a.time.switchTo = some
      (k, z) ∧ ¬ (a.serving = true ∧ (a.time.state = .holdover ∨ a.time.state = .free ∨ a.time.state = .test) ∧ z ≤
      (a.time.domain k).ns)) ∧
    (∃ (s a : State) (t : Cyc), ∃ k, ∃ z, ∃ cmd : Instr, cmd = .switchInstant t ∧ a = s.at t ∧ a.time.switchTo = some
      (k, z) ∧ a.serving = true ∧ (a.time.state = .holdover ∨ a.time.state = .free ∨ a.time.state = .test) ∧ z ≤
      (a.time.domain k).ns ∧ a.tracks k = true) ∧
    (∃ (s a : State) (t : Cyc), ∃ k, ∃ z, ∃ u, ∃ cmd : Instr, cmd = .switchInstant t ∧ a = s.at t ∧ a.time.switchTo =
      some (k, z) ∧ a.serving = true ∧ (a.time.state = .holdover ∨ a.time.state = .free ∨ a.time.state = .test) ∧ z ≤
      (a.time.domain k).ns ∧ a.tracks k = false ∧ u = { a with time := { a.time with switchTo := none } }) ∧
    (∃ (s a : State) (t : Cyc), ∃ cmd : Instr, cmd = .slewEnd t ∧ a = s.at t ∧ ¬ (a.time.state = .slewing ∧
      a.slewRemain = 0)) ∧
    (∃ (s a : State) (t : Cyc), ∃ d, ∃ cmd : Instr, cmd = .slewEnd t ∧ a = s.at t ∧ a.time.state = .slewing ∧
      a.slewRemain = 0 ∧ d = a.time.domain a.time.selected) ∧
    (∃ (s a : State) (t : Cyc), ∃ cmd : Instr, cmd = .clockCarry t ∧ a = s.at t ∧ (a.serving = true ∧ a.time.carryFmt
      = true ∧ a.time.toNormal = true ∧ a.time.pendSec < a.sec)) ∧
    (∃ (s a : State) (t : Cyc), ∃ cmd : Instr, cmd = .clockCarry t ∧ a = s.at t ∧ ¬ (a.serving = true ∧
      a.time.carryFmt = true ∧ a.time.toNormal = true ∧ a.time.pendSec < a.sec)) ∧
    (∃ (s a : State) (t : Cyc), ∃ cmd : Instr, cmd = .acquireTimeout t ∧ a = s.at t ∧ (a.serving = true ∧
      a.time.acquireOn = true ∧ a.time.acquireAt + msCyc (a.get F.ACQUIRE_TIMEOUT_MS) ≤ a.time.cyc)) ∧
    (∃ (s a : State) (t : Cyc), ∃ cmd : Instr, cmd = .acquireTimeout t ∧ a = s.at t ∧ ¬ (a.serving = true ∧
      a.time.acquireOn = true ∧ a.time.acquireAt + msCyc (a.get F.ACQUIRE_TIMEOUT_MS) ≤ a.time.cyc)) ∧
    (∃ (s a : State) (t : Cyc), ∃ k, ∃ g, ∃ u, ∃ cmd : Instr, cmd = .trigRise t k ∧ a = s.at t ∧ g = (nth a.time.trigs
      k {}).promote a.ns ∧ u = { a with time := { a.time with trigs := modAt a.time.trigs k (fun _ => g) } } ∧
      u.trigEdge g.words = none) ∧
    (∃ (s a : State) (t : Cyc), ∃ k, ∃ g, ∃ u, ∃ e, ∃ cmd : Instr, cmd = .trigRise t k ∧ a = s.at t ∧ g = (nth
      a.time.trigs k {}).promote a.ns ∧ u =
      { a with time := { a.time with trigs := modAt a.time.trigs k (fun _ => g) } } ∧ u.trigEdge g.words = some e ∧
      u.trigsOn = true ∧ (∀ x, g.lastEdge = some x → x < e) ∧ 0 ≤ e ∧ e ≤ u.ns) ∧
    (∃ (s a : State) (t : Cyc), ∃ k, ∃ g, ∃ u, ∃ e, ∃ cmd : Instr, cmd = .trigRise t k ∧ a = s.at t ∧ g = (nth
      a.time.trigs k {}).promote a.ns ∧ u =
      { a with time := { a.time with trigs := modAt a.time.trigs k (fun _ => g) } } ∧ u.trigEdge g.words = some e ∧ ¬
      (u.trigsOn = true ∧ (∀ x, g.lastEdge = some x → x < e) ∧ 0 ≤ e ∧ e ≤ u.ns)) ∧
    (∃ (s a : State) (t : Cyc), ∃ k, ∃ cmd : Instr, cmd = .trigFall t k ∧ a = s.at t ∧ ((nth a.time.trigs k {}).level
      = true ∧ (nth a.time.trigs k {}).fallAt ≤ a.ns)) ∧
    (∃ (s a : State) (t : Cyc), ∃ k, ∃ cmd : Instr, cmd = .trigFall t k ∧ a = s.at t ∧ ¬ ((nth a.time.trigs k
      {}).level = true ∧ (nth a.time.trigs k {}).fallAt ≤ a.ns)) ∧
    (∃ (s a : State) (t : Cyc), ∃ k, ∃ f, ∃ cmd : Instr, cmd = .evtCapture t k f ∧ a = s.at t ∧ ¬ (a.serving = true ∧
      k < 4 ∧ bit (a.get F.EVT_EN) k = true ∧ bit (a.get F.EVT_FALLING) k = f)) ∧
    (∃ (s a : State) (t : Cyc), ∃ k, ∃ f, ∃ u, ∃ cmd : Instr, cmd = .evtCapture t k f ∧ a = s.at t ∧ a.serving = true
      ∧ k < 4 ∧ bit (a.get F.EVT_EN) k = true ∧ bit (a.get F.EVT_FALLING) k = f ∧ u = (if fifoRoom (nth a.time.evt k
      []) then { a with time := { a.time with evt := modAt a.time.evt k (fun l => l ++ [a.capture f]) } } else
      State.captureLost { a with time := { a.time with evtLost := modAt a.time.evtLost k (· + 1) } })) ∧
    (∃ (s a : State) (t : Cyc), ∃ k, ∃ z, ∃ d, ∃ x, ∃ cmd : Instr, cmd = .switchInstant t ∧ a = s.at t ∧
      a.time.switchTo = some (k, z) ∧ a.serving = true ∧ (a.time.state = .holdover ∨ a.time.state = .free ∨
      a.time.state = .test) ∧ z ≤ (a.time.domain k).ns ∧ a.tracks k = true ∧ d = a.time.domain k ∧ x = (a.ns : Int) -
      d.ns ∧ 1000000000 < x.natAbs) ∧
    (∃ (s a : State) (t : Cyc), ∃ k, ∃ z, ∃ d, ∃ x, ∃ cmd : Instr, cmd = .switchInstant t ∧ a = s.at t ∧
      a.time.switchTo = some (k, z) ∧ a.serving = true ∧ (a.time.state = .holdover ∨ a.time.state = .free ∨
      a.time.state = .test) ∧ z ≤ (a.time.domain k).ns ∧ a.tracks k = true ∧ d = a.time.domain k ∧ x = (a.ns : Int) -
      d.ns ∧ x.natAbs ≤ 1000000000 ∧ x ≠ 0) ∧
    (∃ (s a : State) (t : Cyc), ∃ k, ∃ z, ∃ d, ∃ x, ∃ cmd : Instr, cmd = .switchInstant t ∧ a = s.at t ∧
      a.time.switchTo = some (k, z) ∧ a.serving = true ∧ (a.time.state = .holdover ∨ a.time.state = .free ∨
      a.time.state = .test) ∧ z ≤ (a.time.domain k).ns ∧ a.tracks k = true ∧ d = a.time.domain k ∧ x = (a.ns : Int) -
      d.ns ∧ x = 0) :=
  ⟨⟨State.reset, _, 0, _, rfl, rfl, (by decide +kernel)⟩,
   ⟨{ State.reset with time := { State.reset.time with switchTo := some (0, 0) } }, _, 0, _, _, _, rfl, rfl, rfl,
     (by decide +kernel)⟩,
   ⟨{ on with
     time := { on.time with domains := [{ tracking := 2 }, {}], state := .holdover, switchTo := some (0, 0) } }, _, 0,
     _, _, _, rfl, rfl, rfl, (by decide +kernel), (by decide +kernel), (by decide +kernel), (by decide +kernel)⟩,
   ⟨{ on with time := { on.time with state := .holdover, switchTo := some (0, 0) } }, _, 0, _, _, _, _, rfl, rfl, rfl,
     (by decide +kernel), (by decide +kernel), (by decide +kernel), (by decide +kernel), rfl⟩,
   ⟨State.reset, _, 0, _, rfl, rfl, (by decide +kernel)⟩,
   ⟨{ on with time := { on.time with state := .slewing } }, _, 0, _, _, rfl, rfl, (by decide +kernel),
     (by decide +kernel), rfl⟩,
   ⟨{ on with time := { on.time with carryFmt := true, toNormal := true, clk := 2000000000 * 2 ^ 32 } }, _, 0, _, rfl,
     rfl, (by decide +kernel)⟩,
   ⟨State.reset, _, 0, _, rfl, rfl, (by decide +kernel)⟩,
   ⟨{ on with time := { on.time with acquireOn := true } }, _, 0, _, rfl, rfl, (by decide +kernel)⟩,
   ⟨State.reset, _, 0, _, rfl, rfl, (by decide +kernel)⟩,
   ⟨State.reset, _, 0, 0, _, _, _, rfl, rfl, rfl, rfl, (by decide +kernel)⟩,
   ⟨{ on with time := { on.time with trigs := [{ cfg := [1] }] } }, _, 0, 0, _, _, 50000000, _, rfl, rfl, rfl, rfl,
     (by decide +kernel), (by decide +kernel), (fun _ h => by cases h), (by decide +kernel), (by decide +kernel)⟩,
   ⟨{ State.reset with time := { State.reset.time with trigs := [{ cfg := [1] }] } }, _, 0, 0, _, _, 0, _, rfl, rfl,
     rfl, rfl, (by decide +kernel), (fun h => absurd h.1 (by decide +kernel))⟩,
   ⟨{ State.reset with time := { State.reset.time with trigs := [{ level := true }] } }, _, 0, 0, _, rfl, rfl,
     (by decide +kernel)⟩,
   ⟨State.reset, _, 0, 0, _, rfl, rfl, (by decide +kernel)⟩,
   ⟨State.reset, _, 0, 0, false, _, rfl, rfl, (by decide +kernel)⟩,
   ⟨(put on F.EVT_EN 1), _, 0, 0, false, _, _, rfl, rfl, (by decide +kernel), (by decide +kernel),
     (by decide +kernel), (by decide +kernel), rfl⟩,
   ⟨{ on with
     time :=
     { on.time with state := .holdover, switchTo := some (0, 0), domains := [{ tracking := 2, d := 3000000000 * 2 ^ 32 }, {}] }
     }, _, 0, _, _, _, _, _, rfl, rfl, rfl, (by decide +kernel), (by decide +kernel), (by decide +kernel),
     (by decide +kernel), rfl, rfl, (by decide +kernel)⟩,
   ⟨{ on with
     time :=
     { on.time with state := .holdover, switchTo := some (0, 0), domains := [{ tracking := 2, d := 50240001 * 2 ^ 32 }, {}] }
     }, _, 0, _, _, _, _, _, rfl, rfl, rfl, (by decide +kernel), (by decide +kernel), (by decide +kernel),
     (by decide +kernel), rfl, rfl, (by decide +kernel)⟩,
   ⟨{ on with
     time :=
     { on.time with state := .holdover, switchTo := some (0, 0), domains := [{ tracking := 2, d := 50240000 * 2 ^ 32 }, {}] }
     }, _, 0, _, _, _, _, _, rfl, rfl, rfl, (by decide +kernel), (by decide +kernel), (by decide +kernel),
     (by decide +kernel), rfl, rfl, (by decide +kernel)⟩⟩

theorem witness_GroupEvents :
    (∃ (s a : State) (t : Cyc), ∃ r, ∃ cmd : Instr, cmd = .rankDead t r ∧ a = s.at t ∧ (a.get F.GROUP_EN = 1 ∧ r < 8 ∧
      8 ≤ nth a.group.miss r 0)) ∧
    (∃ (s a : State) (t : Cyc), ∃ r, ∃ cmd : Instr, cmd = .rankDead t r ∧ a = s.at t ∧ ¬ (a.get F.GROUP_EN = 1 ∧ r < 8
      ∧ 8 ≤ nth a.group.miss r 0)) ∧
    (∃ (s a : State) (t : Cyc), ∃ cmd : Instr, cmd = .groupJoined t ∧ a = s.at t ∧ (a.serving = true ∧ a.get
      F.GROUP_EN = 1 ∧ a.group.joined = false ∧ (a.group.leadRank.isSome = true ∨ 8 ≤ a.group.listened))) ∧
    (∃ (s a : State) (t : Cyc), ∃ cmd : Instr, cmd = .groupJoined t ∧ a = s.at t ∧ ¬ (a.serving = true ∧ a.get
      F.GROUP_EN = 1 ∧ a.group.joined = false ∧ (a.group.leadRank.isSome = true ∨ 8 ≤ a.group.listened))) ∧
    (∃ (s a : State) (t : Cyc), ∃ cmd : Instr, cmd = .groupCommitSend t ∧ a = s.at t ∧ (a.serving = true ∧ a.get
      F.GROUP_EN = 1 ∧ a.group.lead = true ∧ a.guardOk = true)) ∧
    (∃ (s a : State) (t : Cyc), ∃ cmd : Instr, cmd = .groupCommitSend t ∧ a = s.at t ∧ ¬ (a.serving = true ∧ a.get
      F.GROUP_EN = 1 ∧ a.group.lead = true ∧ a.guardOk = true)) :=
  ⟨⟨(put State.reset F.GROUP_EN 1), _, 0, 0, _, rfl, rfl, (by decide +kernel)⟩,
   ⟨State.reset, _, 0, 0, _, rfl, rfl, (by decide +kernel)⟩,
   ⟨(put { on with group := { leadRank := some 0 } } F.GROUP_EN 1), _, 0, _, rfl, rfl, (by decide +kernel)⟩,
   ⟨State.reset, _, 0, _, rfl, rfl, (by decide +kernel)⟩,
   ⟨(put { on with group := { lead := true } } F.GROUP_EN 1), _, 0, _, rfl, rfl, (by decide +kernel)⟩,
   ⟨State.reset, _, 0, _, rfl, rfl, (by decide +kernel)⟩⟩

theorem witness_DramRefreshAndErrors :
    (∃ (s a : State) (t : Cyc), ∃ c, ∃ cmd : Instr, cmd = .refreshDue t c ∧ a = s.at t ∧ ((a.chan c).serves = false ∨
      (a.chan c).state = 3)) ∧
    (∃ (s a : State) (t : Cyc), ∃ c, ∃ cmd : Instr, cmd = .refreshDue t c ∧ a = s.at t ∧ (a.chan c).serves = true ∧
      (a.chan c).state ≠ 3 ∧ (a.chan c).owed < 5) ∧
    (∃ (s a : State) (t : Cyc), ∃ c, ∃ cmd : Instr, cmd = .refreshDue t c ∧ a = s.at t ∧ (a.chan c).serves = true ∧
      (a.chan c).state ≠ 3 ∧ 5 ≤ (a.chan c).owed) ∧
    (∃ (s a : State) (t : Cyc), ∃ c, ∃ cmd : Instr, cmd = .refpbIssue t c ∧ a = s.at t ∧ ((a.chan c).free = true ∧
      (a.chan c).state ≠ 3 ∧ -8 < (a.chan c).owed)) ∧
    (∃ (s a : State) (t : Cyc), ∃ c, ∃ cmd : Instr, cmd = .refpbIssue t c ∧ a = s.at t ∧ ¬ ((a.chan c).free = true ∧
      (a.chan c).state ≠ 3 ∧ -8 < (a.chan c).owed)) ∧
    (∃ (s a : State) (t : Cyc), ∃ c, ∃ r, ∃ cmd : Instr, cmd = .mr4Read t c r ∧ a = s.at t ∧ (a.chan c).serves =
      false) ∧
    (∃ (s a : State) (t : Cyc), ∃ c, ∃ r, ∃ cmd : Instr, cmd = .mr4Read t c (some r) ∧ a = s.at t ∧ (a.chan c).serves
      = true) ∧
    (∃ (s a : State) (t : Cyc), ∃ c, ∃ u, ∃ cmd : Instr, cmd = .mr4Read t c none ∧ a = s.at t ∧ (a.chan c).serves =
      true ∧ u = a.modChan c (fun x => { x with mr4Miss := x.mr4Miss + 1 })) ∧
    (∃ (s a : State) (t : Cyc), ∃ c, ∃ b, ∃ row, ∃ r, ∃ w, ∃ cmd : Instr, cmd = .rowActivation t c b row r ∧ a = s.at
      t ∧ w = a.bwClear ∧ ((w.chan c).free = false ∨ 32 ≤ b ∨ w.capped c b r = true)) ∧
    (∃ (s a : State) (t : Cyc), ∃ c, ∃ b, ∃ row, ∃ r, ∃ w, ∃ q, ∃ n, ∃ u, ∃ v, ∃ cmd : Instr, cmd = .rowActivation t c
      b row r ∧ a = s.at t ∧ w = a.bwClear ∧ (w.chan c).free = true ∧ b < 32 ∧ w.capped c b r = false ∧ q = w.request
      c ∧ n = bwCount (nth (q.chan c).banks b []) (row / 64) r ∧ u = q.modChan c (fun x =>
      ({ x with banks := modAt x.banks b (fun _ => n.1) } : Channel).countAct b r) ∧ v = (if (u.chan c).rfmNeed &&
      Config.rfmDue u.time.freeCount c then (u.took.modChan c (fun x => { x with rfm := x.rfm + 1 })).tally T.MEM_RFM
      else u.took)) ∧
    (∃ (s a : State) (t : Cyc), ∃ cmd : Instr, cmd = .breakwaterWindowClear t ∧ a = s.at t ∧ a.ns / 16000 =
      a.dram.bwWindow) ∧
    (∃ (s a : State) (t : Cyc), ∃ w, ∃ cmd : Instr, cmd = .breakwaterWindowClear t ∧ a = s.at t ∧ w = a.ns / 16000 ∧ w
      ≠ a.dram.bwWindow) ∧
    (∃ (s a : State) (t : Cyc), ∃ c, ∃ l, ∃ r, ∃ x, ∃ y, ∃ cmd : Instr, cmd = .dramLineRead t c l r ⟨x, y⟩ ∧ a = s.at
      t ∧ (a.chan c).free = false) ∧
    (∃ (s a : State) (t : Cyc), ∃ c, ∃ l, ∃ r, ∃ y, ∃ cmd : Instr, cmd = .dramLineRead t c l r ⟨.clean, y⟩ ∧ a = s.at
      t ∧ (a.chan c).free = true) ∧
    (∃ (s a : State) (t : Cyc), ∃ c, ∃ l, ∃ r, ∃ y, ∃ cmd : Instr, cmd = .dramLineRead t c l r ⟨.corrected, y⟩ ∧ a =
      s.at t ∧ (a.chan c).free = true) ∧
    (∃ (s a : State) (t : Cyc), ∃ c, ∃ l, ∃ r, ∃ cmd : Instr, cmd = .dramLineRead t c l r ⟨.uncorrectable, .data⟩ ∧ a
      = s.at t ∧ (a.chan c).free = true) ∧
    (∃ (s a : State) (t : Cyc), ∃ c, ∃ l, ∃ r, ∃ y, ∃ cmd : Instr, cmd = .dramLineRead t c l r ⟨.uncorrectable, y⟩ ∧ a
      = s.at t ∧ (a.chan c).free = true ∧ y ≠ LineUse.data ∧ (∀ n, y ≠ LineUse.check n)) ∧
    (∃ (s a : State) (t : Cyc), ∃ c, ∃ l, ∃ r, ∃ n, ∃ cmd : Instr, cmd = .dramLineRead t c l r ⟨.uncorrectable, .check
      n⟩ ∧ a = s.at t ∧ (a.chan c).free = true) :=
  ⟨⟨State.reset, _, 0, 0, _, rfl, rfl, (by decide +kernel)⟩,
   ⟨{ State.reset with dram := { channels := [{ state := 1 }] } }, _, 0, 0, _, rfl, rfl, (by decide +kernel),
     (by decide +kernel), (by decide +kernel)⟩,
   ⟨{ State.reset with dram := { channels := [{ state := 1, owed := 5 }] } }, _, 0, 0, _, rfl, rfl,
     (by decide +kernel), (by decide +kernel), (by decide +kernel)⟩,
   ⟨{ State.reset with dram := { channels := [{ state := 1 }] } }, _, 0, 0, _, rfl, rfl, (by decide +kernel)⟩,
   ⟨State.reset, _, 0, 0, _, rfl, rfl, (by decide +kernel)⟩,
   ⟨State.reset, _, 0, 0, none, _, rfl, rfl, (by decide +kernel)⟩,
   ⟨{ State.reset with dram := { channels := [{ state := 1 }] } }, _, 0, 0, 0, _, rfl, rfl, (by decide +kernel)⟩,
   ⟨{ State.reset with dram := { channels := [{ state := 1 }] } }, _, 0, 0, _, _, rfl, rfl, (by decide +kernel), rfl⟩,
   ⟨State.reset, _, 0, 0, 0, 0, 0, _, _, rfl, rfl, rfl, (by decide +kernel)⟩,
   ⟨{ State.reset with dram := { channels := [{ state := 1 }] } }, _, 0, 0, 0, 0, 0, _, _, _, _, _, _, rfl, rfl, rfl,
     (by decide +kernel), (by decide +kernel), (by decide +kernel), rfl, rfl, rfl, rfl⟩,
   ⟨State.reset, _, 0, _, rfl, rfl, (by decide +kernel)⟩,
   ⟨on, _, 0, _, _, rfl, rfl, rfl, (by decide +kernel)⟩,
   ⟨State.reset, _, 0, 0, 0, 0, .clean, .data, _, rfl, rfl, (by decide +kernel)⟩,
   ⟨{ State.reset with dram := { channels := [{ state := 1 }] } }, _, 0, 0, 0, 0, .data, _, rfl, rfl,
     (by decide +kernel)⟩,
   ⟨{ State.reset with dram := { channels := [{ state := 1 }] } }, _, 0, 0, 0, 0, .data, _, rfl, rfl,
     (by decide +kernel)⟩,
   ⟨{ State.reset with dram := { channels := [{ state := 1 }] } }, _, 0, 0, 0, 0, _, rfl, rfl, (by decide +kernel)⟩,
   ⟨{ State.reset with dram := { channels := [{ state := 1 }] } }, _, 0, 0, 0, 0, .surface 0 0 0 4, _, rfl, rfl,
     (by decide +kernel), (by decide +kernel), (fun _ h => by cases h)⟩,
   ⟨{ State.reset with dram := { channels := [{ state := 1 }] } }, _, 0, 0, 0, 0, 0, _, rfl, rfl, (by decide +kernel)⟩⟩

theorem witness_DramModes :
    (∃ (s a : State) (t : Cyc), ∃ c, ∃ k, ∃ cmd : Instr, cmd = .powerDownEntry t c k ∧ a = s.at t ∧ ((a.chan c).serves
      = false ∨ (a.chan c).sweep.isSome = true ∨ (a.chan c).change.isSome = true)) ∧
    (∃ (s a : State) (t : Cyc), ∃ c, ∃ cmd : Instr, cmd = .powerDownEntry t c .powerDown ∧ a = s.at t ∧ (a.chan
      c).serves = true ∧ (a.chan c).sweep = none ∧ (a.chan c).change = none) ∧
    (∃ (s a : State) (t : Cyc), ∃ c, ∃ cmd : Instr, cmd = .powerDownEntry t c .selfRefresh ∧ a = s.at t ∧ (a.chan
      c).serves = true ∧ (a.chan c).sweep = none ∧ (a.chan c).change = none) ∧
    (∃ (s a : State) (t : Cyc), ∃ c, ∃ cmd : Instr, cmd = .lowPowerExit t c ∧ a = s.at t ∧ ((a.chan c).serves = false
      ∨ a.dram.selfRefresh = true)) ∧
    (∃ (s a : State) (t : Cyc), ∃ c, ∃ cmd : Instr, cmd = .lowPowerExit t c ∧ a = s.at t ∧ (a.chan c).serves = true ∧
      a.dram.selfRefresh = false ∧ (a.chan c).state = 3) ∧
    (∃ (s a : State) (t : Cyc), ∃ c, ∃ cmd : Instr, cmd = .lowPowerExit t c ∧ a = s.at t ∧ (a.chan c).serves = true ∧
      a.dram.selfRefresh = false ∧ (a.chan c).state = 2) ∧
    (∃ (s a : State) (t : Cyc), ∃ c, ∃ cmd : Instr, cmd = .lowPowerExit t c ∧ a = s.at t ∧ (a.chan c).state ≠ 2 ∧
      (a.chan c).state ≠ 3) ∧
    (∃ (s a : State) (t : Cyc), ∃ c, ∃ cmd : Instr, cmd = .frequencyChangeStart t c ∧ a = s.at t ∧ (∀ g, (a.chan
      c).change ≠ some (.wanted g))) ∧
    (∃ (s a : State) (t : Cyc), ∃ c, ∃ cmd : Instr, cmd = .frequencyChangeStart t c ∧ a = s.at t ∧ ((a.chan c).serves
      = false ∨ (a.chan c).sweep.isSome = true)) ∧
    (∃ (s a : State) (t : Cyc), ∃ c, ∃ g, ∃ cmd : Instr, cmd = .frequencyChangeStart t c ∧ a = s.at t ∧ (a.chan
      c).change = some (.wanted g) ∧ (a.chan c).serves = true ∧ (a.chan c).sweep = none) ∧
    (∃ (s a : State) (t : Cyc), ∃ c, ∃ cmd : Instr, cmd = .frequencySwitchDone t c ∧ a = s.at t ∧ (∀ g, (a.chan
      c).change ≠ some (.switching g))) ∧
    (∃ (s a : State) (t : Cyc), ∃ c, ∃ g, ∃ cmd : Instr, cmd = .frequencySwitchDone t c ∧ a = s.at t ∧ (a.chan
      c).change = some (.switching g)) ∧
    (∃ (s a : State) (t : Cyc), ∃ c, ∃ ls, ∃ cmd : Instr, cmd = .dramSweepDone t c ls ∧ a = s.at t ∧ ((a.chan c).sweep
      = none ∨ (a.chan c).serves = false)) ∧
    (∃ (s a : State) (t : Cyc), ∃ c, ∃ ls, ∃ w, ∃ l, ∃ cmd : Instr, cmd = .dramSweepDone t c ls ∧ a = s.at t ∧ (a.chan
      c).sweep = some w ∧ (a.chan c).serves = true ∧ w.full = true ∧ allSome ((List.range 4).map (fun k => eyeOf (nth
      ls k { firstCode := 0, passes := [] }))) = some l) ∧
    (∃ (s a : State) (t : Cyc), ∃ c, ∃ ls, ∃ w, ∃ cmd : Instr, cmd = .dramSweepDone t c ls ∧ a = s.at t ∧ (a.chan
      c).sweep = some w ∧ (a.chan c).serves = true ∧ w.full = true ∧ allSome ((List.range 4).map (fun k => eyeOf (nth
      ls k { firstCode := 0, passes := [] }))) = none) ∧
    (∃ (s a : State) (t : Cyc), ∃ c, ∃ ls, ∃ w, ∃ l, ∃ cmd : Instr, cmd = .dramSweepDone t c ls ∧ a = s.at t ∧ (a.chan
      c).sweep = some w ∧ (a.chan c).serves = true ∧ w.full = false ∧ allSome ((List.range 4).map (fun k => centreOf
      (nth ((a.chan c).sets (a.chan c).fsp) k 0) (nth ls k { firstCode := 0, passes := [] }))) = some l) ∧
    (∃ (s a : State) (t : Cyc), ∃ c, ∃ ls, ∃ w, ∃ cmd : Instr, cmd = .dramSweepDone t c ls ∧ a = s.at t ∧ (a.chan
      c).sweep = some w ∧ (a.chan c).serves = true ∧ w.full = false ∧ allSome ((List.range 4).map (fun k => centreOf
      (nth ((a.chan c).sets (a.chan c).fsp) k 0) (nth ls k { firstCode := 0, passes := [] }))) = none) ∧
    (∃ (s a : State) (t : Cyc), ∃ r, ∃ cmd : Instr, cmd = .dramTrainingDone t r ∧ a = s.at t ∧ (a.start.phase =
      .running ∧ a.start.dramDone = false)) ∧
    (∃ (s a : State) (t : Cyc), ∃ r, ∃ cmd : Instr, cmd = .dramTrainingDone t r ∧ a = s.at t ∧ ¬ (a.start.phase =
      .running ∧ a.start.dramDone = false)) ∧
    (∃ (s a : State) (t : Cyc), ∃ c, ∃ mib, ∃ (wrapped : Bool), ∃ cmd : Instr, cmd = .patrolScrubUnit t 0 [] ∧ a =
      s.at t ∧ a.scrubTarget = (c, mib, wrapped) ∧ ¬ (a.serving = true ∧ a.scan.lantern = false ∧ a.dram.selfRefresh =
      false ∧ (a.chan c).present = true ∧ (a.chan c).sweep = none ∧ a.otherRoom 1048576 = true ∧ ¬ (a.recalTarget = c
      ∧ a.bgYields 1 2 = true))) ∧
    (∃ (s a : State) (t : Cyc), ∃ c, ∃ mib, ∃ (wrapped : Bool), ∃ cmd : Instr, cmd = .patrolScrubUnit t 0 [] ∧ a =
      s.at t ∧ a.scrubTarget = (c, mib, wrapped) ∧ a.bgUnit 1 c 1048576 = none) ∧
    (∃ (s a : State) (t : Cyc), ∃ c, ∃ mib, ∃ (wrapped : Bool), ∃ (p : State), ∃ cmd : Instr, cmd = .patrolScrubUnit t
      0 [] ∧ a = s.at t ∧ a.scrubTarget = (c, mib, wrapped) ∧ a.serving = true ∧ a.scan.lantern = false ∧
      a.dram.selfRefresh = false ∧ (a.chan c).present = true ∧ (a.chan c).sweep = none ∧ a.otherRoom 1048576 = true ∧
      ¬ (a.recalTarget = c ∧ a.bgYields 1 2 = true) ∧ a.bgUnit 1 c 1048576 = some p) ∧
    (∃ (s a : State) (t : Cyc), ∃ c, ∃ p, ∃ cmd : Instr, cmd = .dramRecalUnit t ∧ a = s.at t ∧ c = a.recalTarget ∧
      a.serving = true ∧ a.scan.lantern = false ∧ a.dram.selfRefresh = false ∧ (a.chan c).serves = true ∧ (a.chan
      c).sweep = none ∧ (a.chan c).sweepNext = none ∧ ¬ (a.scrubTarget.1 = c ∧ a.bgYields 2 1 = true) ∧ a.bgUnit 2 c
      (chanCeiling a.scan.rate a.presentCount * a.scan.rate * 40 / 1000000) = some p) ∧
    (∃ (s a : State) (t : Cyc), ∃ c, ∃ cmd : Instr, cmd = .dramRecalUnit t ∧ a = s.at t ∧ c = a.recalTarget ∧ a.bgUnit
      2 c (chanCeiling a.scan.rate a.presentCount * a.scan.rate * 40 / 1000000) = none) ∧
    (∃ (s a : State) (t : Cyc), ∃ c, ∃ cmd : Instr, cmd = .dramRecalUnit t ∧ a = s.at t ∧ c = a.recalTarget ∧ ¬
      (a.serving = true ∧ a.scan.lantern = false ∧ a.dram.selfRefresh = false ∧ (a.chan c).serves = true ∧ (a.chan
      c).sweep = none ∧ (a.chan c).sweepNext = none ∧ ¬ (a.scrubTarget.1 = c ∧ a.bgYields 2 1 = true))) :=
  ⟨⟨State.reset, _, 0, 0, .powerDown, _, rfl, rfl, (by decide +kernel)⟩,
   ⟨{ State.reset with dram := { channels := [{ state := 1 }] } }, _, 0, 0, _, rfl, rfl, (by decide +kernel),
     (by decide +kernel), (by decide +kernel)⟩,
   ⟨{ State.reset with dram := { channels := [{ state := 1 }] } }, _, 0, 0, _, rfl, rfl, (by decide +kernel),
     (by decide +kernel), (by decide +kernel)⟩,
   ⟨State.reset, _, 0, 0, _, rfl, rfl, (by decide +kernel)⟩,
   ⟨{ State.reset with dram := { channels := [{ state := 3 }] } }, _, 0, 0, _, rfl, rfl, (by decide +kernel),
     (by decide +kernel), (by decide +kernel)⟩,
   ⟨{ State.reset with dram := { channels := [{ state := 2 }] } }, _, 0, 0, _, rfl, rfl, (by decide +kernel),
     (by decide +kernel), (by decide +kernel)⟩,
   ⟨State.reset, _, 0, 0, _, rfl, rfl, (by decide +kernel), (by decide +kernel)⟩,
   ⟨State.reset, _, 0, 0, _, rfl, rfl, (fun _ h => by cases h)⟩,
   ⟨State.reset, _, 0, 0, _, rfl, rfl, (by decide +kernel)⟩,
   ⟨{ State.reset with dram := { channels := [{ state := 1, change := some (.wanted 1) }] } }, _, 0, 0, _, _, rfl,
     rfl, rfl, (by decide +kernel), (by decide +kernel)⟩,
   ⟨State.reset, _, 0, 0, _, rfl, rfl, (fun _ h => by cases h)⟩,
   ⟨{ State.reset with dram := { channels := [{ state := 1, change := some (.switching 1) }] } }, _, 0, 0, _, _, rfl,
     rfl, rfl⟩,
   ⟨State.reset, _, 0, 0, [], _, rfl, rfl, (by decide +kernel)⟩,
   ⟨{ State.reset with
     dram := { channels := [{ state := 1, sweep := some { why := .request, full := true } }] } }, _, 0, 0,
     (List.replicate 4 { firstCode := 0, passes := List.replicate 16 true }), _, _, _, rfl, rfl, rfl,
     (by decide +kernel), (by decide +kernel), rfl⟩,
   ⟨{ State.reset with
     dram := { channels := [{ state := 1, sweep := some { why := .request, full := true } }] } }, _, 0, 0, [], _, _,
     rfl, rfl, rfl, (by decide +kernel), (by decide +kernel), (by decide +kernel)⟩,
   ⟨{ State.reset with
     dram := { channels := [{ state := 1, sweep := some { why := .request, full := false } }] } }, _, 0, 0,
     (List.replicate 4 { firstCode := 0, passes := List.replicate 16 true }), _, _, _, rfl, rfl, rfl,
     (by decide +kernel), (by decide +kernel), rfl⟩,
   ⟨{ State.reset with
     dram := { channels := [{ state := 1, sweep := some { why := .request, full := false } }] } }, _, 0, 0, [], _, _,
     rfl, rfl, rfl, (by decide +kernel), (by decide +kernel), (by decide +kernel)⟩,
   ⟨on, _, 0, [], _, rfl, rfl, (by decide +kernel)⟩,
   ⟨State.reset, _, 0, [], _, rfl, rfl, (by decide +kernel)⟩,
   ⟨State.reset, _, 0, _, _, _, _, rfl, rfl, rfl, (by decide +kernel)⟩,
   ⟨{ usedUp with dram := { channels := [{ state := 1 }] } }, _, 0, _, _, _, _, rfl, rfl, rfl, (by decide +kernel)⟩,
   ⟨{ on with harbour := { cur := { slice := 1 } }, dram := { channels := [{ state := 1 }] } }, _, 0, _, _, _, _, _,
     rfl, rfl, rfl, (by decide +kernel), (by decide +kernel), (by decide +kernel), (by decide +kernel),
     (by decide +kernel), (by decide +kernel), (by decide +kernel), rfl⟩,
   ⟨{ on with dram := { channels := [{ state := 1 }] } }, _, 0, _, _, _, rfl, rfl, rfl, (by decide +kernel),
     (by decide +kernel), (by decide +kernel), (by decide +kernel), (by decide +kernel), (by decide +kernel),
     (by decide +kernel), rfl⟩,
   ⟨{ usedUp with dram := { channels := [{ state := 1 }] } }, _, 0, _, _, rfl, rfl, rfl, (by decide +kernel)⟩,
   ⟨State.reset, _, 0, _, _, rfl, rfl, rfl, (by decide +kernel)⟩⟩

theorem witness_StorageEvents :
    (∃ (s a : State) (t : Cyc), ∃ u, ∃ e, ∃ cmd : Instr, cmd = .mramRecordDone t ∧ a = s.at t ∧ a.recordDone = (u, e)
      ∧ a.start.phase ≠ .running ∧ a.start.phase ≠ .pilotBoot ∧ a.start.phase ≠ .bridge ∧ a.start.phase ≠ .recovery) ∧
    (∃ (s a : State) (t : Cyc), ∃ u, ∃ cmd : Instr, cmd = .mramRecordDone t ∧ a = s.at t ∧ a.recordDone = (u, none) ∧
      (a.start.phase = .running ∨ a.start.phase = .pilotBoot ∨ a.start.phase = .bridge ∨ a.start.phase = .recovery)) ∧
    (∃ (s a : State) (t : Cyc), ∃ u, ∃ x, ∃ v, ∃ w, ∃ y, ∃ cmd : Instr, cmd = .mramRecordDone t ∧ a = s.at t ∧
      a.recordDone = (u, some x) ∧ (a.start.phase = .running ∨ a.start.phase = .pilotBoot ∨ a.start.phase = .bridge ∨
      a.start.phase = .recovery) ∧ v = (u.committed x).txnEnd x ∧ w = (if v.start.phase = .pilotBoot ∧ x.purpose =
      .migration then v.endStartup else v) ∧ y =
      (match w.start.restartTag with | some z => w.restartSoon z.1 z.2 | none => w)) ∧
    (∃ (s a : State) (t : Cyc), ∃ cmd : Instr, cmd = .storeTokenRefill t ∧ a = s.at t ∧ (a.serving = true)) ∧
    (∃ (s a : State) (t : Cyc), ∃ cmd : Instr, cmd = .storeTokenRefill t ∧ a = s.at t ∧ ¬ (a.serving = true)) ∧
    (∃ (s a : State) (t : Cyc), ∃ cmd : Instr, cmd = .journalCompactionUnit t ∧ a = s.at t ∧ a.compactable = false) ∧
    (∃ (s a : State) (t : Cyc), ∃ cmd : Instr, cmd = .journalCompactionUnit t ∧ a = s.at t ∧ a.compactable = true ∧
      (a.harbour.cur.slice = 0 ∧ a.sliceHad = 0)) ∧
    (∃ (s a : State) (t : Cyc), ∃ cmd : Instr, cmd = .journalCompactionUnit t ∧ a = s.at t ∧ a.compactable = true ∧ ¬
      (a.harbour.cur.slice = 0 ∧ a.sliceHad = 0) ∧ a.nvm.queue = []) ∧
    (∃ (s a : State) (t : Cyc), ∃ cmd : Instr, cmd = .journalCompactionUnit t ∧ a = s.at t ∧ a.compactable = true ∧ ¬
      (a.harbour.cur.slice = 0 ∧ a.sliceHad = 0) ∧ a.nvm.queue ≠ []) ∧
    (∃ (s a : State) (t : Cyc), ∃ cmd : Instr, cmd = .nvmWindowRetry t ∧ a = s.at t ∧ (a.serving = true)) ∧
    (∃ (s a : State) (t : Cyc), ∃ cmd : Instr, cmd = .nvmWindowRetry t ∧ a = s.at t ∧ ¬ (a.serving = true)) :=
  ⟨⟨State.reset, _, 0, _, _, _, rfl, rfl, rfl, (by decide +kernel), (by decide +kernel), (by decide +kernel),
     (by decide +kernel)⟩,
   ⟨on, _, 0, _, _, rfl, rfl, rfl, (by decide +kernel)⟩,
   ⟨{ on with nvm := { queue := [{ purpose := .migration, begun := true, steps := [] }] } }, _, 0, _, _, _, _, _, _,
     rfl, rfl, rfl, (by decide +kernel), rfl, rfl, rfl⟩,
   ⟨on, _, 0, _, rfl, rfl, (by decide +kernel)⟩,
   ⟨State.reset, _, 0, _, rfl, rfl, (by decide +kernel)⟩,
   ⟨State.reset, _, 0, _, rfl, rfl, (by decide +kernel)⟩,
   ⟨{ on with mram := twoPages, harbour := { cur := { slice := 0 } } }, _, 0, _, rfl, rfl, (by decide +kernel),
     (by decide +kernel)⟩,
   ⟨{ on with mram := twoPages }, _, 0, _, rfl, rfl, (by decide +kernel), (by decide +kernel), (by decide +kernel)⟩,
   ⟨{ on with
     mram := twoPages, nvm := { on.nvm with queue := [{ purpose := .migration, begun := true, steps := [] }] } }, _,
     0, _, rfl, rfl, (by decide +kernel), (by decide +kernel), (by decide +kernel)⟩,
   ⟨on, _, 0, _, rfl, rfl, (by decide +kernel)⟩,
   ⟨State.reset, _, 0, _, rfl, rfl, (by decide +kernel)⟩⟩

theorem witness_RailSequenceEvents :
    (∃ (s a : State) (t : Cyc), ∃ cmd : Instr, cmd = .railUpStep t ∧ a = s.at t ∧ a.power.seqs.find? (fun q =>
      a.seqDue true q) = none) ∧
    (∃ (s a : State) (t : Cyc), ∃ q, ∃ q2, ∃ r, ∃ cmd : Instr, cmd = .railUpStep t ∧ a = s.at t ∧ a.power.seqs.find?
      (fun q => a.seqDue true q) = some q ∧ stepSeq q = (q2, some r)) ∧
    (∃ (s a : State) (t : Cyc), ∃ cmd : Instr, cmd = .railDownStep t ∧ a = s.at t ∧ a.power.seqs.find? (fun q =>
      a.seqDue false q) = none) ∧
    (∃ (s a : State) (t : Cyc), ∃ q, ∃ q2, ∃ r, ∃ cmd : Instr, cmd = .railDownStep t ∧ a = s.at t ∧ a.power.seqs.find?
      (fun q => a.seqDue false q) = some q ∧ stepSeq q = (q2, some r)) ∧
    (∃ (s a : State) (t : Cyc), ∃ r, ∃ cmd : Instr, cmd = .railPgRise t r ∧ a = s.at t ∧ (a.alive = true)) ∧
    (∃ (s a : State) (t : Cyc), ∃ r, ∃ cmd : Instr, cmd = .railPgRise t r ∧ a = s.at t ∧ ¬ (a.alive = true)) ∧
    (∃ (s a : State) (t : Cyc), ∃ cmd : Instr, cmd = .railPgTimeout t ∧ a = s.at t ∧ (a.power.seqs.find? (fun q =>
      q.up && q.wait.isSome && decide (q.since + msCyc (a.get F.PG_TIMEOUT_MS) ≤ a.time.cyc))) = none) ∧
    (∃ (s a : State) (t : Cyc), ∃ q, ∃ r, ∃ cmd : Instr, cmd = .railPgTimeout t ∧ a = s.at t ∧ (a.power.seqs.find?
      (fun q => q.up && q.wait.isSome && decide (q.since + msCyc (a.get F.PG_TIMEOUT_MS) ≤ a.time.cyc))) = some q ∧
      q.wait = some r) ∧
    (∃ (s a : State) (t : Cyc), ∃ r, ∃ u, ∃ cmd : Instr, cmd = .railPgLost t r ∧ a = s.at t ∧ u = a.modRail r (fun x
      => { x with pg := false }) ∧ (nth a.power.rails r {}).enable = true ∧ (nth a.power.rails r {}).pg = true ∧
      u.railUsed r = true ∧ u.power.railSeq ≠ 3 ∧ u.falling r = false) ∧
    (∃ (s a : State) (t : Cyc), ∃ r, ∃ u, ∃ cmd : Instr, cmd = .railPgLost t r ∧ a = s.at t ∧ u = a.modRail r (fun x
      => { x with pg := false }) ∧ ¬ ((nth a.power.rails r {}).enable = true ∧ (nth a.power.rails r {}).pg = true ∧
      u.railUsed r = true ∧ u.power.railSeq ≠ 3 ∧ u.falling r = false)) ∧
    (∃ (s a : State) (t : Cyc), ∃ cmd : Instr, cmd = .railRetry t ∧ a = s.at t ∧ a.start.phase ≠ .running) ∧
    (∃ (s a : State) (t : Cyc), ∃ due, ∃ cmd : Instr, cmd = .railRetry t ∧ a = s.at t ∧ a.start.phase = .running ∧ due
      = a.power.retry.filter (fun e => decide (e.1 + msCyc 1000 ≤ a.time.cyc))) ∧
    (∃ (s a : State) (t : Cyc), ∃ r, ∃ cmd : Instr, cmd = .avsCriticalMargin t r ∧ a = s.at t ∧ (a.serving = false ∨
      Config.avsCritical ≤ r.margin)) ∧
    (∀ m : Nat, m < Config.avsCritical → ∃ (s a : State) (t : Cyc), ∃ u, ∃ cmd : Instr, cmd = .avsCriticalMargin t
      { readings0 with margin := m } ∧ a = s.at t ∧ a.serving = true ∧ m < Config.avsCritical ∧ u = State.settleVcore
      { a with power := { a.power with margin := m } } []) ∧
    (∃ (s a : State) (t : Cyc), ∃ cmd : Instr, cmd = .shutdownHalt t ∧ a = s.at t ∧ (a.start.phase = .shuttingDown ∧
      a.power.rails.all (fun r => !r.enable) = true)) ∧
    (∃ (s a : State) (t : Cyc), ∃ cmd : Instr, cmd = .shutdownHalt t ∧ a = s.at t ∧ ¬ (a.start.phase = .shuttingDown ∧
      a.power.rails.all (fun r => !r.enable) = true)) :=
  ⟨⟨State.reset, _, 0, _, rfl, rfl, (by decide +kernel)⟩,
   ⟨{ on with
     power := { seqs := [{ up := true, rest := [0], wait := none, since := 0, whole := true }] } }, _, 0, _, _, _, _,
     rfl, rfl, rfl, rfl⟩,
   ⟨State.reset, _, 0, _, rfl, rfl, (by decide +kernel)⟩,
   ⟨{ on with
     power := { seqs := [{ up := false, rest := [0], wait := none, since := 0, whole := true }] } }, _, 0, _, _, _, _,
     rfl, rfl, rfl, rfl⟩,
   ⟨on, _, 0, 0, _, rfl, rfl, (by decide +kernel)⟩,
   ⟨State.reset, _, 0, 0, _, rfl, rfl, (by decide +kernel)⟩,
   ⟨State.reset, _, 0, _, rfl, rfl, (by decide +kernel)⟩,
   ⟨{ on with
     power := { seqs := [{ up := true, rest := [], wait := some 0, since := 0, whole := true }] } }, _, 0, _, _, _,
     rfl, rfl, rfl, rfl⟩,
   ⟨(put { State.reset with power := { rails := [{ enable := true, pg := true }] } } F.RAILS_USED 1), _, 0, 0, _, _,
     rfl, rfl, rfl, (by decide +kernel), (by decide +kernel), (by decide +kernel), (by decide +kernel),
     (by decide +kernel)⟩,
   ⟨State.reset, _, 0, 0, _, _, rfl, rfl, rfl, (by decide +kernel)⟩,
   ⟨State.reset, _, 0, _, rfl, rfl, (by decide +kernel)⟩,
   ⟨on, _, 0, _, _, rfl, rfl, (by decide +kernel), rfl⟩,
   ⟨State.reset, _, 0, readings0, _, rfl, rfl, (by decide +kernel)⟩,
   fun _ h => ⟨on, _, 0, _, _, rfl, rfl, (by decide +kernel), h, rfl⟩,
   ⟨{ State.reset with start := { State.reset.start with phase := .shuttingDown } }, _, 0, _, rfl, rfl,
     (by decide +kernel)⟩,
   ⟨State.reset, _, 0, _, rfl, rfl, (by decide +kernel)⟩⟩

theorem witness_RoundsFasciaAndWakePins :
    (∃ (s a : State) (t : Cyc), ∃ cmd : Instr, cmd = .housekeepingRoundStart t ∧ a = s.at t ∧ (a.rounds = true ∧
      a.power.converting = false ∧ (a.start.roundDone = false ∨ a.ns / 10000000 * 10000000 ≠ a.power.roundNs))) ∧
    (∃ (s a : State) (t : Cyc), ∃ cmd : Instr, cmd = .housekeepingRoundStart t ∧ a = s.at t ∧ ¬ (a.rounds = true ∧
      a.power.converting = false ∧ (a.start.roundDone = false ∨ a.ns / 10000000 * 10000000 ≠ a.power.roundNs))) ∧
    (∃ (s a : State) (t : Cyc), ∃ r, ∃ cmd : Instr, cmd = .housekeepingRoundEnd t r ∧ a = s.at t ∧ (a.power.converting
      = false ∨ a.rounds = false)) ∧
    (∃ (s a : State) (t : Cyc), ∃ r, ∃ u, ∃ cmd : Instr, cmd = .housekeepingRoundEnd t r ∧ a = s.at t ∧
      a.power.converting = true ∧ a.rounds = true ∧ u = a.roundEnd r) ∧
    (∃ (s a : State) (t : Cyc), ∃ cmd : Instr, cmd = .fasciaUpdateStart t ∧ a = s.at t ∧ (a.serving = true ∧
      a.nvm.interpreting = true ∧ a.fascia.update = none ∧ a.fasciaDue = true ∧ a.fasciaMay = true)) ∧
    (∃ (s a : State) (t : Cyc), ∃ cmd : Instr, cmd = .fasciaUpdateStart t ∧ a = s.at t ∧ ¬ (a.serving = true ∧
      a.nvm.interpreting = true ∧ a.fascia.update = none ∧ a.fasciaDue = true ∧ a.fasciaMay = true)) ∧
    (∃ (s a : State) (t : Cyc), ∃ cmd : Instr, cmd = .fasciaFrame t ∧ a = s.at t ∧ a.fascia.update = none) ∧
    (∃ (s a : State) (t : Cyc), ∃ u, ∃ cmd : Instr, cmd = .fasciaFrame t ∧ a = s.at t ∧ a.fascia.update = some u ∧
      (u.stage ≠ .frames ∨ a.serving = false ∨ a.wholeMs = u.boundary)) ∧
    (∃ (s a : State) (t : Cyc), ∃ u, ∃ v, ∃ cmd : Instr, cmd = .fasciaFrame t ∧ a = s.at t ∧ a.fascia.update = some u
      ∧ u.stage = .frames ∧ a.serving = true ∧ a.wholeMs ≠ u.boundary ∧ v = u.step a.wholeMs a.time.cyc ∧ v.phase = 5) ∧
    (∃ (s a : State) (t : Cyc), ∃ u, ∃ v, ∃ cmd : Instr, cmd = .fasciaFrame t ∧ a = s.at t ∧ a.fascia.update = some u
      ∧ u.stage = .frames ∧ a.serving = true ∧ a.wholeMs ≠ u.boundary ∧ v = u.step a.wholeMs a.time.cyc ∧ v.phase ≠ 5) ∧
    (∃ (s a : State) (t : Cyc), ∃ cmd : Instr, cmd = .wakePinExport t ∧ a = s.at t ∧ a.start.phase ≠ .pilotBoot ∧
      a.start.phase ≠ .running ∧ a.start.phase ≠ .restarting ∧ a.start.phase ≠ .shuttingDown) ∧
    (∃ (s a : State) (t : Cyc), ∃ u, ∃ cmd : Instr, cmd = .wakePinExport t ∧ a = s.at t ∧ (a.start.phase = .pilotBoot
      ∨ a.start.phase = .running ∨ a.start.phase = .restarting ∨ a.start.phase = .shuttingDown) ∧ u = a.wakeBoundary ∧
      (u.wake.ring.drop u.wake.exported = [] ∨ u.wake.exportMode ≠ 1 ∨ u.wakePinsFree = false)) ∧
    (∃ (s a : State) (t : Cyc), ∃ u, ∃ r, ∃ rest, ∃ cmd : Instr, cmd = .wakePinExport t ∧ a = s.at t ∧ (a.start.phase
      = .pilotBoot ∨ a.start.phase = .running ∨ a.start.phase = .restarting ∨ a.start.phase = .shuttingDown) ∧ u =
      a.wakeBoundary ∧ u.wake.ring.drop u.wake.exported = r :: rest ∧ u.wake.exportMode = 1 ∧ u.wakePinsFree = true) :=
  ⟨⟨on, _, 0, _, rfl, rfl, (by decide +kernel)⟩,
   ⟨State.reset, _, 0, _, rfl, rfl, (by decide +kernel)⟩,
   ⟨State.reset, _, 0, readings0, _, rfl, rfl, (by decide +kernel)⟩,
   ⟨{ on with power := { converting := true } }, _, 0, readings0, _, _, rfl, rfl, (by decide +kernel),
     (by decide +kernel), rfl⟩,
   ⟨(put (put { on with fascia := { restoreDue := true }, power := { ntcs := [none, some 6400, none, none] } }
     F.FA_ENABLE 1) (F.TMAX 0) 12800), _, 0, _, rfl, rfl, (by decide +kernel)⟩,
   ⟨State.reset, _, 0, _, rfl, rfl, (by decide +kernel)⟩,
   ⟨State.reset, _, 0, _, rfl, rfl, (by decide +kernel)⟩,
   ⟨{ State.reset with fascia := { update := some { fascia0 with phase := 0 } } }, _, 0, _, _, rfl, rfl, rfl,
     (by decide +kernel)⟩,
   ⟨{ on with fascia := { update := some { fascia0 with phase := 4, left := 1, resetLeft := false } } }, _, 0, _, _,
     _, rfl, rfl, rfl, (by decide +kernel), (by decide +kernel), (by decide +kernel), rfl, (by decide +kernel)⟩,
   ⟨{ on with fascia := { update := some { fascia0 with phase := 0, shown := false } } }, _, 0, _, _, _, rfl, rfl,
     rfl, (by decide +kernel), (by decide +kernel), (by decide +kernel), rfl, (by decide +kernel)⟩,
   ⟨State.reset, _, 0, _, rfl, rfl, (by decide +kernel), (by decide +kernel), (by decide +kernel),
     (by decide +kernel)⟩,
   ⟨on, _, 0, _, _, rfl, rfl, (by decide +kernel), rfl, (by decide +kernel)⟩,
   ⟨(put { on with wake := { ring := [{ type := 1, len := 0, seq := 0, ns := 0, payload := [] }] } } F.EXPORT_SEL 1),
     _, 0, _, _, _, _, rfl, rfl, (by decide +kernel), rfl, rfl, (by decide +kernel), (by decide +kernel)⟩⟩

theorem witness_StartAndResetEvents :
    (∃ (s a : State) (t : Cyc), ∃ r, ∃ cmd : Instr, cmd = .resetRelease t r ∧ a = s.at t ∧ a.releasable = false) ∧
    (∃ (s a : State) (t : Cyc), ∃ r, ∃ u, ∃ cmd : Instr, cmd = .resetRelease t r ∧ a = s.at t ∧ a.releasable = true ∧
      u = a.takeSecurity) ∧
    (∃ (s a : State) (t : Cyc), ∃ c, ∃ cmd : Instr, cmd = .resetAssert t c ∧ a = s.at t ∧ (a.start.phase = .unpowered
      ∨ a.start.phase = .shuttingDown ∨ a.start.phase = .halted)) ∧
    (∃ (s a : State) (t : Cyc), ∃ cmd : Instr, cmd = .resetAssert t .pin ∧ a = s.at t ∧ a.start.phase = .held) ∧
    (∃ (s a : State) (t : Cyc), ∃ cmd : Instr, cmd = .resetAssert t .brownOut ∧ a = s.at t ∧ a.start.phase = .held) ∧
    (∃ (s a : State) (t : Cyc), ∃ cmd : Instr, cmd = .resetAssert t .pin ∧ a = s.at t ∧ a.start.phase ≠ .unpowered ∧
      a.start.phase ≠ .shuttingDown ∧ a.start.phase ≠ .halted ∧ a.start.phase ≠ .held) ∧
    (∃ (s a : State) (t : Cyc), ∃ cmd : Instr, cmd = .resetAssert t .brownOut ∧ a = s.at t ∧ a.start.phase ≠
      .unpowered ∧ a.start.phase ≠ .shuttingDown ∧ a.start.phase ≠ .halted ∧ a.start.phase ≠ .held) ∧
    (∃ (s a : State) (t : Cyc), ∃ u, ∃ cmd : Instr, cmd = .supplyRemoved t ∧ a = s.at t ∧ u = a.tear.intoReset 0 0) ∧
    (∃ (s a : State) (t : Cyc), ∃ cmd : Instr, cmd = .restartReset t ∧ a = s.at t ∧ (a.start.phase = .restarting ∧
      a.power.rails.all (fun r => !r.enable) = true ∧ a.start.restartAt + msCyc 20 ≤ a.time.cyc)) ∧
    (∃ (s a : State) (t : Cyc), ∃ cmd : Instr, cmd = .restartReset t ∧ a = s.at t ∧ ¬ (a.start.phase = .restarting ∧
      a.power.rails.all (fun r => !r.enable) = true ∧ a.start.restartAt + msCyc 20 ≤ a.time.cyc)) ∧
    (∃ (s a : State) (t : Cyc), ∃ r, ∃ f, ∃ cmd : Instr, cmd = .sramTestDone t r f ∧ a = s.at t ∧ (a.start.phase =
      .rom)) ∧
    (∃ (s a : State) (t : Cyc), ∃ r, ∃ f, ∃ cmd : Instr, cmd = .sramTestDone t r f ∧ a = s.at t ∧ ¬ (a.start.phase =
      .rom)) ∧
    (∃ (s a : State) (t : Cyc), ∃ cmd : Instr, cmd = .recoveryPresenceSample t ∧ a = s.at t ∧ ((a.start.phase = .rom ∨
      a.start.phase = .bridge) ∧ a.start.recoverLow = true ∧ a.start.sampled = false ∧ a.time.releaseCyc + msCyc 20 ≤
      a.time.cyc)) ∧
    (∃ (s a : State) (t : Cyc), ∃ cmd : Instr, cmd = .recoveryPresenceSample t ∧ a = s.at t ∧ ¬ ((a.start.phase = .rom
      ∨ a.start.phase = .bridge) ∧ a.start.recoverLow = true ∧ a.start.sampled = false ∧ a.time.releaseCyc + msCyc 20
      ≤ a.time.cyc)) ∧
    (∃ (s a : State) (t : Cyc), ∃ k, ∃ cmd : Instr, cmd = .slotCheckDone t ∧ a = s.at t ∧ a.start.phase = .bridge ∧
      a.nvm.queue = [] ∧ a.nvm.bootSlot = some k) ∧
    (∃ (s a : State) (t : Cyc), ∃ cmd : Instr, cmd = .slotCheckDone t ∧ a = s.at t ∧ a.start.phase = .bridge ∧
      (a.nvm.queue ≠ [] ∨ a.nvm.bootSlot = none)) ∧
    (∃ (s a : State) (t : Cyc), ∃ cmd : Instr, cmd = .slotCheckDone t ∧ a = s.at t ∧ a.start.phase ≠ .bridge ∧
      a.serving = true ∧ a.nvm.phase = .booting ∧ (a.slot a.otherSlot).state = .trial) ∧
    (∃ (s a : State) (t : Cyc), ∃ cmd : Instr, cmd = .slotCheckDone t ∧ a = s.at t ∧ a.start.phase ≠ .bridge ∧ ¬
      (a.serving = true ∧ a.nvm.phase = .booting ∧ (a.slot a.otherSlot).state = .trial)) ∧
    (∃ (s a : State) (t : Cyc), ∃ cmd : Instr, cmd = .pilotBootDone t ∧ a = s.at t ∧ (a.start.phase ≠ .pilotBoot ∨
      a.nvm.queue.any (fun x => x.purpose == .migration) = true)) ∧
    (∃ (s a : State) (t : Cyc), ∃ u, ∃ cmd : Instr, cmd = .pilotBootDone t ∧ a = s.at t ∧ a.start.phase = .pilotBoot ∧
      a.nvm.queue.any (fun x => x.purpose == .migration) = false ∧ u = a.readMram.startMigration) :=
  ⟨⟨on, _, 0, false, _, rfl, rfl, (by decide +kernel)⟩,
   ⟨State.reset, _, 0, false, _, _, rfl, rfl, (by decide +kernel), rfl⟩,
   ⟨{ State.reset with start := { phase := .halted } }, _, 0, .pin, _, rfl, rfl, (by decide +kernel)⟩,
   ⟨State.reset, _, 0, _, rfl, rfl, (by decide +kernel)⟩,
   ⟨State.reset, _, 0, _, rfl, rfl, (by decide +kernel)⟩,
   ⟨on, _, 0, _, rfl, rfl, (by decide +kernel), (by decide +kernel), (by decide +kernel), (by decide +kernel)⟩,
   ⟨on, _, 0, _, rfl, rfl, (by decide +kernel), (by decide +kernel), (by decide +kernel), (by decide +kernel)⟩,
   ⟨State.reset, _, 0, _, _, rfl, rfl, rfl⟩,
   ⟨{ on with start := { phase := .restarting } }, _, 0, _, rfl, rfl, (by decide +kernel)⟩,
   ⟨State.reset, _, 0, _, rfl, rfl, (by decide +kernel)⟩,
   ⟨{ State.reset with start := { State.reset.start with phase := .rom } }, _, 0, false, false, _, rfl, rfl,
     (by decide +kernel)⟩,
   ⟨State.reset, _, 0, false, false, _, rfl, rfl, (by decide +kernel)⟩,
   ⟨{ on with start := { phase := .rom, recoverLow := true } }, _, 0, _, rfl, rfl, (by decide +kernel)⟩,
   ⟨State.reset, _, 0, _, rfl, rfl, (by decide +kernel)⟩,
   ⟨{ State.reset with start := { phase := .bridge }, nvm := { bootSlot := some 0 } }, _, 0, _, _, rfl, rfl,
     (by decide +kernel), (by decide +kernel), rfl⟩,
   ⟨{ State.reset with start := { phase := .bridge } }, _, 0, _, rfl, rfl, (by decide +kernel), (by decide +kernel)⟩,
   ⟨{ on with nvm := { phase := .booting }, mram := { slotB := { state := .trial } } }, _, 0, _, rfl, rfl,
     (by decide +kernel), (by decide +kernel), (by decide +kernel), (by decide +kernel)⟩,
   ⟨State.reset, _, 0, _, rfl, rfl, (by decide +kernel), (by decide +kernel)⟩,
   ⟨State.reset, _, 0, _, rfl, rfl, (by decide +kernel)⟩,
   ⟨{ State.reset with start := { phase := .pilotBoot } }, _, 0, _, _, rfl, rfl, (by decide +kernel),
     (by decide +kernel), rfl⟩⟩

theorem witness_RecoveryEvents :
    (∃ (s a : State) (t : Cyc), ∃ ip, ∃ port, ∃ n, ∃ m, ∃ z, ∃ cmd : Instr, cmd = .tftpWriteRequest t ip port n m z ∧
      a = s.at t ∧ a.recovering = false) ∧
    (∃ (s a : State) (t : Cyc), ∃ ip, ∃ port, ∃ n, ∃ m, ∃ z, ∃ cmd : Instr, cmd = .tftpWriteRequest t ip port n m z ∧
      a = s.at t ∧ a.recovering = true ∧ tftpSlot n = none) ∧
    (∃ (s a : State) (t : Cyc), ∃ ip, ∃ port, ∃ n, ∃ m, ∃ z, ∃ k, ∃ cmd : Instr, cmd = .tftpWriteRequest t ip port n m
      z ∧ a = s.at t ∧ a.recovering = true ∧ tftpSlot n = some k ∧ (isOctet m = false ∨ a.tftpBusy ip port = true)) ∧
    (∃ (s a : State) (t : Cyc), ∃ ip, ∃ port, ∃ n, ∃ m, ∃ z, ∃ k, ∃ x, ∃ cmd : Instr, cmd = .tftpWriteRequest t ip
      port n m z ∧ a = s.at t ∧ a.recovering = true ∧ tftpSlot n = some k ∧ isOctet m = true ∧ a.tftpBusy ip port =
      false ∧ x = z.filter (fun j => decide (512 ≤ j ∧ j ≤ 1428))) ∧
    (∃ (s a : State) (t : Cyc), ∃ ip, ∃ port, ∃ b, ∃ d, ∃ cmd : Instr, cmd = .tftpDataBlock t ip port b d ∧ a = s.at t
      ∧ a.recovering = false) ∧
    (∃ (s a : State) (t : Cyc), ∃ ip, ∃ port, ∃ b, ∃ d, ∃ cmd : Instr, cmd = .tftpDataBlock t ip port b d ∧ a = s.at t
      ∧ a.recovering = true ∧ a.start.tftp = none) ∧
    (∃ (s a : State) (t : Cyc), ∃ ip, ∃ port, ∃ b, ∃ d, ∃ i, ∃ q, ∃ k, ∃ z, ∃ n, ∃ cmd : Instr, cmd = .tftpDataBlock t
      ip port b d ∧ a = s.at t ∧ a.recovering = true ∧ a.start.tftp = some (i, q, k, z, n) ∧ (i ≠ ip ∨ q ≠ port)) ∧
    (∃ (s a : State) (t : Cyc), ∃ ip, ∃ port, ∃ b, ∃ d, ∃ k, ∃ z, ∃ n, ∃ cmd : Instr, cmd = .tftpDataBlock t ip port b
      d ∧ a = s.at t ∧ a.recovering = true ∧ a.start.tftp = some (ip, port, k, z, n) ∧ (a.start.recSlot.isSome = true
      ∨ z < d.length)) ∧
    (∃ (s a : State) (t : Cyc), ∃ ip, ∃ port, ∃ b, ∃ d, ∃ k, ∃ z, ∃ n, ∃ cmd : Instr, cmd = .tftpDataBlock t ip port b
      d ∧ a = s.at t ∧ a.recovering = true ∧ a.start.tftp = some (ip, port, k, z, n) ∧ a.start.recSlot = none ∧
      d.length ≤ z ∧ b = n % 65536) ∧
    (∃ (s a : State) (t : Cyc), ∃ ip, ∃ port, ∃ b, ∃ d, ∃ k, ∃ z, ∃ n, ∃ cmd : Instr, cmd = .tftpDataBlock t ip port b
      d ∧ a = s.at t ∧ a.recovering = true ∧ a.start.tftp = some (ip, port, k, z, n) ∧ a.start.recSlot = none ∧
      d.length ≤ z ∧ b ≠ n % 65536 ∧ 2 ≤ n ∧ b = (n - 1) % 65536) ∧
    (∃ (s a : State) (t : Cyc), ∃ ip, ∃ port, ∃ b, ∃ d, ∃ k, ∃ z, ∃ n, ∃ cmd : Instr, cmd = .tftpDataBlock t ip port b
      d ∧ a = s.at t ∧ a.recovering = true ∧ a.start.tftp = some (ip, port, k, z, n) ∧ b ≠ n % 65536 ∧ ¬ (2 ≤ n ∧ b =
      (n - 1) % 65536)) ∧
    (∃ (s a : State) (t : Cyc), ∃ k, ∃ o, ∃ d, ∃ cmd : Instr, cmd = .recoverySpiWrite t k o d ∧ a = s.at t ∧
      (a.recovering = true ∧ a.start.recSlot = none)) ∧
    (∃ (s a : State) (t : Cyc), ∃ k, ∃ o, ∃ d, ∃ cmd : Instr, cmd = .recoverySpiWrite t k o d ∧ a = s.at t ∧ ¬
      (a.recovering = true ∧ a.start.recSlot = none)) ∧
    (∃ (s a : State) (t : Cyc), ∃ cmd : Instr, cmd = .recoverySpiStatus t ∧ a = s.at t ∧ (a.start.phase = .recovery)) ∧
    (∃ (s a : State) (t : Cyc), ∃ cmd : Instr, cmd = .recoverySpiStatus t ∧ a = s.at t ∧ ¬ (a.start.phase =
      .recovery)) ∧
    (∃ (s a : State) (t : Cyc), ∃ k, ∃ z, ∃ cmd : Instr, cmd = .recoverySpiFinish t k z ∧ a = s.at t ∧ (a.recovering =
      true ∧ a.start.recSlot = none)) ∧
    (∃ (s a : State) (t : Cyc), ∃ k, ∃ z, ∃ cmd : Instr, cmd = .recoverySpiFinish t k z ∧ a = s.at t ∧ ¬ (a.recovering
      = true ∧ a.start.recSlot = none)) ∧
    (∃ (s a : State) (t : Cyc), ∃ cmd : Instr, cmd = .recoveryVerifyDone t ∧ a = s.at t ∧ (a.start.recSlot = none ∨
      a.recovering = false)) ∧
    (∃ (s a : State) (t : Cyc), ∃ k, ∃ z, ∃ r, ∃ u, ∃ v, ∃ w, ∃ cmd : Instr, cmd = .recoveryVerifyDone t ∧ a = s.at t
      ∧ a.start.recSlot = some (k, z) ∧ a.recovering = true ∧ r = a.verified k z ∧ u = (if r = 3 then a.setSlot k
      .valid else if r = 6 then a else a.setSlot k .invalid) ∧ v = { u with
      start := { u.start with recSlot := none, rstate := r }, gw := { u.gw with irqN := false } } ∧ w = (if
      v.start.tftpLast then v.tftpVerified r else v)) :=
  ⟨⟨State.reset, _, 0, 0, 0, [], [], none, _, rfl, rfl, (by decide +kernel)⟩,
   ⟨{ State.reset with start := { phase := .recovery, tftp := none } }, _, 0, 0, 0, [], [], none, _, rfl, rfl,
     (by decide +kernel), (by decide +kernel)⟩,
   ⟨{ State.reset with start := { phase := .recovery, tftp := none } }, _, 0, 0, 0, (textBytes "slot-a"), [], none, 0,
     _, rfl, rfl, (by decide +kernel), (by decide +kernel), (by decide +kernel)⟩,
   ⟨{ State.reset with start := { phase := .recovery, tftp := none } }, _, 0, 0, 0, (textBytes "slot-a"), (textBytes
     "octet"), none, 0, _, _, rfl, rfl, (by decide +kernel), (by decide +kernel), (by decide +kernel),
     (by decide +kernel), rfl⟩,
   ⟨State.reset, _, 0, 0, 0, 0, [], _, rfl, rfl, (by decide +kernel)⟩,
   ⟨{ State.reset with start := { phase := .recovery, tftp := none } }, _, 0, 0, 0, 0, [], _, rfl, rfl,
     (by decide +kernel), (by decide +kernel)⟩,
   ⟨{ State.reset with start := { phase := .recovery, tftp := some (1, 1, 0, 512, 1) } }, _, 0, 2, 1, 0, [], _, _, _,
     _, _, _, rfl, rfl, (by decide +kernel), rfl, (by decide +kernel)⟩,
   ⟨{ State.reset with start := { phase := .recovery, tftp := some (1, 1, 0, 0, 1) } }, _, 0, 1, 1, 0, [1], _, _, _,
     _, rfl, rfl, (by decide +kernel), rfl, (by decide +kernel)⟩,
   ⟨{ State.reset with start := { phase := .recovery, tftp := some (1, 1, 0, 512, 1) } }, _, 0, 1, 1, 1, [], _, _, _,
     _, rfl, rfl, (by decide +kernel), rfl, (by decide +kernel), (by decide +kernel), (by decide +kernel)⟩,
   ⟨{ State.reset with start := { phase := .recovery, tftp := some (1, 1, 0, 512, 2) } }, _, 0, 1, 1, 1, [], _, _, _,
     _, rfl, rfl, (by decide +kernel), rfl, (by decide +kernel), (by decide +kernel), (by decide +kernel),
     (by decide +kernel), (by decide +kernel)⟩,
   ⟨{ State.reset with start := { phase := .recovery, tftp := some (1, 1, 0, 512, 5) } }, _, 0, 1, 1, 9, [], _, _, _,
     _, rfl, rfl, (by decide +kernel), rfl, (by decide +kernel), (by decide +kernel)⟩,
   ⟨{ State.reset with start := { phase := .recovery, tftp := none } }, _, 0, 0, 0, [], _, rfl, rfl,
     (by decide +kernel)⟩,
   ⟨State.reset, _, 0, 0, 0, [], _, rfl, rfl, (by decide +kernel)⟩,
   ⟨{ State.reset with start := { phase := .recovery, tftp := none } }, _, 0, _, rfl, rfl, (by decide +kernel)⟩,
   ⟨State.reset, _, 0, _, rfl, rfl, (by decide +kernel)⟩,
   ⟨{ State.reset with start := { phase := .recovery, tftp := none } }, _, 0, 0, 0, _, rfl, rfl, (by decide +kernel)⟩,
   ⟨State.reset, _, 0, 0, 0, _, rfl, rfl, (by decide +kernel)⟩,
   ⟨State.reset, _, 0, _, rfl, rfl, (by decide +kernel)⟩,
   ⟨{ State.reset with start := { phase := .recovery, tftp := none, recSlot := some (0, 0) } }, _, 0, _, _, _, _, _,
     _, _, rfl, rfl, rfl, (by decide +kernel), rfl, rfl, rfl, rfl⟩⟩


/-! ## Witnesses of the general statements -/

theorem reset_inv : State.reset.Inv := by
  constructor
  · unfold State.buffersWf
    decide +kernel
  · unfold State.eventsBounded
    decide +kernel
  · intro p hp
    cases hp
  · unfold State.fifosBounded
    decide +kernel

theorem witness_AStepTakesExactlyTheFrontCommand :
    (∃ s t : State, s.pending ≠ [] ∧ step s = .next t) ∧ ∃ s : State, s.pending = [] :=
  ⟨⟨{ on with pending := [.quaySpill 0] }, _, by decide, rfl⟩, State.reset, rfl⟩

theorem witness_TimeNeverRunsBack : ∃ s t : State, s.time.cyc < t.time.cyc ∧ step s = .next t :=
  ⟨{ State.reset with pending := [.quaySpill 7] }, _, by decide +kernel, rfl⟩

theorem witness_EveryStepKeepsTheInvariant : ∃ s t : State, s.Inv ∧ s.pending ≠ [] ∧ step s = .next t :=
  ⟨{ State.reset with pending := [.quaySpill 7] }, _, ⟨reset_inv.buffers, reset_inv.events, reset_inv.tallies, reset_inv.fifos⟩,
    by decide, rfl⟩

/-- A Quay with no room for a command. -/
def fullQuay : State :=
  { addressed with ingest := { quay := [{ d := { dg 0 0 with ipLen := 9000000 }, offset := 0, port := 0 }] } }

theorem witness_CommandsDiscardedBeforeTheirSession :
    (∃ (s : State) (p : Packet), (cardPair, .pair p) ∈ commandRows p ∧ (s.heard p).front p = .silent) ∧
    (∃ (s : State) (p : Packet), (cardPair, .pair p) ∈ commandRows p ∧ (s.heard p).front p = .port) ∧
    (∃ (s : State) (p : Packet), (cardPair, .pair p) ∈ commandRows p ∧ (s.heard p).front p = .quay) ∧
    (∃ (s : State) (p : Packet), (cardPair, .pair p) ∈ commandRows p ∧ (s.heard p).front p = .framing) ∧
    (∃ (s : State) (p : Packet), (cardPair, .pair p) ∈ commandRows p ∧ (s.heard p).front p = .pass ∧ headerOk p = false) ∧
    (∃ (s : State) (p : Packet), (cardPair, .pair p) ∈ commandRows p ∧ (s.heard p).front p = .pass ∧ headerOk p = true ∧
      p.crc.toNat ≠ commandCrc cardPair.opcode p) :=
  ⟨⟨State.reset, spi cardPair [], .head _, by decide +kernel⟩,
   ⟨addressed, packet 0x0101 (.udp 9 9 9 9 false false false) 0 [], .head _, by decide +kernel⟩,
   ⟨fullQuay, udp cardPair [], .head _, by decide +kernel⟩,
   ⟨on, packet 0x0101 (.spi false) 0 [], .head _, by decide +kernel⟩,
   ⟨on, { spi cardPair [] with magic := 0 }, .head _, by decide +kernel, by decide +kernel⟩,
   ⟨on, { spi cardPair [] with crc := 0 }, .head _, by decide +kernel, by decide +kernel, by decide +kernel⟩⟩

/-- The same with a hundred session-less replies in this second (R404). -/
def answeredOut (s : State) : State := { s with gw := { s.gw with unauthAt := List.replicate 100 s.time.cyc } }

theorem witness_CommandsWithoutASessionAreRefused :
    (∃ (s : State) (p : Packet) (k : Card) (i : Instr), (k, i) ∈ commandRows p ∧ (s.heard p).front p = .pass ∧
      headerOk p = true ∧ p.crc.toNat = commandCrc k.opcode p ∧ ¬ (p.token = 0 ∧ (k.opcode = 0x0101 ∨ k.opcode = 0x0105)) ∧
      (s.heard p).slotOf p.token.toNat p.spi = none ∧ (s.heard p).unauthRoom = true) ∧
    (∃ (s : State) (p : Packet) (k : Card) (i : Instr), (k, i) ∈ commandRows p ∧ (s.heard p).front p = .pass ∧
      headerOk p = true ∧ p.crc.toNat = commandCrc k.opcode p ∧ ¬ (p.token = 0 ∧ (k.opcode = 0x0101 ∨ k.opcode = 0x0105)) ∧
      (s.heard p).slotOf p.token.toNat p.spi = none ∧ (s.heard p).unauthRoom = false) ∧
    (∃ (s : State) (p : Packet) (k : Card) (i : Instr), (k, i) ∈ commandRows p ∧ (s.heard p).front p = .pass ∧
      headerOk p = true ∧ p.crc.toNat = commandCrc k.opcode p ∧ p.token = 0 ∧ (k.opcode = 0x0101 ∨ k.opcode = 0x0105) ∧
      (s.heard p).berthRoom p.spi = true ∧ (s.heard p).nvm.interpreting = true ∧ (s.heard p).nvm.held = none ∧
      (s.heard p).unauthRoom = false) :=
  ⟨⟨on, spi cardPair [], _, _, .head _, by decide +kernel, by decide +kernel, packet_crc .., by decide +kernel,
     by decide +kernel, by decide +kernel⟩,
   ⟨answeredOut on, spi cardPair [], _, _, .head _, by decide +kernel, by decide +kernel, packet_crc .., by decide +kernel,
     by decide +kernel, by decide +kernel⟩,
   ⟨answeredOut on, packet 0x0101 (.spi true) 0 [], _, _, .head _, by decide +kernel, by decide +kernel, packet_crc ..,
     by decide +kernel, .inl rfl, by decide +kernel, by decide +kernel, by decide +kernel, by decide +kernel⟩⟩

/-- A device whose session 15 has taken the packet before, with the reply kept, awaited, or no longer kept. -/
def heardBefore (kept : List Kept) : State :=
  let e : Session := { paired := true, fresh := false, lastSeq := 1, kept := kept }
  { on with gw := { sessions := List.replicate 16 e } }
def again : Packet := packet 0xFFFF (.spi true) 15 []
def keptAs (r : Option (List Byte)) : Kept := { seq := 1, length := 20, crc := again.crc, reply := r }

theorem witness_RetransmissionsAreNotExecutedAgain :
    (∃ (s : State) (p : Packet) (n : Nat) (op : BitVec 16) (i : Instr) (x : Kept) (bs : List Byte), i = .unassignedOpcode op p ∧
      s.Known op.toNat p n ∧ ((s.heard p).sess n).fresh = false ∧ newer8 p.seq.toNat ((s.heard p).sess n).lastSeq = false ∧
      ((s.heard p).sess n).kept.find? (fun x => x.seq == p.seq.toNat && x.length == p.length.toNat && x.crc == p.crc) = some x ∧
      x.reply = some bs) ∧
    (∃ (s : State) (p : Packet) (n : Nat) (op : BitVec 16) (i : Instr) (x : Kept), i = .unassignedOpcode op p ∧
      s.Known op.toNat p n ∧ ((s.heard p).sess n).fresh = false ∧ newer8 p.seq.toNat ((s.heard p).sess n).lastSeq = false ∧
      ((s.heard p).sess n).kept.find? (fun x => x.seq == p.seq.toNat && x.length == p.length.toNat && x.crc == p.crc) = some x ∧
      x.reply = none) ∧
    (∃ (s : State) (p : Packet) (n : Nat) (op : BitVec 16) (i : Instr), i = .gangwayRetransmission op p ∧
      s.Known op.toNat p n ∧ ((s.heard p).sess n).fresh = false ∧ newer8 p.seq.toNat ((s.heard p).sess n).lastSeq = false ∧
      ((s.heard p).sess n).kept.find? (fun x => x.seq == p.seq.toNat && x.length == p.length.toNat && x.crc == p.crc) = none) :=
  ⟨⟨heardBefore [keptAs (some [7])], again, 15, 0xFFFF, _, keptAs (some [7]), [7], rfl, known_of _ _ _ _ (packet_crc ..)
      (by decide +kernel), by decide +kernel, by decide +kernel, by decide +kernel, rfl⟩,
   ⟨heardBefore [keptAs none], again, 15, 0xFFFF, _, keptAs none, rfl, known_of _ _ _ _ (packet_crc ..)
      (by decide +kernel), by decide +kernel, by decide +kernel, by decide +kernel, rfl⟩,
   ⟨heardBefore [], again, 15, 0xFFFF, _, rfl, known_of _ _ _ _ (packet_crc ..)
      (by decide +kernel), by decide +kernel, by decide +kernel, by decide +kernel⟩⟩

/-- A packet of session `n` that is new reaches step 6 of R403. -/
def Reaches (s : State) (op : Nat) (p : Packet) (n : Nat) : Prop :=
  s.Known op p n ∧ (((s.heard p).sess n).fresh = true ∨ newer8 p.seq.toNat ((s.heard p).sess n).lastSeq = true) ∧
  (s.heard p).berthRoom p.spi = true ∧ (s.heard p).nvm.interpreting = true ∧ (s.heard p).nvm.held = none

theorem reaches_of (s : State) (op : Nat) (p : Packet) (n : Nat) (c : p.crc.toNat = commandCrc op p)
    (h : (known s p n && (((s.heard p).sess n).fresh || newer8 p.seq.toNat ((s.heard p).sess n).lastSeq) &&
      (s.heard p).berthRoom p.spi && (s.heard p).nvm.interpreting && decide ((s.heard p).nvm.held = none)) = true) :
    Reaches s op p n := by
  simp only [Bool.and_eq_true, Bool.or_eq_true, decide_eq_true_eq] at h
  obtain ⟨⟨⟨⟨a, b⟩, d⟩, e⟩, f⟩ := h
  exact ⟨known_of _ _ _ _ c a, b, d, e, f⟩

theorem witness_RefusedCommandsOnlyAnswerTheirStatus :
    (∃ (s : State) (p : Packet) (n : Nat) (k : Card) (i : Instr) (st : Nat), (k, i) ∈ commandRows p ∧ Reaches s k.opcode p n ∧
      (s.served p n).verdict (some k) (s.senderOf p n) p.payload = st ∧ st ≠ Status.OK) ∧
    (∃ (s : State) (p : Packet) (n : Nat) (op : BitVec 16), Reaches s op.toNat p n) ∧
    (∃ (p : Packet) (k : Card) (i : Instr), (k, i) ∈ commandRows p) :=
  ⟨⟨host, spi cardPair [], 15, _, _, Status.BAD_LENGTH, .head _, reaches_of _ _ _ _ (packet_crc ..) (by decide +kernel),
     by decide +kernel, by decide⟩,
   ⟨host, again, 15, 0xFFFF, reaches_of _ _ _ _ (packet_crc ..) (by decide +kernel)⟩,
   ⟨again, _, _, .head _⟩⟩

/-- The device whose session 15 has 32 commands outstanding. -/
def busyHost : State :=
  { host with gw := { host.gw with sessions := List.replicate 16 { paired := true, outstanding := (List.range 32).map (· + 2) } } }

theorem witness_RefusalsComeInTheOrderOfTheirSteps :
    (∃ (s : State) (p : Packet) (n : Nat) (k : Card) (i : Instr), (k, i) ∈ commandRows p ∧ Reaches s k.opcode p n ∧
      k.lenOk p.payload = false) ∧
    (∃ (s x : State) (p : Packet) (n : Nat) (c : Caller) (k : Card) (i : Instr), x = s.served p n ∧ c = s.senderOf p n ∧
      (k, i) ∈ commandRows p ∧ Reaches s k.opcode p n ∧ k.lenOk p.payload = true ∧
      presenceOf c.key c.sealOpen < k.presence x c p.payload) ∧
    (∃ (s x : State) (p : Packet) (n : Nat) (c : Caller) (k : Card) (i : Instr) (id w off : Nat), x = s.served p n ∧
      c = s.senderOf p n ∧ (k, i) ∈ commandRows p ∧ Reaches s k.opcode p n ∧
      (k, id, w, off) ∈ [(cardIngestConfigure, 0x1100, 9, 0), (cardCodecConfigure, 0x1200, 1, 0)] ∧ k.lenOk p.payload = true ∧
      k.presence x c p.payload ≤ presenceOf c.key c.sealOpen ∧ k.params x c p.payload = false ∧
      badBits ((objWords id).getD []) (toWords w (p.payload.drop off)) = true) ∧
    (∃ (s x : State) (p : Packet) (n : Nat) (c : Caller) (k : Card) (i : Instr), x = s.served p n ∧ c = s.senderOf p n ∧
      (k, i) ∈ commandRows p ∧ Reaches s k.opcode p n ∧ k.lenOk p.payload = true ∧
      k.presence x c p.payload ≤ presenceOf c.key c.sealOpen ∧ k.params x c p.payload = true ∧ k.deferred = true ∧
      tagOk (x.sess n) p.tag.toNat = true ∧ 32 ≤ (x.sess n).outstanding.length) ∧
    (∃ (s x : State) (p : Packet) (n : Nat) (c : Caller) (k : Card) (i : Instr), x = s.served p n ∧ c = s.senderOf p n ∧
      (k, i) ∈ commandRows p ∧ Reaches s k.opcode p n ∧ k.lenOk p.payload = true ∧
      k.presence x c p.payload ≤ presenceOf c.key c.sealOpen ∧ k.params x c p.payload = true ∧
      (k.deferred = true → tagOk (x.sess n) p.tag.toNat = true ∧ (x.sess n).outstanding.length < 32) ∧
      k.judge x c p.payload = Status.BUSY) ∧
    (∃ (s : State) (p : Packet) (n : Nat), Reaches s 0x0A02 p n ∧ p.payload.length = 4 ∧ num p.payload 0 2 ≠ 0 ∧
      objWords (num p.payload 0 2) = none) :=
  ⟨⟨host, spi cardPair [], 15, _, _, .head _, reaches_of _ _ _ _ (packet_crc ..) (by decide +kernel), by decide +kernel⟩,
   ⟨{ host with gw := { host.gw with key := false, sealOpen := false } }, _, spi cardSettingsErase [], 15, _, _, _, rfl, rfl,
     List.mem_of_getElem? (i := 49) rfl, reaches_of _ _ _ _ (packet_crc ..) (by decide +kernel), by decide +kernel,
     by decide +kernel⟩,
   ⟨host, _, spi cardCodecConfigure [255, 255, 255, 255], 15, _, _, _, 0x1200, 1, 0, rfl, rfl,
     List.mem_of_getElem? (i := 12) rfl, reaches_of _ _ _ _ (packet_crc ..) (by decide +kernel), .tail _ (.head _),
     by decide +kernel, by decide +kernel, by decide +kernel, by decide +kernel⟩,
   ⟨busyHost, _, spi cardStore [], 15, _, _, _, rfl, rfl, List.mem_of_getElem? (i := 47) rfl,
     reaches_of _ _ _ _ (packet_crc ..) (by decide +kernel), by decide +kernel, by decide +kernel, by decide +kernel, rfl,
     by decide +kernel, by decide +kernel⟩,
   ⟨{ host with nvm := { host.nvm with tokens := 0 } }, _, spi cardStore [], 15, _, _, _, rfl, rfl,
     List.mem_of_getElem? (i := 47) rfl, reaches_of _ _ _ _ (packet_crc ..) (by decide +kernel), by decide +kernel,
     by decide +kernel, by decide +kernel, fun _ => by decide +kernel, by decide +kernel⟩,
   ⟨host, spi cardSettingsRevert [1, 0, 0, 0], 15, reaches_of _ _ _ _ (packet_crc ..) (by decide +kernel), by decide +kernel,
     by decide +kernel, by decide +kernel⟩⟩

/-- A device whose command berths hold as much as they may. -/
def fullBerths : State :=
  let w : Waiting := { opcode := 0, slot := none, key := false, sealOpen := false, packet := packet 0 (.spi true) 0 [] }
  { host with gw := { host.gw with waiting := List.replicate 4096 w } }

/-- The device while the record of a PAIR is written. -/
def heldHost : State :=
  { host with nvm := { host.nvm with held := some ({ opcode := 0x0101, slot := none, key := false, sealOpen := false, packet := again }, []) } }

theorem witness_CommandsWaitForThePilot :
    (∃ (s : State) (p : Packet) (n : Nat) (k : Card) (i : Instr), (k, i) ∈ commandRows p ∧ k.opcode ≠ overlayCommitOpcode ∧
      s.Known k.opcode p n ∧ (((s.heard p).sess n).fresh = true ∨ newer8 p.seq.toNat ((s.heard p).sess n).lastSeq = true) ∧
      (s.heard p).berthRoom p.spi = true ∧ (s.heard p).nvm.interpreting = false) ∧
    (∃ (s : State) (p : Packet) (n : Nat) (k : Card) (i : Instr), (k, i) ∈ commandRows p ∧ k.opcode ≠ overlayCommitOpcode ∧
      s.Known k.opcode p n ∧ (((s.heard p).sess n).fresh = true ∨ newer8 p.seq.toNat ((s.heard p).sess n).lastSeq = true) ∧
      (s.heard p).berthRoom p.spi = true ∧ (s.heard p).nvm.held.isSome = true) ∧
    (∃ (s : State) (p : Packet) (n : Nat) (k : Card) (i : Instr), (k, i) ∈ commandRows p ∧ k.opcode ≠ overlayCommitOpcode ∧
      s.Known k.opcode p n ∧ (((s.heard p).sess n).fresh = true ∨ newer8 p.seq.toNat ((s.heard p).sess n).lastSeq = true) ∧
      (s.heard p).berthRoom p.spi = false) :=
  ⟨⟨{ host with nvm := {} }, spi cardPair [], 15, _, _, .head _, by decide, known_of _ _ _ _ (packet_crc ..) (by decide +kernel),
     by decide +kernel, by decide +kernel, by decide +kernel⟩,
   ⟨heldHost, spi cardPair [], 15, _, _, .head _, by decide, known_of _ _ _ _ (packet_crc ..) (by decide +kernel),
     by decide +kernel, by decide +kernel, by decide +kernel⟩,
   ⟨fullBerths, spi cardPair [], 15, _, _, .head _, by decide, known_of _ _ _ _ (packet_crc ..) (by decide +kernel),
     by decide +kernel, by decide +kernel⟩⟩

theorem witness_SerialArithmeticOrdersFrameIds :
    (∃ a b k : Nat, a < 2 ^ 32 ∧ b < 2 ^ 32 ∧ newer32 a b = false ∧ newer32 b a = false ∧ a ≠ b ∧ 1 ≤ k ∧ k ≤ 2147483647) :=
  ⟨2 ^ 31, 0, 2147483647, by decide⟩

theorem witness_StoreTokensPaceTheStores :
    (∃ (s a : State) (t : Cyc), a = s.at t ∧ a.serving = true) ∧
    (∃ s : State, s.inWindow = true ∧ s.isDirty = true) ∧ (∃ s : State, s.inWindow = true ∧ s.isDirty = false) ∧
    (∃ (x : Txn) (owner tag k : Nat), x.purpose = .store owner tag k ∧ x.wrote = false) ∧
    (∃ (s : State) (p : Packet) (n : Nat), Reaches s 0x0A01 p n ∧ p.payload = [] ∧
      cardStore.presence (s.served p n) (s.senderOf p n) [] ≤ presenceOf (s.senderOf p n).key (s.senderOf p n).sealOpen ∧
      tagOk ((s.served p n).sess n) p.tag.toNat = true ∧ ((s.served p n).sess n).outstanding.length < 32 ∧
      (s.heard p).nvm.tokens = 0) ∧
    (∃ s : State, s.nvm.tokens ≤ 8) :=
  ⟨⟨on, _, 0, rfl, by decide +kernel⟩, ⟨put on F.SCENE_PORT 7, by decide +kernel⟩, ⟨State.reset, by decide +kernel⟩,
   ⟨{ purpose := .store 0 0 0, begun := false, steps := [] }, 0, 0, 0, rfl, rfl⟩,
   ⟨{ host with nvm := { host.nvm with tokens := 0 } }, spi cardStore [], 15, reaches_of _ _ _ _ (packet_crc ..)
      (by decide +kernel), rfl, by decide +kernel, by decide +kernel, by decide +kernel, by decide +kernel⟩,
   ⟨State.reset, by decide⟩⟩

theorem witness_TicksFallAtTheirInstants : ∃ (rate : Nat) (ns phi : Int), 0 < rate ∧ phi ≤ ns := ⟨1, 0, 0, by decide⟩

theorem witness_LinesFallBetweenTheTicks : (∃ line : Nat, line < 2088) ∧ ∃ q : Nat, 136 ≤ q := ⟨⟨2087, by decide⟩, 136, by decide⟩

theorem witness_TheAddressMapIsOneToOne :
    ∃ (s : State) (x y : Nat), s.density ≤ 3 ∧ (∀ k, k < 4 → s.bankMask k % 16 = 2 ^ k) ∧
      (pageOf x).1 < 2 ^ pageBits s.density ∧ (pageOf y).1 < 2 ^ pageBits s.density ∧ (pageOf x).2 = (pageOf y).2 ∧
      s.bankOf (pageOf x).1 = s.bankOf (pageOf y).1 ∧ rowOf s.density (pageOf x).1 = rowOf s.density (pageOf y).1 :=
  ⟨shows, 1234567, 1234567, by decide +kernel, by decide +kernel, by decide +kernel, by decide +kernel, rfl, rfl, rfl⟩

theorem witness_AnInterruptedUpdateLeavesOldOrNew :
    ∃ (r r1 r2 : FixedRec) (ser : Nat) (old new : List Byte), ser < 2 ^ 32 ∧ r.a = some (ser, old) ∧ r.b = some (ser, old) ∧
      r1 = r.writeCopy new false ∧ r2 = r1.writeCopy new true :=
  ⟨{ a := some (2 ^ 32 - 1, [1]), b := some (2 ^ 32 - 1, [1]) }, _, _, _, _, [2], by decide, rfl, rfl, rfl, rfl⟩

theorem witness_JournalRecordsReadBack :
    ∃ (kind gen txn obj part : Nat) (pl : List Byte), 1 ≤ kind ∧ kind ≤ 3 ∧ gen < 256 ∧ txn < 2 ^ 32 ∧ obj < 2 ^ 16 ∧ part < 256 ∧
      4 ≤ pl.length ∧ pl.length ≤ 1024 ∧ pl.length % 4 = 0 :=
  ⟨3, 255, 2 ^ 32 - 1, 2 ^ 16 - 1, 255, zeros 4, by decide⟩

theorem witness_BytesWrittenReadBack :
    (∃ (d : Option Byte) (free : Nat → Byte) (m : List (Nat × Byte)), Memory.wf d m ∧ ∀ v, d = some v → ∀ x, free x = v) ∧
    (∃ (bs : List Byte) (i : Nat), i < bs.length) ∧ ∃ (bs : List Byte) (a x : Nat), x < a ∨ a + bs.length ≤ x :=
  ⟨⟨some 0, fun _ => 0, [(3, 7), (5, 1)], by decide, fun _ h _ => Option.some.inj h⟩, ⟨[7], 0, by decide⟩, [7], 0, 1, by decide⟩

/-- A clock locked to a domain whose time it has. -/
def followed (st : ClockState) (x : Int) : State :=
  { on with time := { on.time with domains := [{ tracking := 2, syncInt := 125000000, d := on.time.clk }, {}], state := st, delta := x } }

theorem witness_TheClockAdvancesByItsIncrement :
    (∃ (s : State) (n : Nat) (ds : List Domain) (d : Domain), 0 < n ∧ s.alive = true ∧
      ds = s.time.domains.map (fun d => { d with d := (d.d + n * d.dIncr) % 2 ^ 96 }) ∧ d = nth ds s.time.selected {} ∧
      s.time.state ≠ .slewing ∧ ¬ (s.time.state = .locked ∧ d.tracking = 2 ∧ 0 < d.syncInt ∧ d.syncInt ≤ 125000000)) ∧
    (∃ (s : State) (n : Nat) (ds : List Domain) (d : Domain), 0 < n ∧ n ≤ 2 ^ 40 ∧ s.alive = true ∧
      ds = s.time.domains.map (fun d => { d with d := (d.d + n * d.dIncr) % 2 ^ 96 }) ∧ d = nth ds s.time.selected {} ∧
      s.time.state = .locked ∧ d.tracking = 2 ∧ 0 < d.syncInt ∧ d.syncInt ≤ 125000000 ∧
      ((s.time.clk + n * s.time.incr : Nat) : Int) - d.d ≤ 250 * 2 ^ 32 ∧
      (d.d : Int) - (s.time.clk + n * s.time.incr : Nat) ≤ 250 * 2 ^ 32) ∧
    (∃ (s : State) (n : Nat) (ds : List Domain) (d : Domain), 0 < n ∧ s.alive = true ∧
      ds = s.time.domains.map (fun d => { d with d := (d.d + n * d.dIncr) % 2 ^ 96 }) ∧ d = nth ds s.time.selected {} ∧
      s.time.state = .slewing ∧ d.d < 2 ^ 96 ∧
      (s.time.delta.natAbs : Int) ≤ (((d.d / 2 ^ 32 : Nat) : Int) - s.time.slewS) / 100000) ∧
    ∃ s : State, s.alive = false :=
  ⟨⟨on, 1, _, _, by decide, by decide +kernel, rfl, rfl, by decide +kernel, by decide +kernel⟩,
   ⟨followed .locked 0, 1, _, _, by decide, by decide, by decide +kernel, rfl, rfl, by decide +kernel, by decide +kernel,
     by decide +kernel, by decide +kernel, by decide +kernel, by decide +kernel⟩,
   ⟨followed .slewing 7, 1, _, _, by decide, by decide +kernel, rfl, rfl, by decide +kernel, by decide +kernel, by decide +kernel⟩,
   State.reset, by decide +kernel⟩

/-- A device whose sessions hold as many unacknowledged events as they may. -/
def fullEvents : State :=
  let e : EventPkt := { seq := 0, cls := 0, bytes := [1], sentAt := 0 }
  let x : Session := { paired := true, unacked := List.replicate 64 e }
  { on with gw := { sessions := List.replicate 16 x } }

theorem witness_EventsAreQueuedOrCountedLost :
    (∃ (s : State) (k : Nat), (s.sess k).paired = false) ∧
    (∃ (s : State) (k opcode : Nat), (s.sess k).paired = true ∧ (64 ≤ (s.sess k).unacked.length ∨
      s.berthTakes ((s.sess k).berthUsed (opcode / 256)) 0 = false)) ∧
    (∀ k, k = 15 ∨ k = 0 → ∃ (s : State) (opcode : Nat), (s.sess k).paired = true ∧ (s.sess k).unacked.length < 64 ∧
      s.berthTakes ((s.sess k).berthUsed (opcode / 256)) 0 = true ∧ s.get F.UDP_EN = 1) ∧
    (∃ (s : State) (k opcode : Nat), k ≠ 15 ∧ (s.sess k).paired = true ∧ (s.sess k).unacked.length < 64 ∧
      s.berthTakes ((s.sess k).berthUsed (opcode / 256)) 0 = true ∧ s.get F.UDP_EN ≠ 1) :=
  ⟨⟨State.reset, 0, by decide +kernel⟩,
   ⟨fullEvents, 15, 0, by decide +kernel⟩,
   fun k h => ⟨put noted F.UDP_EN 1, 0, by rcases h with rfl | rfl <;> decide +kernel⟩,
   ⟨put noted F.UDP_EN 0, 0, 0, by decide +kernel⟩⟩


/-! ## Ill-formed terms that WellFormed refuses -/

/-- A packet whose payload no transport carries, one of more bytes than any, and one with an address of 33 bits. -/
def longPacket : Packet := { packet 0x0101 (.spi true) 0 [] with payload := zeros 65508 }
def farPacket : Packet := packet 0x0101 (.udp (2 ^ 32) 0 0 0 false false false) 0 []
theorem test_packet_refused :
    longPacket.wf = false ∧ farPacket.wf = false ∧ ({ packet 0x0101 (.spi true) 0 [] with count := 65508 } : Packet).wf = false ∧
      (packet 0x0101 (.udp 0 (2 ^ 16) 0 0 false false false) 0 []).wf = false ∧
      (packet 0x0101 (.udp 0 0 (2 ^ 32) 0 false false false) 0 []).wf = false ∧
      (packet 0x0101 (.udp 0 0 0 (2 ^ 16) false false false) 0 []).wf = false ∧ (packet 0x0101 (.spi true) 0 []).wf = true := by
  decide +kernel
theorem test_commands_refused : (Instr.pair farPacket).wf = false ∧ (Instr.gangwayRetransmission 0x0101 farPacket).wf = false ∧
    (Instr.unassignedOpcode 0xFFFF farPacket).wf = false := by decide +kernel
theorem test_datagram_refused :
    ({ dg 0 0 with ipLen := 27 } : Datagram).wf = false ∧ (dg (2 ^ 32) 0).wf = false ∧ (dg 0 (2 ^ 16)).wf = false ∧
      ({ dg 0 0 with ipLen := 65536 } : Datagram).wf = false ∧ (dg 0 0).wf = true ∧
      (Instr.sceneDatagram 0 (dg 0 (2 ^ 16))).wf = false := by decide +kernel
theorem test_frame_refused :
    ({ frame0 with pcp := 8 } : Frame).wf = false ∧ ({ frame0 with vid := 4096 } : Frame).wf = false ∧
      ({ frame0 with length := 17 } : Frame).wf = false ∧ frame0.wf = true ∧ (Instr.linePortFrame 0 2 frame0).wf = false := by
  decide +kernel
theorem test_host_units_refused :
    (Instr.spiRead 0 4609).wf = false ∧ (Instr.spiStatus 0 4609).wf = false ∧ (Instr.eventResend 0 16).wf = false ∧
      (Instr.nackDue 0 1024).wf = false ∧ (Instr.librarySegmentRead 0 1024 0 ⟨[], []⟩ 0).wf = false ∧
      (Instr.librarySegmentRead 0 0 (2 ^ 64) ⟨[], []⟩ 0).wf = false ∧ (Instr.librarySegmentRead 0 0 0 ⟨[], []⟩ (2 ^ 32)).wf = false ∧
      (Instr.decompressionJobStart 0 ⟨8, []⟩).wf = false ∧ (Instr.compressionBlockDone 0 ⟨2, []⟩).wf = false ∧
      (Instr.librarySegmentRead 0 0 0 ⟨[], [16]⟩ 0).wf = false ∧ (Instr.libraryCompressionUnit 0 (zeros 131073)).wf = false := by decide +kernel
theorem test_display_units_refused :
    (Instr.overlayFetchReturn 0 16 0 ⟨0, []⟩).wf = false ∧ (Instr.overlayFetchReturn 0 0 2 ⟨0, []⟩).wf = false ∧
      (Instr.overlayFetchReturn 0 0 0 ⟨2048, []⟩).wf = false ∧ (Instr.overlayUnderrun 0 0 2).wf = false ∧
      (Instr.backlightZoneRise 0 16).wf = false ∧ (Instr.teEdge 0 16).wf = false ∧ (Instr.tileStart 0 16).wf = false ∧
      (Instr.cacheLineFill 0 0 1024 0 false 0 0 0 false).wf = false ∧ (Instr.cacheLineFill 0 0 0 64 false 0 0 0 false).wf = false ∧
      (Instr.cacheLineFill 0 0 0 0 false 0 0 1024 false).wf = false := by decide +kernel
theorem test_link_units_refused :
    (Instr.hpdHigh 0 16).wf = false ∧ (Instr.irqHpd 0 16 none).wf = false ∧
      (Instr.auxReply 0 0 (.caps { rev20 := true, coded := true, rates := [0], lanes := 5, pollUs := 0 })).wf = false ∧
      (Instr.linkTestEnd 0 0 (List.replicate 5 0) [] false none).wf = false ∧ (Instr.bbTestEnd 0 0 (2 ^ 32)).wf = false ∧
      (Instr.bbPortUp 0 2).wf = false := by decide +kernel
theorem test_time_and_memory_units_refused :
    (Instr.syncReceived 0 2 sync0).wf = false ∧ (Instr.announceReceived 0 0 { ann0 with domain := 256 }).wf = false ∧
      (Instr.pdelayReqReceived 0 0 65536 0).wf = false ∧ (Instr.pdelayRespReceived 0 0 0 0 0 (2 ^ 32)).wf = false ∧
      (Instr.syncTimeout 0 2).wf = false ∧ (Instr.trigRise 0 4).wf = false ∧ (Instr.rankDead 0 8).wf = false ∧
      (Instr.refreshDue 0 16).wf = false ∧ (Instr.mr4Read 0 0 (some 8)).wf = false ∧ (Instr.rowActivation 0 0 32 0 0).wf = false ∧
      (Instr.dramLineRead 0 16 0 0 ⟨.clean, .data⟩).wf = false ∧ (Instr.dramSweepDone 0 0 (List.replicate 5 { firstCode := 0, passes := [] })).wf = false := by
  decide +kernel
theorem test_service_units_refused :
    (Instr.housekeepingRoundEnd 0 { codes := [], margin := 0 }).wf = false ∧
      (Instr.housekeepingRoundEnd 0 { codes := List.replicate 64 4096, margin := 0 }).wf = false ∧
      (Instr.railPgRise 0 8).wf = false ∧ (Instr.dramTrainingDone 0 []).wf = false ∧
      (Instr.tftpWriteRequest 0 (2 ^ 32) 0 [] [] none).wf = false ∧ (Instr.tftpDataBlock 0 0 0 0 (zeros 65465)).wf = false ∧
      (Instr.recoverySpiWrite 0 2 0 []).wf = false ∧ (Instr.recoverySpiFinish 0 2 0).wf = false ∧ (Instr.fieldTick 0).wf = true := by
  decide +kernel

/-! ## The worked examples of the manual -/

/-- R75: the check value of CRC-32C that its parameters give for the nine digits. -/
theorem test_crc32c : crc32c [0x31, 0x32, 0x33, 0x34, 0x35, 0x36, 0x37, 0x38, 0x39] = 0xE3069283 := by decide +kernel

/-- 00_scope: 1,250.5 mm as s24.8, in memory. -/
theorem test_depth_bytes : le 4 320128 = [0x80, 0xE2, 0x04, 0x00] := by decide

/-- 01_architecture: the cut 800 µs before tick 1,000 and line 0 of field 1,004, in ns after tick 1,000 at 240 Hz. -/
theorem test_field_instants :
    State.reset.cutNs 1000 - State.reset.tickNs 1000 = -800000 ∧ (State.reset.lineNs 1004 0 - State.reset.tickNs 1000) / 1000 = 16938 := by
  decide +kernel

/-- 02_scene_format: v = 1,000 with RELIEF_SCALE 0x0001_0000. -/
theorem test_relief_depth : rnd 65536000 16 = 1000 := by decide

/-- 05_harbourmaster: tile T at L0 to L4. -/
def exampleCoats : Tab Coat :=
  [(0, { coat0 with relief := 1 }), (1, coat0), (2, coat0), (3, { coat0 with relief := 1 }), (4, coat0), (5, coat0)]
def examplePlan : Plan := { scenes := [(0, { coats := exampleCoats })] }
def exampleTile (step nmiss : Nat) : TilePlan :=
  { tile0 with coats := (List.range 6).map (fun k => (0, k)), step := step, rho := 20480, nmiss := nmiss, fans := 1 }
theorem test_tile_costs :
    renderCost { aSamp := 1100 } examplePlan (exampleTile 0 40) = 2369 ∧ renderCost { aSamp := 1100 } examplePlan (exampleTile 1 40) = 2051 ∧
      renderCost { aSamp := 1100 } examplePlan (exampleTile 2 24) = 1089 ∧ renderCost { aSamp := 1100 } examplePlan (exampleTile 3 24) = 649 ∧
      renderCost { aSamp := 1100 } examplePlan (exampleTile 4 24) = 649 := by decide +kernel
theorem test_zclass : zclass (some 3200) = 4 ∧ zclass (some 250000) = 10 := by decide

/-- 06_optics_lath: the green and blue subpixels of pixel (5,000, 3,001), with the correction 0xFA00. -/
def exampleOptics : Tab (List Word) :=
  [(0x1820, [0, 0xFFFE0000, 0x2000, 0x2000, 0x2AB00000, 0x05400000, 0x00030001, 0])]
def exampleMap : Option (Nat × Nat × List Nat) := some (40, 94, List.replicate (94 * 40) 0xFA00)
theorem test_lath :
    lathM exampleOptics exampleMap 5000 3001 1 = 67807915 ∧ lathV exampleOptics exampleMap 5000 3001 1 = 12 ∧
      lathM exampleOptics exampleMap 5000 3001 2 = 84585131 ∧ lathV exampleOptics exampleMap 5000 3001 2 = 15 := by decide +kernel
theorem test_origin : originX exampleOptics 5000 = 81928192 ∧ originY exampleOptics 3001 = -17932288 := by decide +kernel

/-- 07_trowel_synthesis: the code of 6,974 and what it decodes to. -/
theorem test_hand_off : enc 6974 7 = 858 ∧ dec 858 7 = 6976 ∧ lin 10 = 99 := by decide +kernel

/-- 09_scanout: the alpha of 128, the gamma of 19,922 with the Reset table and the dither of field 1,002. -/
theorem test_composition :
    al 128 = 16448 ∧ mix 255 16448 6976 = 19922 ∧ gamma [] 1 19922 = 52537 ∧ dither true 250 5000 3001 1 52537 = 821 ∧
      dither false 250 5000 3001 1 52537 = 821 := by decide +kernel

/-- 10_serial_links: the loopback of 3,000 µs at 20,000 bits/µs with INJECT_LOG 20 on lane 0. -/
theorem test_link_figures :
    ({ test0 with mode := 1, injectLog := 20, lanes := 1, duration := 3000 } : LaneTest).figures 4 [0, 0, 0, 0] [] false =
      (59999936, [57, 0, 0, 0], [57, 0, 0, 0], [0xFFFF, 0xFFFF, 0xFFFF, 0xFFFF], 0) := by decide +kernel

/-- 12_memory: data line 1,234,567 of a channel of 1 GiB. -/
theorem test_address_map :
    pageOf 1234567 = (39824, 23) ∧ rowOf shows.density 39824 = (2489, 0) ∧ shows.bankOf 39824 = 14 ∧ shows.bankOf 39825 = 10 := by
  decide +kernel

/-- 13_commands: the ACCEPTED reply of the reset of mooring M14. -/
theorem test_accepted_reply :
    (replyPacket 0x0202 0x11 0x2F Status.ACCEPTED 0x42 []).take 16 =
      [0xC7, 0x11, 0x02, 0x02, 0x11, 0x2F, 0x14, 0x00, 0x01, 0, 0, 0, 0x42, 0, 0, 0] := by decide +kernel

/-- 17_observation: TRW_SAMPLES of gang G5 and LNK_ABSENT of PL5. -/
theorem test_tally_ids : T.TRW_SAMPLES + 1 + 5 = 0x3117 ∧ T.LNK_ABSENT + 1 + 5 = 0x3228 := by decide

/-- 08_skim: the row bytes and the size of the surfaces of the example. -/
theorem test_surface_bytes : strideOf 0 4096 = 16384 ∧ strideOf 2 2048 = 256 := by decide

/-- 16_fascia: the common and bit of segment 31 of common 1: bit 7 of byte 8. -/
theorem test_fascia_bit : imageBit (zeros 8 ++ [0x80] ++ zeros 11) 1 31 = true := by decide +kernel

end Sys2Proof.Tests
end

section
/-! SUPPORT. The scope of the block (00_scope): steps and runs, time and ticks, the order in which commands are refused,
settings commands, and the sorting of datagrams. -/

namespace Sys2Proof.Machine

/-! ## Every command answers a next state -/

/-- An outcome that is a next state. -/
def Answers (o : Host.Outcome State Fault Refusal) : Prop := ∃ t, o = .next t

theorem nextOf_answers (s : State) : Answers (nextOf s) := ⟨s, rfl⟩

theorem Answers.ite {x y : Host.Outcome State Fault Refusal} {c : Prop} [Decidable c] (hx : Answers x) (hy : Answers y) :
    Answers (if c then x else y) := by split <;> assumption

theorem runCommand_answers (k : Card) (p : Packet) (s : State) : Answers (runCommand k p s) := nextOf_answers _

/-- The rows by the shape of their meanings: command packets, events with one outcome, events with one condition, and
events that branch on what they find; every branch ends in `nextOf`. -/
theorem exec_answers (i : Instr) (s : State) : Answers (exec i s) := by
  cases i with
  | pair | unpair | sessionQuery | eventAck | deviceInfo | sessionSubscribe | gangwayConfigure | mooringConfigure
  | mooringReset | mooringQuery | ingestConfigure | crcCompute | codecConfigure | codecQuery | codecDecompress
  | codecCompress | serviceConfigure | planQuery | scanoutConfigure | overlayCommit | gammaSet | lanternConfigure
  | lanternWrite | opticsSet | corrMapLoad | corrMapCommit | fanConfigure | lathEvaluate | surfaceCreate | surfaceDestroy
  | surfaceWrite | skimListWrite | skimSubmit | linkConfigure | linkRetrain | linkTest | bbConfigure | bbTest | linkQuery
  | bridgeSet | timeConfigure | triggerConfigure | timeStep | groupConfigure | memConfigure | memQuery | memCalibrate
  | store | settingsRevert | settingsErase | factoryWrite | nvmQuery | imageLoad | imageVerify | imageActivate
  | imageActivateConfirm | imageActivateAbandon | firmwareQuery | deviceRestart | powerConfigure | backlightConfigure
  | railProfileSet | thermalQuery | fasciaConfigure | fasciaImage | fasciaQuery | objectRead | tallyRead | wakeConfigure
  | wakeSubscribe | tallyExport | selfTestMramScan | selfTestScanoutPath | gangwayEcho =>
    exact runCommand_answers _ _ _
  | gangwayRetransmission | quaySpill | sceneCut | planComplete | tideMark | commitLatch | overlayUnderrun
  | testRequestTimeout | hpdUnplug | bbPortDown | adaptFreeze | adaptResume | addressAgeOut | followUpTimeout
  | heartbeatReceived | groupCommitReceived | repairReqReceived | repairReceived | refpbIssue | breakwaterWindowClear
  | supplyRemoved | unassignedOpcode | receiveQuietStart | receiveQuietEnd =>
    exact nextOf_answers _
  | spiStatus | keyDebounced | sceneChunk | nackDue | decompressionJobStart | compressionBlockDone | compressionPreempt
  | imageReady | healthConfirm | overlayPrefetchStart | lineStart | overlayFetchReturn | cacheLineFill | auxTimeout
  | bbPortUp | lpiEntry | lpiWake | gateEntryChange | pdelayReqReceived | pdelayReqSend | syncTimeout | announceTimeout
  | slewEnd | clockCarry | acquireTimeout | trigFall | evtCapture | rankDead | groupJoined | groupCommitSend | repairReqSend
  | rowActivation | libraryCompressionUnit | storeTokenRefill | nvmWindowRetry | housekeepingRoundStart | shutdownHalt
  | railPgRise | railPgLost | railRetry | fasciaUpdateStart | resetRelease | sramTestDone | dramTrainingDone | restartReset
  | recoverySpiWrite | recoverySpiStatus | recoverySpiFinish | pilotTakeover =>
    exact .ite (nextOf_answers _) (nextOf_answers _)
  | spiRead | eventResend | sealDebounced | sceneDatagram | decompressionJobEnd | decompressionResume | libraryPieceRelease
  | librarySegmentRead | fieldTick | healthDeadline | pilotWatchdogExpiry | backlightZoneRise | backlightZoneFall
  | blankingWindow | teEdge | teWindowEnd | tileStart | tileFinish | skimPieceStart | skimEntryDone | bollardComplete
  | surfaceClearDone | corrMapCheckDone | hpdHigh | irqHpd | trainingPhaseDone | trainingPhaseTimeout | auxReply
  | linkRecalUnit | linkTestEnd | bbTestEnd | linePortFrame | egressTransmit | syncReceived | announceReceived
  | pdelayRespReceived | switchInstant | trigRise | refreshDue | mr4Read | dramLineRead | powerDownEntry | lowPowerExit
  | frequencyChangeStart | frequencySwitchDone | dramSweepDone | patrolScrubUnit | dramRecalUnit | journalCompactionUnit
  | wakeDrainUnit | mramRecordDone | housekeepingRoundEnd | avsCriticalMargin | railUpStep | railPgTimeout | railDownStep
  | fasciaFrame | wakePinExport | resetAssert | recoveryPresenceSample | slotCheckDone | pilotBootDone | imageVerifyDone
  | tftpWriteRequest | tftpDataBlock | recoveryVerifyDone | mramScanDone | laneEqPoll =>
    dsimp only [exec,
      execSpiRead, execEventResend, execSealDebounced, execSceneDatagram, execDecompressionJobEnd,
      execDecompressionResume, execLibraryPieceRelease, execLibrarySegmentRead, execFieldTick, execHealthDeadline,
      execPilotWatchdogExpiry, execBacklightZoneRise, execBacklightZoneFall, execBlankingWindow, execTeEdge,
      execTeWindowEnd, execTileStart, execTileFinish, execSkimPieceStart, execSkimEntryDone, execBollardComplete,
      execSurfaceClearDone, execCorrMapCheckDone, execHpdHigh, execIrqHpd, execTrainingPhaseDone,
      execTrainingPhaseTimeout, execAuxReply, execLinkRecalUnit, execLinkTestEnd, execBbTestEnd, execLinePortFrame,
      execEgressTransmit, execSyncReceived, execAnnounceReceived, execPdelayRespReceived, execSwitchInstant,
      execTrigRise, execRefreshDue, execMr4Read, execDramLineRead, execPowerDownEntry, execLowPowerExit,
      execFrequencyChangeStart, execFrequencySwitchDone, execDramSweepDone, execPatrolScrubUnit, execDramRecalUnit,
      execJournalCompactionUnit, execWakeDrainUnit, execMramRecordDone, execHousekeepingRoundEnd,
      execAvsCriticalMargin, execRailUpStep, execRailPgTimeout, execRailDownStep, execFasciaFrame,
      execWakePinExport, execResetAssert, execRecoveryPresenceSample, execSlotCheckDone, execPilotBootDone,
      execImageVerifyDone, execTftpWriteRequest, execTftpDataBlock, execRecoveryVerifyDone, execMramScanDone,
      execLaneEqPoll]
    repeat' first | with_reducible exact nextOf_answers _ | split

theorem step_answers (s : State) : Answers (step s) := by
  unfold step
  split
  · exact ⟨s, rfl⟩
  · exact exec_answers _ _

theorem safeRun_all (n : Nat) (s : State) : safeRun s n := by
  induction n generalizing s with
  | zero => trivial
  | succ n ih =>
    obtain ⟨t, ht⟩ := step_answers s
    exact ⟨t, ht, ih t⟩

/-- Settles O41: each row answers a next state, and a run is an induction on its length. -/
theorem noCommandStopsTheBlock : Obligations.NoCommandStopsTheBlock := by
  unfold Obligations.NoCommandStopsTheBlock
  exact ⟨exec_answers, safeRun_all⟩

/-! ## What every step keeps -/

theorem step_cons (c : Instr) (rest : List Instr) (s : State) :
    step { s with pending := c :: rest } = exec c { s with pending := rest } := rfl

/-- Log entry 1: with no command waiting a step idles. -/
theorem step_idle {s : State} (h : s.pending = []) : step s = .next s := by
  unfold step
  rw [h]

/-- Settles O37: it is how a step is defined on a queue that is not empty. -/
theorem stepRunsTheFrontCommand : Obligations.StepRunsTheFrontCommand := by
  unfold Obligations.StepRunsTheFrontCommand
  exact step_cons

/-- The meaning of every command keeps the queue, the clock and the invariant's parts: the arms of the dispatch. -/
theorem exec_keeps (s : State) : ∀ i : Instr, s.Bounds (exec i s)
  | .pair p => execPair_keeps p (.refl s)
  | .unpair p => execUnpair_keeps p (.refl s)
  | .sessionQuery p => execSessionQuery_keeps p (.refl s)
  | .eventAck p => execEventAck_keeps p (.refl s)
  | .deviceInfo p => execDeviceInfo_keeps p (.refl s)
  | .sessionSubscribe p => execSessionSubscribe_keeps p (.refl s)
  | .gangwayConfigure p => execGangwayConfigure_keeps p (.refl s)
  | .mooringConfigure p => execMooringConfigure_keeps p (.refl s)
  | .mooringReset p => execMooringReset_keeps p (.refl s)
  | .mooringQuery p => execMooringQuery_keeps p (.refl s)
  | .ingestConfigure p => execIngestConfigure_keeps p (.refl s)
  | .crcCompute p => execCrcCompute_keeps p (.refl s)
  | .codecConfigure p => execCodecConfigure_keeps p (.refl s)
  | .codecQuery p => execCodecQuery_keeps p (.refl s)
  | .codecDecompress p => execCodecDecompress_keeps p (.refl s)
  | .codecCompress p => execCodecCompress_keeps p (.refl s)
  | .serviceConfigure p => execServiceConfigure_keeps p (.refl s)
  | .planQuery p => execPlanQuery_keeps p (.refl s)
  | .scanoutConfigure p => execScanoutConfigure_keeps p (.refl s)
  | .overlayCommit p => execOverlayCommit_keeps p (.refl s)
  | .gammaSet p => execGammaSet_keeps p (.refl s)
  | .lanternConfigure p => execLanternConfigure_keeps p (.refl s)
  | .lanternWrite p => execLanternWrite_keeps p (.refl s)
  | .opticsSet p => execOpticsSet_keeps p (.refl s)
  | .corrMapLoad p => execCorrMapLoad_keeps p (.refl s)
  | .corrMapCommit p => execCorrMapCommit_keeps p (.refl s)
  | .fanConfigure p => execFanConfigure_keeps p (.refl s)
  | .lathEvaluate p => execLathEvaluate_keeps p (.refl s)
  | .surfaceCreate p => execSurfaceCreate_keeps p (.refl s)
  | .surfaceDestroy p => execSurfaceDestroy_keeps p (.refl s)
  | .surfaceWrite p => execSurfaceWrite_keeps p (.refl s)
  | .skimListWrite p => execSkimListWrite_keeps p (.refl s)
  | .skimSubmit p => execSkimSubmit_keeps p (.refl s)
  | .linkConfigure p => execLinkConfigure_keeps p (.refl s)
  | .linkRetrain p => execLinkRetrain_keeps p (.refl s)
  | .linkTest p => execLinkTest_keeps p (.refl s)
  | .bbConfigure p => execBbConfigure_keeps p (.refl s)
  | .bbTest p => execBbTest_keeps p (.refl s)
  | .linkQuery p => execLinkQuery_keeps p (.refl s)
  | .bridgeSet p => execBridgeSet_keeps p (.refl s)
  | .timeConfigure p => execTimeConfigure_keeps p (.refl s)
  | .triggerConfigure p => execTriggerConfigure_keeps p (.refl s)
  | .timeStep p => execTimeStep_keeps p (.refl s)
  | .groupConfigure p => execGroupConfigure_keeps p (.refl s)
  | .memConfigure p => execMemConfigure_keeps p (.refl s)
  | .memQuery p => execMemQuery_keeps p (.refl s)
  | .memCalibrate p => execMemCalibrate_keeps p (.refl s)
  | .store p => execStore_keeps p (.refl s)
  | .settingsRevert p => execSettingsRevert_keeps p (.refl s)
  | .settingsErase p => execSettingsErase_keeps p (.refl s)
  | .factoryWrite p => execFactoryWrite_keeps p (.refl s)
  | .nvmQuery p => execNvmQuery_keeps p (.refl s)
  | .imageLoad p => execImageLoad_keeps p (.refl s)
  | .imageVerify p => execImageVerify_keeps p (.refl s)
  | .imageActivate p => execImageActivate_keeps p (.refl s)
  | .imageActivateConfirm p => execImageActivateConfirm_keeps p (.refl s)
  | .imageActivateAbandon p => execImageActivateAbandon_keeps p (.refl s)
  | .firmwareQuery p => execFirmwareQuery_keeps p (.refl s)
  | .deviceRestart p => execDeviceRestart_keeps p (.refl s)
  | .powerConfigure p => execPowerConfigure_keeps p (.refl s)
  | .backlightConfigure p => execBacklightConfigure_keeps p (.refl s)
  | .railProfileSet p => execRailProfileSet_keeps p (.refl s)
  | .thermalQuery p => execThermalQuery_keeps p (.refl s)
  | .fasciaConfigure p => execFasciaConfigure_keeps p (.refl s)
  | .fasciaImage p => execFasciaImage_keeps p (.refl s)
  | .fasciaQuery p => execFasciaQuery_keeps p (.refl s)
  | .objectRead p => execObjectRead_keeps p (.refl s)
  | .tallyRead p => execTallyRead_keeps p (.refl s)
  | .wakeConfigure p => execWakeConfigure_keeps p (.refl s)
  | .wakeSubscribe p => execWakeSubscribe_keeps p (.refl s)
  | .tallyExport p => execTallyExport_keeps p (.refl s)
  | .selfTestMramScan p => execSelfTestMramScan_keeps p (.refl s)
  | .selfTestScanoutPath p => execSelfTestScanoutPath_keeps p (.refl s)
  | .gangwayEcho p => execGangwayEcho_keeps p (.refl s)
  | .gangwayRetransmission opcode p => execGangwayRetransmission_keeps opcode p (.refl s)
  | .spiRead t bytes => execSpiRead_keeps t bytes (.refl s)
  | .spiStatus t bytes => execSpiStatus_keeps t bytes (.refl s)
  | .eventResend t slot => execEventResend_keeps t slot (.refl s)
  | .keyDebounced t turned => execKeyDebounced_keeps t turned (.refl s)
  | .sealDebounced t opened => execSealDebounced_keeps t opened (.refl s)
  | .sceneDatagram t d => execSceneDatagram_keeps t d (.refl s)
  | .sceneChunk t => execSceneChunk_keeps t (.refl s)
  | .quaySpill t => execQuaySpill_keeps t (.refl s)
  | .nackDue t mooring => execNackDue_keeps t mooring (.refl s)
  | .decompressionJobStart t lane => execDecompressionJobStart_keeps t lane (.refl s)
  | .decompressionJobEnd t lane => execDecompressionJobEnd_keeps t lane (.refl s)
  | .decompressionResume t mooring => execDecompressionResume_keeps t mooring (.refl s)
  | .libraryPieceRelease t mooring => execLibraryPieceRelease_keeps t mooring (.refl s)
  | .librarySegmentRead t mooring frame segment size => execLibrarySegmentRead_keeps t mooring frame segment size (.refl s)
  | .compressionBlockDone t lane => execCompressionBlockDone_keeps t lane (.refl s)
  | .compressionPreempt t lane => execCompressionPreempt_keeps t lane (.refl s)
  | .sceneCut t => execSceneCut_keeps t (.refl s)
  | .planComplete t => execPlanComplete_keeps t (.refl s)
  | .fieldTick t => execFieldTick_keeps t (.refl s)
  | .imageReady t => execImageReady_keeps t (.refl s)
  | .healthDeadline t => execHealthDeadline_keeps t (.refl s)
  | .healthConfirm t => execHealthConfirm_keeps t (.refl s)
  | .pilotWatchdogExpiry t => execPilotWatchdogExpiry_keeps t (.refl s)
  | .tideMark t => execTideMark_keeps t (.refl s)
  | .commitLatch t => execCommitLatch_keeps t (.refl s)
  | .overlayPrefetchStart t => execOverlayPrefetchStart_keeps t (.refl s)
  | .lineStart t => execLineStart_keeps t (.refl s)
  | .overlayFetchReturn t sector plane row => execOverlayFetchReturn_keeps t sector plane row (.refl s)
  | .overlayUnderrun t sector plane => execOverlayUnderrun_keeps t sector plane (.refl s)
  | .backlightZoneRise t zone => execBacklightZoneRise_keeps t zone (.refl s)
  | .backlightZoneFall t zone => execBacklightZoneFall_keeps t zone (.refl s)
  | .blankingWindow t port => execBlankingWindow_keeps t port (.refl s)
  | .testRequestTimeout t => execTestRequestTimeout_keeps t (.refl s)
  | .teEdge t port => execTeEdge_keeps t port (.refl s)
  | .teWindowEnd t port => execTeWindowEnd_keeps t port (.refl s)
  | .tileStart t gang => execTileStart_keeps t gang (.refl s)
  | .tileFinish t gang => execTileFinish_keeps t gang (.refl s)
  | .cacheLineFill t gang mooring coat relief col row line bad =>
    execCacheLineFill_keeps t gang mooring coat relief col row line bad (.refl s)
  | .skimPieceStart t => execSkimPieceStart_keeps t (.refl s)
  | .skimEntryDone t badUnits => execSkimEntryDone_keeps t badUnits (.refl s)
  | .bollardComplete t => execBollardComplete_keeps t (.refl s)
  | .surfaceClearDone t => execSurfaceClearDone_keeps t (.refl s)
  | .corrMapCheckDone t => execCorrMapCheckDone_keeps t (.refl s)
  | .hpdHigh t port => execHpdHigh_keeps t port (.refl s)
  | .hpdUnplug t port => execHpdUnplug_keeps t port (.refl s)
  | .irqHpd t port status => execIrqHpd_keeps t port status (.refl s)
  | .trainingPhaseDone t port => execTrainingPhaseDone_keeps t port (.refl s)
  | .trainingPhaseTimeout t port => execTrainingPhaseTimeout_keeps t port (.refl s)
  | .auxReply t port answer => execAuxReply_keeps t port answer (.refl s)
  | .auxTimeout t port => execAuxTimeout_keeps t port (.refl s)
  | .linkRecalUnit t port status => execLinkRecalUnit_keeps t port status (.refl s)
  | .linkTestEnd t port errors sinkErr readable status => execLinkTestEnd_keeps t port errors sinkErr readable status (.refl s)
  | .bbTestEnd t port errors => execBbTestEnd_keeps t port errors (.refl s)
  | .bbPortUp t port => execBbPortUp_keeps t port (.refl s)
  | .bbPortDown t port => execBbPortDown_keeps t port (.refl s)
  | .adaptFreeze t port => execAdaptFreeze_keeps t port (.refl s)
  | .adaptResume t port => execAdaptResume_keeps t port (.refl s)
  | .lpiEntry t port => execLpiEntry_keeps t port (.refl s)
  | .lpiWake t port => execLpiWake_keeps t port (.refl s)
  | .linePortFrame t port f => execLinePortFrame_keeps t port f (.refl s)
  | .egressTransmit t port => execEgressTransmit_keeps t port (.refl s)
  | .gateEntryChange t port => execGateEntryChange_keeps t port (.refl s)
  | .addressAgeOut t => execAddressAgeOut_keeps t (.refl s)
  | .syncReceived t port m => execSyncReceived_keeps t port m (.refl s)
  | .announceReceived t port m => execAnnounceReceived_keeps t port m (.refl s)
  | .pdelayReqReceived t port sequenceId requester => execPdelayReqReceived_keeps t port sequenceId requester (.refl s)
  | .pdelayReqSend t port => execPdelayReqSend_keeps t port (.refl s)
  | .pdelayRespReceived t port sequenceId t2 t3 ratio => execPdelayRespReceived_keeps t port sequenceId t2 t3 ratio (.refl s)
  | .followUpTimeout t => execFollowUpTimeout_keeps t (.refl s)
  | .syncTimeout t domain => execSyncTimeout_keeps t domain (.refl s)
  | .announceTimeout t domain => execAnnounceTimeout_keeps t domain (.refl s)
  | .switchInstant t => execSwitchInstant_keeps t (.refl s)
  | .slewEnd t => execSlewEnd_keeps t (.refl s)
  | .clockCarry t => execClockCarry_keeps t (.refl s)
  | .acquireTimeout t => execAcquireTimeout_keeps t (.refl s)
  | .trigRise t k => execTrigRise_keeps t k (.refl s)
  | .trigFall t k => execTrigFall_keeps t k (.refl s)
  | .evtCapture t k falling => execEvtCapture_keeps t k falling (.refl s)
  | .heartbeatReceived t d => execHeartbeatReceived_keeps t d (.refl s)
  | .rankDead t rank => execRankDead_keeps t rank (.refl s)
  | .groupJoined t => execGroupJoined_keeps t (.refl s)
  | .groupCommitSend t => execGroupCommitSend_keeps t (.refl s)
  | .groupCommitReceived t d => execGroupCommitReceived_keeps t d (.refl s)
  | .repairReqSend t mooring => execRepairReqSend_keeps t mooring (.refl s)
  | .repairReqReceived t d => execRepairReqReceived_keeps t d (.refl s)
  | .repairReceived t d => execRepairReceived_keeps t d (.refl s)
  | .refreshDue t ch => execRefreshDue_keeps t ch (.refl s)
  | .refpbIssue t ch => execRefpbIssue_keeps t ch (.refl s)
  | .mr4Read t ch rate => execMr4Read_keeps t ch rate (.refl s)
  | .rowActivation t ch bank row requester => execRowActivation_keeps t ch bank row requester (.refl s)
  | .breakwaterWindowClear t => execBreakwaterWindowClear_keeps t (.refl s)
  | .dramLineRead t ch line requester read => execDramLineRead_keeps t ch line requester read (.refl s)
  | .powerDownEntry t ch kind => execPowerDownEntry_keeps t ch kind (.refl s)
  | .lowPowerExit t ch => execLowPowerExit_keeps t ch (.refl s)
  | .frequencyChangeStart t ch => execFrequencyChangeStart_keeps t ch (.refl s)
  | .frequencySwitchDone t ch => execFrequencySwitchDone_keeps t ch (.refl s)
  | .dramSweepDone t ch lanes => execDramSweepDone_keeps t ch lanes (.refl s)
  | .patrolScrubUnit t corrected bad => execPatrolScrubUnit_keeps t corrected bad (.refl s)
  | .dramRecalUnit t => execDramRecalUnit_keeps t (.refl s)
  | .journalCompactionUnit t => execJournalCompactionUnit_keeps t (.refl s)
  | .wakeDrainUnit t => execWakeDrainUnit_keeps t (.refl s)
  | .libraryCompressionUnit t block => execLibraryCompressionUnit_keeps t block (.refl s)
  | .mramRecordDone t => execMramRecordDone_keeps t (.refl s)
  | .storeTokenRefill t => execStoreTokenRefill_keeps t (.refl s)
  | .nvmWindowRetry t => execNvmWindowRetry_keeps t (.refl s)
  | .housekeepingRoundStart t => execHousekeepingRoundStart_keeps t (.refl s)
  | .housekeepingRoundEnd t r => execHousekeepingRoundEnd_keeps t r (.refl s)
  | .shutdownHalt t => execShutdownHalt_keeps t (.refl s)
  | .avsCriticalMargin t r => execAvsCriticalMargin_keeps t r (.refl s)
  | .railUpStep t => execRailUpStep_keeps t (.refl s)
  | .railPgRise t rail => execRailPgRise_keeps t rail (.refl s)
  | .railPgTimeout t => execRailPgTimeout_keeps t (.refl s)
  | .railPgLost t rail => execRailPgLost_keeps t rail (.refl s)
  | .railDownStep t => execRailDownStep_keeps t (.refl s)
  | .railRetry t => execRailRetry_keeps t (.refl s)
  | .fasciaFrame t => execFasciaFrame_keeps t (.refl s)
  | .fasciaUpdateStart t => execFasciaUpdateStart_keeps t (.refl s)
  | .wakePinExport t => execWakePinExport_keeps t (.refl s)
  | .resetRelease t recoverLow => execResetRelease_keeps t recoverLow (.refl s)
  | .resetAssert t cause => execResetAssert_keeps t cause (.refl s)
  | .supplyRemoved t => execSupplyRemoved_keeps t (.refl s)
  | .sramTestDone t repaired fault => execSramTestDone_keeps t repaired fault (.refl s)
  | .recoveryPresenceSample t => execRecoveryPresenceSample_keeps t (.refl s)
  | .slotCheckDone t => execSlotCheckDone_keeps t (.refl s)
  | .pilotBootDone t => execPilotBootDone_keeps t (.refl s)
  | .dramTrainingDone t result => execDramTrainingDone_keeps t result (.refl s)
  | .imageVerifyDone t => execImageVerifyDone_keeps t (.refl s)
  | .restartReset t => execRestartReset_keeps t (.refl s)
  | .tftpWriteRequest t srcIp srcPort name mode blksize => execTftpWriteRequest_keeps t srcIp srcPort name mode blksize (.refl s)
  | .tftpDataBlock t srcIp srcPort block data => execTftpDataBlock_keeps t srcIp srcPort block data (.refl s)
  | .recoverySpiWrite t slot offset data => execRecoverySpiWrite_keeps t slot offset data (.refl s)
  | .recoverySpiStatus t => execRecoverySpiStatus_keeps t (.refl s)
  | .recoverySpiFinish t slot size => execRecoverySpiFinish_keeps t slot size (.refl s)
  | .recoveryVerifyDone t => execRecoveryVerifyDone_keeps t (.refl s)
  | .unassignedOpcode opcode p => execUnassignedOpcode_keeps opcode p (.refl s)
  | .receiveQuietStart t port => execReceiveQuietStart_keeps t port (.refl s)
  | .receiveQuietEnd t port => execReceiveQuietEnd_keeps t port (.refl s)
  | .mramScanDone t => execMramScanDone_keeps t (.refl s)
  | .pilotTakeover t => execPilotTakeover_keeps t (.refl s)
  | .laneEqPoll t port status => execLaneEqPoll_keeps t port status (.refl s)

/-- A step keeps what a meaning keeps, of the state whose queue is the rest. -/
theorem step_keeps {s t : State} (h : step s = .next t) : State.Keeps { s with pending := s.pending.tail } t := by
  cases hq : s.pending with
  | nil =>
    rw [step_idle hq] at h
    cases h
    exact (State.Keeps.refl _).congr hq
  | cons c rest =>
    have hs : s = { s with pending := c :: rest } := by rw [← hq]
    rw [hs, step_cons] at h
    exact exec_keeps _ c t h

/-- Settles O39: no meaning changes the queue, and a step takes the front command off it. -/
theorem aStepTakesExactlyTheFrontCommand : Obligations.AStepTakesExactlyTheFrontCommand := by
  unfold Obligations.AStepTakesExactlyTheFrontCommand
  exact ⟨fun _ _ h => (step_keeps h).queue, fun _ => step_idle⟩

/-- Settles O40: no meaning takes the count of cycles back. -/
theorem timeNeverRunsBack : Obligations.TimeNeverRunsBack := by
  unfold Obligations.TimeNeverRunsBack
  exact fun _ _ h => (step_keeps h).clock

/-! ## The ticks (R18, R35) -/

/-- R35: T(n) is at or before a local time exactly for the n up to the tick that is due. -/
theorem tickNs_le_iff {n rate : Nat} {ns phi : Int} (hr : 0 < rate) (hp : phi ≤ ns) :
    tickNs n rate phi ≤ ns ↔ n ≤ tickAt ns rate phi := by
  have hR : (0 : Int) < rate := by exact_mod_cast hr
  have h0 : 0 ≤ (ns - phi) * rate / 1000000000 :=
    Int.ediv_nonneg (Int.mul_nonneg (Int.sub_nonneg.2 hp) hR.le) (by decide)
  unfold tickNs tickAt fdiv
  calc -(-((n : Int) * 1000000000) / rate) + phi ≤ ns
      ↔ phi - ns ≤ -((n : Int) * 1000000000) / rate := by omega
    _ ↔ (phi - ns) * rate ≤ -((n : Int) * 1000000000) := Int.le_ediv_iff_mul_le hR
    _ ↔ (n : Int) * 1000000000 ≤ (ns - phi) * rate := by rw [← neg_sub ns phi, neg_mul, neg_le_neg_iff]
    _ ↔ (n : Int) ≤ (ns - phi) * rate / 1000000000 := (Int.le_ediv_iff_mul_le (by decide)).symm
    _ ↔ n ≤ ((ns - phi) * rate / 1000000000).toNat := by omega

/-- R18, R35: T(n) - φ is the least integer at or after n × 10^9 / R. -/
theorem tickNs_ceil (n : Nat) {rate : Nat} (phi : Int) (hr : 0 < rate) :
    (n : Int) * 1000000000 ≤ (tickNs n rate phi - phi) * rate ∧
      (tickNs n rate phi - phi - 1) * rate < (n : Int) * 1000000000 := by
  have hR : (0 : Int) < rate := by exact_mod_cast hr
  have lower := Int.ediv_mul_le (-((n : Int) * 1000000000)) hR.ne'
  have upper := Int.lt_ediv_add_one_mul_self (-((n : Int) * 1000000000)) hR
  unfold tickNs fdiv
  constructor <;> linarith

/-- Settles O52, by the order of the integers under floor division. -/
theorem ticksFallAtTheirInstants : Obligations.TicksFallAtTheirInstants := by
  unfold Obligations.TicksFallAtTheirInstants
  exact fun n rate ns phi hr hp => ⟨tickNs_le_iff hr hp, tickNs_ceil n phi hr⟩

/-! ## What steps 6 to 10 of R403 answer -/

/-- The session by which steps 9 and 10 judge a sender. -/
def State.senderSess (s : State) (c : Caller) : Session := match c.slot with | some n => s.sess n | none => {}

section
variable {s : State} {k : Card} {c : Caller} {pl : List Byte}

/-- R403: steps 7 to 10 in their order. -/
theorem State.verdict_eq : s.verdict (some k) c pl =
    if ¬ k.lenOk pl = true then Status.BAD_LENGTH
    else if presenceOf c.key c.sealOpen < k.presence s c pl then Status.PRESENCE_REQUIRED
    else if ¬ k.params s c pl = true then Status.BAD_PARAM
    else if k.deferred = true ∧ ¬ tagOk (s.senderSess c) c.tag = true then Status.BAD_PARAM
    else if k.deferred = true ∧ 32 ≤ (s.senderSess c).outstanding.length then Status.NO_RESOURCE
    else k.judge s c pl := rfl

theorem State.verdict_badLength (hl : k.lenOk pl = false) : s.verdict (some k) c pl = Status.BAD_LENGTH := by
  simp [State.verdict_eq, hl]

theorem State.verdict_presenceRequired (hl : k.lenOk pl = true) (hp : presenceOf c.key c.sealOpen < k.presence s c pl) :
    s.verdict (some k) c pl = Status.PRESENCE_REQUIRED := by
  simp [State.verdict_eq, hl, hp]

section
variable (hl : k.lenOk pl = true) (hp : k.presence s c pl ≤ presenceOf c.key c.sealOpen)
include hl hp

theorem State.verdict_badParam
    (h : k.params s c pl = false ∨ (k.deferred = true ∧ tagOk (s.senderSess c) c.tag = false)) :
    s.verdict (some k) c pl = Status.BAD_PARAM := by
  rcases h with h | ⟨hd, ht⟩
  · simp [State.verdict_eq, hl, Nat.not_lt.2 hp, h]
  · simp [State.verdict_eq, hl, Nat.not_lt.2 hp, hd, ht]

theorem State.verdict_noResource (hk : k.params s c pl = true) (hd : k.deferred = true)
    (ht : tagOk (s.senderSess c) c.tag = true) (hn : 32 ≤ (s.senderSess c).outstanding.length) :
    s.verdict (some k) c pl = Status.NO_RESOURCE := by
  simp [State.verdict_eq, hl, Nat.not_lt.2 hp, hk, hd, ht, hn]

theorem State.verdict_judge (hk : k.params s c pl = true)
    (hd : k.deferred = true → tagOk (s.senderSess c) c.tag = true ∧ (s.senderSess c).outstanding.length < 32) :
    s.verdict (some k) c pl = k.judge s c pl := by
  have htag : ¬ (k.deferred = true ∧ ¬ tagOk (s.senderSess c) c.tag = true) := fun h => h.2 (hd h.1).1
  have hroom : ¬ (k.deferred = true ∧ 32 ≤ (s.senderSess c).outstanding.length) :=
    fun h => Nat.not_le.2 (hd h.1).2 h.2
  rw [State.verdict_eq, if_neg (not_not.2 hl), if_neg (Nat.not_lt.2 hp), if_neg (not_not.2 hk), if_neg htag, if_neg hroom]

end

/-- A refused command answers its status; step 8 counts the refusal, the others leave what the card says. -/
theorem State.interpret_refused {op st : Nat} {p : Packet} (h : s.verdict (some k) c p.payload = st) (hst : st ≠ Status.OK) :
    s.interpret (some k) op p c =
      (if st = Status.PRESENCE_REQUIRED then s.tally T.GW_PRESENCE_DENIED else k.refused st s c p.payload).reply op p c st
        (k.why st s c p.payload) := by
  subst h
  unfold State.interpret
  dsimp only
  rw [if_pos hst]

end

section
variable {s : State} {p : Packet} {n : Nat} {k : Card} {i : Instr}

/-- The conditions under which a packet of session `n` is interpreted at once: SEQ newer, room in its berth, a pilot that
interprets commands and waits for no record. -/
structure State.Takes (s : State) (p : Packet) (n : Nat) : Prop where
  newer : ((s.heard p).sess n).fresh = true ∨ newer8 p.seq.toNat ((s.heard p).sess n).lastSeq = true
  room : (s.heard p).berthRoom p.spi = true
  pilot : (s.heard p).nvm.interpreting = true
  unheld : (s.heard p).nvm.held = none

theorem exec_refused {st : Nat} (hrow : (k, i) ∈ commandRows p) (hk : s.Known k.opcode p n) (ht : s.Takes p n)
    (hv : (s.served p n).verdict (some k) (s.senderOf p n) p.payload = st) (hst : st ≠ Status.OK) :
    exec i s = .next ((if st = Status.PRESENCE_REQUIRED then (s.served p n).tally T.GW_PRESENCE_DENIED
      else k.refused st (s.served p n) (s.senderOf p n) p.payload).reply k.opcode p (s.senderOf p n) st
        (k.why st (s.served p n) (s.senderOf p n) p.payload)) := by
  rw [exec_commandRow hrow, ← State.interpret_refused hv hst, ← State.arrive_served hk ht.newer ht.room ht.pilot ht.unheld]
  rfl

/-- A refusal of any step but the eighth. -/
theorem exec_refusedWith {st : Nat} (hrow : (k, i) ∈ commandRows p) (hk : s.Known k.opcode p n) (ht : s.Takes p n)
    (hv : (s.served p n).verdict (some k) (s.senderOf p n) p.payload = st) (hst : st ≠ Status.OK)
    (hp : st ≠ Status.PRESENCE_REQUIRED) :
    exec i s = .next ((k.refused st (s.served p n) (s.senderOf p n) p.payload).reply k.opcode p (s.senderOf p n) st
      (k.why st (s.served p n) (s.senderOf p n) p.payload)) := by
  rw [exec_refused hrow hk ht hv hst, if_neg hp]

/-- R413: a refusal of step 8 is counted. -/
theorem exec_presenceRequired (hrow : (k, i) ∈ commandRows p) (hk : s.Known k.opcode p n) (ht : s.Takes p n)
    (hv : (s.served p n).verdict (some k) (s.senderOf p n) p.payload = Status.PRESENCE_REQUIRED) :
    exec i s = .next (((s.served p n).tally T.GW_PRESENCE_DENIED).reply k.opcode p (s.senderOf p n) Status.PRESENCE_REQUIRED
      (k.why Status.PRESENCE_REQUIRED (s.served p n) (s.senderOf p n) p.payload)) := by
  rw [exec_refused hrow hk ht hv (by decide), if_pos rfl]

end

/-! ## Reserved bits -/

/-- The rows that write one settings object whole: card, object, its words, and where they begin in the payload. -/
def objectCards : List (Card × Nat × Nat × Nat) :=
  [(cardIngestConfigure, 0x1100, 9, 0), (cardCodecConfigure, 0x1200, 1, 0), (cardGangwayConfigure, 0x1000, 2, 0),
   (cardServiceConfigure, 0x1300, 3, 0), (cardScanoutConfigure, 0x1800, 18, 0), (cardMooringConfigure, 0x1400, 4, 4),
   (cardLanternConfigure, 0x1804, 11, 0), (cardMemConfigure, 0x1D00, 6, 0), (cardBacklightConfigure, 0x1E10, 43, 0),
   (cardRailProfileSet, 0x1E00, 17, 0), (cardWakeConfigure, 0x1F80, 1, 0), (cardLinkConfigure, 0x1900, 2, 4),
   (cardBbConfigure, 0x1910, 2, 4), (cardTriggerConfigure, 0x1B10, 6, 4), (cardTimeConfigure, 0x1B00, 5, 0),
   (cardGroupConfigure, 0x1C00, 3, 0), (cardFanConfigure, 0x1824, 25, 0)]

/-- R24: each of these cards checks the words that it would write against the bits that a host may write. -/
theorem wordsOk_of_params {k : Card} {id w off : Nat} (hrow : (k, id, w, off) ∈ objectCards) (s : State) (c : Caller)
    {pl : List Byte} (h : k.params s c pl = true) : wordsOk id (toWords w (pl.drop off)) = true := by
  simp only [objectCards, List.mem_cons, List.not_mem_nil, or_false, Prod.mk.injEq] at hrow
  casesm* _ ∨ _, _ ∧ _
  all_goals
    subst_vars
    simp only [cardIngestConfigure, cardCodecConfigure, cardGangwayConfigure, cardServiceConfigure, cardScanoutConfigure,
      cardMooringConfigure, cardLanternConfigure, cardMemConfigure, cardBacklightConfigure, cardRailProfileSet,
      cardWakeConfigure, cardLinkConfigure, cardBbConfigure, cardTriggerConfigure, cardTimeConfigure, cardGroupConfigure,
      cardFanConfigure, serviceOk, scanoutOk, mooringOk, lanternOk, backlightOk, railsOk, trigOk, timeOk, fanOk,
      State.groupOk, Bool.and_eq_true] at h
    simp [h]

theorem params_false_of_badBits {k : Card} {id w off : Nat} (hrow : (k, id, w, off) ∈ objectCards) (s : State) (c : Caller)
    {pl : List Byte} (h : badBits ((objWords id).getD []) (toWords w (pl.drop off)) = true) : k.params s c pl = false := by
  by_contra hpar
  have hw := wordsOk_of_params hrow s c (Bool.eq_true_of_not_eq_false hpar)
  simp [wordsOk, h] at hw

/-- Settles O38, from the verdict of each step and the one lemma on what a refused command leaves. -/
theorem refusalsComeInTheOrderOfTheirSteps : Obligations.RefusalsComeInTheOrderOfTheirSteps := by
  unfold Obligations.RefusalsComeInTheOrderOfTheirSteps
  rintro s _ p n _ rfl rfl hnew hroom hpilot hheld
  have ht : s.Takes p n := ⟨hnew, hroom, hpilot, hheld⟩
  refine ⟨fun k i hrow hk => ⟨fun hl => ?_, fun hl hp => ?_, fun hl hp h => ?_, fun hl hp hpar hd htag hn => ?_,
    fun st hl hp hpar hd hj hst hnp => ?_⟩, fun k i id w off hrow hk hobj hl hp hbad => ?_, fun hk hlen hid hobj => ?_⟩
  · exact exec_refusedWith hrow hk ht (State.verdict_badLength hl) (by decide) (by decide)
  · exact exec_presenceRequired hrow hk ht (State.verdict_presenceRequired hl hp)
  · exact exec_refusedWith hrow hk ht (State.verdict_badParam hl hp h) (by decide) (by decide)
  · exact exec_refusedWith hrow hk ht (State.verdict_noResource hl hp hpar hd htag hn) (by decide) (by decide)
  · exact exec_refusedWith hrow hk ht ((State.verdict_judge hl hp hpar hd).trans hj) hst hnp
  · exact exec_refusedWith hrow hk ht
      (State.verdict_badParam hl hp (.inl (params_false_of_badBits hobj _ _ hbad))) (by decide) (by decide)
  · have hpar : cardSettingsRevert.params (s.served p n) (s.senderOf p n) p.payload = false := by
      simp [cardSettingsRevert, hid, hobj]
    have hl : cardSettingsRevert.lenOk p.payload = true := by simp [cardSettingsRevert, lenIs, hlen]
    have hrow : (cardSettingsRevert, Instr.settingsRevert p) ∈ commandRows p := by simp [commandRows]
    have hrefused :=
      exec_refusedWith hrow hk ht (State.verdict_badParam hl (Nat.zero_le _) (.inl hpar)) (by decide) (by decide)
    exact hrefused

/-! ## Settings commands -/

/-- Settles O1: each of these cards is immediate, and its run is the write that the statement names. -/
theorem settingsCommandsWriteTheirObject : Obligations.SettingsCommandsWriteTheirObject := by
  unfold Obligations.SettingsCommandsWriteTheirObject
  intro s p n
  refine ⟨?_, ?_, ?_, ?_, ?_, ?_, ?_, ?_, ?_, ?_, ?_, ?_, ?_, ?_, ?_⟩
  all_goals exact fun h => runCommand_done h rfl

/-! ## Datagrams (R100, R104) -/

section
variable {s : State} {t : Cyc} {d : Datagram}

/-- The four rows of group messages all have the outcome `nextOf (s.groupArrives t d)`. -/
theorem nextOf_groupArrives_taken
    (h : (s.hostAt t).serving = true ∧ (s.hostAt t).get F.DEV_IP ≠ 0 ∧ (s.hostAt t).traffic d.dstIp d.dstPort = .group) :
    nextOf (s.groupArrives t d) = .next ((s.hostAt t).groupIn d) := congrArg nextOf (if_pos h)

theorem nextOf_groupArrives_ignored
    (h : ¬ ((s.hostAt t).serving = true ∧ (s.hostAt t).get F.DEV_IP ≠ 0 ∧ (s.hostAt t).traffic d.dstIp d.dstPort = .group)) :
    nextOf (s.groupArrives t d) = .next (s.hostAt t) := congrArg nextOf (if_neg h)

/-- R100, R104: what becomes of a datagram of each class. -/
def State.sortDatagram (s : State) (t : Cyc) (d : Datagram) : Traffic → State
  | .scene => s.sceneAdmit d
  | .command => s.arrive (cardOf (num d.payload 2 2)) (num d.payload 2 2) (Datagram.packet d t)
  | .group => s.groupIn d
  | .other => s.tally T.ING_PORT

theorem execSceneDatagram_ignored
    (h : (s.hostAt t).serving = false ∨ (s.hostAt t).get F.DEV_IP = 0) :
    execSceneDatagram t d s = .next (s.hostAt t) :=
  if_pos (h.imp_left (by simp))

theorem execSceneDatagram_sorted {c : Traffic} (hs : (s.hostAt t).serving = true)
    (hip : (s.hostAt t).get F.DEV_IP ≠ 0) (hc : (s.hostAt t).traffic d.dstIp d.dstPort = c) :
    execSceneDatagram t d s = .next ((s.hostAt t).sortDatagram t d c) := by
  subst hc
  have hserves : ¬ (¬ (s.hostAt t).serving = true ∨ (s.hostAt t).get F.DEV_IP = 0) := by simp [hs, hip]
  unfold execSceneDatagram
  dsimp only
  rw [if_neg hserves]
  cases (s.hostAt t).traffic d.dstIp d.dstPort <;> rfl

theorem execSceneChunk_serving (h : (s.hostAt t).serving = true) :
    execSceneChunk t s = .next (s.hostAt t).nextChunk.extraHeartbeat := if_pos h

theorem execSceneChunk_ignored (h : ¬ (s.hostAt t).serving = true) :
    execSceneChunk t s = .next (s.hostAt t) := if_neg h

end

/-- Settles O9, from what each class of datagram and each group message does. -/
theorem datagramsAreSortedByPortAndAddress : Obligations.DatagramsAreSortedByPortAndAddress := by
  unfold Obligations.DatagramsAreSortedByPortAndAddress
  rintro s _ t rfl
  exact ⟨fun _ => execSceneDatagram_ignored, fun _ => execSceneDatagram_sorted, fun _ => execSceneDatagram_sorted,
    fun _ => execSceneDatagram_sorted, fun _ => execSceneDatagram_sorted,
    fun _ => nextOf_groupArrives_taken, fun _ => nextOf_groupArrives_ignored,
    fun _ => nextOf_groupArrives_taken, fun _ => nextOf_groupArrives_ignored,
    fun _ => nextOf_groupArrives_taken, fun _ => nextOf_groupArrives_ignored,
    fun _ => nextOf_groupArrives_taken, fun _ => nextOf_groupArrives_ignored,
    execSceneChunk_serving, execSceneChunk_ignored⟩

end Sys2Proof.Machine
end

section
/-! SUPPORT. The architecture (01_architecture): commands that wait for a pilot, and what the events of the Quay, the codec,
the fields, the trowels, Skim and the correction maps do. -/

namespace Sys2Proof.Machine

/-! ## Commands that wait for the pilot (R405) -/

section
variable {s : State} {p : Packet} {n op : Nat} {c : Option Card}

theorem State.dispatch_waits {slot : Option Nat} (hop : op ≠ overlayCommitOpcode)
    (hpilot : s.nvm.interpreting = false ∨ s.nvm.held.isSome = true) : s.dispatch c op p slot = s.wait op p slot := by
  refine if_neg ?_
  rintro (⟨hi, hh⟩ | ⟨ho, -⟩)
  · rcases hpilot with h | h
    · simp [h] at hi
    · simp [Option.isNone_iff_eq_none.1 hh] at h
  · exact hop ho

section
variable (hk : s.Known op p n)
  (hnew : ((s.heard p).sess n).fresh = true ∨ newer8 p.seq.toNat ((s.heard p).sess n).lastSeq = true)
  (hop : op ≠ overlayCommitOpcode)
include hk hnew hop

/-- R403 step 5: a new command of a session, other than OVERLAY_COMMIT, needs room in its berth. -/
theorem State.arrive_newer : s.arrive c op p =
    if (s.heard p).berthRoom p.spi = true then (s.served p n).dispatch c op p (some n)
    else (s.heard p).tally T.ING_CMD_FULL := by
  have hopen : ¬ (p.token = 0 ∧ (op = 0x0101 ∨ op = 0x0105)) := fun e => hk.token e.1
  unfold State.arrive State.take
  simp only [hk.whole, hk.header, hk.crc, hk.session, hopen, hnew, hop, not_true_eq_false, ne_eq, if_false, if_true,
    false_and, false_or]
  rfl

theorem State.arrive_waits (hroom : (s.heard p).berthRoom p.spi = true)
    (hpilot : (s.heard p).nvm.interpreting = false ∨ (s.heard p).nvm.held.isSome = true) :
    s.arrive c op p = (s.served p n).wait op p (some n) := by
  rw [State.arrive_newer hk hnew hop, if_pos hroom]
  exact State.dispatch_waits hop hpilot

theorem State.arrive_noRoom (hroom : (s.heard p).berthRoom p.spi = false) :
    s.arrive c op p = (s.heard p).tally T.ING_CMD_FULL := by
  rw [State.arrive_newer hk hnew hop, if_neg (by simp [hroom])]

end

end

/-- Settles O49: recording a command in its session leaves the pilot's state, by which it is dispatched. -/
theorem commandsWaitForThePilot : Obligations.CommandsWaitForThePilot := by
  unfold Obligations.CommandsWaitForThePilot
  intro s p n k i hrow hop hk hnew
  rw [exec_commandRow hrow]
  exact ⟨fun hroom hpilot => congrArg nextOf (State.arrive_waits hk hnew hop hroom hpilot),
    fun hroom => congrArg nextOf (State.arrive_noRoom hk hnew hop hroom)⟩

/-! ## The Quay and the reports (R103, R120, R121, R359) -/

section
variable {s : State} {e : Nat × Nat × Nat × Nat × Nat} {r : List (Nat × Nat × Nat × Nat × Nat)}

/-- R103: the oldest chunk that may spill does so while the Quay is at its mark and the pool and the ceiling have room. -/
theorem State.spill_cons : s.spill (e :: r) =
    if spillAt ≤ s.quayUsed ∧ (s.spillOne e.2.1 e.2.2.1 e.2.2.2.1).spillUsed ≤ spillPool ∧ s.ingestRoom e.2.2.2.2 = true then
      ((s.spillOne e.2.1 e.2.2.1 e.2.2.2.1).ingestWrote e.2.2.2.2).spill r
    else s := rfl

end

/-- Settles O12, from the rule for the first chunk and the one condition of each report. -/
theorem quayAndReportEvents : Obligations.QuayAndReportEvents := by
  unfold Obligations.QuayAndReportEvents
  rintro s _ t rfl
  refine ⟨fun hnone => ?_, fun e r hl hstop => ?_, fun e r hl hmark hpool hroom => ?_, fun _ h => if_pos h, fun _ h => if_neg h,
    fun _ h => if_pos h, fun _ h => if_neg h⟩
  all_goals change nextOf ((s.at t).spill (s.at t).spillable) = _
  · rw [hnone]
    rfl
  · rw [hl, State.spill_cons, if_neg hstop]
    rfl
  · rw [hl, State.spill_cons, if_pos ⟨hmark, hpool, hroom⟩]
    rfl

/-! ## Scene cuts, plans, ticks, tide marks and latches (R35 to R46, R273) -/

section
variable {s a : State} {t : Cyc}

theorem State.cutReady_iff : s.cutReady = true ↔ s.serving = true ∧ s.ticksOn = true ∧ s.harbour.lastCut ≠ some s.dueCut ∧
    ¬ (s.scan.ticked = true ∧ s.dueCut ≤ s.scan.field) ∧ s.scan.notBefore ≤ s.cutNs s.dueCut := by
  simp [State.cutReady, and_assoc, imp_iff_not_or]

theorem State.tideReady_iff : s.tideReady = true ↔ s.linesRun = true ∧ s.scan.lantern = false ∧ s.scan.changeT0 = none ∧
    s.scan.tide ≠ some s.tideNow ∧ s.scan.notBefore < s.lineNs s.tideNow.1 (32 * s.tideNow.2) := by
  simp [State.tideReady, and_assoc]

theorem State.latchReady_iff : s.latchReady = true ↔ s.serving = true ∧ s.ticksOn = true ∧ s.scan.latchField ≠ some s.latchNow ∧
    s.scan.notBefore < s.lineNs (s.latchNow - 1) 2048 := by
  simp [State.latchReady, and_assoc]

section
variable (ha : a = s.at t)
include ha

theorem execSceneCut_ready (h : a.cutReady = true) : execSceneCut t s = .next (a.takeCut a.dueCut) := by
  subst ha
  exact congrArg nextOf (if_pos h)

theorem execSceneCut_notReady (h : ¬ a.cutReady = true) : execSceneCut t s = .next a := by
  subst ha
  exact congrArg nextOf (if_neg h)

theorem execPlanComplete_built (h : a.serving = true ∧ a.harbour.next.built = true) :
    execPlanComplete t s = .next { a with harbour := { a.harbour with next := { a.harbour.next with complete := true } } } := by
  subst ha
  exact congrArg nextOf (if_pos h)

theorem execPlanComplete_notBuilt (h : ¬ (a.serving = true ∧ a.harbour.next.built = true)) :
    execPlanComplete t s = .next a := by
  subst ha
  exact congrArg nextOf (if_neg h)

theorem execFieldTick_due {n : Nat} (h : a.tickDue = some n) : execFieldTick t s = .next (a.takeTick n).drain := by
  subst ha
  simp only [execFieldTick, h]
  rfl

theorem execFieldTick_notDue (h : a.tickDue = none) : execFieldTick t s = .next a := by
  subst ha
  simp only [execFieldTick, h]
  rfl

theorem execTideMark_ready (h : a.tideReady = true) :
    execTideMark t s = .next (a.takeTide a.tideNow.1 a.tideNow.2) := by
  subst ha
  exact congrArg nextOf (if_pos h)

theorem execTideMark_notReady (h : ¬ a.tideReady = true) : execTideMark t s = .next a := by
  subst ha
  exact congrArg nextOf (if_neg h)

theorem execCommitLatch_ready (h : a.latchReady = true) : execCommitLatch t s = .next (a.takeLatch a.latchNow) := by
  subst ha
  exact congrArg nextOf (if_pos h)

theorem execCommitLatch_notReady (h : ¬ a.latchReady = true) : execCommitLatch t s = .next a := by
  subst ha
  exact congrArg nextOf (if_neg h)

end

end

/-- Settles O15: each instant has one condition, and is taken exactly where it holds. -/
theorem fieldEvents : Obligations.FieldEvents := by
  unfold Obligations.FieldEvents
  intro s a t ha
  exact ⟨fun h => execSceneCut_ready ha (State.cutReady_iff.2 h), fun h => execSceneCut_notReady ha (mt State.cutReady_iff.1 h),
    execPlanComplete_built ha, execPlanComplete_notBuilt ha, fun _ => execFieldTick_due ha, execFieldTick_notDue ha,
    fun h => execTideMark_ready ha (State.tideReady_iff.2 h), fun h => execTideMark_notReady ha (mt State.tideReady_iff.1 h),
    fun h => execCommitLatch_ready ha (State.latchReady_iff.2 h),
    fun h => execCommitLatch_notReady ha (mt State.latchReady_iff.1 h)⟩

/-! ## What the tick and the latch do -/

section
variable {s : State} {n : Nat}

/-- R40: the order of a cut. -/
theorem State.takeCut_eq {b c d e v : State} {p : Plan} (hb : b = s.cutConfig n)
    (hc : c = (if b.frameTick n = true then b.sampleModes n else b).corrHold)
    (hd : d = if c.frameTick n = true then c.cutScene n else c)
    (he : e = if d.frameTick n = true ∧ d.scan.changeT0.isNone = true then d.rejoin n else d)
    (hv : v = e.measureCoefs.promote.fixDrops n) (hp : p = v.planFor n) :
    s.takeCut n = State.extraHeartbeat (State.configured { v with
      harbour := { v.harbour with next := p, cold := v.harbour.cold && !p.built, lastCut := some n } } n) := by
  rw [State.takeCut]
  simp only [← hb, ← hc, ← hd, ← he, ← hv, ← hp]

/-- R35, R38: the field on display and its phase, and the memory configuration in force from its tick on. -/
def State.fieldShows (s : State) (n : Nat) : State :=
  { s with
    scan := { s.scan with
      field := n, ticked := true, phi := phiAt s.scan.phi s.scan.phiNext n,
      phiNext := s.scan.phiNext.filter (fun e => decide (n < e.2)) }
    cfg := { s.cfg with tickMem := s.obj 0x1D00 } }

theorem State.fieldShows_serving : (s.fieldShows n).serving = s.serving := rfl

theorem State.takeTick_notServing (h : s.serving = false) : s.takeTick n = s.fieldShows n :=
  if_pos (show ¬ (s.fieldShows n).serving = true by simp [State.fieldShows_serving, h])

/-- R35, R38, R43: the work of a tick, in its order, on a device that serves. -/
def State.tickWork (s : State) (n : Nat) : State :=
  let v := (((s.plansTick n).workTick n).countsTick n).bbCounts
  let w := if v.frameTick n then v.groupTick.phiTick n else v
  ((w.planRec.snapTick n).tallyTick).pilotTick n

theorem State.takeTick_serving (h : s.serving = true) : s.takeTick n = (s.fieldShows n).tickWork n :=
  if_neg (not_not.2 h)

/-- R46, R174, R173, R255: the order of a tide mark. -/
theorem State.takeTide_eq {f k : Nat} {u v w x y : State} (hu : u = { s with scan := { s.scan with tide := some (f, k) } })
    (hv : v = if k < 64 then (u.enterField f).rowTest f k else u) (hw : w = v.skipTiles f)
    (hx : x = if w.harbour.cur.built = true then (List.range 16).foldl (fun (z : State) g => z.escalate k g) w else w)
    (hy : y = { x with
      skim := { x.skim with
        stamp := (List.range 16).map (fun c => if x.usedPorts.contains c then (f, 32 * k) else nth x.skim.stamp c (0, 0))
        surfaces := x.skim.surfaces.map (fun (e : Nat × Surface) => (e.1, e.2.prune
          (if k = 0 then x.lineNs (f - 1) 2048 else x.lineNs f (32 * (k - 1))))) } }) :
    s.takeTide f k = y.tideReleases k (x.lineNs f (32 * k)) := by
  rw [State.takeTide]
  simp only [← hu, ← hv, ← hw, ← hx, ← hy]

/-- R284, R273: what the latch of field `n` does first: it begins the change due, or is noted. -/
theorem State.takeLatch_eq {u v w : State}
    (hu : u = if s.fieldShown (n - 1) = true ∧ ¬ s.scan.lantern = true then s.endFieldCounts n else s)
    (hnote : u.changeDue n = none → v = { u with scan := { u.scan with latchField := some n } })
    (hbegin : ∀ c, u.changeDue n = some c → v = u.beginChange c false)
    (hw : w = (v.latchPlane n 0).latchPlane n 1) : s.takeLatch n = w.schedule n := by
  subst hw hu
  cases hdue : State.changeDue (if s.fieldShown (n - 1) = true ∧ ¬ s.scan.lantern = true then s.endFieldCounts n else s) n with
  | none =>
    rw [hnote hdue]
    simp only [State.takeLatch, hdue]
  | some c =>
    rw [hbegin c hdue]
    simp only [State.takeLatch, hdue]

/-- R469: the zone schedule is fixed with BacklightConfig as it stands at the latch. -/
theorem State.schedule_latchBl : (s.schedule n).cfg.latchBl = s.obj 0x1E10 := rfl

end

/-- Settles O16: the condition of each instant as in O15, and what it does, in the order of its definition. -/
theorem theFieldComesToItsInstants : Obligations.TheFieldComesToItsInstants := by
  unfold Obligations.TheFieldComesToItsInstants
  intro s a t ha
  refine ⟨fun n b c d e v p hs ht hn hc hf hb hcut hsample hscene hjoin hplan hp => ?cut, fun hs hb => ?plan,
    fun n u hdue hu hs => ?tickIdle, fun n u v w x hdue hu hs hv hw hx => ?tick,
    fun f k u v w x y hl hlan hch hnow ht hb hu hv hw hx hy => ?tide,
    fun n u v w hs ht hn hl hb hu hnote hbegin hw => ?latch⟩
  case cut =>
    subst hn
    have hready : a.cutReady = true := State.cutReady_iff.2 ⟨hs, ht, hc, hf, hb⟩
    rw [← State.takeCut_eq hcut hsample hscene hjoin hplan hp]
    exact execSceneCut_ready ha hready
  case plan => exact ⟨_, execPlanComplete_built ha ⟨hs, hb⟩, rfl, rfl, rfl⟩
  case tickIdle =>
    subst hu
    exact (execFieldTick_due ha hdue).trans (by rw [State.takeTick_notServing hs]; rfl)
  case tick =>
    subst hu hv hw hx
    exact (execFieldTick_due ha hdue).trans (by rw [State.takeTick_serving hs]; rfl)
  case tide =>
    have hready : a.tideReady = true := State.tideReady_iff.2 ⟨hl, hlan, hch, by rwa [hnow], by rwa [hnow]⟩
    have hexec := execTideMark_ready ha hready
    rwa [hnow, State.takeTide_eq hu hv hw hx hy] at hexec
  case latch =>
    subst hn
    have hexec := execCommitLatch_ready ha (State.latchReady_iff.2 ⟨hs, ht, hl, hb⟩)
    rw [State.takeLatch_eq hu hnote hbegin hw] at hexec
    exact ⟨hexec, State.schedule_latchBl⟩

/-! ## Decompression lanes and library reads (R130 to R144, R179, R359) -/

section
variable {s : State} {n : Nat} {l : LibRead}

/-- R359: the piece of a REPAIR stream that has not ended is kept with what came before it. -/
theorem State.repairPiece_more (hd : l.done = false) : s.repairPiece n l =
    s.setLib n { l with
      released := l.written, part := l.part ++ (l.output.drop l.released).take (l.written - l.released) } :=
  if_pos (by simp [hd])

/-- R359: the chunks of a REPAIR stream decoded to its end are received. -/
theorem State.repairPiece_whole {b : List Byte} (hb : b = l.part ++ (l.output.drop l.released).take (l.written - l.released))
    (hd : l.done = true) (hc : l.code = Zstd.NONE) :
    s.repairPiece n l = ((s.endLib n).repairChunks n (b.length + 1) b).extraHeartbeat := by
  subst hb
  exact (if_neg (not_not.2 hd)).trans (if_pos hc)

/-- R359: a REPAIR stream that failed is discarded. -/
theorem State.repairPiece_failed (hd : l.done = true) (hc : l.code ≠ Zstd.NONE) : s.repairPiece n l = s.endLib n :=
  (if_neg (not_not.2 hd)).trans (if_neg hc)

/-- R130, R99, R128: what the consumer of a library piece leaves, by what the chunk reader answers. -/
theorem State.takePiece_of_libraryChunks {b rest : List Byte} {u : State} {crc : Nat × Nat}
    (hb : b = l.part ++ (l.output.drop l.released).take (l.written - l.released))
    (hr : (s.setCrc (libUnit n) l.crc.1 l.crc.2).libraryChunks (libUnit n) (b.length + 1) l.crc b = (u, rest, crc)) :
    s.takePiece n l = (u, { l with released := l.written, part := rest, crc := crc }) := by
  subst hb
  simp only [State.takePiece, hr]

end

section
variable {s a : State} {t : Cyc} (ha : a = s.at t)
include ha

theorem execDecompressionJobEnd_blocked {k : Nat} (h : a.lanesOn = false ∨ a.ingestRoom (a.laneWrites k) = false) :
    execDecompressionJobEnd t k s = .next a := by
  subst ha
  exact if_pos (by simpa using h)

/-- R137, R140: what ends on a lane that may write its output. -/
theorem execDecompressionJobEnd_runs {k : Nat} (hon : a.lanesOn = true) (hroom : a.ingestRoom (a.laneWrites k) = true) :
    execDecompressionJobEnd t k s = match nth a.codec.lanes k none with
      | some (.tile n f c rel x y input raw) => nextOf (a.endTile k n f c rel x y input raw).extraHeartbeat
      | some (.segment n) => nextOf (a.endSegment k n)
      | none => nextOf a := by
  subst ha
  exact if_neg (by simp [hon, hroom])

theorem execDecompressionJobEnd_idle {k : Nat} (h : nth a.codec.lanes k none = none) :
    execDecompressionJobEnd t k s = .next a := by
  by_cases hready : a.lanesOn = true ∧ a.ingestRoom (a.laneWrites k) = true
  · rw [execDecompressionJobEnd_runs ha hready.1 hready.2, h]
    rfl
  · exact execDecompressionJobEnd_blocked ha (by simpa [imp_iff_not_or] using hready)

/-- R140, R48: a segment that may go on on the lane assigned now. -/
theorem execDecompressionResume_read {n : Nat} {l : LibRead} (hl : Tab.get? a.codec.libs n = some l) :
    execDecompressionResume t n s =
      if a.lanesOn = true ∧ (l.repair = true ∨ a.harbour.profile = 1) ∧ l.suspended = true ∧ l.released = l.written ∧
          (a.moor n).laneSet = true ∧ nth a.codec.lanes (a.moor n).lane none = none then
        nextOf ((a.setLib n { l with suspended := false, saved := none }).setLane (a.moor n).lane (some (.segment n)))
      else nextOf a := by
  subst ha
  simp only [execDecompressionResume, hl]

theorem execDecompressionResume_noRead {n : Nat} (hl : Tab.get? a.codec.libs n = none) :
    execDecompressionResume t n s = .next a := by
  subst ha
  simp only [execDecompressionResume, hl]
  rfl

theorem execLibrarySegmentRead_ignored {n f size : Nat} {r : SegmentRead}
    (h : ¬ (a.lanesOn = true ∧ a.harbour.profile = 1 ∧ a.libMoor n = true ∧ Tab.get? a.codec.libs n = none ∧
      a.scheduled n f = true)) : execLibrarySegmentRead t n f r size s = .next a := by
  subst ha
  exact if_neg (by simpa using h)

/-- R130, R99, R139, R48: the piece of a read by what the read is of and how far it has come. -/
theorem execLibraryPieceRelease_read {n : Nat} {l : LibRead} (hl : Tab.get? a.codec.libs n = some l) :
    execLibraryPieceRelease t n s =
      if ¬ a.lanesOn = true then nextOf a
      else if l.repair = true then nextOf (a.repairPiece n l)
      else if a.harbour.profile ≠ 1 then nextOf a
      else if l.released < l.written ∧ ¬ (l.done = true ∧ l.code ≠ Zstd.NONE) then
        if l.done = true then nextOf ((a.takePiece n l).1.endLib n)
        else nextOf ((a.takePiece n l).1.setLib n (a.takePiece n l).2)
      else if l.done = true then nextOf (a.endLib n)
      else nextOf a := by
  subst ha
  simp only [execLibraryPieceRelease, hl]

theorem execLibraryPieceRelease_noRead {n : Nat} (hl : Tab.get? a.codec.libs n = none) :
    execLibraryPieceRelease t n s = .next a := by
  subst ha
  simp only [execLibraryPieceRelease, hl]
  rfl

section
variable {n : Nat} {l : LibRead} (hl : Tab.get? a.codec.libs n = some l)
include hl

theorem execLibraryPieceRelease_waits (h : a.lanesOn = false ∨ l.repair = false ∧ a.harbour.profile ≠ 1 ∨
    l.repair = false ∧ l.written ≤ l.released ∧ l.done = false) : execLibraryPieceRelease t n s = .next a := by
  rw [execLibraryPieceRelease_read ha hl]
  rcases h with hoff | ⟨hrepair, hprofile⟩ | ⟨hrepair, hwritten, hdone⟩
  · simp [hoff, nextOf]
  · simp [hrepair, hprofile, nextOf]
  · simp [hrepair, Nat.not_lt.2 hwritten, hdone, nextOf]

variable (hon : a.lanesOn = true)
include hon

theorem execLibraryPieceRelease_repair (hrepair : l.repair = true) :
    execLibraryPieceRelease t n s = .next (a.repairPiece n l) := by
  simp [execLibraryPieceRelease_read ha hl, hon, hrepair, nextOf]

section
variable (hrepair : l.repair = false) (hprofile : a.harbour.profile = 1)
include hrepair hprofile

/-- R139: a read that is done and has nothing left to give, or failed, ends. -/
theorem execLibraryPieceRelease_ends (hdone : l.done = true) (h : l.written ≤ l.released ∨ l.code ≠ Zstd.NONE) :
    execLibraryPieceRelease t n s = .next (a.endLib n) := by
  rcases h with hall | hfailed
  · simp [execLibraryPieceRelease_read ha hl, hon, hrepair, hprofile, hdone, Nat.not_lt.2 hall, nextOf]
  · simp [execLibraryPieceRelease_read ha hl, hon, hrepair, hprofile, hdone, hfailed, nextOf]

variable (hlt : l.released < l.written)
include hlt

theorem execLibraryPieceRelease_more (hdone : l.done = false) :
    execLibraryPieceRelease t n s = .next ((a.takePiece n l).1.setLib n (a.takePiece n l).2) := by
  simp [execLibraryPieceRelease_read ha hl, hon, hrepair, hprofile, hdone, hlt, nextOf]

theorem execLibraryPieceRelease_last (hdone : l.done = true) (hcode : l.code = Zstd.NONE) :
    execLibraryPieceRelease t n s = .next ((a.takePiece n l).1.endLib n) := by
  simp [execLibraryPieceRelease_read ha hl, hon, hrepair, hprofile, hdone, hcode, hlt, nextOf]

end

end

end

/-- Settles O13, from what each event does for each kind of read or job that it finds. -/
theorem libraryEvents : Obligations.LibraryEvents := by
  unfold Obligations.LibraryEvents
  intro s a t ha
  refine ⟨fun k bad h => ?start, fun k bad h => ?startIgnored, fun _ => execDecompressionJobEnd_blocked ha,
    fun _ => execDecompressionJobEnd_idle ha, fun k n f c rel x y i raw hon hroom hj => ?tileEnds,
    fun k n hon hroom hj => ?segmentEnds, fun _ => execDecompressionResume_noRead ha,
    fun n l hl hon hp hsusp hrel hset hidle =>
      (execDecompressionResume_read ha hl).trans (if_pos ⟨hon, hp, hsusp, hrel, hset, hidle⟩),
    fun n l hl h => (execDecompressionResume_read ha hl).trans (if_neg h),
    fun _ _ _ _ _ => execLibrarySegmentRead_ignored ha,
    fun n f seg size chans l u hl hon hp hm hnone hsched hu => ?readBegins,
    fun _ => execLibraryPieceRelease_noRead ha, fun _ _ hl => execLibraryPieceRelease_waits ha hl,
    fun _ _ hl hon hr hp => execLibraryPieceRelease_ends ha hl hon hr hp,
    fun n l b u rest crc hl hon hr hp hlt hd hb hchunks => ?pieceTaken,
    fun n l b u rest crc hl hon hr hp hlt hd hc hb hchunks => ?lastPieceTaken,
    fun n l b hl hon hr hb hd => ?repairGathers, fun n l b hl hon hr hb hd hc => ?repairReceived,
    fun n l hl hon hr hd hc => ?repairFailed⟩
  case start =>
    subst ha
    exact if_pos h
  case startIgnored =>
    subst ha
    exact if_neg h
  case tileEnds | segmentEnds =>
    have hends := execDecompressionJobEnd_runs ha hon hroom
    rw [hj] at hends
    exact hends
  case readBegins =>
    subst ha hu hl
    exact if_pos ⟨hon, hp, hm, by rw [hnone]; rfl, hsched⟩
  case pieceTaken =>
    have htaken := execLibraryPieceRelease_more ha hl hon hr hp hlt hd
    rw [State.takePiece_of_libraryChunks hb hchunks] at htaken
    exact htaken
  case lastPieceTaken =>
    have htaken := execLibraryPieceRelease_last ha hl hon hr hp hlt hd hc
    rw [State.takePiece_of_libraryChunks hb hchunks] at htaken
    exact htaken
  case repairGathers =>
    subst hb
    exact (execLibraryPieceRelease_repair ha hl hon hr).trans (congrArg nextOf (State.repairPiece_more hd))
  case repairReceived =>
    exact (execLibraryPieceRelease_repair ha hl hon hr).trans (congrArg nextOf (State.repairPiece_whole hb hd hc))
  case repairFailed =>
    exact (execLibraryPieceRelease_repair ha hl hon hr).trans (congrArg nextOf (State.repairPiece_failed hd hc))

/-! ## Compression lanes (R141 to R149, R180, R514) -/

section
variable {s : State} {k : Nat} {j : CJob} {r : List CJob} {bad : List Nat}

theorem State.laneBlock_noJob (h : nth s.codec.clanes k [] = []) : s.laneBlock k bad = s := by
  simp only [State.laneBlock, h]

section
variable (hj : nth s.codec.clanes k [] = j :: r)
include hj

/-- R141: a job whose destination is full is suspended. -/
theorem State.laneBlock_full (hfull : s.destFull j = true) : s.laneBlock k bad = s.suspendHead k := by
  simp only [State.laneBlock, hj, hfull, if_true]

variable (hfree : s.destFull j = false)
include hfree

/-- R57: a block beyond the ceiling of its class waits. -/
theorem State.laneBlock_noRoom (hroom : s.otherRoom (min 131072 j.rest.length) = false) : s.laneBlock k bad = s := by
  simp [State.laneBlock, hj, hfree, hroom]

/-- R146, R147, R151: the order of what follows a block that is emitted. -/
theorem State.laneBlock_emits {input : List Byte} {j2 : CJob} {failed last : Bool} {w x y z : State}
    (hroom : s.otherRoom (min 131072 j.rest.length) = true) (hi : input = blank 64 bad.contains j.rest)
    (hstep : CJob.step { j with suspended := false, rest := input } = (j2, failed, last))
    (hw : w = ((s.runHead k).setClane k (j2 :: r)).setCrc 14 j2.crc.1 j2.crc.2)
    (hx : x = State.otherMoved { w with codec := { w.codec with
      cIn := modAt w.codec.cIn k (· + (j.rest.length - j2.rest.length)) } } (j.rest.length - j2.rest.length))
    (hy : y = if x.inSlice j = true then x.sliceTaken (j.rest.length - j2.rest.length) else x)
    (hz : z = if failed = true then y.verifyFailed k j.blocks else y) :
    s.laneBlock k bad = if last = true then (((z.nextJob k).jobDone j2).unitDone j2).repairPump else z := by
  subst hi
  simp only [State.laneBlock, hj, hfree, hroom, hstep, ← hw, ← hx, ← hy, ← hz, Bool.false_eq_true,
    not_true_eq_false, if_false]

end

theorem State.preempt_noHigher (h : s.higherJob (nth s.codec.clanes k []) = none) : s.preempt k = s := by
  simp only [State.preempt, h]

/-- R141, R149: a job of higher rank takes the lane where the head could be suspended. -/
theorem State.preempt_higher {x : CJob} (h : s.higherJob (nth s.codec.clanes k []) = some x)
    (hj : nth (s.suspendHead k).codec.clanes k [] = j :: r) : s.preempt k =
      if j.suspended = true then ((s.suspendHead k).setClane k (x :: j :: r.erase x)).runHead k else s := by
  simp only [State.preempt, h, hj]

theorem State.wakeWaits_iff : s.wakeWaits = true ↔ s.wake.exportMode = 2 ∧ s.wake.collector.1 ≠ 0 ∧
    unitOf 4096 (s.wake.ring.drop s.wake.exported) ≠ [] ∧ s.unitFree = true := by
  simp [State.wakeWaits, State.wakeUnit, and_assoc]

end

section
variable {s a : State} {t : Cyc} (ha : a = s.at t)
include ha

theorem execCompressionBlockDone_off {r : ReadBy} (h : a.lanesOn = false) : execCompressionBlockDone t r s = .next a := by
  subst ha
  exact if_neg (by simp [h])

theorem execCompressionBlockDone_on {r : ReadBy} (h : a.lanesOn = true) :
    execCompressionBlockDone t r s = .next (a.laneBlock r.k (r.bad.filter (· < 2048))) := by
  subst ha
  exact if_pos h

theorem execCompressionBlockDone_noJob {r : ReadBy} (h : nth a.codec.clanes r.k [] = []) :
    execCompressionBlockDone t r s = .next a := by
  cases hon : a.lanesOn with
  | false => exact execCompressionBlockDone_off ha hon
  | true => rw [execCompressionBlockDone_on ha hon, State.laneBlock_noJob h]

theorem execCompressionPreempt_off {k : Nat} (h : a.lanesOn = false) : execCompressionPreempt t k s = .next a := by
  subst ha
  exact if_neg (by simp [h])

theorem execCompressionPreempt_on {k : Nat} (h : a.lanesOn = true) : execCompressionPreempt t k s = .next (a.preempt k) := by
  subst ha
  exact if_pos h

theorem execLibraryCompressionUnit_queued {b : List Byte}
    (h : a.lanesOn = true ∧ b.length ≤ 131072 ∧ ¬ (a.wakeWaits = true ∧ a.bgYields 5 4 = true)) :
    execLibraryCompressionUnit t b s = .next (a.queueJob 1 (newJob .library b)) := by
  subst ha
  exact if_pos h

theorem execLibraryCompressionUnit_ignored {b : List Byte}
    (h : ¬ (a.lanesOn = true ∧ b.length ≤ 131072 ∧ ¬ (a.wakeWaits = true ∧ a.bgYields 5 4 = true))) :
    execLibraryCompressionUnit t b s = .next a := by
  subst ha
  exact if_neg h

end

/-- Settles O14, from what a lane does with the job at its head and the one condition of each background unit. -/
theorem compressionEvents : Obligations.CompressionEvents := by
  unfold Obligations.CompressionEvents
  intro s a t ha
  refine ⟨fun _ _ => execCompressionBlockDone_off ha, fun k bad => execCompressionBlockDone_noJob ha (r := ⟨k, bad⟩),
    fun k bad j r hon hj hfull => (execCompressionBlockDone_on ha hon).trans (congrArg nextOf (State.laneBlock_full hj hfull)),
    fun k bad j r hon hj hfree hroom =>
      (execCompressionBlockDone_on ha hon).trans (congrArg nextOf (State.laneBlock_noRoom hj hfree hroom)),
    fun k bad j r i j2 failed last w x y z hon hj hfree hroom hi hstep hw hx hy hz =>
      (execCompressionBlockDone_on ha hon).trans
        (congrArg nextOf (State.laneBlock_emits hj hfree hroom hi hstep hw hx hy hz)),
    fun _ => execCompressionPreempt_off ha,
    fun k hon hnone => (execCompressionPreempt_on ha hon).trans (congrArg nextOf (State.preempt_noHigher hnone)),
    fun k x j r hon hx hj hrun => (execCompressionPreempt_on ha hon).trans
      (congrArg nextOf ((State.preempt_higher hx hj).trans (if_neg (by simp [hrun])))),
    fun k x j r hon hx hj hsusp => (execCompressionPreempt_on ha hon).trans
      (congrArg nextOf ((State.preempt_higher hx hj).trans (if_pos hsusp))),
    fun _ => execLibraryCompressionUnit_queued ha, fun _ => execLibraryCompressionUnit_ignored ha,
    fun w l q hw hl hon hmode hcollector hne hfree hq => ?unitTaken, fun w hw h => ?unitWaits⟩
  case unitTaken =>
    subst ha hw hl hq
    exact if_pos ⟨hon, State.wakeWaits_iff.2 ⟨hmode, hcollector, hne, hfree⟩⟩
  case unitWaits =>
    subst ha hw
    exact if_neg fun ⟨hon, hwaits⟩ => h ⟨hon, State.wakeWaits_iff.1 hwaits⟩

/-! ## The trowels (R44, R163, R172, R235 to R239) -/

theorem nextOf_ite {p : Prop} [Decidable p] {x y : State} : (if p then nextOf x else nextOf y) = .next (if p then x else y) :=
  (apply_ite nextOf p x y).symm

@[simp] theorem State.copyOf_modGang (s : State) (g : Nat) (f : Gang → Gang) (sector row col : Nat) :
    (s.modGang g f).copyOf sector row col = s.copyOf sector row col := rfl

section
variable {s a : State} {t : Cyc} {g : Nat} (ha : a = s.at t)
include ha

theorem execTileStart_noneQueued (hq : (a.gang g).queue = []) : execTileStart t g s = .next a := by
  subst ha
  simp only [execTileStart, hq, nextOf]

section
variable {f pos : Nat} {rest : List (Nat × Nat)} (hq : (a.gang g).queue = (f, pos) :: rest)
include hq

theorem execTileStart_noTile (htile : (a.planOf f).tiles[pos]? = none) : execTileStart t g s = .next a := by
  subst ha
  simp only [execTileStart, hq, htile, nextOf]

variable {tp : TilePlan} (htile : (a.planOf f).tiles[pos]? = some tp)
include htile

theorem execTileStart_waits (h : a.trowelsOn = false ∨ 2 ≤ (a.gang g).running.length ∨
    (a.gang g).running.all (fun r => r.1 == f) = false ∨ a.slotFree f tp.row = false) : execTileStart t g s = .next a := by
  subst ha
  simp only [execTileStart, hq, htile]
  exact if_pos (by simpa using h)

/-- R163, R172: a tile in progress, which is rendered where the copy that it was to replay is missing. -/
theorem execTileStart_starts {u : State} (hon : a.trowelsOn = true) (hlen : (a.gang g).running.length < 2)
    (hfield : (a.gang g).running.all (fun r => r.1 == f) = true) (hslot : a.slotFree f tp.row = true)
    (hu : u = a.modGang g (fun q => { q with queue := rest, running := q.running ++ [(f, pos, a.time.cyc)] })) :
    execTileStart t g s = .next
      (if tp.handling = .replayed ∧
          ((u.copyOf tp.sector tp.row tp.col).any (fun c => c.counts (u.planOf f) (u.tickNs f) tp.pos)) = false
        then (u.tally T.HM_REPLAY_MISSING).modTile f pos (fun q => { q with handling := .rendered }) else u) := by
  have hstarts : ¬ (¬ a.trowelsOn = true ∨ 2 ≤ (a.gang g).running.length ∨
      ¬ (a.gang g).running.all (fun r => r.1 == f) = true ∨ ¬ a.slotFree f tp.row = true) := by
    simp only [hon, hfield, hslot, not_true_eq_false, false_or, or_false]
    exact Nat.not_le.2 hlen
  subst ha
  simp only [execTileStart, hq, htile, if_neg hstarts, ← hu]
  cases u.copyOf tp.sector tp.row tp.col <;> simp [nextOf_ite]

end

theorem execTileFinish_ignored {bad : List Nat} (h : (a.gang g).running = [] ∨ a.trowelsOn = false) :
    execTileFinish t ⟨g, bad⟩ s = .next a := by
  subst ha
  cases hrun : ((s.at t).gang g).running with
  | nil => simp only [execTileFinish, hrun, nextOf]
  | cons r rest =>
    obtain ⟨f, pos, start⟩ := r
    have hoff : (s.at t).trowelsOn = false := h.resolve_left (by simp [hrun])
    cases htile : ((s.at t).planOf f).tiles[pos]? <;> simp [execTileFinish, hrun, htile, hoff, nextOf]

section
variable {f pos start : Nat} {rest : List (Nat × Nat × Nat)} {bad : List Nat}
  (hrun : (a.gang g).running = (f, pos, start) :: rest)
include hrun

theorem execTileFinish_noTile (htile : (a.planOf f).tiles[pos]? = none) : execTileFinish t ⟨g, bad⟩ s = .next a := by
  subst ha
  simp only [execTileFinish, hrun, htile, nextOf]

variable {tp : TilePlan} (htile : (a.planOf f).tiles[pos]? = some tp)
include htile

/-- R238: a tile that copies nothing stalls until the lines of its samples have come. -/
theorem execTileFinish_stalls (hrenders : tp.handling ≠ .replayed ∨ a.copyOf tp.sector tp.row tp.col = none)
    (hlines : a.linesCome g f start (a.planOf f) tp = false) : execTileFinish t ⟨g, bad⟩ s = .next a := by
  subst ha
  simp only [execTileFinish, hrun, htile]
  refine if_pos (.inr ?_)
  rcases hrenders with h | h <;> simp [h, hlines]

variable {u : State} (hon : a.trowelsOn = true)
  (hu : u = a.modGang g (fun q => { q with
    running := rest, lastEnd := a.time.cyc, done := if a.harbour.cur.field = f then q.done ++ [pos] else q.done }))
include hon hu

/-- R235, R385: a replayed tile puts the words of its copy into the ring, zeros for the units that could not be read. -/
theorem execTileFinish_replays {c : ReplayCopy} (hreplay : tp.handling = .replayed)
    (hcopy : a.copyOf tp.sector tp.row tp.col = some c) : execTileFinish t ⟨g, bad⟩ s =
      .next (((u.putRing f tp.sector tp.row tp.col ((List.zip (List.range c.words.length)
        (u.copyWords tp.sector tp.row tp.col c.words)).map (fun e => if bad.contains (e.1 / 16) then 0 else e.2))).countTile f g {
        replayed := 1, clocks := 3 * (a.time.cyc - max start (a.gang g).lastEnd) }).dramMoved 16384) := by
  have hcopyLater : u.copyOf tp.sector tp.row tp.col = some c := by rw [hu, State.copyOf_modGang, hcopy]
  subst ha
  simp only [execTileFinish, hrun, htile, hon, hreplay, hcopy, ← hu, hcopyLater]
  exact if_neg (by simp)

/-- R237, R235: any other tile is rendered into the ring and measured, and kept where it is a stored one. -/
theorem execTileFinish_renders {r : List Nat × GangCount} {v : State}
    (hrenders : tp.handling ≠ .replayed ∨ a.copyOf tp.sector tp.row tp.col = none)
    (hlines : a.linesCome g f start (a.planOf f) tp = true)
    (hr : r = ((a.planOf f).job tp ((a.gang g).badLines f)).render)
    (hv : v = ((u.putRing f tp.sector tp.row tp.col r.1).countTile f g
      (r.2.add { clocks := 3 * (a.time.cyc - max start (a.gang g).lastEnd) })).measure (a.planOf f) tp r.2.samples) :
    execTileFinish t ⟨g, bad⟩ s = .next (if tp.handling = .stored then v.putCopy (a.planOf f) tp r.1 else v) := by
  have hcopyLater : u.copyOf tp.sector tp.row tp.col = a.copyOf tp.sector tp.row tp.col := by rw [hu, State.copyOf_modGang]
  subst ha
  simp only [execTileFinish, hrun, htile, ← hu, hcopyLater, ← hr]
  refine (if_neg (by simp [hon, hlines])).trans ?_
  split
  next c hreplay hcopy => exact absurd hrenders (by simp [hreplay, hcopy])
  next => rw [hv]; rfl

end

end

/-- Settles O21, from what each event does with the tile or the line that it finds. -/
theorem trowelEvents : Obligations.TrowelEvents := by
  unfold Obligations.TrowelEvents
  intro s a t ha
  refine ⟨fun _ => execTileStart_noneQueued ha, fun _ _ _ _ => execTileStart_noTile ha,
    fun _ _ _ _ _ hq htile => execTileStart_waits ha hq htile,
    fun _ _ _ _ _ _ hq htile => execTileStart_starts ha hq htile,
    fun _ _ => execTileFinish_ignored ha, fun _ _ _ _ _ _ hrun => execTileFinish_noTile ha hrun,
    fun _ _ _ _ _ _ _ hrun htile => execTileFinish_stalls ha hrun htile,
    fun g bad f pos st rest tp u c hon hrun htile hreplay hcopy hu => execTileFinish_replays ha hrun htile hon hu hreplay hcopy,
    fun g bad f pos st rest tp u r v hon hrun htile hrenders hlines hu =>
      execTileFinish_renders ha hrun htile hon hu hrenders hlines,
    fun g m k rel col row line bad tile listed wanted p ch htile hlisted hwanted hp hch h => ?lineIgnored,
    fun g m k rel col row line bad tile listed wanted p ch q htile hlisted hwanted hp hch hon hcoat hneeded hsweep hq =>
      ?lineTaken⟩
  case lineIgnored =>
    subst ha htile hlisted hwanted hp hch
    exact if_pos (by simpa using h)
  case lineTaken =>
    subst ha htile hlisted hwanted hp hch hq
    exact if_neg (by simp [hon, hcoat, hneeded, hsweep])

/-! ## Skim (R245 to R260) -/

section
variable {s a : State} {t : Cyc} (ha : a = s.at t)
include ha

theorem execSkimPieceStart_ignored (h : a.skimOn = false ∨ a.skim.running = true ∨ a.skim.queue = []) :
    execSkimPieceStart t s = .next a := by
  subst ha
  by_cases hidle : ¬ (s.at t).skimOn = true ∨ (s.at t).skim.running = true
  · exact if_pos hidle
  · have hq : (s.at t).skim.queue = [] := by
      simp only [not_or, Bool.not_eq_true] at hidle
      simpa [hidle] using h
    simp only [execSkimPieceStart, if_neg hidle, hq, nextOf]

/-- R258: what starts on an idle Skim that runs. -/
theorem execSkimPieceStart_starts {p : Piece} {rest : List Piece} (hon : a.skimOn = true) (hidle : a.skim.running = false)
    (hq : a.skim.queue = p :: rest) : execSkimPieceStart t s = match p with
      | .list _ _ first _ _ _ => nextOf (State.reachEntry { a with skim := { a.skim with running := true } } first)
      | .clear .. => nextOf { a with skim := { a.skim with running := true, index := 0, began := a.ns, begunCyc := a.time.cyc } } := by
  subst ha
  cases p <;> simp [execSkimPieceStart, hon, hidle, hq]

theorem execSkimEntryDone_noList {bad : List (Nat × Nat)} (hq : ∀ i k f c o g rest, a.skim.queue ≠ .list i k f c o g :: rest) :
    execSkimEntryDone t bad s = .next a := by
  subst ha
  unfold execSkimEntryDone
  dsimp only
  split
  next h => exact absurd h (hq _ _ _ _ _ _ _)
  next => rfl

theorem execBollardComplete_noList (hq : ∀ i k f c o g rest, a.skim.queue ≠ .list i k f c o g :: rest) :
    execBollardComplete t s = .next a := by
  subst ha
  unfold execBollardComplete
  dsimp only
  split
  next h => exact absurd h (hq _ _ _ _ _ _ _)
  next => rfl

theorem execSurfaceClearDone_noClear (hq : ∀ i o g rest, a.skim.queue ≠ .clear i o g :: rest) :
    execSurfaceClearDone t s = .next a := by
  subst ha
  unfold execSurfaceClearDone
  dsimp only
  split
  next h => exact absurd h (hq _ _ _ _)
  next => rfl

section
variable {i k f c o g : Nat} {rest : List Piece} (hq : a.skim.queue = .list i k f c o g :: rest)
include hq

/-- R251, R57, R261: the entry in progress of a list, by whether it may end. -/
theorem execSkimEntryDone_list {bad : List (Nat × Nat)} : execSkimEntryDone t bad s =
    if ¬ (a.skimOn = true ∨ a.serving = true ∧ a.skim.stopping = true) ∨ ¬ a.skim.running = true ∨
        (a.entry i a.skim.index).op = 5 then nextOf a
    else match a.surf (a.entry i a.skim.index).dst with
      | none => nextOf a
      | some d =>
        if ¬ a.skimPaced (a.entryBytes (a.entry i a.skim.index)) = true then nextOf a
        else nextOf (if a.skim.stopping = true then
            (a.doEntry (a.entry i a.skim.index) d bad).listStops (a.entry i a.skim.index).names
          else (a.doEntry (a.entry i a.skim.index) d bad).reachEntry (a.skim.index + 1)) := by
  subst ha
  simp only [execSkimEntryDone, hq] <;> rfl

theorem execSkimEntryDone_off {bad : List (Nat × Nat)}
    (h : (a.skimOn = false ∧ (a.serving = false ∨ a.skim.stopping = false)) ∨ a.skim.running = false) :
    execSkimEntryDone t bad s = .next a := by
  rw [execSkimEntryDone_list ha hq]
  refine if_pos ?_
  rcases h with ⟨hoff, hstop⟩ | hidle
  · rcases hstop with hstop | hstop <;> simp [hoff, hstop]
  · simp [hidle]

theorem execSkimEntryDone_waits {bad : List (Nat × Nat)} (h : (a.entry i a.skim.index).op = 5 ∨
    a.surf (a.entry i a.skim.index).dst = none ∨ a.skimPaced (a.entryBytes (a.entry i a.skim.index)) = false) :
    execSkimEntryDone t bad s = .next a := by
  rw [execSkimEntryDone_list ha hq]
  split
  next => rfl
  next hruns =>
    cases hd : a.surf (a.entry i a.skim.index).dst with
    | none => rfl
    | some d =>
      have hslow : a.skimPaced (a.entryBytes (a.entry i a.skim.index)) = false := by
        simp only [not_or] at hruns
        simpa [hruns, hd] using h
      simp [hslow, nextOf]

theorem execSkimEntryDone_draws {bad : List (Nat × Nat)} {d : Surface}
    (hon : a.skimOn = true ∨ (a.serving = true ∧ a.skim.stopping = true)) (hrun : a.skim.running = true)
    (hop : (a.entry i a.skim.index).op ≠ 5) (hd : a.surf (a.entry i a.skim.index).dst = some d)
    (hpaced : a.skimPaced (a.entryBytes (a.entry i a.skim.index)) = true) : execSkimEntryDone t bad s =
      .next (if a.skim.stopping = true then
          (a.doEntry (a.entry i a.skim.index) d bad).listStops (a.entry i a.skim.index).names
        else (a.doEntry (a.entry i a.skim.index) d bad).reachEntry (a.skim.index + 1)) := by
  rw [execSkimEntryDone_list ha hq, if_neg (by simp [hon, hrun, hop]), hd]
  exact if_neg (not_not.2 hpaced)

/-- R254, R256: the bollard in progress of a list, by whether it may complete. -/
theorem execBollardComplete_list : execBollardComplete t s =
    if ¬ a.skimOn = true ∨ ¬ a.skim.running = true ∨ (a.entry i a.skim.index).op ≠ 5 ∨
        (a.skim.waiting.isSome = true ∧ ¬ a.skim.released = true) then nextOf a
    else nextOf ((a.bollardDone i k o g (a.entry i a.skim.index)).reachEntry (a.skim.index + 1)) := by
  subst ha
  simp only [execBollardComplete, hq]

end

section
variable {i o g : Nat} {rest : List Piece} (hq : a.skim.queue = .clear i o g :: rest)
include hq

/-- R245, R57: the clearing in progress, by whether it may end. -/
theorem execSurfaceClearDone_clear : execSurfaceClearDone t s =
    if ¬ a.skimOn = true ∨ ¬ a.skim.running = true then nextOf a
    else match a.surf i with
      | none => nextOf a
      | some f =>
        if ¬ a.skimPaced (surfaceBytes f.format f.width f.height) = true then nextOf a
        else nextOf ((((a.setSurf i { f with clearing := false, bytes := [], older := [] }).skimCount
          (surfaceBytes f.format f.width f.height / 64)).pieceGone).finalEvent o g 0x0601 Status.OK []) := by
  subst ha
  simp only [execSurfaceClearDone, hq] <;> rfl

theorem execSurfaceClearDone_off (h : a.skimOn = false ∨ a.skim.running = false) : execSurfaceClearDone t s = .next a := by
  rw [execSurfaceClearDone_clear ha hq]
  exact if_pos (by simpa using h)

theorem execSurfaceClearDone_noSurface (hf : a.surf i = none) : execSurfaceClearDone t s = .next a := by
  rw [execSurfaceClearDone_clear ha hq, hf]
  exact ite_self _

theorem execSurfaceClearDone_waits {f : Surface} (hf : a.surf i = some f)
    (hslow : a.skimPaced (surfaceBytes f.format f.width f.height) = false) : execSurfaceClearDone t s = .next a := by
  rw [execSurfaceClearDone_clear ha hq, hf]
  simp [hslow, nextOf]

theorem execSurfaceClearDone_cleared {f : Surface} (hon : a.skimOn = true) (hrun : a.skim.running = true)
    (hf : a.surf i = some f) (hpaced : a.skimPaced (surfaceBytes f.format f.width f.height) = true) :
    execSurfaceClearDone t s =
      .next ((((a.setSurf i { f with clearing := false, bytes := [], older := [] }).skimCount
        (surfaceBytes f.format f.width f.height / 64)).pieceGone).finalEvent o g 0x0601 Status.OK []) := by
  rw [execSurfaceClearDone_clear ha hq, if_neg (by simp [hon, hrun]), hf]
  exact if_neg (not_not.2 hpaced)

end

/-! ## The check of a correction map (R202, R203) -/

theorem execCorrMapCheckDone_noCommit (hc : a.optics.commit = none) : execCorrMapCheckDone t s = .next a := by
  subst ha
  simp only [execCorrMapCheckDone, hc, nextOf]

section
variable {o g z : Nat} {h : List Word} (hc : a.optics.commit = some (o, g, z, h))
include hc

theorem execCorrMapCheckDone_commit : execCorrMapCheckDone t s =
    if ¬ a.serving = true ∨ a.optics.passed.isSome = true then nextOf a
    else if (commitCheck (blank 64 a.optics.lost.contains (a.stagingBytes z)) z h).isSome = true then
      nextOf { a with optics := { a.optics with passed := some a.ns } }
    else nextOf (State.finalEvent { a with optics := { a.optics with commit := none, checkFailed := true } } o g 0x0542
      Status.CHECK_FAILED []) := by
  subst ha
  simp only [execCorrMapCheckDone, hc]

theorem execCorrMapCheckDone_checked (hs : a.serving = true) (hp : a.optics.passed = none) : execCorrMapCheckDone t s =
    if (commitCheck (blank 64 a.optics.lost.contains (a.stagingBytes z)) z h).isSome = true then
      nextOf { a with optics := { a.optics with passed := some a.ns } }
    else nextOf (State.finalEvent { a with optics := { a.optics with commit := none, checkFailed := true } } o g 0x0542
      Status.CHECK_FAILED []) := by
  rw [execCorrMapCheckDone_commit ha hc, if_neg (by simp [hs, hp])]

end

theorem execCorrMapCheckDone_ignored (h : a.serving = false ∨ a.optics.passed.isSome = true) :
    execCorrMapCheckDone t s = .next a := by
  cases hc : a.optics.commit with
  | none => exact execCorrMapCheckDone_noCommit ha hc
  | some x => exact (execCorrMapCheckDone_commit ha hc).trans (if_pos (by simpa using h))

end

/-- Settles O22, from what each event does with the piece, the entry or the commit that it finds. -/
theorem skimAndCorrectionEvents : Obligations.SkimAndCorrectionEvents := by
  unfold Obligations.SkimAndCorrectionEvents
  intro s a t ha
  refine ⟨execSkimPieceStart_ignored ha, fun _ _ _ _ _ _ _ hon hidle hq => execSkimPieceStart_starts ha hon hidle hq,
    fun _ _ _ _ hon hidle hq => execSkimPieceStart_starts ha hon hidle hq,
    fun bad h => ?entryOff, fun _ _ _ _ _ _ _ _ hq => execSkimEntryDone_waits ha hq,
    fun _ _ _ _ _ hq => execSkimEntryDone_noList ha (by simp [hq]),
    fun bad i k f c o g rest e d bs u v hq hon hrun he hop hd hpaced hbs hu hv => ?entryDraws,
    fun h => ?bollardOff, fun _ _ _ _ hq => execBollardComplete_noList ha (by simp [hq]),
    fun i k f c o g rest hq h => ?bollardWaits, fun i k f c o g rest u v hq hon hrun hop hrel hu hv => ?bollard,
    fun h => ?clearOff, fun _ _ _ _ _ _ _ hq => execSurfaceClearDone_noClear ha (by simp [hq]),
    fun _ _ _ _ hq => execSurfaceClearDone_noSurface ha hq, fun _ _ _ _ _ hq => execSurfaceClearDone_waits ha hq,
    fun _ _ _ _ _ hq => execSurfaceClearDone_cleared ha hq,
    execCorrMapCheckDone_noCommit ha, execCorrMapCheckDone_ignored ha,
    fun _ _ _ _ hc hs hp hok => (execCorrMapCheckDone_checked ha hc hs hp).trans (if_pos hok),
    fun _ _ _ _ hc hs hp hbad => (execCorrMapCheckDone_checked ha hc hs hp).trans (if_neg (by simp [hbad]))⟩
  case entryOff =>
    cases hq : a.skim.queue with
    | nil => exact execSkimEntryDone_noList ha (by simp [hq])
    | cons p rest =>
      cases p with
      | list => exact execSkimEntryDone_off ha hq (h.resolve_left (by simp [hq]))
      | clear => exact execSkimEntryDone_noList ha (by simp [hq])
  case entryDraws =>
    subst he hbs hu hv
    exact execSkimEntryDone_draws ha hq hon hrun hop hd hpaced
  case bollardOff =>
    cases hq : a.skim.queue with
    | nil => exact execBollardComplete_noList ha (by simp [hq])
    | cons p rest =>
      cases p with
      | list =>
        have hoff : a.skimOn = false ∨ a.skim.running = false := h.resolve_left (by simp [hq])
        exact (execBollardComplete_list ha hq).trans (if_pos (by rcases hoff with hoff | hoff <;> simp [hoff]))
      | clear => exact execBollardComplete_noList ha (by simp [hq])
  case bollardWaits =>
    exact (execBollardComplete_list ha hq).trans (if_pos (by rcases h with h | h <;> simp [h]))
  case bollard =>
    subst hu hv
    exact (execBollardComplete_list ha hq).trans (if_neg (by simpa [hon, hrun, hop] using hrel))
  case clearOff =>
    cases hq : a.skim.queue with
    | nil => exact execSurfaceClearDone_noClear ha (by simp [hq])
    | cons p rest =>
      cases p with
      | list => exact execSurfaceClearDone_noClear ha (by simp [hq])
      | clear => exact execSurfaceClearDone_off ha hq (h.resolve_left (by simp [hq]))

end Sys2Proof.Machine
end

section
/-! SUPPORT. The scene format (02_scene_format): scene datagrams at the Quay, commands discarded before their session, serial
arithmetic, and the bytes of a journal record with their CRC-32C. -/

namespace Sys2Proof.Machine

/-! ## Scene datagrams at the Quay (R72, R100, R104, R105) -/

section
variable {s : State} {d : Datagram}

/-- R104: the threshold of scene traffic follows the PRIORITY of the mooring that the first chunk names. -/
theorem State.quayLimit_named {pl : List Byte} (hm : firstMooring pl ≤ 1023) :
    s.quayLimit .scene pl = (7936 - 256 * s.cutI F.M_PRIORITY (firstMooring pl)) * 1024 := by
  simp only [State.quayLimit, if_neg (Nat.not_lt.2 hm)]

theorem State.quayLimit_unnamed {pl : List Byte} (hm : 1023 < firstMooring pl) :
    s.quayLimit .scene pl = (7936 - 256 * 3) * 1024 := by
  simp only [State.quayLimit, if_pos hm]

theorem State.quayDrop_named {pl : List Byte} (hm : firstMooring pl ≤ 1023) :
    s.quayDrop .scene pl = (s.tally T.ING_QUAY_DROP).tally (T.ING_QUAY_DROP_MOORING + firstMooring pl) := if_pos hm

theorem State.quayDrop_unnamed {pl : List Byte} (hm : 1023 < firstMooring pl) :
    s.quayDrop .scene pl = s.tally T.ING_QUAY_DROP := if_neg (Nat.not_le.2 hm)

theorem State.sceneAdmit_dropped (hover : s.quayLimit .scene d.payload < s.quayUsed + d.ipLen) :
    s.sceneAdmit d = s.quayDrop .scene d.payload :=
  if_pos fun h => Nat.not_le.2 hover (of_decide_eq_true h)

section
variable (hfit : s.quayUsed + d.ipLen ≤ s.quayLimit .scene d.payload)
include hfit

theorem State.sceneAdmit_checked : s.sceneAdmit d =
    if d.ipOptions ∨ d.fragment ∨ d.badChecksum ∨ 9166 < d.payload.length then s.tally T.LSF_DGRAM_BAD
    else State.quayPeak { s with
      ingest := { s.ingest with quay := s.ingest.quay ++ [{ d := d, offset := 0, port := s.cutv F.SCENE_PORT }] } } :=
  if_neg (not_not.2 (decide_eq_true hfit))

theorem State.sceneAdmit_malformed
    (hbad : d.ipOptions = true ∨ d.fragment = true ∨ d.badChecksum = true ∨ 9166 < d.payload.length) :
    s.sceneAdmit d = s.tally T.LSF_DGRAM_BAD := (State.sceneAdmit_checked hfit).trans (if_pos hbad)

theorem State.sceneAdmit_kept
    (hok : d.ipOptions = false ∧ d.fragment = false ∧ d.badChecksum = false ∧ d.payload.length ≤ 9166) :
    s.sceneAdmit d = State.quayPeak { s with
      ingest := { s.ingest with quay := s.ingest.quay ++ [{ d := d, offset := 0, port := s.cutv F.SCENE_PORT }] } } :=
  (State.sceneAdmit_checked hfit).trans (if_neg (by simpa using hok))

end

end

/-- Settles O10: a scene datagram is admitted under the threshold of its mooring, and then checked under R72. -/
theorem sceneDatagramsEnterTheQuay : Obligations.SceneDatagramsEnterTheQuay := by
  unfold Obligations.SceneDatagramsEnterTheQuay
  rintro s _ t rfl
  have hrow {d : Datagram} (hs : (s.hostAt t).serving = true) (hip : (s.hostAt t).get F.DEV_IP ≠ 0)
      (hc : (s.hostAt t).traffic d.dstIp d.dstPort = .scene) :
      exec (.sceneDatagram t d) s = .next ((s.hostAt t).sceneAdmit d) := execSceneDatagram_sorted hs hip hc
  refine ⟨fun d _ hs hip hc hm hfit hok => ?kept, fun d _ hs hip hc hm hfit hbad => ?malformed,
    fun d _ hs hip hc hm hnamed hover => ?named, fun d _ hs hip hc hm hnone hover => ?unnamed⟩
  all_goals
    rw [hrow hs hip hc]
    change _ = firstMooring d.payload at hm
    subst hm
  case kept => rw [State.sceneAdmit_kept hfit hok]
  case malformed => rw [State.sceneAdmit_malformed hfit hbad]
  case named =>
    rw [← State.quayLimit_named hnamed] at hover
    rw [State.sceneAdmit_dropped hover, State.quayDrop_named hnamed]
  case unnamed =>
    rw [← State.quayLimit_unnamed (s := s.hostAt t) hnone] at hover
    rw [State.sceneAdmit_dropped hover, State.quayDrop_unnamed hnone]

/-! ## Commands discarded at steps 1 to 3 (R403) -/

section
variable {s : State} {p : Packet} {op : Nat} {c : Option Card}

theorem State.arrive_silent (h : (s.heard p).front p = .silent) : s.arrive c op p = s.heard p := by
  simp only [State.arrive, h]

theorem State.arrive_otherPort (h : (s.heard p).front p = .port) : s.arrive c op p = (s.heard p).tally T.ING_PORT := by
  simp only [State.arrive, h]

theorem State.arrive_noQuay (h : (s.heard p).front p = .quay) :
    s.arrive c op p = (s.heard p).quayDrop .command [] := by
  simp only [State.arrive, h]

theorem State.arrive_notWhole (h : (s.heard p).front p = .framing) :
    s.arrive c op p = (s.heard p).tally T.GW_FRAMING := by
  simp only [State.arrive, h]

theorem State.arrive_badHeader (h : (s.heard p).front p = .pass) (hh : headerOk p = false) :
    s.arrive c op p = (s.heard p).tally T.GW_FRAMING := by
  simp [State.arrive, h, hh]

theorem State.arrive_badCrc (h : (s.heard p).front p = .pass) (hh : headerOk p = true)
    (hc : p.crc.toNat ≠ commandCrc op p) : s.arrive c op p = (s.heard p).tally T.GW_CRC_FAIL := by
  simp [State.arrive, h, hh, hc]

end

/-- Settles O45: every command row arrives, and each failure of steps 1 to 3 ends its arrival. -/
theorem commandsDiscardedBeforeTheirSession : Obligations.CommandsDiscardedBeforeTheirSession := by
  unfold Obligations.CommandsDiscardedBeforeTheirSession
  intro s p k i hrow
  rw [exec_commandRow hrow]
  exact ⟨fun h => congrArg nextOf (State.arrive_silent h), fun h => congrArg nextOf (State.arrive_otherPort h),
    fun h => congrArg nextOf (State.arrive_noQuay h), fun h => congrArg nextOf (State.arrive_notWhole h),
    fun h hh => congrArg nextOf (State.arrive_badHeader h hh),
    fun h hh hc => congrArg nextOf (State.arrive_badCrc h hh hc)⟩

/-! ## Serial arithmetic (R76) -/

theorem newer32_iff {a b : Nat} : newer32 a b = true ↔
    1 ≤ wrap ((a : Int) - (b : Int)) 32 ∧ wrap ((a : Int) - (b : Int)) 32 ≤ 2147483647 :=
  decide_eq_true_iff.trans (and_congr_right' Nat.lt_succ_iff)

/-- The serial distance up from `b` to `a`, by which of the two is the greater number. -/
theorem wrap_sub {a b : Nat} (ha : a < 2 ^ 32) (hb : b < 2 ^ 32) :
    wrap ((a : Int) - (b : Int)) 32 = if b ≤ a then a - b else a + 2 ^ 32 - b := by
  unfold wrap
  split <;> omega

/-- R76 without the wrap: `a` is newer above `b` by less than half the range, or below it by more than half. -/
theorem newer32_iff_lt {a b : Nat} (ha : a < 2 ^ 32) (hb : b < 2 ^ 32) :
    newer32 a b = true ↔ (b < a ∧ a < b + 2 ^ 31) ∨ a + 2 ^ 31 < b := by
  rw [newer32_iff, wrap_sub ha hb]
  split <;> omega

theorem newer32_asymm {a b : Nat} (ha : a < 2 ^ 32) (hb : b < 2 ^ 32) : ¬ (newer32 a b = true ∧ newer32 b a = true) := by
  rw [newer32_iff_lt ha hb, newer32_iff_lt hb ha]
  omega

theorem eq_or_opposite_of_unordered {a b : Nat} (ha : a < 2 ^ 32) (hb : b < 2 ^ 32) (hab : newer32 a b = false)
    (hba : newer32 b a = false) : a = b ∨ a = (b + 2 ^ 31) % 2 ^ 32 := by
  rw [← Bool.not_eq_true, newer32_iff_lt ha hb] at hab
  rw [← Bool.not_eq_true, newer32_iff_lt hb ha] at hba
  omega

theorem newer32_add {b k : Nat} (hb : b < 2 ^ 32) (h1 : 1 ≤ k) (hk : k ≤ 2147483647) :
    newer32 ((b + k) % 2 ^ 32) b = true := by
  rw [newer32_iff_lt (Nat.mod_lt _ (by decide)) hb]
  omega

/-- Settles O50, from R76 read as an order on the numbers themselves. -/
theorem serialArithmeticOrdersFrameIds : Obligations.SerialArithmeticOrdersFrameIds := by
  unfold Obligations.SerialArithmeticOrdersFrameIds
  exact fun a b ha hb => ⟨newer32_iff, newer32_asymm ha hb, eq_or_opposite_of_unordered ha hb,
    fun k h1 hk => newer32_add hb h1 hk⟩

/-! ## Fields of bytes (R12) -/

@[simp] theorem length_le (n v : Nat) : (le n v).length = n := by
  induction n generalizing v with
  | zero => rfl
  | succ n ih => simp [le, ih]

theorem leVal_le {n v : Nat} (h : v < 256 ^ n) : leVal (le n v) = v := by
  induction n generalizing v with
  | zero => exact (Nat.lt_one_iff.1 h).symm
  | succ n ih =>
    have hrest : v / 256 < 256 ^ n := Nat.div_lt_of_lt_mul (by rwa [Nat.pow_succ'] at h)
    simp only [le, leVal, byte, BitVec.toNat_ofNat, ih hrest]
    omega

/-- A field that begins past the first bytes is read from the rest. -/
theorem num_append_right {p q : List Byte} {off n : Nat} (h : p.length ≤ off) :
    num (p ++ q) off n = num q (off - p.length) n := by
  rw [num, List.drop_append, List.drop_eq_nil_of_le h, List.nil_append, num]

/-- The first field of bytes. -/
theorem num_le_append {n v : Nat} {q : List Byte} (h : v < 256 ^ n) : num (le n v ++ q) 0 n = v := by
  rw [num, List.drop_zero, List.take_left' (length_le n v), leVal_le h]

theorem slice_append {p x q : List Byte} {off n : Nat} (hp : p.length = off) (hx : x.length = n) :
    slice (p ++ (x ++ q)) off n = x := by
  simp [slice, List.drop_left' hp, List.take_left' hx, hx, zeros]

/-! ## The CRC fits its 32 bits (R75) -/

theorem crcBit_lt {r : Nat} (h : r < 2 ^ 32) : crcBit r < 2 ^ 32 := by
  have half : r / 2 < 2 ^ 32 := by omega
  unfold crcBit
  split
  · exact Nat.xor_lt_two_pow half (by decide)
  · exact half

theorem crcByte_lt {r : Nat} (h : r < 2 ^ 32) (b : Byte) : crcByte r b < 2 ^ 32 := by
  have hb : r ^^^ b.toNat < 2 ^ 32 := Nat.xor_lt_two_pow h (b.isLt.trans (by decide))
  iterate 8 apply crcBit_lt
  exact hb

theorem crc32c_lt (bs : List Byte) : crc32c bs < 2 ^ 32 :=
  Nat.xor_lt_two_pow (List.foldlRecOn bs crcByte (motive := (· < 2 ^ 32)) (by decide) fun _ h b _ => crcByte_lt h b)
    (by decide)

/-! ## Journal records (R432 to R434) -/

/-- R434: bytes 0x02 to 0x0F of a copy, by which two adjacent copies are known to be of one record. -/
def recordKey (kind gen txn obj part size : Nat) : List Byte :=
  le 1 kind ++ (le 1 gen ++ (le 4 txn ++ (le 2 obj ++ (le 1 part ++ (le 1 0 ++ (le 2 size ++ le 2 0))))))

/-- What R432 asks of the fields of a record: the kind, the widths and the size of the payload. -/
structure RecordFits (kind gen txn obj part : Nat) (pl : List Byte) : Prop where
  kindLow : 1 ≤ kind
  kindHigh : kind ≤ 3
  gen : gen < 256
  txn : txn < 2 ^ 32
  obj : obj < 2 ^ 16
  part : part < 256
  sizeLow : 4 ≤ pl.length
  sizeHigh : pl.length ≤ 1024
  words : pl.length % 4 = 0

section
variable {kind gen txn obj part : Nat} {pl : List Byte}

@[simp] theorem length_recordKey {size : Nat} : (recordKey kind gen txn obj part size).length = 14 := by
  simp only [recordKey, List.length_append, length_le]

/-- R432: a copy is MAGIC, its key and the payload, followed by their CRC. -/
theorem recordCopy_eq : recordCopy kind gen txn obj part pl =
    (le 2 0x4352 ++ (recordKey kind gen txn obj part pl.length ++ pl)) ++
      le 4 (crc32c (le 2 0x4352 ++ (recordKey kind gen txn obj part pl.length ++ pl))) := by
  have hbytes : le 2 0x4352 ++ (recordKey kind gen txn obj part pl.length ++ pl) =
      le 2 0x4352 ++ [byte kind, byte gen] ++ le 4 txn ++ le 2 obj ++ [byte part, 0] ++ le 2 pl.length ++ le 2 0 ++ pl := by
    simp [recordKey, le, byte]
  rw [hbytes]
  rfl

@[simp] theorem length_recordCopy : (recordCopy kind gen txn obj part pl).length = pl.length + 20 := by
  simp only [recordCopy_eq, List.length_append, length_le, length_recordKey]
  omega

theorem slice_recordCopy_key (rest : List Byte) :
    slice (recordCopy kind gen txn obj part pl ++ rest) 2 14 = recordKey kind gen txn obj part pl.length := by
  simp only [recordCopy_eq, List.append_assoc]
  exact slice_append rfl length_recordKey

theorem slice_recordCopy_payload (rest : List Byte) :
    slice (recordCopy kind gen txn obj part pl ++ rest) 0x10 pl.length = pl := by
  rw [recordCopy_eq, ← List.append_assoc (le 2 _), List.append_assoc, List.append_assoc]
  exact slice_append (by simp) rfl

/-- The fields of a copy read back as they were written. -/
theorem num_recordCopy (h : RecordFits kind gen txn obj part pl) (rest : List Byte) {bs : List Byte}
    (hbs : bs = recordCopy kind gen txn obj part pl ++ rest) :
    num bs 0 2 = 0x4352 ∧ num bs 2 1 = kind ∧ num bs 3 1 = gen ∧ num bs 4 4 = txn ∧ num bs 8 2 = obj ∧
      num bs 0x0A 1 = part ∧ num bs 0x0C 2 = pl.length := by
  obtain ⟨-, hkind, hgen, htxn, hobj, hpart, -, hsize, -⟩ := h
  subst hbs
  simp only [recordCopy_eq, recordKey, List.append_assoc]
  refine ⟨num_le_append (by decide), ?_, ?_, ?_, ?_, ?_, ?_⟩
  all_goals
    simp only [num_append_right, length_le, Nat.reduceLeDiff, Nat.reduceSub]
    exact num_le_append (by omega)

theorem num_recordCopy_crc (rest : List Byte) :
    num (recordCopy kind gen txn obj part pl ++ rest) (0x10 + pl.length) 4 =
      crc32c ((recordCopy kind gen txn obj part pl ++ rest).take (0x10 + pl.length)) := by
  have hlen : (le 2 0x4352 ++ (recordKey kind gen txn obj part pl.length ++ pl)).length = 0x10 + pl.length := by
    simp only [List.length_append, length_le, length_recordKey]
    omega
  rw [recordCopy_eq, List.append_assoc, num_append_right hlen.le, hlen, Nat.sub_self, List.take_left' hlen]
  exact num_le_append (crc32c_lt _)

/-- R434: a copy at the beginning of bytes passes, and is read as the record that it holds. -/
theorem copyAt_recordCopy (h : RecordFits kind gen txn obj part pl) (rest : List Byte) :
    copyAt (recordCopy kind gen txn obj part pl ++ rest) =
      some ({ kind := kind, gen := gen, txn := txn, obj := obj, part := part, payload := pl, usable := true, single := true,
              size := pl.length + 20 }, pl.length + 20) := by
  obtain ⟨hmagic, hkind, hgen, htxn, hobj, hpart, hsize⟩ := num_recordCopy h rest rfl
  have hin : pl.length + 20 ≤ (recordCopy kind gen txn obj part pl ++ rest).length := by simp
  unfold copyAt
  simp only [hmagic, hkind, hgen, htxn, hobj, hpart, hsize, slice_recordCopy_payload]
  exact if_pos ⟨trivial, h.sizeLow, h.sizeHigh, h.words, hin, num_recordCopy_crc rest, h.kindLow, h.kindHigh⟩

end

section
variable {n len : Nat} {bs : List Byte} {r : JRec}

/-- R434: two adjacent copies that pass and whose keys are equal form one record, usable where they agree (R429). -/
theorem decodePage_pair {q : JRec} {len' : Nat} (ha : copyAt bs = some (r, len))
    (hb : copyAt (bs.drop len) = some (q, len')) (hkey : slice bs 2 14 = slice (bs.drop len) 2 14) :
    decodePage (n + 1) bs =
      { r with usable := decide (r.payload = q.payload), single := false, size := len + len' } ::
        decodePage n ((bs.drop len).drop len') := by
  simp only [decodePage, ha, hb, hkey, if_true]

/-- R434: a copy with no copy that passes after it is a record with one usable copy. -/
theorem decodePage_single (ha : copyAt bs = some (r, len)) (hb : copyAt (bs.drop len) = none) :
    decodePage (n + 1) bs = r :: decodePage n (bs.drop len) := by
  simp only [decodePage, ha, hb]

end

/-- Settles O56: each copy passes where it stands, and the two agree in key and payload. -/
theorem journalRecordsReadBack : Obligations.JournalRecordsReadBack := by
  unfold Obligations.JournalRecordsReadBack
  intro kind gen txn obj part pl rest n hk1 hk3 hgen htxn hobj hpart hs4 hs1024 hw
  have hfits : RecordFits kind gen txn obj part pl := ⟨hk1, hk3, hgen, htxn, hobj, hpart, hs4, hs1024, hw⟩
  have hdrop (q : List Byte) : (recordCopy kind gen txn obj part pl ++ q).drop (pl.length + 20) = q :=
    List.drop_left' length_recordCopy
  constructor
  · rw [recordBytes, List.append_assoc]
    rw [decodePage_pair (copyAt_recordCopy hfits _) (by rw [hdrop]; exact copyAt_recordCopy hfits rest)
      (by rw [hdrop, slice_recordCopy_key, slice_recordCopy_key]), hdrop, hdrop]
    simp [two_mul]
  · have ha := copyAt_recordCopy hfits []
    have hd := hdrop []
    rw [List.append_nil] at ha hd
    have hb : copyAt ((recordCopy kind gen txn obj part pl).drop (pl.length + 20)) = none := by
      rw [hd]
      rfl
    rw [decodePage_single ha hb, hd]

end Sys2Proof.Machine
end

section
/-! SUPPORT. Ingest (03_ingest): commands that carry data, and the messages of the display group. -/

namespace Sys2Proof.Machine

/-! ## Commands that carry data (R126, R135, R145, R201, R246, R247, R427) -/

section
variable {s : State} {c : Caller} {pl : List Byte}

/-- R145: a trial compression answers the one step of its job, counts its input for C1, and has left its running CRC in
CU14. -/
theorem cardCodecCompress_run {j : CJob} {failed last : Bool}
    (hstep : (s.beginJob (newJob .trial (slice pl 4 (num pl 0 2)))).step = (j, failed, last)) {u v : State}
    (hu : u = s.took.setCrc 14 j.crc.1 j.crc.2)
    (hv : v = { u with codec := { u.codec with
      cIn := modAt u.codec.cIn 1 (· + (slice pl 4 (num pl 0 2)).length) } }) :
    cardCodecCompress.run s c pl =
      (if failed then v.verifyFailed 1 0 else v, Status.OK, le 2 j.out.length ++ [byte (b2n failed), 0] ++ j.out) := by
  subst hu hv
  simp only [cardCodecCompress, hstep]

/-- R246: SURFACE_WRITE is judged OK only on a surface that exists. -/
theorem surf_of_cardSurfaceWrite_judge (h : cardSurfaceWrite.judge s c pl = Status.OK) :
    ∃ f, s.surf (num pl 0 2) = some f := by
  have hexists : ¬ ((s.surf (num pl 0 2)).isNone = true ∨ s.scan.lantern = true) := fun hbad => by
    have hrefused : cardSurfaceWrite.judge s c pl = Status.BAD_STATE := if_pos hbad
    rw [hrefused] at h
    exact absurd h (by decide)
  exact Option.ne_none_iff_exists'.1 fun hnone => hexists (.inl (by rw [hnone]; rfl))

/-- R246: the bytes land in the surface, which keeps its older content in the 64-byte units that they touch. -/
theorem cardSurfaceWrite_run {f g : Surface} (hf : s.surf (num pl 0 2) = some f)
    (hg : g = f.keep s.ns (some (s.ns : Int)) (some (s.ns : Int))
      ((List.range ((num pl 4 4 + num pl 2 2 - 1) / 64 + 1 - num pl 4 4 / 64)).map (num pl 4 4 / 64 + ·))) :
    cardSurfaceWrite.run s c pl = done (s.setSurf (num pl 0 2) (s.surfLanded { g with
      bytes := Memory.writeAll (some 0) g.bytes (num pl 4 4) (slice pl 8 (num pl 2 2)) })) := by
  subst hg
  simp only [cardSurfaceWrite, hf]

end

/-- Settles O5: each of these cards is immediate, and its run is the write or the computation that the statement names. -/
theorem dataCommandsWriteTheirBytes : Obligations.DataCommandsWriteTheirBytes := by
  unfold Obligations.DataCommandsWriteTheirBytes
  intro s p n
  refine ⟨fun h => ⟨_, rfl, runCommand_done h rfl⟩, fun h => ⟨_, rfl, runCommand_done h rfl⟩, fun h => ?compress,
    fun h => ⟨_, runCommand_done h rfl, rfl⟩, fun h => ?surfaceWrite, fun h => ⟨_, runCommand_done h rfl, rfl⟩,
    fun h => ⟨_, runCommand_done h rfl, rfl⟩, fun h => runCommand_done h rfl⟩
  case compress =>
    refine ⟨_, _, _, _, _, _, rfl, rfl, rfl, rfl, (runCommand_done h rfl).trans ?_⟩
    rw [cardCodecCompress_run rfl rfl rfl]
  case surfaceWrite =>
    obtain ⟨f, hf⟩ := surf_of_cardSurfaceWrite_judge (State.judge_of_verdict h.verdict)
    refine ⟨f, _, hf, rfl, (runCommand_done h rfl).trans ?_⟩
    rw [cardSurfaceWrite_run hf rfl]
    rfl

/-! ## Group messages (R350, R355, R357, R359) -/

/-- R350: a datagram that a device with GROUP_EN 1 takes as a message of its group: it fits the Quay, its framing and its
payload are whole, and it carries the device's GROUP_ID. -/
structure State.OfItsGroup (s : State) (d : Datagram) : Prop where
  enabled : s.get F.GROUP_EN = 1
  fits : s.quayTakes .group d.ipLen [] = true
  framed : groupFramed d = true
  payload : groupPayloadOk (num d.payload 3 1) (d.payload.drop 32) = true
  groupId : num d.payload 6 1 = s.get F.GROUP_ID

/-- R350: the state with the sender's address kept for its RANK. -/
def State.senderKept (s : State) (d : Datagram) : State :=
  { s with group := { s.group with address := modAt s.group.address (num d.payload 7 1) (fun _ => d.srcIp) } }

/-- R355, R357, R359: what a message of another rank does by its type. -/
def State.actOnGroup (s : State) (d : Datagram) : State :=
  let b := d.payload
  let pl := b.drop 32
  let rank := num b 7 1; let e := num b 8 4
  match num b 3 1 with
  | 1 => s.heartbeatIn rank e pl
  | 2 => s.commitIn rank e (num b 12 8) pl
  | 3 => (s.takeEpoch rank e false false).answerRepair rank d.srcIp (num pl 0 2)
      ((List.range (num pl 2 2)).map (fun i => (num pl (4 + 8 * i) 4, num pl (8 + 8 * i) 4)))
  | _ => (s.takeEpoch rank e false false).takeRepair (num pl 0 2) (slice pl 4 (num pl 2 2))

section
variable {s : State} {d : Datagram}

theorem State.actOnGroup_heartbeat (ht : num d.payload 3 1 = 1) :
    s.actOnGroup d = s.heartbeatIn (num d.payload 7 1) (num d.payload 8 4) (d.payload.drop 32) := by
  simp only [State.actOnGroup, ht]

theorem State.actOnGroup_commit (ht : num d.payload 3 1 = 2) :
    s.actOnGroup d =
      s.commitIn (num d.payload 7 1) (num d.payload 8 4) (num d.payload 12 8) (d.payload.drop 32) := by
  simp only [State.actOnGroup, ht]

theorem State.actOnGroup_repairReq (ht : num d.payload 3 1 = 3) :
    s.actOnGroup d = (s.takeEpoch (num d.payload 7 1) (num d.payload 8 4) false false).answerRepair (num d.payload 7 1)
      d.srcIp (num (d.payload.drop 32) 0 2) ((List.range (num (d.payload.drop 32) 2 2)).map
        (fun i => (num (d.payload.drop 32) (4 + 8 * i) 4, num (d.payload.drop 32) (8 + 8 * i) 4))) := by
  simp only [State.actOnGroup, ht]

theorem State.actOnGroup_repair (ht : num d.payload 3 1 = 4) :
    s.actOnGroup d = (s.takeEpoch (num d.payload 7 1) (num d.payload 8 4) false false).takeRepair
      (num (d.payload.drop 32) 0 2) (slice (d.payload.drop 32) 4 (num (d.payload.drop 32) 2 2)) := by
  simp only [State.actOnGroup, ht]

theorem State.groupIn_notEnabled (hen : s.get F.GROUP_EN = 0) : s.groupIn d = s := if_pos hen

section
variable (hen : s.get F.GROUP_EN = 1)
include hen

/-- R104: a group message that does not fit the Quay counts in ING_QUAY_DROP. -/
theorem State.groupIn_noQuay (hq : s.quayTakes .group d.ipLen [] = false) :
    s.groupIn d = s.tally T.ING_QUAY_DROP := by
  simp [State.groupIn, State.quayDrop, hen, hq]

theorem State.groupIn_bad (hq : s.quayTakes .group d.ipLen [] = true)
    (hbad : groupFramed d = false ∨ groupPayloadOk (num d.payload 3 1) (d.payload.drop 32) = false) :
    s.groupIn d = s.tally T.GRP_BAD := by
  simp [State.groupIn, hen, hq, hbad]

theorem State.groupIn_otherGroup (hq : s.quayTakes .group d.ipLen [] = true) (hf : groupFramed d = true)
    (hp : groupPayloadOk (num d.payload 3 1) (d.payload.drop 32) = true) (hid : num d.payload 6 1 ≠ s.get F.GROUP_ID) :
    s.groupIn d = s := by
  simp [State.groupIn, hen, hq, hf, hp, hid]

end

section
variable (h : s.OfItsGroup d)
include h

/-- A message of the group under the device's own RANK is a conflict, unless the device sent it. -/
theorem State.groupIn_ownRank (hr : num d.payload 7 1 = s.get F.RANK) :
    s.groupIn d = if d.srcIp = s.get F.DEV_IP then s else s.tally T.GRP_RANK_CONFLICT := by
  simp [State.groupIn, h.enabled, h.fits, h.framed, h.payload, h.groupId, hr]

/-- A message of another rank of the group is acted on once its sender's address is kept. -/
theorem State.groupIn_otherRank (hr : num d.payload 7 1 ≠ s.get F.RANK) :
    s.groupIn d = (s.senderKept d).actOnGroup d := by
  have hwhole : ¬ (¬ groupFramed d = true ∨ ¬ groupPayloadOk (num d.payload 3 1) (d.payload.drop 32) = true) := by
    simp [h.framed, h.payload]
  unfold State.groupIn
  dsimp only
  rw [if_neg (by simp [h.enabled]), if_neg (not_not.2 h.fits), if_neg hwhole, if_neg (not_not.2 h.groupId), if_neg hr]
  rfl

end

end

section
variable {s : State} {rank e n : Nat}

/-- R357: a COMMIT of the lead, its epoch taken, counts late where the cut of its frame has passed. -/
theorem State.commitIn_lead {field first : Nat} {pl : List Byte} {v : State} (hv : v = s.takeEpoch rank e true false)
    (hlead : v.fromLead rank e = true) (hfirst : first = (field / v.scan.k + 1) * v.scan.k) :
    s.commitIn rank e field pl =
      (if v.cutNs first < v.ns then v.tally T.GRP_COMMIT_LATE else v).groupCommitted (num pl 0 2) (num pl 4 4) := by
  subst hv hfirst
  exact if_pos hlead

theorem State.commitIn_notLead {field : Nat} {pl : List Byte}
    (hnot : (s.takeEpoch rank e true false).fromLead rank e = false) :
    s.commitIn rank e field pl = s.takeEpoch rank e true false :=
  if_neg (by simp [hnot])

/-- R359: a lead answers for a mooring that is repairable with the chunks it holds of the ranges asked for, from BASE on. -/
theorem State.answerRepair_lead {ip : Nat} {rs : List (Nat × Nat)} (hlead : s.group.lead = true)
    (hrep : s.repairable n = true) :
    s.answerRepair rank ip n rs = State.repairPump { s with group := { s.group with
      repairJobs := s.group.repairJobs ++
        (packChunks [] ((sortBy (fun x y => decide (dist32 x.seq (s.moor n).base < dist32 y.seq (s.moor n).base))
          ((s.moor n).chunks.filter (fun x => x.bytes != [] && decide (x.bytes.length ≤ 9100) &&
            rs.any (fun r => decide (dist32 x.seq r.1 < r.2))))).map (·.bytes))).map (fun b => (rank, ip, n, b)) } } :=
  if_neg (by simp [hlead, hrep])

theorem State.answerRepair_ignored {ip : Nat} {rs : List (Nat × Nat)}
    (hnot : s.group.lead = false ∨ s.repairable n = false) : s.answerRepair rank ip n rs = s :=
  if_pos (by simpa using hnot)

theorem State.takeRepair_member {stream : List Byte} (hmember : s.group.lead = false) (hrep : s.repairable n = true) :
    s.takeRepair n stream =
      { s with codec := { s.codec with repairs := s.codec.repairs ++ [(s.ingest.order, n, stream)] }
               ingest := { s.ingest with order := s.ingest.order + 1 } } :=
  if_neg (by simp [hmember, hrep])

theorem State.takeRepair_ignored {stream : List Byte} (hnot : s.group.lead = true ∨ s.repairable n = false) :
    s.takeRepair n stream = s :=
  if_pos (by simpa using hnot)

end

/-- Settles O11: the four rows take a datagram alike, so each refusal is proved once for all of them; a message of another
rank is acted on by its type. -/
theorem groupMessagesAreTaken : Obligations.GroupMessagesAreTaken := by
  unfold Obligations.GroupMessagesAreTaken
  rintro s a t rfl
  have taken {d : Datagram} {v : State} (hs : (s.hostAt t).serving = true) (hip : (s.hostAt t).get F.DEV_IP ≠ 0)
      (hc : (s.hostAt t).traffic d.dstIp d.dstPort = .group) (h : (s.hostAt t).groupIn d = v) :
      nextOf (s.groupArrives t d) = .next v := h ▸ nextOf_groupArrives_taken ⟨hs, hip, hc⟩
  have off := fun d hs hip hc hen => taken (d := d) hs hip hc (State.groupIn_notEnabled hen)
  have noQuay := fun d hs hip hc hen hq => taken (d := d) hs hip hc (State.groupIn_noQuay hen hq)
  have bad := fun d hs hip hc hen hq hb => taken (d := d) hs hip hc (State.groupIn_bad hen hq hb)
  have other := fun d hs hip hc hen hq hf hp hid => taken (d := d) hs hip hc (State.groupIn_otherGroup hen hq hf hp hid)
  have conflict := fun d hs hip hc hen hq hf hp hid hr hsrc =>
    taken (d := d) hs hip hc ((State.groupIn_ownRank ⟨hen, hq, hf, hp, hid⟩ hr).trans (if_neg hsrc))
  have own := fun d hs hip hc hen hq hf hp hid hr hsrc =>
    taken (d := d) hs hip hc ((State.groupIn_ownRank ⟨hen, hq, hf, hp, hid⟩ hr).trans (if_pos hsrc))
  have acts {d : Datagram} {u v : State} (hs : (s.hostAt t).serving = true) (hip : (s.hostAt t).get F.DEV_IP ≠ 0)
      (hc : (s.hostAt t).traffic d.dstIp d.dstPort = .group) (hm : (s.hostAt t).OfItsGroup d)
      (hr : num d.payload 7 1 ≠ (s.hostAt t).get F.RANK) (hu : u = (s.hostAt t).senderKept d) (h : u.actOnGroup d = v) :
      nextOf (s.groupArrives t d) = .next v :=
    taken hs hip hc ((State.groupIn_otherRank hm hr).trans (hu ▸ h))
  refine ⟨off, noQuay, bad, other, conflict, own, off, noQuay, bad, other, conflict, own,
    off, noQuay, bad, other, conflict, own, off, noQuay, bad, other, conflict, own,
    fun d u hs hip hc hen hq hf hp hid hr hu ht => acts hs hip hc ⟨hen, hq, hf, hp, hid⟩ hr hu ?beat,
    fun d u v hs hip hc hen hq hf hp hid hr hu ht hv hnot => acts hs hip hc ⟨hen, hq, hf, hp, hid⟩ hr hu ?commitNotLead,
    fun d u v c hs hip hc hen hq hf hp hid hr hu ht hv hlead hfirst =>
      acts hs hip hc ⟨hen, hq, hf, hp, hid⟩ hr hu ?commitLead,
    fun d u v hs hip hc hen hq hf hp hid hr hu ht hv hnot => acts hs hip hc ⟨hen, hq, hf, hp, hid⟩ hr hu ?reqIgnored,
    fun d u v rs l hs hip hc hen hq hf hp hid hr hu ht hv hlead hrep hrs hl =>
      acts hs hip hc ⟨hen, hq, hf, hp, hid⟩ hr hu ?reqAnswered,
    fun d u v n hs hip hc hen hq hf hp hid hr hu ht hv hn hmember hrep =>
      acts hs hip hc ⟨hen, hq, hf, hp, hid⟩ hr hu ?repairTaken,
    fun d u v hs hip hc hen hq hf hp hid hr hu ht hv hnot => acts hs hip hc ⟨hen, hq, hf, hp, hid⟩ hr hu ?repairIgnored⟩
  case beat => exact State.actOnGroup_heartbeat ht
  case commitNotLead =>
    subst hv
    exact (State.actOnGroup_commit ht).trans (State.commitIn_notLead hnot)
  case commitLead => exact (State.actOnGroup_commit ht).trans (State.commitIn_lead hv hlead hfirst)
  case reqIgnored =>
    subst hv
    exact (State.actOnGroup_repairReq ht).trans (State.answerRepair_ignored hnot)
  case reqAnswered =>
    subst hv hrs hl
    exact (State.actOnGroup_repairReq ht).trans (State.answerRepair_lead hlead hrep)
  case repairTaken =>
    subst hv hn
    exact (State.actOnGroup_repair ht).trans (State.takeRepair_member hmember hrep)
  case repairIgnored =>
    subst hv
    exact (State.actOnGroup_repair ht).trans (State.takeRepair_ignored hnot)

end Sys2Proof.Machine
end

section
/-! SUPPORT. The harbourmaster (05_harbourmaster): TE edges, the windows in which they are judged, blanking windows and the
requests that they serve. -/

namespace Sys2Proof.Machine

/-- R348: what an edge on the TE input of a port leaves in its FIFO, or in the count of the edges lost. -/
def State.teCaptured (s : State) (k : Nat) : State :=
  if fifoRoom (nth s.time.te k []) then
    { s with time := { s.time with te := modAt s.time.te k (fun l => l ++ [s.capture false]) } }
  else State.captureLost { s with time := { s.time with teLost := modAt s.time.teLost k (· + 1) } }

/-- R286: an edge just captured gives its field, while ticks are raised, its TE_PHASE where it is the first. -/
def State.teMeasured (s : State) (k : Nat) : State :=
  match s.ticksOn, s.teFieldNow with
  | true, some n =>
    if (s.sector k).teField = some n then s
    else s.modSector k (fun x => { x with
      teField := some n, teValid := true, tePhase := (s.ns : Int) - s.teExpected n })
  | _, _ => s

/-- R286: the field, of the present one and the one before it, whose last instant for an edge has passed. -/
def State.teFieldOver (s : State) : Option Nat :=
  [s.lineNow.1, s.lineNow.1 - 1].find? (fun f => decide (s.teExpected f + fdiv s.fieldPeriod 2 ≤ s.ns))

section
variable {s : State} {k : Nat}

theorem State.teMeasured_noField (h : s.ticksOn = false ∨ s.teFieldNow = none) : s.teMeasured k = s := by
  unfold State.teMeasured
  rcases h with hticks | hnone
  · rw [hticks]
  · rw [hnone]
    cases s.ticksOn <;> rfl

theorem State.teMeasured_field {n : Nat} (hticks : s.ticksOn = true) (hn : s.teFieldNow = some n) :
    s.teMeasured k = if (s.sector k).teField = some n then s
      else s.modSector k (fun x => { x with
        teField := some n, teValid := true, tePhase := (s.ns : Int) - s.teExpected n }) := by
  simp only [State.teMeasured, hticks, hn]

end

section
variable {s a : State} {t : Cyc} {k : Nat} (ha : a = s.at t)
include ha

theorem execTeEdge_ignored (h : a.serving = false ∨ 16 ≤ k) : execTeEdge t k s = .next a := by
  subst ha
  exact if_pos (by simpa using h)

/-- R348, R286: an edge is captured, and then measured against its field. -/
theorem execTeEdge_taken (hserving : a.serving = true) (hport : k < 16) :
    execTeEdge t k s = .next ((a.teCaptured k).teMeasured k) := by
  have htaken : ¬ (¬ a.serving = true ∨ 16 ≤ k) := by simp [hserving, hport]
  subst ha
  simp only [execTeEdge, if_neg htaken, ← State.teCaptured.eq_def, State.teMeasured]
  cases ((s.at t).teCaptured k).ticksOn <;> cases ((s.at t).teCaptured k).teFieldNow <;> rfl

theorem execTeWindowEnd_noneOver (hf : a.teFieldOver = none) : execTeWindowEnd t k s = .next a := by
  subst ha
  rw [State.teFieldOver] at hf
  simp only [execTeWindowEnd, hf, nextOf]

section
variable {f : Nat} (hf : a.teFieldOver = some f)
include hf

theorem execTeWindowEnd_ignored (h : a.serving = false ∨ a.ticksOn = false ∨ 16 ≤ k ∨ (a.sector k).teJudged = some f) :
    execTeWindowEnd t k s = .next a := by
  subst ha
  rw [State.teFieldOver] at hf
  simp only [execTeWindowEnd, hf]
  exact if_pos (by simpa using h)

/-- R286: a field is judged once on a port, whose FIFO is emptied; without an edge it is missing its TE. -/
theorem execTeWindowEnd_judges {u : State} (hserving : a.serving = true) (hticks : a.ticksOn = true) (hport : k < 16)
    (hfirst : (a.sector k).teJudged ≠ some f)
    (hu : u = State.modSector { a with time := { a.time with te := modAt a.time.te k (fun _ => []) } } k
      (fun x => { x with teJudged := some f })) :
    execTeWindowEnd t k s = .next (if (u.sector k).teField = some f then u
      else (u.modSector k (fun x => { x with teValid := false, teMissing := true })).tally T.SCN_TE_MISSING) := by
  subst ha hu
  rw [State.teFieldOver] at hf
  simp only [execTeWindowEnd, hf]
  exact if_neg (by simp [hserving, hticks, hport, hfirst])

end

theorem execBlankingWindow_runs {n : Nat} (hn : a.windowField k = some n) :
    execBlankingWindow t k s = .next (a.serveWindow n k) := by
  subst ha
  simp only [execBlankingWindow, hn, nextOf]

theorem execBlankingWindow_none (hn : a.windowField k = none) : execBlankingWindow t k s = .next a := by
  subst ha
  simp only [execBlankingWindow, hn, nextOf]

theorem execTestRequestTimeout_eq : execTestRequestTimeout t s = .next a.reqTimeouts := by
  subst ha
  rfl

end

/-- Settles O20: an edge is captured and then has a field or none, and the end of a window finds a field to judge or none. -/
theorem tearingEffectAndWindows : Obligations.TearingEffectAndWindows := by
  unfold Obligations.TearingEffectAndWindows
  intro s a t ha
  have edge {k : Nat} {u v : State} (hs : a.serving = true) (hk : k < 16) (hu : u = a.teCaptured k)
      (h : u.teMeasured k = v) : execTeEdge t k s = .next v := (execTeEdge_taken ha hs hk).trans (congrArg nextOf (hu ▸ h))
  exact ⟨fun _ => execTeEdge_ignored ha,
    fun _ _ hs hk hu h => edge hs hk hu (State.teMeasured_noField h),
    fun _ _ _ hs hk hu ht hn hlater => edge hs hk hu ((State.teMeasured_field ht hn).trans (if_pos hlater)),
    fun _ _ _ hs hk hu ht hn hfirst => edge hs hk hu ((State.teMeasured_field ht hn).trans (if_neg hfirst)),
    fun _ => execTeWindowEnd_noneOver ha, fun _ _ hf => execTeWindowEnd_ignored ha hf,
    fun _ _ _ hf => execTeWindowEnd_judges ha hf,
    fun _ _ => execBlankingWindow_runs ha, fun _ => execBlankingWindow_none ha, execTestRequestTimeout_eq ha⟩

end Sys2Proof.Machine
end

section
/-! SUPPORT. Byte buffers and the invariant: what a buffer's bytes read as after writes (R201, R245, R246, R247, R427), and
that a step keeps every buffer canonical and every count within its bound. -/

namespace Sys2Proof.Machine

/-! ## Reads of a sparse table -/

/-- In a table with rising keys the entries found are exactly the entries listed. -/
theorem Tab.get?_eq_some_iff {α : Type} {m : Tab α} (h : Tab.sorted m) {k : Nat} {v : α} :
    Tab.get? m k = some v ↔ (k, v) ∈ m := by
  refine ⟨Tab.mem_get?, fun hv => ?_⟩
  induction m with
  | nil => cases hv
  | cons x r ih =>
    obtain ⟨hx, hr⟩ := List.pairwise_cons.mp h
    rw [Tab.get?_cons]
    rcases List.mem_cons.mp hv with rfl | hv
    · exact if_pos rfl
    · have hk : x.1 < k := hx _ hv
      rw [if_neg hk.ne, if_neg hk.asymm]
      exact ih hr hv

theorem Tab.get?_del {α : Type} {m : Tab α} (h : Tab.sorted m) (k j : Nat) :
    Tab.get? (Tab.del m k) j = if j = k then none else Tab.get? m j := by
  ext v
  have hdel : Tab.sorted (Tab.del m k) := h.filter _
  rw [Tab.get?_eq_some_iff hdel]
  unfold Tab.del
  by_cases hj : j = k
  · simp [hj]
  · simp [hj, Tab.get?_eq_some_iff h]

/-! ## Reads of a byte buffer after writes -/

section
variable {d : Option Byte} {free : Nat → Byte} {m : List Host.Cell}

/-- The entry that a write of the fixed byte removes is read as that byte all the same. -/
theorem Memory.read_write (h : Memory.wf d m) (hfree : ∀ v, d = some v → ∀ x, free x = v) (a x : Nat) (v : Byte) :
    Memory.read (Memory.write d m a v) free x = if x = a then v else Memory.read m free x := by
  unfold Memory.write Memory.read
  split
  · next hd =>
    rw [Tab.get?_del h.1]
    split
    · exact hfree v hd x
    · rfl
  · rw [Tab.get?_put]
    split <;> rfl

theorem Memory.read_writeAll_outside (h : Memory.wf d m) (hfree : ∀ v, d = some v → ∀ x, free x = v) {a x : Nat}
    {bs : List Byte} (hx : x < a ∨ a + bs.length ≤ x) :
    Memory.read (Memory.writeAll d m a bs) free x = Memory.read m free x := by
  induction bs generalizing m a with
  | nil => rfl
  | cons v vs ih =>
    rw [List.length_cons] at hx
    calc Memory.read (Memory.writeAll d (Memory.write d m a v) (a + 1) vs) free x
        = Memory.read (Memory.write d m a v) free x := ih (Memory.wf_write h a v) (by omega)
      _ = Memory.read m free x := by rw [Memory.read_write h hfree, if_neg (by omega)]

theorem Memory.read_writeAll_inside (h : Memory.wf d m) (hfree : ∀ v, d = some v → ∀ x, free x = v) (a : Nat)
    {bs : List Byte} {i : Nat} (hi : i < bs.length) :
    Memory.read (Memory.writeAll d m a bs) free (a + i) = bs[i] := by
  induction bs generalizing m a i with
  | nil => cases hi
  | cons v vs ih =>
    have hw := Memory.wf_write h a v
    cases i with
    | zero =>
      calc Memory.read (Memory.writeAll d (Memory.write d m a v) (a + 1) vs) free a
          = Memory.read (Memory.write d m a v) free a := Memory.read_writeAll_outside hw hfree (.inl a.lt_succ_self)
        _ = v := by rw [Memory.read_write h hfree, if_pos rfl]
    | succ i =>
      rw [show a + (i + 1) = a + 1 + i by omega]
      exact ih hw (a + 1) (Nat.lt_of_succ_lt_succ hi)

end

/-- Settles O57: a byte written reads back, also where its entry is removed, and the writes after it are at other addresses. -/
theorem bytesWrittenReadBack : Obligations.BytesWrittenReadBack := by
  unfold Obligations.BytesWrittenReadBack
  exact fun _ _ _ a bs h hfree => ⟨Memory.wf_writeAll h a bs, fun _ => Memory.read_writeAll_inside h hfree a,
    fun _ => Memory.read_writeAll_outside h hfree⟩

/-! ## The invariant -/

theorem State.Inv.dequeued {s : State} (h : s.Inv) (q : List Instr) : State.Inv { s with pending := q } :=
  ⟨h.buffers, h.events, h.tallies, h.fifos⟩

theorem State.Keeps.inv {a b : State} (k : a.Keeps b) (h : a.Inv) : b.Inv :=
  ⟨k.buffers h.buffers, k.events h.events, k.counts h.tallies, k.fifos h.fifos⟩

/-- Settles O44: the invariant does not speak of the queue, and every meaning keeps each of its parts. -/
theorem everyStepKeepsTheInvariant : Obligations.EveryStepKeepsTheInvariant := by
  unfold Obligations.EveryStepKeepsTheInvariant
  exact fun _ _ hs hstep => (step_keeps hstep).inv (hs.dequeued _)

end Sys2Proof.Machine
end

section
/-! SUPPORT. Scan-out (09_scanout): the lines of a field and their instants, and what the events of lines, overlay planes and
backlight zones do. -/

namespace Sys2Proof.Machine

/-! ## Lines and their positions (R266, R537) -/

theorem lineOf_posOf (field : Nat) {line : Nat} (hline : line < 2088) : lineOf (posOf field line) = (field, line) := by
  unfold lineOf posOf
  by_cases hafter : line < 1952
  · have hq : (2088 * field + line + 136) / 2088 = field := by omega
    have hd : (2088 * field + line + 136) % 2088 = line + 136 := by omega
    simp [if_pos hafter, hq, hd]
  · have hq : (2088 * (field + 1) + line - 1952) / 2088 = field + 1 := by omega
    have hd : (2088 * (field + 1) + line - 1952) % 2088 = line - 1952 := by omega
    have hbefore : ¬ 136 ≤ line - 1952 := by omega
    simp only [if_neg hafter, hq, hd, if_neg hbefore, Nat.add_sub_cancel]
    rw [Nat.sub_add_cancel (Nat.not_lt.1 hafter)]

/-- Position 136 is line 0 of field 0; an earlier one would be of a field before it. -/
theorem posOf_lineOf {q : Nat} (hq : 136 ≤ q) : posOf (lineOf q).1 (lineOf q).2 = q := by
  unfold lineOf posOf
  by_cases hafter : 136 ≤ q % 2088
  · have hline : q % 2088 - 136 < 1952 := by omega
    simp only [if_pos hafter, if_pos hline]
    omega
  · have hline : ¬ q % 2088 + 1952 < 1952 := by omega
    simp only [if_neg hafter, if_neg hline]
    omega

theorem posOf_tick (field : Nat) : posOf field 1952 = 2088 * (field + 1) := by simp [posOf]

/-- R537: at a position of whole fields the 2,088 lines of a field cancel against the rate of lines. -/
theorem State.lineNs_tick (s : State) (n : Nat) : s.lineNs n 1952 = s.tickNs (n + 1) := by
  have hpos : posOf (n + 1952 / 2088) (1952 % 2088) = 2088 * (n + 1) := posOf_tick n
  have hfield : 2088 * (n + 1) / 2088 = n + 1 := Nat.mul_div_cancel_left _ (by decide)
  have hcancel : fdiv (-(((2088 * (n + 1) : Nat) : Int) * 1000000000)) (2088 * s.scan.rate) =
      fdiv (-(((n + 1 : Nat) : Int) * 1000000000)) s.scan.rate := by
    unfold fdiv
    rw [Nat.cast_mul, mul_assoc, ← mul_neg]
    exact Int.mul_ediv_mul_of_pos _ _ (by decide)
  simp only [State.lineNs, State.tickNs, Machine.tickNs, hpos, hfield, hcancel]
  exact (neg_add_eq_sub _ _).symm

/-- Settles O53: a position on either side of d = 136, and the one whose d is 0. -/
theorem linesFallBetweenTheTicks : Obligations.LinesFallBetweenTheTicks := by
  unfold Obligations.LinesFallBetweenTheTicks
  exact ⟨fun field _ => lineOf_posOf field, fun _ => posOf_lineOf, State.lineNs_tick⟩

/-! ## Overlay planes that starve (R279) -/

section
variable {s : State} {k pl : Nat}

theorem State.starved_of_starves (h : s.starves k pl = true) :
    s.starved k pl = s.underrun s.lineNow.1 k (1 + pl) s.lineNow.2 := if_pos h

theorem State.starved_of_fed (h : s.starves k pl = false) : s.starved k pl = s := if_neg (by simp [h])

end

/-! ## What each event does (R274, R279, R281, R466, R467, R537) -/

section
variable {s a : State} {t : Cyc} (ha : a = s.at t)
include ha

theorem execLineStart_begins (h : a.linesRun = true ∧ a.scan.line ≠ some a.lineNow ∧
    a.scan.notBefore < a.lineNs a.lineNow.1 a.lineNow.2) :
    execLineStart t s = .next (a.beginLine a.lineNow.1 a.lineNow.2) := by
  subst ha
  exact if_neg (by simpa using h)

theorem execLineStart_ignored (h : ¬ (a.linesRun = true ∧ a.scan.line ≠ some a.lineNow ∧
    a.scan.notBefore < a.lineNs a.lineNow.1 a.lineNow.2)) : execLineStart t s = .next a := by
  subst ha
  refine if_pos ?_
  simpa only [not_and_or, not_not, not_lt] using h

theorem execOverlayPrefetchStart_empties (h : a.linesRun = true ∧ a.scan.lantern = false ∧ 2064 ≤ a.lineNow.2) :
    execOverlayPrefetchStart t s = .next (State.reportSlack { a with
      scan := { a.scan with
        sectors := a.scan.sectors.map (fun x => { x with fifoRows := [0, 0], ovBad := [[], []] }) } }) := by
  subst ha
  exact if_pos (by simpa using h)

theorem execOverlayPrefetchStart_ignored (h : ¬ (a.linesRun = true ∧ a.scan.lantern = false ∧ 2064 ≤ a.lineNow.2)) :
    execOverlayPrefetchStart t s = .next a := by
  subst ha
  exact if_neg (by simpa using h)

section
variable {k pl : Nat}

theorem execOverlayFetchReturn_ignored {row : ReadBy} (h : ¬ (a.linesRun = true ∧ a.scan.lantern = false ∧ pl < 2 ∧
    (a.surf (nth a.scan.planes pl {}).surface).isSome = true)) : execOverlayFetchReturn t k pl row s = .next a := by
  subst ha
  exact if_neg (by simpa using h)

/-- R281, R279: a row counts after an underrun that was due, and the line under way is renewed where the row is its own. -/
theorem execOverlayFetchReturn_counts {row : Nat} {bad : List Nat} {u : State} (hrun : a.linesRun = true)
    (hdisplay : a.scan.lantern = false) (hplane : pl < 2)
    (hsurface : (a.surf (nth a.scan.planes pl {}).surface).isSome = true)
    (hu : u = (a.starved k pl).modSector k (fun x => { x with
      fifoRows := modAt x.fifoRows pl (fun r => max r (row + 1)), ovBad := modAt x.ovBad pl (· ++ bad) })) :
    execOverlayFetchReturn t k pl ⟨row, bad⟩ s =
      .next ((if row = u.lineNow.2 then u.renewLine k else u).reportSlack) := by
  subst ha hu
  exact if_pos ⟨hrun, by simp [hdisplay], hplane, hsurface⟩

theorem execOverlayUnderrun_eq : execOverlayUnderrun t k pl s = .next (a.starved k pl) := by
  subst ha
  rfl

theorem execOverlayUnderrun_ignored (h : a.starves k pl = false) : execOverlayUnderrun t k pl s = .next a := by
  rw [execOverlayUnderrun_eq ha, State.starved_of_fed h]

theorem execOverlayUnderrun_underruns (h : a.starves k pl = true) :
    execOverlayUnderrun t k pl s = .next (a.underrun a.lineNow.1 k (1 + pl) a.lineNow.2) := by
  rw [execOverlayUnderrun_eq ha, State.starved_of_starves h]

end

section
variable {z : Nat}

theorem execBacklightZoneRise_unscheduled (hz : a.scan.sched.find? (fun e => e.1 == z) = none) :
    execBacklightZoneRise t z s = .next a := by
  subst ha
  simp only [execBacklightZoneRise, hz, nextOf]

theorem execBacklightZoneFall_dark (hz : a.scan.zoneFall.find? (fun e => e.1 == z) = none) :
    execBacklightZoneFall t z s = .next a := by
  subst ha
  simp only [execBacklightZoneFall, hz, nextOf]

section
variable {y n r f c : Nat} (hz : a.scan.sched.find? (fun e => e.1 == z) = some (y, n, r, f, c))
include hz

theorem execBacklightZoneRise_waits (h : ¬ (r ≤ a.ns ∧ a.ticksOn = true)) : execBacklightZoneRise t z s = .next a := by
  subst ha
  simp only [execBacklightZoneRise, hz]
  exact if_neg h

theorem execBacklightZoneRise_lights (hrise : r ≤ a.ns) (hticks : a.ticksOn = true) :
    execBacklightZoneRise t z s = .next { a with
      scan := { a.scan with
        zones := modAt a.scan.zones z (fun _ => true), blGrp := c,
        zoneFall := a.scan.zoneFall.filter (fun e => e.1 != z) ++ [(z, f)],
        sched := a.scan.sched.filter (fun e => e != (y, n, r, f, c)) } } := by
  subst ha
  simp only [execBacklightZoneRise, hz]
  exact if_pos ⟨hrise, hticks⟩

end

section
variable {y f : Nat} (hz : a.scan.zoneFall.find? (fun e => e.1 == z) = some (y, f))
include hz

theorem execBacklightZoneFall_waits (h : a.ns < f) : execBacklightZoneFall t z s = .next a := by
  subst ha
  simp only [execBacklightZoneFall, hz]
  exact if_neg (Nat.not_le.2 h)

theorem execBacklightZoneFall_darkens (h : f ≤ a.ns) :
    execBacklightZoneFall t z s = .next { a with
      scan := { a.scan with
        zones := modAt a.scan.zones z (fun _ => false),
        zoneFall := a.scan.zoneFall.filter (fun e => e.1 != z) } } := by
  subst ha
  simp only [execBacklightZoneFall, hz]
  exact if_pos h

end

end

end

/-- Settles O19: each event has one condition, and a zone has what is scheduled for it. -/
theorem lineEvents : Obligations.LineEvents := by
  unfold Obligations.LineEvents
  intro s a t ha
  exact ⟨execLineStart_begins ha, execLineStart_ignored ha,
    execOverlayPrefetchStart_empties ha, execOverlayPrefetchStart_ignored ha,
    fun _ _ _ _ => execOverlayFetchReturn_ignored ha, fun _ _ _ _ _ => execOverlayFetchReturn_counts ha,
    fun _ _ => execOverlayUnderrun_ignored ha, fun _ _ => execOverlayUnderrun_underruns ha,
    fun _ => execBacklightZoneRise_unscheduled ha, fun _ _ _ _ _ _ => execBacklightZoneRise_waits ha,
    fun _ _ _ _ _ _ => execBacklightZoneRise_lights ha,
    fun _ => execBacklightZoneFall_dark ha, fun _ _ _ => execBacklightZoneFall_waits ha,
    fun _ _ _ => execBacklightZoneFall_darkens ha⟩

end Sys2Proof.Machine
end

section
/-! SUPPORT. The serial links (10_serial_links): HPD and training of the panel ports, AUX, lane tests, the backbone
ports and the frames of the bridge. -/

namespace Sys2Proof.Machine

/-! ## The phases of a training (R303) -/

section
variable {x : Port} {tr : Training}

theorem Port.phaseOk_hpd (hphase : tr.phase = .hpd) : x.phaseOk tr = x.hpd := by
  simp only [Port.phaseOk, hphase]

theorem Port.phaseOk_caps (hphase : tr.phase = .caps) : x.phaseOk tr = tr.caps.any tr.servedBy := by
  simp only [Port.phaseOk, hphase]

theorem Port.phaseOk_laneEq (hphase : tr.phase = .laneEq) : x.phaseOk tr = tr.status.any (·.eqDone) := by
  simp only [Port.phaseOk, hphase]

theorem Port.phaseOk_cds (hphase : tr.phase = .cds) : x.phaseOk tr = tr.status.any (·.cdsDone) := by
  simp only [Port.phaseOk, hphase]

end

theorem Training.interval_eq (tr : Training) : tr.interval = usCyc (max 400 ((tr.caps.map (·.pollUs)).getD 0)) := by
  unfold Training.interval
  cases tr.caps <;> rfl

/-! ## HPD and IRQ_HPD (R301, R302, R306, R308) -/

section
variable {s a : State} {t : Cyc} {k : Nat} (ha : a = s.at t)
include ha

theorem execHpdHigh_ignored (h : a.alive = false ∨ 16 ≤ k) : execHpdHigh t k s = .next a := by
  subst ha
  exact if_pos (by simpa using h)

section
variable {u : State} {tr : Training} (halive : a.alive = true) (hk : k < 16)
  (hu : u = a.modPort k (fun x => { x with hpd := true }))
include halive hk hu

theorem execHpdHigh_absent (hstate : (u.port k).state = 1) :
    execHpdHigh t k s = .next (if (a.port k).hpd then u else u.startTraining k false) := by
  subst ha hu
  simp only [execHpdHigh, halive, Nat.not_le.2 hk, hstate, not_true_eq_false, or_self, if_false, nextOf]

theorem execHpdHigh_training (hstate : (u.port k).state = 2) (htr : (u.port k).training = some tr) :
    execHpdHigh t k s = .next (if tr.phase = .hpd then u.enterPhase k .caps else u) := by
  subst ha hu
  simp only [execHpdHigh, halive, Nat.not_le.2 hk, hstate, htr, not_true_eq_false, or_self, if_false, nextOf]

theorem execHpdHigh_recorded (habsent : (u.port k).state ≠ 1)
    (htrained : (u.port k).state = 2 → (u.port k).training = none) : execHpdHigh t k s = .next u := by
  subst ha
  simp only [execHpdHigh, halive, Nat.not_le.2 hk, ← hu, not_true_eq_false, or_self, if_false]
  split
  next _ hstate => exact absurd hstate habsent
  next hstate htr => exact absurd (htrained hstate) (by simp [htr])
  next => rfl

end

theorem execHpdUnplug_unplugs (h : a.alive = true ∧ k < 16) : execHpdUnplug t k s = .next (a.unplug k) := by
  subst ha
  exact congrArg nextOf (if_pos h)

theorem execHpdUnplug_ignored (h : ¬ (a.alive = true ∧ k < 16)) : execHpdUnplug t k s = .next a := by
  subst ha
  exact congrArg nextOf (if_neg h)

section
variable {st : Option LaneStatus}

theorem execIrqHpd_absent (hstate : (a.port k).state = 1) : execIrqHpd t k st s = .next (a.startTraining k false) := by
  subst ha
  simp only [execIrqHpd, hstate, nextOf]

theorem execIrqHpd_active (hstate : (a.port k).state = 3) : execIrqHpd t k st s = .next (a.checkLanes k st) := by
  subst ha
  simp only [execIrqHpd, hstate, nextOf]

theorem execIrqHpd_test {x : LaneTest} (hstate : (a.port k).state = 4) (htest : (a.port k).test = some x) :
    execIrqHpd t k st s =
      .next (if x.back = 3 then a.modPort k (fun q => { q with test := some { x with irq := true } }) else a) := by
  subst ha
  simp only [execIrqHpd, hstate, htest, nextOf]

theorem execIrqHpd_ignored (habsent : (a.port k).state ≠ 1) (hactive : (a.port k).state ≠ 3)
    (htest : (a.port k).state = 4 → (a.port k).test = none) : execIrqHpd t k st s = .next a := by
  subst ha
  unfold execIrqHpd
  dsimp only
  split
  next _ hstate => exact absurd hstate habsent
  next _ hstate => exact absurd hstate hactive
  next hstate hx => exact absurd (htest hstate) (by simp [hx])
  next => rfl

end

/-! ## Training (R303, R320) -/

theorem execTrainingPhaseDone_untrained (htr : (a.port k).training = none) : execTrainingPhaseDone t k s = .next a := by
  subst ha
  simp only [execTrainingPhaseDone, htr, nextOf]

theorem execTrainingPhaseTimeout_untrained (htr : (a.port k).training = none) :
    execTrainingPhaseTimeout t k s = .next a := by
  subst ha
  simp only [execTrainingPhaseTimeout, htr, nextOf]

theorem execLaneEqPoll_untrained {st : LaneStatus} (htr : (a.port k).training = none) :
    execLaneEqPoll t k st s = .next a := by
  subst ha
  simp only [execLaneEqPoll, htr, nextOf]

section
variable {tr : Training} (htr : (a.port k).training = some tr)
include htr

theorem execTrainingPhaseDone_ignored
    (h : tr.pstart + msCyc (phaseLimit tr.phase).1 ≤ a.time.cyc ∨ (a.port k).phaseOk tr = false) :
    execTrainingPhaseDone t k s = .next a := by
  subst ha
  simp only [execTrainingPhaseDone, htr]
  exact if_pos (by simpa using h)

section
variable (hlimit : a.time.cyc < tr.pstart + msCyc (phaseLimit tr.phase).1)
include hlimit

theorem execTrainingPhaseTimeout_early : execTrainingPhaseTimeout t k s = .next a := by
  subst ha
  simp only [execTrainingPhaseTimeout, htr]
  exact if_neg (Nat.not_le.2 hlimit)

/-- R303: what follows a phase that has done what it is for within its limit. -/
theorem execTrainingPhaseDone_succeeds (hok : (a.port k).phaseOk tr = true) :
    execTrainingPhaseDone t k s = match tr.phase with
      | .hpd => nextOf (a.enterPhase k .caps)
      | .caps => nextOf ((a.modPort k (fun x => { x with
          presets := List.replicate 4 (F.INIT_PRESET.of tr.cfg) })).enterPhase k .laneEq)
      | .laneEq => nextOf (a.enterPhase k .cds)
      | .cds => nextOf (a.portActive k tr) := by
  subst ha
  simp only [execTrainingPhaseDone, htr]
  exact if_neg (not_or.2 ⟨Nat.not_le.2 hlimit, not_not.2 hok⟩)

theorem execTrainingPhaseDone_hpd (hphase : tr.phase = .hpd) (hok : (a.port k).hpd = true) :
    execTrainingPhaseDone t k s = .next (a.enterPhase k .caps) := by
  rw [execTrainingPhaseDone_succeeds ha htr hlimit ((Port.phaseOk_hpd hphase).trans hok), hphase]
  rfl

/-- R320: LANE_EQ begins at the sampled INIT_PRESET on every lane. -/
theorem execTrainingPhaseDone_caps {q : Nat} (hphase : tr.phase = .caps) (hok : tr.caps.any tr.servedBy = true)
    (hq : q = fieldOf tr.cfg 0 0 4) :
    execTrainingPhaseDone t k s =
      .next ((a.modPort k (fun x => { x with presets := [q, q, q, q] })).enterPhase k .laneEq) := by
  rw [execTrainingPhaseDone_succeeds ha htr hlimit ((Port.phaseOk_caps hphase).trans hok), hphase, hq]
  rfl

theorem execTrainingPhaseDone_laneEq (hphase : tr.phase = .laneEq) (hok : tr.status.any (·.eqDone) = true) :
    execTrainingPhaseDone t k s = .next (a.enterPhase k .cds) := by
  rw [execTrainingPhaseDone_succeeds ha htr hlimit ((Port.phaseOk_laneEq hphase).trans hok), hphase]
  rfl

theorem execTrainingPhaseDone_cds (hphase : tr.phase = .cds) (hok : tr.status.any (·.cdsDone) = true) :
    execTrainingPhaseDone t k s = .next (a.portActive k tr) := by
  rw [execTrainingPhaseDone_succeeds ha htr hlimit ((Port.phaseOk_cds hphase).trans hok), hphase]
  rfl

end

theorem execTrainingPhaseTimeout_fails (hlimit : tr.pstart + msCyc (phaseLimit tr.phase).1 ≤ a.time.cyc) :
    execTrainingPhaseTimeout t k s =
      .next (a.portAbsent k (phaseLimit tr.phase).2 (usBetween tr.pstart a.time.cyc)) := by
  subst ha
  simp only [execTrainingPhaseTimeout, htr]
  exact if_pos hlimit

section
variable {st : LaneStatus}

theorem execLaneEqPoll_otherPhase (heq : tr.phase ≠ .laneEq) (hcds : tr.phase ≠ .cds) :
    execLaneEqPoll t k st s = .next a := by
  subst ha
  simp only [execLaneEqPoll, htr]
  exact if_pos (.inl (by simp [heq, hcds]))

theorem execLaneEqPoll_early (hpolled : tr.polled ≠ 0)
    (hsoon : a.time.cyc < tr.polled + usCyc (max 400 ((tr.caps.map (·.pollUs)).getD 0))) :
    execLaneEqPoll t k st s = .next a := by
  subst ha
  simp only [execLaneEqPoll, htr, Training.interval_eq]
  exact if_pos (.inr ⟨hpolled, hsoon⟩)

theorem execLaneEqPoll_reads (hphase : tr.phase = .laneEq ∨ tr.phase = .cds)
    (hdue : tr.polled = 0 ∨ tr.polled + usCyc (max 400 ((tr.caps.map (·.pollUs)).getD 0)) ≤ a.time.cyc) :
    execLaneEqPoll t k st s = .next (a.modPort k (fun x => { x with
      training := some { tr with status := some st, polled := a.time.cyc }
      presets := if tr.phase = .laneEq then
          (List.range 4).map (fun j => nth st.presets j (nth (a.port k).presets j 0) % 16)
        else x.presets })) := by
  subst ha
  simp only [execLaneEqPoll, htr, Training.interval_eq]
  refine if_neg (not_or.2 ⟨not_not.2 (by simpa using hphase), fun ⟨hpolled, hsoon⟩ => ?_⟩)
  exact hdue.elim hpolled (Nat.not_le.2 hsoon)

end

end

end

/-- Settles O23, from what each event finds: the port's state, and the phase of the training in progress. -/
theorem panelLinkEvents : Obligations.PanelLinkEvents := by
  unfold Obligations.PanelLinkEvents
  intro s a t ha
  exact ⟨fun _ => execHpdHigh_ignored ha, fun _ _ => execHpdHigh_absent ha, fun _ _ _ => execHpdHigh_training ha,
    fun _ _ => execHpdHigh_recorded ha, fun _ => execHpdUnplug_unplugs ha, fun _ => execHpdUnplug_ignored ha,
    fun _ _ => execIrqHpd_absent ha, fun _ _ => execIrqHpd_active ha, fun _ _ _ => execIrqHpd_test ha,
    fun _ _ => execIrqHpd_ignored ha,
    fun _ => execTrainingPhaseDone_untrained ha, fun _ _ => execTrainingPhaseDone_ignored ha,
    fun _ _ htr hlimit => execTrainingPhaseDone_hpd ha htr hlimit,
    fun _ _ _ htr hlimit => execTrainingPhaseDone_caps ha htr hlimit,
    fun _ _ htr hlimit => execTrainingPhaseDone_laneEq ha htr hlimit,
    fun _ _ htr hlimit => execTrainingPhaseDone_cds ha htr hlimit,
    fun _ => execTrainingPhaseTimeout_untrained ha, fun _ _ => execTrainingPhaseTimeout_early ha,
    fun _ _ => execTrainingPhaseTimeout_fails ha,
    fun _ _ => execLaneEqPoll_untrained ha, fun _ _ _ htr => execLaneEqPoll_otherPhase ha htr,
    fun _ _ _ htr => execLaneEqPoll_early ha htr, fun _ _ _ htr => execLaneEqPoll_reads ha htr⟩

/-! ## AUX transactions (R303, R304, R307) -/

section
variable {s a : State} {t : Cyc} {k : Nat} (ha : a = s.at t)
include ha

theorem execAuxReply_retried (h : (a.port k).defers < 7) :
    execAuxReply t k .defer s = .next (a.modPort k (fun x => { x with defers := x.defers + 1 })) := by
  subst ha
  exact if_neg (Nat.not_le.2 h)

theorem execAuxReply_deferredOut (h : 7 ≤ (a.port k).defers) :
    execAuxReply t k .defer s = .next ((a.modPort k (fun x => { x with noReply := 0, defers := 0 })).auxFailed k) := by
  subst ha
  exact if_pos h

theorem execAuxTimeout_retried (h : (a.port k).noReply < 3) :
    execAuxTimeout t k s = .next (a.modPort k (fun x => { x with noReply := x.noReply + 1 })) := by
  subst ha
  exact if_neg (Nat.not_le.2 h)

theorem execAuxTimeout_fails (h : 3 ≤ (a.port k).noReply) :
    execAuxTimeout t k s = .next ((a.modPort k (fun x => { x with noReply := 0, defers := 0 })).auxFailed k) := by
  subst ha
  exact if_pos h

theorem execLinkRecalUnit_ignored {st : Option LaneStatus} (h : a.recalPort k = false) :
    execLinkRecalUnit t k st s = .next a := by
  subst ha
  exact if_pos (by simp [h])

section
variable (h : a.recalPort k = true)
include h

theorem execLinkRecalUnit_readFails : execLinkRecalUnit t k none s = .next ((a.auxReadFailed k).bgDid 3) := by
  subst ha
  exact if_neg (not_not.2 h)

theorem execLinkRecalUnit_reads {x : LaneStatus} :
    execLinkRecalUnit t k (some x) s = .next ((a.recal k x).bgDid 3) := by
  subst ha
  exact if_neg (not_not.2 h)

end

/-! ## The ends of tests (R311, R313, R319) -/

section
variable {errs sink : List Nat} {rd : Bool} {st : Option LaneStatus}

theorem execLinkTestEnd_noTest (htest : (a.port k).test = none) : execLinkTestEnd t k errs sink rd st s = .next a := by
  subst ha
  simp only [execLinkTestEnd, htest, nextOf]

theorem execLinkTestEnd_ends {x : LaneTest} {f : Nat × List Nat × List Nat × List Nat × Nat} {u : State}
    (htest : (a.port k).test = some x) (hf : f = x.figures a.testLanes errs sink rd)
    (hu : u = (a.modPort k (fun q => { q with state := x.back, test := none, sinkPattern := none })).finalEvent x.slot
      x.tag 0x0703 Status.OK (testPayload f.2.2.2.2 x.field f.1 f.2.2.1 f.2.1 f.2.2.2.1)) :
    execLinkTestEnd t k errs sink rd st s = .next (if x.back = 3 then u.checkLanes k st else u) := by
  subst ha hf hu
  simp only [execLinkTestEnd, htest, nextOf]

end

section
variable {b errs : Nat}

theorem execBbTestEnd_noTest (htest : (a.bbp b).test = none) : execBbTestEnd t b errs s = .next a := by
  subst ha
  simp only [execBbTestEnd, htest, nextOf]

section
variable {x : BbTest} (htest : (a.bbp b).test = some x)
include htest

theorem execBbTestEnd_sends (hdir : bit x.dir 1 = false) : execBbTestEnd t b errs s =
    .next (((a.modBb b (fun q => { q with link := 0, test := none, prbsErr := 0 })).unlearn b).finalEvent x.slot x.tag
      0x0705 Status.OK (le 8 0 ++ le 4 0)) := by
  subst ha
  simp only [execBbTestEnd, htest, hdir, Bool.false_eq_true, if_false, nextOf]

/-- R319: a direction that receives has its errors counted. -/
theorem execBbTestEnd_checks (hdir : bit x.dir 1 = true) : execBbTestEnd t b errs s =
    .next (((a.modBb b (fun q => { q with link := 0, test := none, prbsErr := satN errs 32 })).unlearn b).finalEvent
      x.slot x.tag 0x0705 Status.OK (le 8 (x.duration * bbBits (a.bbGbps b) - 64) ++ le 4 (satN errs 32))) := by
  subst ha
  simp only [execBbTestEnd, htest, hdir, if_true, nextOf]

end

end

end

/-- Settles O24: an answer is taken by its kind, the retries by their limits, and a test's end by the test that runs. -/
theorem auxRetriesAndTestEnds : Obligations.AuxRetriesAndTestEnds := by
  unfold Obligations.AuxRetriesAndTestEnds
  intro s a t ha
  refine ⟨fun _ => ?ack, fun _ _ => ?caps, fun _ => ?nack,
    fun _ => execAuxReply_retried ha, fun _ => execAuxReply_deferredOut ha,
    fun _ => execAuxTimeout_retried ha, fun _ => execAuxTimeout_fails ha,
    fun _ _ => execLinkRecalUnit_ignored ha, fun _ => execLinkRecalUnit_readFails ha,
    fun _ _ h => execLinkRecalUnit_reads ha h,
    fun _ _ _ _ _ => execLinkTestEnd_noTest ha, fun _ _ _ _ _ _ _ _ => execLinkTestEnd_ends ha,
    fun _ _ => execBbTestEnd_noTest ha, fun _ _ _ => execBbTestEnd_sends ha, fun _ _ _ => execBbTestEnd_checks ha⟩
  all_goals subst ha; rfl

/-! ## Backbone ports (R315 to R318) -/

/-- R316: the conditions of entering transmit idle. -/
def State.mayIdle (s : State) (b : Nat) : Prop :=
  s.bbUp b = true ∧ s.getI F.BB_EEE_TX b = 1 ∧ (s.queues b).all (·.isEmpty) = true ∧
    (s.bbp b).emptyAt + usCyc (s.getI F.BB_LPI_ENTRY b) ≤ s.time.cyc ∧
    s.gateSoon b (Config.wakeNs (s.bbGbps b) + s.getI F.BB_LPI_ENTRY b * 1000) = false

/-- R316: the conditions of leaving transmit idle. -/
def State.mustWake (s : State) (b : Nat) : Prop :=
  (s.bbp b).txLpi = true ∧
    ((s.queues b).all (·.isEmpty) = false ∨ s.gateSoon b (Config.wakeNs (s.bbGbps b)) = true)

section
variable {s a : State} {t : Cyc} {b : Nat} (ha : a = s.at t)
include ha

theorem execAdaptResume_resumes (h : a.bbUp b = true ∧ (a.bbp b).rxLpi = false) :
    execAdaptResume t b s = .next (a.modBb b (fun x => { x with frozen := false, dataBlocks := 0 })) := by
  subst ha
  exact congrArg nextOf (if_pos (by simpa using h))

theorem execAdaptResume_ignored (h : ¬ (a.bbUp b = true ∧ (a.bbp b).rxLpi = false)) :
    execAdaptResume t b s = .next a := by
  subst ha
  exact congrArg nextOf (if_neg (by simpa using h))

theorem execLpiEntry_idles (h : a.mayIdle b) :
    execLpiEntry t b s = .next (a.modBb b (fun x => { x with txLpi := true })) := by
  subst ha
  exact if_pos (by simpa [State.mayIdle] using h)

theorem execLpiEntry_ignored (h : ¬ a.mayIdle b) : execLpiEntry t b s = .next a := by
  subst ha
  exact if_neg (by simpa [State.mayIdle] using h)

theorem execLpiWake_wakes (h : a.mustWake b) :
    execLpiWake t b s = .next (a.modBb b (fun x => { x with
      txLpi := false, txWakeAt := a.time.cyc + cdiv (Config.wakeNs (a.bbGbps b) * 2) 5, emptyAt := a.time.cyc })) := by
  subst ha
  exact if_pos (by simpa [State.mustWake] using h)

theorem execLpiWake_ignored (h : ¬ a.mustWake b) : execLpiWake t b s = .next a := by
  subst ha
  exact if_neg (by simpa [State.mustWake] using h)

end

/-- Settles O25: each event but BB_PORT_DOWN has one condition. -/
theorem backbonePortEvents : Obligations.BackbonePortEvents := by
  unfold Obligations.BackbonePortEvents
  intro s a t ha
  refine ⟨fun _ h => ?up, fun _ h => ?upIgnored, fun _ => ?down, fun _ h => ?freeze, fun _ h => ?freezeIgnored,
    fun _ => execAdaptResume_resumes ha, fun _ => execAdaptResume_ignored ha,
    fun _ h => ?quiet, fun _ h => ?quietIgnored, fun _ h => ?quietEnd, fun _ h => ?quietEndIgnored,
    fun _ => execLpiEntry_idles ha, fun _ => execLpiEntry_ignored ha,
    fun _ => execLpiWake_wakes ha, fun _ => execLpiWake_ignored ha⟩
  all_goals subst ha
  case up => exact if_pos h
  case upIgnored => exact if_neg h
  case down => rfl
  case freeze | quiet | quietEnd => exact congrArg nextOf (if_pos h)
  case freezeIgnored | quietIgnored | quietEndIgnored => exact congrArg nextOf (if_neg h)

/-! ## Frames at a line port (R323, R324) -/

section
variable {s a : State} {t : Cyc} {b : Nat} (ha : a = s.at t)
include ha

section
variable {f : Frame}

theorem execLinePortFrame_dropped (h : a.bridgeOn = false ∨ 2 ≤ b ∨ a.bbUp b = false ∨ f.length < 64) :
    execLinePortFrame t b f s = .next a := by
  subst ha
  exact if_pos (by simpa using h)

section
variable (hon : a.bridgeOn = true) (hb : b < 2) (hup : a.bbUp b = true) (hmin : 64 ≤ f.length)
include hon hb hup hmin

/-- R323: a frame of 64 bytes or more at an UP port of a running bridge. -/
theorem execLinePortFrame_arrives : execLinePortFrame t b f s =
    if 9216 < f.length ∨ 2 ≤ f.tags ∨ a.storedBad b f = true then nextOf (a.tally T.BRG_DISCARD)
    else if ¬ a.vidMember (a.vidOf f) = true then nextOf (a.tally T.BRG_VLAN_DROP)
    else if f.etherType.toNat = 0x88F7 then
      if isPdelay f.payload = true then nextOf a
      else if ¬ isGroup f.dst = true ∧ a.get F.LEARN = 1 ∧ a.learnedPort f.dst = some b then nextOf a
      else nextOf ((a.learn f.src b).forward b f)
    else if isLinkLocal f.dst = true then nextOf a
    else nextOf (a.classify b f) := by
  subst ha
  exact if_neg (by simp [hon, hup, Nat.not_le.2 hb, Nat.not_lt.2 hmin])

theorem execLinePortFrame_discarded (h : 9216 < f.length ∨ 2 ≤ f.tags ∨ a.storedBad b f = true) :
    execLinePortFrame t b f s = .next (a.tally T.BRG_DISCARD) := by
  rw [execLinePortFrame_arrives ha hon hb hup hmin]
  exact if_pos h

section
variable (hmax : f.length ≤ 9216) (htags : f.tags < 2) (hstored : a.storedBad b f = false)
include hmax htags hstored

theorem execLinePortFrame_notMember (hvid : a.vidMember (a.vidOf f) = false) :
    execLinePortFrame t b f s = .next (a.tally T.BRG_VLAN_DROP) := by
  rw [execLinePortFrame_arrives ha hon hb hup hmin, if_neg (by simp [hmax, htags, hstored])]
  exact if_pos (by simp [hvid])

section
variable (hvid : a.vidMember (a.vidOf f) = true)
include hvid

/-- R324: a stored frame of a VID whose member the port is. -/
theorem execLinePortFrame_member : execLinePortFrame t b f s =
    if f.etherType.toNat = 0x88F7 then
      if isPdelay f.payload = true then nextOf a
      else if ¬ isGroup f.dst = true ∧ a.get F.LEARN = 1 ∧ a.learnedPort f.dst = some b then nextOf a
      else nextOf ((a.learn f.src b).forward b f)
    else if isLinkLocal f.dst = true then nextOf a
    else nextOf (a.classify b f) := by
  rw [execLinePortFrame_arrives ha hon hb hup hmin, if_neg (by simp [hmax, htags, hstored]), if_neg (not_not.2 hvid)]

section
variable (hptp : f.etherType.toNat = 0x88F7)
include hptp

theorem execLinePortFrame_ptpStays (h : isPdelay f.payload = true ∨
    (isGroup f.dst = false ∧ a.get F.LEARN = 1 ∧ a.learnedPort f.dst = some b)) :
    execLinePortFrame t b f s = .next a := by
  rw [execLinePortFrame_member ha hon hb hup hmin hmax htags hstored hvid, if_pos hptp]
  rcases h with hdelay | ⟨hdst, hlearn, hport⟩
  · exact if_pos hdelay
  · rw [if_pos (c := ¬ isGroup f.dst = true ∧ _) ⟨by simp [hdst], hlearn, hport⟩]
    exact ite_self _

theorem execLinePortFrame_ptpForwarded (hdelay : isPdelay f.payload = false)
    (hlearned : ¬ (isGroup f.dst = false ∧ a.get F.LEARN = 1 ∧ a.learnedPort f.dst = some b)) :
    execLinePortFrame t b f s = .next ((a.learn f.src b).forward b f) := by
  rw [execLinePortFrame_member ha hon hb hup hmin hmax htags hstored hvid, if_pos hptp, if_neg (by simp [hdelay])]
  exact if_neg (by simpa using hlearned)

end

section
variable (hother : f.etherType.toNat ≠ 0x88F7)
include hother

theorem execLinePortFrame_linkLocal (hdst : isLinkLocal f.dst = true) : execLinePortFrame t b f s = .next a := by
  rw [execLinePortFrame_member ha hon hb hup hmin hmax htags hstored hvid, if_neg hother]
  exact if_pos hdst

theorem execLinePortFrame_classified (hdst : isLinkLocal f.dst = false) :
    execLinePortFrame t b f s = .next (a.classify b f) := by
  rw [execLinePortFrame_member ha hon hb hup hmin hmax htags hstored hvid, if_neg hother]
  exact if_neg (by simp [hdst])

end

end

end

end

end

/-! ## Queues, gates and addresses of the bridge (R325, R327, R329 to R331) -/

theorem execEgressTransmit_ignored
    (h : a.bridgeOn = false ∨ 2 ≤ b ∨ a.txIdle b = false ∨ a.eligible b = none) :
    execEgressTransmit t b s = .next a := by
  subst ha
  by_cases hidle : (s.at t).bridgeOn = true ∧ b < 2 ∧ (s.at t).txIdle b = true
  · obtain ⟨hon, hb, htx⟩ := hidle
    have hnone : (s.at t).eligible b = none := by simpa [hon, Nat.not_le.2 hb, htx] using h
    simp only [execEgressTransmit, hnone, ite_self, nextOf]
  · exact if_neg hidle

theorem execEgressTransmit_sends {c : Nat} {q : QFrame} {u : State} (hon : a.bridgeOn = true) (hb : b < 2)
    (htx : a.txIdle b = true) (hq : a.eligible b = some (c, q))
    (hu : u = { a with bridge := { a.bridge with
      egress := modAt a.bridge.egress b (fun l => modAt l c (fun x => x.drop 1)) } }) :
    execEgressTransmit t b s = .next ((((u.transmit b q).pump).noteEmpty b).exportsOut) := by
  subst ha hu
  simp only [execEgressTransmit, hq]
  exact if_pos ⟨hon, hb, htx⟩

theorem execGateEntryChange_ignored (h : a.serving = false ∨ 2 ≤ b) : execGateEntryChange t b s = .next a := by
  subst ha
  refine if_neg fun ⟨hs, hb⟩ => ?_
  exact h.elim (by simp [hs]) (Nat.not_le.2 hb)

theorem execGateEntryChange_changes {g : Gates} {e : Nat} (hs : a.serving = true) (hb : b < 2)
    (hg : g = (nth a.bridge.gates b {}).promote a.ns)
    (he : e = (if fieldOf g.words 0 0 1 = 1 ∧ gateBase g.words ≤ a.ns then (gateAt g.words a.ns).1 else 0)) :
    execGateEntryChange t b s = .next ({ a with
      bridge := { a.bridge with gates := modAt a.bridge.gates b (fun _ => { g with entry := e }) } }) := by
  subst ha he hg
  exact if_pos ⟨hs, hb⟩

end

/-- Settles O26, along the order in which R323 and R324 ask about a frame. -/
theorem bridgeEvents : Obligations.BridgeEvents := by
  unfold Obligations.BridgeEvents
  intro s a t ha
  refine ⟨fun _ _ => execLinePortFrame_dropped ha, fun _ _ => execLinePortFrame_discarded ha,
    fun _ _ => execLinePortFrame_notMember ha, fun _ _ => execLinePortFrame_ptpStays ha,
    fun _ _ => execLinePortFrame_ptpForwarded ha, fun _ _ => execLinePortFrame_linkLocal ha,
    fun _ _ => execLinePortFrame_classified ha,
    fun _ => execEgressTransmit_ignored ha, fun _ _ _ _ => execEgressTransmit_sends ha,
    fun _ => execGateEntryChange_ignored ha, fun _ _ _ => execGateEntryChange_changes ha, ?ageOut⟩
  case ageOut =>
    subst ha
    rfl

end Sys2Proof.Machine
end

section
/-! SUPPORT. The bridge, time and groups (11_bridge_time_groups): the state in reset, how the clock and the domains advance,
settings commands with a further effect, messages of time, the clock's events, the display group, rounds, the fascia's
frames and the wake pins. -/

namespace Sys2Proof.Machine

/-! ## The state in reset (R516) -/

/-- Settles O43: in reset no buffer, no session and no FIFO holds anything, and no tally has been raised. -/
theorem resetMeetsTheInvariant : Obligations.ResetMeetsTheInvariant := by
  unfold Obligations.ResetMeetsTheInvariant
  refine ⟨?buffers, ?events, ?tallies, ?fifos⟩
  case buffers => unfold State.buffersWf; decide
  case events => unfold State.eventsBounded; decide
  case tallies => unfold State.talliesBounded; decide
  case fifos => unfold State.fifosBounded; decide

/-! ## The rate of the clock (R332, R338) -/

theorem incrOf_mem (x : Int) : 10732049531 ≤ incrOf x ∧ incrOf x ≤ 10742786949 := by
  unfold incrOf sat
  split_ifs <;> omega

/-- R332: a rate strictly within 500 ppm has not been limited. -/
theorem incrOf_eq_of_inside {x : Int} (hlo : 10732049531 < incrOf x) (hhi : incrOf x < 10742786949) :
    (incrOf x : Int) = x := by
  unfold incrOf sat at *
  split_ifs at * <;> omega

/-- R338: the servo holds a clock by this domain. -/
def TimeUnit.servoed (tm : TimeUnit) (d : Domain) : Prop :=
  tm.state = .locked ∧ d.tracking = 2 ∧ 0 < d.syncInt ∧ d.syncInt ≤ 125000000

section
variable {tm : TimeUnit} {d : Domain} {n : Nat}

theorem TimeUnit.steered_of_not_servoed (h : ¬ tm.servoed d) : tm.steered d n = tm.incr := by
  refine if_pos ?_
  by_contra hservo
  simp only [not_or, not_not, Nat.not_lt] at hservo
  obtain ⟨hlocked, htracking, hsync, hshort⟩ := hservo
  exact h ⟨hlocked, htracking, Nat.pos_of_ne_zero hsync, hshort⟩

section
variable (h : tm.servoed d)
include h

/-- R338: the INCR of a clock that the servo holds. -/
theorem TimeUnit.steered_of_servoed : tm.steered d n =
    if ((tm.clk : Int) + n * tm.incr) < d.d - 250 * 2 ^ 32 then incrOf (-(fdiv (tm.clk - (d.d - 250 * 2 ^ 32)) n))
    else if (d.d : Int) + 250 * 2 ^ 32 < tm.clk + n * tm.incr then incrOf (fdiv (d.d + 250 * 2 ^ 32 - tm.clk) n)
    else tm.incr := by
  obtain ⟨hlocked, htracking, hsync, hshort⟩ := h
  exact if_neg (by simp [hlocked, htracking, hsync.ne', hshort])

theorem TimeUnit.steered_of_near (habove : ((tm.clk + n * tm.incr : Nat) : Int) - d.d ≤ 250 * 2 ^ 32)
    (hbelow : (d.d : Int) - (tm.clk + n * tm.incr : Nat) ≤ 250 * 2 ^ 32) : tm.steered d n = tm.incr := by
  push_cast at habove hbelow
  rw [TimeUnit.steered_of_servoed h, if_neg (by omega), if_neg (by omega)]

theorem TimeUnit.steered_eq_or_mem :
    tm.steered d n = tm.incr ∨ (10732049531 ≤ tm.steered d n ∧ tm.steered d n ≤ 10742786949) := by
  rw [TimeUnit.steered_of_servoed h]
  split_ifs
  · exact .inr (incrOf_mem _)
  · exact .inr (incrOf_mem _)
  · exact .inl rfl

/-- R338: a rate that the bound of 500 ppm does not limit brings the clock within 250 ns of its domain: to the near end of
that window, rounded by less than `n` units, and the window is wider than 2^40. -/
theorem TimeUnit.steered_reaches (hn : 0 < n) (hmax : n ≤ 2 ^ 40) (hlo : 10732049531 < tm.steered d n)
    (hhi : tm.steered d n < 10742786949) (hne : tm.steered d n ≠ tm.incr) :
    ((tm.clk + n * tm.steered d n : Nat) : Int) - d.d ≤ 250 * 2 ^ 32 ∧
      (d.d : Int) - (tm.clk + n * tm.steered d n : Nat) ≤ 250 * 2 ^ 32 := by
  have hpos : (0 : Int) < n := by omega
  rw [TimeUnit.steered_of_servoed h] at hlo hhi hne ⊢
  simp only [Nat.cast_add, Nat.cast_mul]
  split_ifs at hlo hhi hne ⊢ with hbehind hahead
  · have hfloor := Int.mul_ediv_self_le (x := (tm.clk : Int) - (d.d - 250 * 2 ^ 32)) hpos.ne'
    have hnext := Int.lt_mul_ediv_self_add (x := (tm.clk : Int) - (d.d - 250 * 2 ^ 32)) hpos
    rw [incrOf_eq_of_inside hlo hhi, fdiv, Int.mul_neg]
    omega
  · have hfloor := Int.mul_ediv_self_le (x := (d.d : Int) + 250 * 2 ^ 32 - tm.clk) hpos.ne'
    have hnext := Int.lt_mul_ediv_self_add (x := (d.d : Int) + 250 * 2 ^ 32 - tm.clk) hpos
    rw [incrOf_eq_of_inside hlo hhi, fdiv]
    omega
  · exact absurd rfl hne

end

end

/-! ## A clock that slews (R339) -/

theorem slewClk_mod (d : Nat) (delta : Int) (s : Nat) : slewClk d delta s % 2 ^ 32 = d % 2 ^ 32 := by
  unfold slewClk
  dsimp only
  omega

theorem slewLeft_eq_zero {delta : Int} {dns s : Nat} (h : (delta.natAbs : Int) ≤ ((dns : Int) - s) / 100000) :
    slewLeft delta dns s = 0 := by
  unfold slewLeft fdiv
  dsimp only
  rw [max_eq_left (by omega)]
  exact ite_self 0

/-- R339: a clock whose difference has run out is at its target. -/
theorem slewClk_eq {d s : Nat} {delta : Int} (h : (delta.natAbs : Int) ≤ (((d / 2 ^ 32 : Nat) : Int) - s) / 100000)
    (hd : d < 2 ^ 96) : slewClk d delta s = d := by
  unfold slewClk wrap
  dsimp only
  rw [slewLeft_eq_zero h]
  omega

/-! ## Time passes (R332, R333, R336) -/

section
variable {s : State} {n : Nat} (hn : 0 < n)
include hn

theorem State.advance_asleep (h : s.alive = false) :
    s.advance (s.time.cyc + n) = { s with time := { s.time with cyc := s.time.cyc + n } } := by
  unfold State.advance
  rw [if_neg (Nat.not_le.2 (Nat.lt_add_of_pos_right hn))]
  exact if_pos (by simp [h])

section
variable (h : s.alive = true) {ds : List Domain} {d : Domain}
  (hds : ds = s.time.domains.map (fun d => { d with d := (d.d + n * d.dIncr) % 2 ^ 96 }))
  (hd : d = nth ds s.time.selected {})
include h hds hd

theorem State.advance_alive : s.advance (s.time.cyc + n) = { s with
    time := { s.time with
      cyc := s.time.cyc + n, domains := ds, incr := s.time.steered d n,
      clk := if s.time.state = .slewing then slewClk d.d s.time.delta s.time.slewS
             else (s.time.clk + n * s.time.steered d n) % s.time.span } } := by
  subst hd hds
  unfold State.advance
  rw [if_neg (Nat.not_le.2 (Nat.lt_add_of_pos_right hn)), if_neg (by simp [h])]
  simp only [Nat.add_sub_cancel_left]

theorem State.advance_free (hslew : s.time.state ≠ .slewing) (hservo : ¬ s.time.servoed d) :
    s.advance (s.time.cyc + n) = { s with
      time := { s.time with
        cyc := s.time.cyc + n, clk := (s.time.clk + n * s.time.incr) % s.time.span, domains := ds } } := by
  rw [State.advance_alive hn h hds hd, if_neg hslew, TimeUnit.steered_of_not_servoed hservo]

theorem State.advance_servoed (hservo : s.time.servoed d) :
    s.advance (s.time.cyc + n) = { s with
      time := { s.time with
        cyc := s.time.cyc + n, clk := (s.time.clk + n * s.time.steered d n) % s.time.span, domains := ds,
        incr := s.time.steered d n } } := by
  rw [State.advance_alive hn h hds hd, if_neg (by simp [hservo.1])]

theorem State.advance_slewing (hslew : s.time.state = .slewing) :
    s.advance (s.time.cyc + n) = { s with
      time := { s.time with
        cyc := s.time.cyc + n, clk := slewClk d.d s.time.delta s.time.slewS, domains := ds } } := by
  have hservo : ¬ s.time.servoed d := fun hs => by simp [hs.1] at hslew
  rw [State.advance_alive hn h hds hd, if_pos hslew, TimeUnit.steered_of_not_servoed hservo]

end

end

/-- Settles O59, from the rate that the servo gives and the instants at which a slewing clock is at its target. -/
theorem theClockAdvancesByItsIncrement : Obligations.TheClockAdvancesByItsIncrement := by
  unfold Obligations.TheClockAdvancesByItsIncrement
  refine fun s n hn => ⟨fun h ds d hds hd => ⟨State.advance_free hn h hds hd,
    fun hlocked htracking hsync hshort => ?servoed, fun hslew => ⟨State.advance_slewing hn h hds hd hslew, slewClk_mod _ _ _,
      slewClk_eq⟩⟩, State.advance_asleep hn⟩
  have hservo : s.time.servoed d := ⟨hlocked, htracking, hsync, hshort⟩
  exact ⟨_, State.advance_servoed hn h hds hd hservo, TimeUnit.steered_of_near hservo,
    TimeUnit.steered_eq_or_mem hservo, TimeUnit.steered_reaches hservo hn⟩

/-! ## Settings commands with a further effect -/

section
variable {s : State} {c : Caller} {pl : List Byte}

/-- R360: the bridge and VLAN settings (SELECT 0 and 1): the multicast groups are reported. -/
theorem cardBridgeSet_run_settings (hsel : num pl 0 1 < 2) : cardBridgeSet.run s c pl =
    done ((s.setObj (bridgeObj (num pl 0 1)).1
      (toWords ((bridgeObj (num pl 0 1)).2 / 4) (pl.drop 4))).reportGroups) := if_pos hsel

/-- R331, R361: a gate list (SELECT 2 and 3) takes the place of one that waits for its start. -/
theorem cardBridgeSet_run_gates (hsel : 2 ≤ num pl 0 1) {ws : List Word}
    (hws : ws = toWords ((bridgeObj (num pl 0 1)).2 / 4) (pl.drop 4)) : cardBridgeSet.run s c pl =
    done { s.setObj (bridgeObj (num pl 0 1)).1 ws with
      bridge := { s.bridge with gates := modAt s.bridge.gates (num pl 0 1 - 2) (fun g =>
        { g.promote s.ns with next := some (gateStart ws (s.ns + 1000000), ws) }) } } := by
  subst hws
  exact if_neg (Nat.not_lt.2 hsel)

end

/-- Settles O2: each of these cards is immediate, and its run is the write and the effect that the statement names. -/
theorem settingsCommandsWithFurtherEffects : Obligations.SettingsCommandsWithFurtherEffects := by
  unfold Obligations.SettingsCommandsWithFurtherEffects
  intro s p n
  refine ⟨fun h => runCommand_done h rfl, fun h => runCommand_done h rfl, fun h => runCommand_done h rfl,
    fun h => runCommand_done h rfl, fun h => runCommand_done h rfl, fun h => ⟨_, runCommand_done h rfl, rfl⟩,
    fun h hsel => ?settings, fun h hsel => ?gates, fun h => runCommand_done h rfl,
    fun h => ⟨_, runCommand_done h rfl, rfl⟩, fun h => ⟨_, runCommand_done h rfl, rfl⟩⟩
  case settings => exact (runCommand_done h rfl).trans (by rw [cardBridgeSet_run_settings hsel]; rfl)
  case gates => exact ⟨_, (runCommand_done h rfl).trans (by rw [cardBridgeSet_run_gates hsel rfl]; rfl), rfl⟩

/-! ## Sync and Announce (R336, R337) -/

section
variable {s a : State} {t : Cyc} (ha : a = s.at t)
include ha

section
variable {b : Nat} {m : SyncMsg}

theorem execSyncReceived_otherDomain (hdom : a.domainOf m.domain = none) : execSyncReceived t b m s = .next a := by
  subst ha
  simp only [execSyncReceived, hdom, nextOf]

section
variable {k c : Nat} (hdom : a.domainOf m.domain = some k)
include hdom

theorem execSyncReceived_ignored (h : a.serving = false ∨ a.bbUp b = false ∨ (a.time.domain k).ann = [] ∨
    (a.time.domain k).port ≠ b) : execSyncReceived t b m s = .next a := by
  subst ha
  simp only [execSyncReceived, hdom]
  exact if_pos (by simpa using h)

/-- R336: a Follow_Up completes only the Sync that awaits it. -/
theorem execSyncReceived_unmatched (hfollow : m.followUp = true)
    (hpending : ∀ c, (a.time.domain k).pendingTwo ≠ some (m.sequenceId, m.sourcePort, c)) :
    execSyncReceived t b m s = .next a := by
  subst ha
  simp only [execSyncReceived, hdom, hfollow, ↓reduceIte]
  cases hp : ((s.at t).time.domain k).pendingTwo with
  | none => exact ite_self _
  | some e =>
    obtain ⟨q, src, cyc⟩ := e
    have hother : ¬ (q = m.sequenceId ∧ src = m.sourcePort) := by
      rintro ⟨rfl, rfl⟩
      exact hpending cyc hp
    simp only [if_neg hother, ite_self, nextOf]

section
variable (hserving : a.serving = true) (hup : a.bbUp b = true) (hann : (a.time.domain k).ann ≠ [])
  (hport : (a.time.domain k).port = b)
include hserving hup hann hport

theorem execSyncReceived_oneStep (hsync : m.followUp = false) (hone : m.twoStep = false) :
    execSyncReceived t b m s = .next (a.syncD k b m.originNs a.time.cyc m.intervalNs m.correction) := by
  subst ha
  simp only [execSyncReceived, hdom, hsync, hone]
  exact if_neg (by simp [hserving, hup, hann, hport])

theorem execSyncReceived_twoStep (hsync : m.followUp = false) (htwo : m.twoStep = true) :
    execSyncReceived t b m s = .next (a.modDomain k (fun x => { x with
      pendingTwo := some (m.sequenceId, m.sourcePort, a.time.cyc) })) := by
  subst ha
  simp only [execSyncReceived, hdom, hsync, htwo]
  exact if_neg (by simp [hserving, hup, hann, hport])

theorem execSyncReceived_followUp (hfollow : m.followUp = true)
    (hpending : (a.time.domain k).pendingTwo = some (m.sequenceId, m.sourcePort, c)) :
    execSyncReceived t b m s = .next (a.syncD k b m.originNs c m.intervalNs m.correction) := by
  subst ha
  simp only [execSyncReceived, hdom, hfollow, hpending, and_self, ↓reduceIte]
  exact if_neg (by simp [hserving, hup, hann, hport])

end

end

end

section
variable {b : Nat} {m : AnnounceMsg}

theorem execAnnounceReceived_ignored
    (h : a.domainOf m.domain = none ∨ a.serving = false ∨ a.bbUp b = false) :
    execAnnounceReceived t b m s = .next a := by
  subst ha
  unfold execAnnounceReceived
  dsimp only
  cases hdom : (s.at t).domainOf m.domain with
  | none => rfl
  | some k =>
    refine if_neg fun ⟨hserving, hup⟩ => ?_
    simp [hdom, hserving, hup] at h

theorem execAnnounceReceived_judged {k : Nat} (hdom : a.domainOf m.domain = some k) (hserving : a.serving = true)
    (hup : a.bbUp b = true) : execAnnounceReceived t b m s = .next (a.announce k b m) := by
  subst ha
  simp only [execAnnounceReceived, hdom]
  exact if_pos ⟨hserving, hup⟩

end

/-! ## Peer delay (R344) -/

section
variable {b q t2 t3 ratio : Nat}

theorem execPdelayReqSend_sends {u : State} (hserving : a.serving = true) (hb : b < 2) (hup : a.bbUp b = true)
    (hdue : nth a.time.pdelayAt b 0 + msCyc 1000 ≤ a.time.cyc)
    (hu : u = { a with
      time := { a.time with
        pdelayAt := modAt a.time.pdelayAt b (fun _ => a.time.cyc),
        pdelaySeq := modAt a.time.pdelaySeq b (fun _ => (nth a.time.pdelaySeq b 0 + 1) % 2 ^ 16),
        pdelay := modAt a.time.pdelay b (fun _ => none) } }) :
    execPdelayReqSend t b s =
      .next (u.sendPort b (u.ptpFrame (u.pdelayHead b 2 (nth a.time.pdelaySeq b 0) 0 ++ zeros 20))) := by
  subst ha hu
  exact if_pos ⟨hserving, hb, hup, hdue⟩

theorem execPdelayReqReceived_answers {r : Nat} {f : Frame} (hserving : a.serving = true) (hb : b < 2)
    (hup : a.bbUp b = true) (hf : f = a.ptpFrame (a.pdelayHead b 3 q 0 ++ zeros 10 ++ be 10 r)) :
    execPdelayReqReceived t b q r s = .next (State.pump { a with
      ingest := { a.ingest with portq := a.ingest.portq ++ [(b, f, some (a.time.clk - a.ingressLat b, 0))] } }) := by
  subst ha hf
  exact if_pos ⟨hserving, hb, hup⟩

theorem execPdelayRespReceived_noneAwaited (hnone : nth a.time.pdelay b none = none) :
    execPdelayRespReceived t b q t2 t3 ratio s = .next a := by
  subst ha
  simp only [execPdelayRespReceived, hnone, nextOf]

section
variable {q1 t1 : Nat} (hreq : nth a.time.pdelay b none = some (q1, t1))
include hreq

theorem execPdelayRespReceived_ignored (h : a.serving = false ∨ q1 ≠ q) :
    execPdelayRespReceived t b q t2 t3 ratio s = .next a := by
  subst ha
  simp only [execPdelayRespReceived, hreq]
  exact if_neg fun ⟨hserving, hq⟩ => h.elim (by simp [hserving]) (· hq)

end

theorem execPdelayRespReceived_measures {t1 : Nat} {v : Int} (hreq : nth a.time.pdelay b none = some (q, t1))
    (hserving : a.serving = true)
    (hv : v = asr (asr ((((a.time.clk : Int) - a.ingressLat b) - t1) * ratio) 31 - ((t3 : Int) - t2)) 1) :
    execPdelayRespReceived t b q t2 t3 ratio s = .next { a with
      time := { a.time with
        pdelay := modAt a.time.pdelay b (fun _ => none),
        linkDelay := modAt a.time.linkDelay b (fun l => (l ++ [v]).drop ((l.length + 1) - 8)) } } := by
  subst ha hv
  simp only [execPdelayRespReceived, hreq]
  exact if_pos ⟨hserving, trivial⟩

end

end

/-- Settles O27, from what each message finds of its domain and its port, and the one condition of each timeout. -/
theorem timeMessages : Obligations.TimeMessages := by
  unfold Obligations.TimeMessages
  intro s a t ha
  refine ⟨fun _ _ => execSyncReceived_otherDomain ha, fun _ _ _ => execSyncReceived_ignored ha,
    fun _ _ _ => execSyncReceived_oneStep ha, fun _ _ _ => execSyncReceived_twoStep ha,
    fun _ _ _ _ => execSyncReceived_followUp ha, fun _ _ _ => execSyncReceived_unmatched ha,
    fun _ _ => execAnnounceReceived_ignored ha, fun _ _ _ => execAnnounceReceived_judged ha,
    fun _ h => ?noRequest, fun _ _ => execPdelayReqSend_sends ha,
    fun _ _ _ h => ?noAnswer, fun _ _ _ _ => execPdelayReqReceived_answers ha,
    fun _ _ _ _ _ => execPdelayRespReceived_noneAwaited ha, fun _ _ _ _ _ _ _ => execPdelayRespReceived_ignored ha,
    fun _ _ _ _ _ _ _ => execPdelayRespReceived_measures ha, ?followUps, fun _ h => ?syncLost, fun _ h => ?syncKept,
    fun _ h => ?announceLost, fun _ h => ?announceKept⟩
  all_goals subst ha
  case syncLost | announceLost => exact if_pos h
  case noRequest | noAnswer | syncKept | announceKept => exact if_neg h
  case followUps => rfl

/-! ## What the operations of the clock leave (R335, R341, R510) -/

/-- R510: a wake record changes the wake and its tallies only. -/
theorem State.wakeRec_eq (s : State) (type : Nat) (pl : List Byte) :
    ∃ w o, s.wakeRec type pl = { s with wake := w, obs := o } := by
  unfold State.wakeRec
  dsimp only
  split
  · exact ⟨_, _, rfl⟩
  · split <;> exact ⟨_, _, rfl⟩

section
variable (s : State) (ev st : Nat) (value : Int)

theorem State.timeRec_eq : ∃ w o, s.timeRec ev st value = { s with wake := w, obs := o } := State.wakeRec_eq _ _ _

@[simp] theorem State.timeRec_time : (s.timeRec ev st value).time = s.time :=
  (s.timeRec_eq ev st value).elim fun _ ⟨_, h⟩ => by rw [h]

@[simp] theorem State.timeRec_cfg : (s.timeRec ev st value).cfg = s.cfg :=
  (s.timeRec_eq ev st value).elim fun _ ⟨_, h⟩ => by rw [h]

@[simp] theorem State.timeRec_scan : (s.timeRec ev st value).scan = s.scan :=
  (s.timeRec_eq ev st value).elim fun _ ⟨_, h⟩ => by rw [h]

@[simp] theorem State.timeRec_bridge : (s.timeRec ev st value).bridge = s.bridge :=
  (s.timeRec_eq ev st value).elim fun _ ⟨_, h⟩ => by rw [h]

end

theorem State.setClock_time (s : State) (st : ClockState) : (s.setClock st).time = { s.time with state := st } := by
  unfold State.setClock
  split
  next h => rw [← h]
  next => exact State.timeRec_time _ _ _ _

/-- R341: black rasters change only what the sectors send. -/
theorem State.blackRaster_eq (s : State) : ∃ x, s.blackRaster = { s with scan := { s.scan with sectors := x } } :=
  List.foldlRecOn (motive := fun u => ∃ x, u = { s with scan := { s.scan with sectors := x } }) _ _ ⟨_, rfl⟩
    fun _ ⟨_, hu⟩ _ _ => ⟨_, by rw [hu]; rfl⟩

/-! ## Time faults (R341) -/

section
variable (s : State) (k : Nat) (delta : Int)

/-- R341: the clock takes D in carry format, and locks at the carry that is now pending; triggers are low. -/
theorem State.timeFault_time : (s.timeFault k delta).time = { s.time with
    clk := (s.time.domain k).d, incr := (s.time.domain k).dIncr, carryFmt := true, dark := true, fault := true,
    state := .recovery, toNormal := true, lockAtCarry := true, pendSec := (s.time.domain k).ns / 1000000000,
    trigs := s.time.trigs.map (fun g => { g with level := false, lastEdge := some ((s.time.domain k).ns : Int) }) } := by
  obtain ⟨x, hblack⟩ := s.zonesOff.blackRaster_eq
  unfold State.timeFault
  simp only [State.timeRec_time, State.tally_time, hblack]
  rfl

/-- R341: zones go off and none is scheduled; settings and gates stay. -/
theorem State.timeFault_elsewhere : (s.timeFault k delta).scan.zones = List.replicate 16 false ∧
    (s.timeFault k delta).scan.sched = [] ∧ (s.timeFault k delta).cfg = s.cfg ∧
    (s.timeFault k delta).bridge = s.bridge := by
  obtain ⟨x, hblack⟩ := s.zonesOff.blackRaster_eq
  unfold State.timeFault
  simp only [State.timeRec_scan, State.tally_scan, State.timeRec_cfg, State.tally_cfg, State.timeRec_bridge,
    State.tally_bridge, hblack]
  exact ⟨rfl, rfl, rfl, rfl⟩

end

/-! ## The switch to a domain (R339) -/

/-- R339: S has come for a domain: the difference is measured, counted and recorded. -/
def State.switching (s : State) (k z : Nat) : State :=
  let delta : Int := (s.ns : Int) - (s.time.domain k).ns
  (State.tally { s with time := { s.time with
    switchTo := none, selected := k, switched := true, delta := delta, slewS := z } } T.TIME_SWITCH).timeRec 1 k delta

/-- R339, R342: a clock that follows a domain acquires none; in carry format it awaits the carry. -/
def State.following (s : State) : State :=
  let s := if s.time.carryFmt then s.awaitCarry false else s
  { s with time := { s.time with acquireOn := false, lockAtCarry := false } }

section
variable (s : State) (k z : Nat)

theorem State.switching_time : (s.switching k z).time = { s.time with
    switchTo := none, selected := k, switched := true, delta := (s.ns : Int) - (s.time.domain k).ns, slewS := z } := by
  unfold State.switching
  simp only [State.timeRec_time, State.tally_time]

theorem State.switching_cfg : (s.switching k z).cfg = s.cfg := by
  unfold State.switching
  simp only [State.timeRec_cfg, State.tally_cfg]

theorem State.switching_bridge : (s.switching k z).bridge = s.bridge := by
  unfold State.switching
  simp only [State.timeRec_bridge, State.tally_bridge]

/-- R339: what a clock that follows a domain keeps of the switch. -/
theorem State.following_switch : s.following.time.selected = s.time.selected ∧
    s.following.time.switched = s.time.switched ∧ s.following.time.switchTo = s.time.switchTo ∧
    s.following.time.delta = s.time.delta ∧ s.following.time.slewS = s.time.slewS := by
  unfold State.following
  dsimp only
  split <;> exact ⟨rfl, rfl, rfl, rfl, rfl⟩

end

section
variable {s : State} {k z : Nat} {d : Domain} {x : Int} (hd : d = s.time.domain k) (hx : x = (s.ns : Int) - d.ns)
include hd hx

theorem State.switchNow_faults (hfar : 1000000000 < x.natAbs) : s.switchNow k z = (s.switching k z).timeFault k x := by
  subst hd hx
  exact if_pos hfar

theorem State.switchNow_locks (hzero : x = 0) : s.switchNow k z = State.setClock { (s.switching k z).following with
    time := { (s.switching k z).following.time with clk := d.d, incr := d.dIncr } } .locked := by
  subst hd hx
  refine (if_neg (by simp [hzero])).trans ?_
  exact if_pos hzero

theorem State.switchNow_slews (hnear : x.natAbs ≤ 1000000000) (hne : x ≠ 0) :
    s.switchNow k z = State.setClock { (s.switching k z).following with
      time := { (s.switching k z).following.time with clk := slewClk d.d x z, incr := slewIncr d.dIncr x } } .slewing := by
  subst hd hx
  refine (if_neg (Nat.not_lt.2 hnear)).trans ?_
  exact if_neg hne

end

/-- R339: what a clock that locks or slews at S keeps of the switch: the domain that it follows, and the difference. -/
theorem State.setClock_following {s : State} {k z clk incr : Nat} {st : ClockState} {u : State}
    (hu : u = State.setClock { (s.switching k z).following with
      time := { (s.switching k z).following.time with clk := clk, incr := incr } } st) :
    u.time.state = st ∧ u.time.clk = clk ∧ u.time.incr = incr ∧ u.time.selected = k ∧ u.time.switched = true ∧
      u.time.switchTo = none ∧ u.time.delta = (s.ns : Int) - (s.time.domain k).ns ∧ u.time.slewS = z := by
  obtain ⟨hsel, hsw, hto, hdelta, hs⟩ := (s.switching k z).following_switch
  rw [State.switching_time] at hsel hsw hto hdelta hs
  rw [hu, State.setClock_time]
  exact ⟨rfl, rfl, rfl, hsel, hsw, hto, hdelta, hs⟩

/-! ## The clock's events (R333, R339, R342) -/

section
variable {s a : State} {t : Cyc} (ha : a = s.at t)
include ha

theorem execSwitchInstant_none (hto : a.time.switchTo = none) : execSwitchInstant t s = .next a := by
  subst ha
  simp only [execSwitchInstant, hto, nextOf]

section
variable {k z : Nat} {u : State} (hto : a.time.switchTo = some (k, z))
include hto

theorem execSwitchInstant_waits (h : ¬ (a.serving = true ∧
    (a.time.state = .holdover ∨ a.time.state = .free ∨ a.time.state = .test) ∧ z ≤ (a.time.domain k).ns)) :
    execSwitchInstant t s = .next a := by
  subst ha
  simp only [execSwitchInstant, hto]
  refine if_neg fun ⟨hserving, hready, hdue⟩ => h ⟨hserving, ?_, hdue⟩
  cases hstate : (s.at t).time.state <;> simp_all

section
variable (hserving : a.serving = true)
  (hready : a.time.state = .holdover ∨ a.time.state = .free ∨ a.time.state = .test)
  (hdue : z ≤ (a.time.domain k).ns)
include hserving hready hdue

/-- R339, R358: at S a clock that follows no domain switches to one that tracks, and else gives the switch up. -/
theorem execSwitchInstant_due (hu : u = { a with time := { a.time with switchTo := none } }) :
    execSwitchInstant t s = .next (if a.tracks k = true then a.switchNow k z
      else if u.hasLead = true then u.tally T.TIME_SWITCH_HELD else u.elect) := by
  subst ha hu
  simp only [execSwitchInstant, hto]
  rw [if_pos ⟨hserving, by rcases hready with h | h | h <;> simp [h], hdue⟩]
  exact (apply_ite nextOf _ _ _).symm

theorem execSwitchInstant_switches (htracks : a.tracks k = true) : execSwitchInstant t s = .next (a.switchNow k z) := by
  rw [execSwitchInstant_due ha hto hserving hready hdue rfl, if_pos htracks]

theorem execSwitchInstant_givesUp (htracks : a.tracks k = false)
    (hu : u = { a with time := { a.time with switchTo := none } }) :
    execSwitchInstant t s = .next (if u.hasLead then u.tally T.TIME_SWITCH_HELD else u.elect) := by
  rw [execSwitchInstant_due ha hto hserving hready hdue hu, if_neg (by simp [htracks])]

end

end

end

/-! ## Triggers and captures (R346, R348) -/

section
variable {s a : State} {t : Cyc} (ha : a = s.at t) {k : Nat}
include ha

section
variable {g : Trig} {u : State} {e : Int} (hg : g = (nth a.time.trigs k {}).promote a.ns)
  (hu : u = { a with time := { a.time with trigs := modAt a.time.trigs k (fun _ => g) } })
include hg hu

theorem execTrigRise_noEdge (hedge : u.trigEdge g.words = none) : execTrigRise t k s = .next u := by
  subst ha hg hu
  simp only [execTrigRise, hedge, nextOf]

section
variable (hedge : u.trigEdge g.words = some e)
include hedge

theorem execTrigRise_rises (hon : u.trigsOn = true) (hlater : ∀ x, g.lastEdge = some x → x < e) (hpos : 0 ≤ e)
    (hcome : e ≤ u.ns) : execTrigRise t k s = .next { u with
      time := { u.time with
        trigs := modAt u.time.trigs k (fun _ => { g with
          level := true, lastEdge := some e, fallAt := e.toNat + fieldOf g.words 2 0 32 }) } } := by
  subst ha hg hu
  simp only [execTrigRise, hedge]
  refine if_pos ⟨hon, ?_, hpos, hcome⟩
  split
  next x hlast => exact decide_eq_true (hlater x hlast)
  next => rfl

theorem execTrigRise_waits
    (h : ¬ (u.trigsOn = true ∧ (∀ x, g.lastEdge = some x → x < e) ∧ 0 ≤ e ∧ e ≤ u.ns)) :
    execTrigRise t k s = .next u := by
  subst ha hg hu
  simp only [execTrigRise, hedge]
  refine if_neg fun ⟨hon, hlater, hpos, hcome⟩ => h ⟨hon, fun x hlast => ?_, hpos, hcome⟩
  rw [hlast] at hlater
  exact of_decide_eq_true hlater

end

end

theorem execEvtCapture_captures {f : Bool} {u : State} (hserving : a.serving = true) (hk : k < 4)
    (hen : bit (a.get F.EVT_EN) k = true) (hedge : bit (a.get F.EVT_FALLING) k = f)
    (hu : u = (if fifoRoom (nth a.time.evt k []) then
      { a with time := { a.time with evt := modAt a.time.evt k (fun l => l ++ [a.capture f]) } }
      else State.captureLost { a with time := { a.time with evtLost := modAt a.time.evtLost k (· + 1) } })) :
    execEvtCapture t k f s = .next (if u.get F.CAPTURE_EVENTS = 1 then u.sendCaptures k else u) := by
  subst ha hu
  exact if_pos ⟨hserving, hk, hen, hedge⟩

end

/-- Settles O28: a switch is decided by its condition and then by the difference; a trigger by its edge; each other event
has one condition. -/
theorem clockAndTriggerEvents : Obligations.ClockAndTriggerEvents := by
  unfold Obligations.ClockAndTriggerEvents
  intro s a t ha
  refine ⟨execSwitchInstant_none ha, fun _ _ => execSwitchInstant_waits ha, fun _ _ => execSwitchInstant_switches ha,
    fun _ _ _ => execSwitchInstant_givesUp ha,
    fun k z d x hto hserving hready hdue htracks hd hx hfar =>
      ⟨_, execSwitchInstant_switches ha hto hserving hready hdue htracks, ?faults⟩,
    fun k z d x hto hserving hready hdue htracks hd hx hnear hne =>
      ⟨_, execSwitchInstant_switches ha hto hserving hready hdue htracks, ?slews⟩,
    fun k z d x hto hserving hready hdue htracks hd hx hzero =>
      ⟨_, execSwitchInstant_switches ha hto hserving hready hdue htracks, ?locks⟩,
    fun h => ?stillSlewing, fun d hslew hleft hd => ?slewEnds, fun h => ?carries, fun h => ?noCarry,
    fun h => ?timesOut, fun h => ?acquires,
    fun _ _ _ => execTrigRise_noEdge ha, fun _ _ _ _ => execTrigRise_rises ha, fun _ _ _ _ => execTrigRise_waits ha,
    fun _ h => ?falls, fun _ h => ?stays, fun _ _ h => ?noCapture, fun _ _ _ => execEvtCapture_captures ha⟩
  case faults =>
    have hdomain : (a.switching k z).time.domain k = d := by rw [State.switching_time, hd]; rfl
    obtain ⟨hzones, hsched, hcfg, hbridge⟩ := (a.switching k z).timeFault_elsewhere k x
    rw [State.switchNow_faults hd hx hfar, State.timeFault_time, hzones, hsched, hcfg, hbridge, State.switching_cfg,
      State.switching_bridge, hdomain, State.switching_time]
    refine ⟨rfl, rfl, rfl, rfl, rfl, rfl, rfl, rfl, rfl, rfl, rfl, fun g hg => ?_, rfl, rfl⟩
    obtain ⟨g', -, rfl⟩ := List.mem_map.1 hg
    rfl
  case slews =>
    obtain ⟨hstate, hclk, -, hsel, hsw, hto', hdelta, hs⟩ := State.setClock_following (State.switchNow_slews hd hx hnear hne)
    exact ⟨hstate, hclk, by rw [hdelta, hx, hd], hs, hsel, hsw, hto'⟩
  case locks =>
    obtain ⟨hstate, hclk, hincr, hsel, hsw, hto', -, -⟩ := State.setClock_following (State.switchNow_locks hd hx hzero)
    exact ⟨hstate, hclk, hincr, hsel, hsw, hto'⟩
  all_goals subst ha
  case stillSlewing | noCarry | acquires | stays | noCapture => exact if_neg h
  case carries | timesOut | falls => exact if_pos h
  case slewEnds =>
    subst hd
    exact if_pos ⟨hslew, hleft⟩

/-! ## The display group (R352, R353, R356) -/

section
variable {s a : State} {t : Cyc} (ha : a = s.at t)
include ha

theorem execGroupJoined_joins (h : a.serving = true ∧ a.get F.GROUP_EN = 1 ∧ a.group.joined = false ∧
    (a.group.leadRank.isSome = true ∨ 8 ≤ a.group.listened)) :
    execGroupJoined t s = .next { a with group := { a.group with joined := true } } := by
  subst ha
  exact if_pos (by simpa using h)

theorem execGroupJoined_ignored (h : ¬ (a.serving = true ∧ a.get F.GROUP_EN = 1 ∧ a.group.joined = false ∧
    (a.group.leadRank.isSome = true ∨ 8 ≤ a.group.listened))) : execGroupJoined t s = .next a := by
  subst ha
  exact if_neg (by simpa using h)

end

/-- Settles O29: each of the three events has one condition. -/
theorem groupEvents : Obligations.GroupEvents := by
  unfold Obligations.GroupEvents
  intro s a t ha
  refine ⟨fun _ h => ?dead, fun _ h => ?deadIgnored, execGroupJoined_joins ha, execGroupJoined_ignored ha,
    fun h => ?commit, fun h => ?commitIgnored⟩
  all_goals subst ha
  case dead | commit => exact if_pos h
  case deadIgnored | commitIgnored => exact if_neg h

/-! ## Rounds (R347, R475) -/

section
variable {s a : State} {t : Cyc} (ha : a = s.at t)
include ha

theorem execHousekeepingRoundStart_begins (h : a.rounds = true ∧ a.power.converting = false ∧
    (a.start.roundDone = false ∨ a.ns / 10000000 * 10000000 ≠ a.power.roundNs)) :
    execHousekeepingRoundStart t s = .next { a with
      power := { a.power with converting := true, roundNs := a.ns / 10000000 * 10000000 } } := by
  subst ha
  exact if_pos (by simpa using h)

theorem execHousekeepingRoundStart_ignored (h : ¬ (a.rounds = true ∧ a.power.converting = false ∧
    (a.start.roundDone = false ∨ a.ns / 10000000 * 10000000 ≠ a.power.roundNs))) :
    execHousekeepingRoundStart t s = .next a := by
  subst ha
  exact if_neg (by simpa using h)

theorem execHousekeepingRoundEnd_ignored {r : Readings} (h : a.power.converting = false ∨ a.rounds = false) :
    execHousekeepingRoundEnd t r s = .next a := by
  subst ha
  exact if_pos (by simpa using h)

theorem execHousekeepingRoundEnd_ends {r : Readings} {u : State} (hconv : a.power.converting = true)
    (hrounds : a.rounds = true) (hu : u = a.roundEnd r) :
    execHousekeepingRoundEnd t r s = .next (if u.serving then u.fasciaRange.sealRetry.logLines else u) := by
  subst ha hu
  exact (if_neg (by simp [hconv, hrounds])).trans (apply_ite nextOf _ _ _).symm

/-! ## The fascia's frames (R495, R496, R498) -/

theorem execFasciaUpdateStart_starts (h : a.serving = true ∧ a.nvm.interpreting = true ∧ a.fascia.update = none ∧
    a.fasciaDue = true ∧ a.fasciaMay = true) : execFasciaUpdateStart t s = .next a.fasciaStart := by
  subst ha
  exact if_pos (by simpa using h)

theorem execFasciaUpdateStart_ignored (h : ¬ (a.serving = true ∧ a.nvm.interpreting = true ∧ a.fascia.update = none ∧
    a.fasciaDue = true ∧ a.fasciaMay = true)) : execFasciaUpdateStart t s = .next a := by
  subst ha
  exact if_neg (by simpa using h)

theorem execFasciaFrame_noUpdate (hnone : a.fascia.update = none) : execFasciaFrame t s = .next a := by
  subst ha
  simp only [execFasciaFrame, hnone, nextOf]

section
variable {u : FasciaUpdate} (hu : a.fascia.update = some u)
include hu

theorem execFasciaFrame_waits (h : u.stage ≠ .frames ∨ a.serving = false ∨ a.wholeMs = u.boundary) :
    execFasciaFrame t s = .next a := by
  subst ha
  simp only [execFasciaFrame, hu]
  exact if_pos (by simpa using h)

section
variable {v : FasciaUpdate} (hstage : u.stage = .frames) (hserving : a.serving = true) (hms : a.wholeMs ≠ u.boundary)
  (hv : v = u.step a.wholeMs a.time.cyc)
include hstage hserving hms hv

theorem execFasciaFrame_ends (hphase : v.phase = 5) : execFasciaFrame t s = .next (State.fasciaClosing { a with
    fascia := { a.fascia with foe := false, bits := [], update := some { v with stage := .closing } } }) := by
  subst ha hv
  simp only [execFasciaFrame, hu]
  rw [if_neg (by simp [hstage, hserving, hms])]
  exact if_pos hphase

theorem execFasciaFrame_shifts (hphase : v.phase ≠ 5) : execFasciaFrame t s = .next { a with
    fascia := { a.fascia with foe := true, bits := v.bits, update := some v } } := by
  subst ha hv
  simp only [execFasciaFrame, hu]
  rw [if_neg (by simp [hstage, hserving, hms])]
  exact if_neg hphase

end

end

end

/-! ## The wake pins (R513) -/

/-- R513: the phases in which wake records leave. -/
def State.wakesOut (s : State) : Prop :=
  s.start.phase = .pilotBoot ∨ s.start.phase = .running ∨ s.start.phase = .restarting ∨ s.start.phase = .shuttingDown

/-- R513: the next record of the wake over the pins, once they are free, in export mode 1. -/
def State.exportNext (s : State) : State :=
  match s.wake.ring.drop s.wake.exported with
  | r :: _ =>
    if s.wake.exportMode = 1 ∧ s.wakePinsFree = true then
      State.tally { s with wake := { s.wake with
        exported := s.wake.exported + 1, pins := recBytes r, pinsAt := s.time.cyc } } T.WAKE_EXPORTED
    else s
  | [] => s

theorem State.exportNext_waits {s : State}
    (h : s.wake.ring.drop s.wake.exported = [] ∨ s.wake.exportMode ≠ 1 ∨ s.wakePinsFree = false) : s.exportNext = s := by
  unfold State.exportNext
  split
  next hrec =>
    refine if_neg fun ⟨hmode, hfree⟩ => ?_
    simp [hrec, hmode, hfree] at h
  next => rfl

theorem State.exportNext_sends {s : State} {r : WakeRec} {rest : List WakeRec}
    (hrec : s.wake.ring.drop s.wake.exported = r :: rest) (hmode : s.wake.exportMode = 1)
    (hfree : s.wakePinsFree = true) : s.exportNext = State.tally { s with wake := { s.wake with
      exported := s.wake.exported + 1, pins := recBytes r, pinsAt := s.time.cyc } } T.WAKE_EXPORTED := by
  simp only [State.exportNext, hrec]
  exact if_pos ⟨hmode, hfree⟩

section
variable {s a : State} {t : Cyc} (ha : a = s.at t)
include ha

theorem execWakePinExport_off (h : ¬ a.wakesOut) : execWakePinExport t s = .next a := by
  subst ha
  unfold State.wakesOut at h
  unfold execWakePinExport
  dsimp only
  cases hphase : (s.at t).start.phase <;> simp_all [nextOf]

/-- R513: of a device whose records leave, the next one goes out over the pins. -/
theorem execWakePinExport_on (hon : a.wakesOut) : execWakePinExport t s = .next a.wakeBoundary.exportNext := by
  subst ha
  unfold execWakePinExport State.exportNext
  rcases hon with hphase | hphase | hphase | hphase
  all_goals
    simp only [hphase, not_true_eq_false, ↓reduceIte]
    cases (s.at t).wakeBoundary.wake.ring.drop (s.at t).wakeBoundary.wake.exported with
    | nil => rfl
    | cons => exact (apply_ite nextOf _ _ _).symm

end

/-- Settles O34, from the condition of each event and what a frame and a wake record do where one is due. -/
theorem roundsFasciaAndWakePins : Obligations.RoundsFasciaAndWakePins := by
  unfold Obligations.RoundsFasciaAndWakePins
  intro s a t ha
  refine ⟨execHousekeepingRoundStart_begins ha, execHousekeepingRoundStart_ignored ha,
    fun _ => execHousekeepingRoundEnd_ignored ha, fun _ _ => execHousekeepingRoundEnd_ends ha,
    execFasciaUpdateStart_starts ha, execFasciaUpdateStart_ignored ha,
    execFasciaFrame_noUpdate ha, fun _ => execFasciaFrame_waits ha, fun _ _ hu => execFasciaFrame_ends ha hu,
    fun _ _ hu => execFasciaFrame_shifts ha hu, fun hboot hrun hrestart hdown => ?off, fun u hon hu h => ?waits,
    fun u r rest hon hu hrec hmode hfree => ?sends⟩
  case off => exact execWakePinExport_off ha (by simp [State.wakesOut, hboot, hrun, hrestart, hdown])
  case waits =>
    subst hu
    exact (execWakePinExport_on ha hon).trans (congrArg _ (State.exportNext_waits h))
  case sends =>
    subst hu
    exact (execWakePinExport_on ha hon).trans (congrArg _ (State.exportNext_sends hrec hmode hfree))

end Sys2Proof.Machine
end

section
/-! SUPPORT. The memory (12_memory): the address map, refreshes, the Breakwater, line reads, low power, frequency changes,
sweeps, and the scrub and recalibration units. -/

namespace Sys2Proof.Machine

/-! ## The address map (R366 to R369) -/

theorem popcount_add (m n v : Nat) : popcount (m + n) v = popcount m v + popcount n (v / 2 ^ m) := by
  induction m generalizing v with
  | zero => simp [popcount]
  | succ m ih =>
    rw [Nat.add_right_comm]
    simp only [popcount]
    rw [ih, Nat.div_div_eq_div_mul, ← Nat.pow_succ', Nat.add_assoc]

theorem popcount_mod_two_pow (n v : Nat) : popcount n (v % 2 ^ n) = popcount n v := by
  induction n generalizing v with
  | zero => rfl
  | succ n ih =>
    simp only [popcount]
    rw [Nat.pow_succ', Nat.mod_mul_right_mod, Nat.mod_mul_right_div_self, ih]

/-- R369: under a mask that sets only its own bit `k` of P[3:0], the lower page bits give that bit to the parity. -/
theorem popcount_and_of_ownBit {p m k : Nat} (hk : k < 4) (hm : m % 16 = 2 ^ k) :
    popcount 24 (p &&& m) = (p.testBit k).toNat + popcount 20 (p / 16 &&& m / 16) := by
  have hlow : (p &&& m) % 2 ^ 4 = (p.testBit k).toNat * 2 ^ k := by
    rw [Nat.and_mod_two_pow, show m % 2 ^ 4 = 2 ^ k from hm, Nat.and_two_pow, Nat.testBit_mod_two_pow]
    simp [hk]
  have hone : ∀ (b : Bool) (k : Nat), k < 4 → popcount 4 (b.toNat * 2 ^ k) = b.toNat := by decide
  rw [popcount_add 4 20, Nat.and_div_two_pow, ← popcount_mod_two_pow 4, hlow, hone _ _ hk]

/-- R366: below the page bits of a density, row and rank hold every page bit from P[4] on. -/
theorem div_sixteen_eq_of_rowOf_eq {d p q : Nat} (hd : d ≤ 3) (hp : p < 2 ^ pageBits d) (hq : q < 2 ^ pageBits d)
    (h : rowOf d p = rowOf d q) : p / 16 = q / 16 := by
  simp only [rowOf, bits, Nat.shiftRight_eq_div_pow, Prod.mk.injEq] at h
  unfold pageBits at hp hq
  obtain ⟨hrow, hrank⟩ := h
  interval_cases d
  all_goals
    simp at hp hq hrow hrank
    omega

/-- R369: each parity is one bit of the bank. -/
theorem State.parity_eq_of_bankOf_eq {s : State} {p q : Nat} (hp : p < 2 ^ pageBits s.density)
    (hq : q < 2 ^ pageBits s.density) (h : s.bankOf p = s.bankOf q) :
    ∀ k < 4, parity 24 (p &&& s.bankMask k) = parity 24 (q &&& s.bankMask k) := by
  simp only [State.bankOf, Nat.mod_eq_of_lt hp, Nat.mod_eq_of_lt hq] at h
  have hlt (v : Nat) : parity 24 v < 2 := Nat.mod_lt _ (by decide)
  intro k hk
  interval_cases k
  all_goals grind

/-- R369: the row and the rank tell the page down to P[4], and each bank bit then its own bit of P[3:0]. -/
theorem State.page_eq_of_bankOf_eq {s : State} {p q : Nat} (hdensity : s.density ≤ 3)
    (hmask : ∀ k < 4, s.bankMask k % 16 = 2 ^ k) (hp : p < 2 ^ pageBits s.density) (hq : q < 2 ^ pageBits s.density)
    (hbank : s.bankOf p = s.bankOf q) (hrow : rowOf s.density p = rowOf s.density q) : p = q := by
  have hhigh := div_sixteen_eq_of_rowOf_eq hdensity hp hq hrow
  refine Nat.eq_of_testBit_eq fun i => ?_
  by_cases hi : i < 4
  case pos =>
    have hpar := State.parity_eq_of_bankOf_eq hp hq hbank i hi
    unfold parity at hpar
    rw [popcount_and_of_ownBit hi (hmask i hi), popcount_and_of_ownBit hi (hmask i hi), hhigh] at hpar
    have hplt := Bool.toNat_lt (p.testBit i)
    have hqlt := Bool.toNat_lt (q.testBit i)
    rw [Bool.eq_iff_iff, ← Bool.toNat_eq_one, ← Bool.toNat_eq_one]
    omega
  case neg =>
    obtain ⟨j, rfl⟩ := Nat.exists_eq_add_of_le' (Nat.le_of_not_lt hi)
    rw [← Nat.testBit_div_two_pow, ← Nat.testBit_div_two_pow]
    exact congrArg (Nat.testBit · j) hhigh

/-- Settles O54: bank, row and rank tell the page, and page and column line the data line. -/
theorem theAddressMapIsOneToOne : Obligations.TheAddressMapIsOneToOne := by
  unfold Obligations.TheAddressMapIsOneToOne
  intro s x y hdensity hmask hx hy hcol hbank hrow
  have hpage := State.page_eq_of_bankOf_eq hdensity hmask hx hy hbank hrow
  simp only [pageOf] at hpage hcol
  omega

/-! ## Refreshes and MR4 reads (R376, R377, R388) -/

section
variable {s a : State} {t : Cyc} (ha : a = s.at t) {c : Nat}
include ha

theorem execRefreshDue_ignored (h : (a.chan c).serves = false ∨ (a.chan c).state = 3) :
    execRefreshDue t c s = .next a := by
  subst ha
  exact if_pos (by simpa using h)

section
variable (hserves : (a.chan c).serves = true) (hstate : (a.chan c).state ≠ 3)
include hserves hstate

theorem execRefreshDue_owes (howed : (a.chan c).owed < 5) :
    execRefreshDue t c s = .next (a.modChan c (fun x => { x with owed := x.owed + 1 })) := by
  subst ha
  exact (if_neg (by simp [hserves, hstate])).trans (if_neg (by omega))

theorem execRefreshDue_forced (howed : 5 ≤ (a.chan c).owed) : execRefreshDue t c s = .next ((a.modChan c
    (fun x => ({ x with owed := x.owed + 1 } : Channel).refpb a.refreshBanks)).tally T.MEM_REFRESH_FORCED) := by
  subst ha
  exact (if_neg (by simp [hserves, hstate])).trans (if_pos (by omega))

end

theorem execRefpbIssue_refreshes (h : (a.chan c).free = true ∧ (a.chan c).state ≠ 3 ∧ -8 < (a.chan c).owed) :
    execRefpbIssue t c s = .next (a.modChan c (fun x => x.refpb a.refreshBanks)) := by
  subst ha
  exact congrArg nextOf (if_pos h)

theorem execRefpbIssue_ignored (h : ¬ ((a.chan c).free = true ∧ (a.chan c).state ≠ 3 ∧ -8 < (a.chan c).owed)) :
    execRefpbIssue t c s = .next a := by
  subst ha
  exact congrArg nextOf (if_neg h)

theorem execMr4Read_ignored {r : Option Nat} (h : (a.chan c).serves = false) : execMr4Read t c r s = .next a := by
  subst ha
  exact if_pos (by simp [h])

theorem execMr4Read_answered {r : Nat} (h : (a.chan c).serves = true) :
    execMr4Read t c (some r) s = .next (a.modChan c (fun x => { x with mr4 := r % 8, mr4Miss := 0 })) := by
  subst ha
  exact if_neg (by simp [h])

theorem execMr4Read_missed {u : State} (h : (a.chan c).serves = true)
    (hu : u = a.modChan c (fun x => { x with mr4Miss := x.mr4Miss + 1 })) :
    execMr4Read t c none s = .next (if 2 ≤ (u.chan c).mr4Miss then u.failChannel c 1 else u) := by
  subst ha hu
  exact if_neg (by simp [h])

end

/-! ## The Breakwater (R381, R382) -/

theorem State.bwClear_sameWindow {s : State} (h : s.ns / 16000 = s.dram.bwWindow) : s.bwClear = s := if_pos h

theorem State.bwClear_newWindow {s : State} {w : Nat} (hw : w = s.ns / 16000) (h : w ≠ s.dram.bwWindow) :
    s.bwClear = { s with
      dram := { s.dram with
        bwWindow := w
        channels := s.dram.channels.map (fun x => { x with
          banks := List.replicate 32 [], acts := []
          caps := x.caps.filterMap (fun k => if k.windows < w - s.dram.bwWindow then none
            else some { k with windows := k.windows - (w - s.dram.bwWindow) }) }) } } := by
  subst hw
  exact if_neg h

theorem execBreakwaterWindowClear_eq {s a : State} {t : Cyc} (ha : a = s.at t) :
    execBreakwaterWindowClear t s = .next a.bwClear := by
  subst ha
  rfl

section
variable {s a w : State} {t : Cyc} (ha : a = s.at t) (hw : w = a.bwClear) {c b row r : Nat}
include ha hw

theorem execRowActivation_waits (h : (w.chan c).free = false ∨ 32 ≤ b ∨ w.capped c b r = true) :
    execRowActivation t c b row r s = .next w := by
  subst ha hw
  exact if_pos (by simpa using h)

theorem execRowActivation_counts {q u v : State} {n : List BwEntry × Nat} (hfree : (w.chan c).free = true) (hb : b < 32)
    (hcap : w.capped c b r = false) (hq : q = w.request c) (hn : n = bwCount (nth (q.chan c).banks b []) (row / 64) r)
    (hu : u = q.modChan c (fun x => ({ x with banks := modAt x.banks b (fun _ => n.1) } : Channel).countAct b r))
    (hv : v = (if (u.chan c).rfmNeed && Config.rfmDue u.time.freeCount c then
      (u.took.modChan c (fun x => { x with rfm := x.rfm + 1 })).tally T.MEM_RFM else u.took)) :
    execRowActivation t c b row r s =
      .next (if n.2 = v.memv F.BW_TRIGGER then v.breakwater c b (row / 64) r else v) := by
  subst ha hw hq hn hu hv
  exact if_neg (by simp [hfree, hcap, hb])

end

/-! ## Line reads (R385, R388) -/

section
variable {s a : State} {t : Cyc} (ha : a = s.at t) {c : Nat} (l r : Nat) (x : LineRead) (y : LineUse) (n : Nat)
include ha

theorem execDramLineRead_ignored (h : (a.chan c).free = false) :
    execDramLineRead t c l r x s = .next a := by
  subst ha
  exact if_pos (by simp [h])

section
variable (h : (a.chan c).free = true)
include h

theorem execDramLineRead_clean : execDramLineRead t c l r ⟨.clean, y⟩ s = .next (a.request c) := by
  subst ha
  exact if_neg (by simp [h])

theorem execDramLineRead_corrected :
    execDramLineRead t c l r ⟨.corrected, y⟩ s = .next ((a.request c).lineCorrected c 1) := by
  subst ha
  exact if_neg (by simp [h])

theorem execDramLineRead_data :
    execDramLineRead t c l r ⟨.uncorrectable, .data⟩ s = .next ((a.request c).lineBad c l r) := by
  subst ha
  exact if_neg (by simp [h])

theorem execDramLineRead_check : execDramLineRead t c l r ⟨.uncorrectable, .check n⟩ s =
    .next (State.stagingLost ((a.request c).lineBad c l r) n) := by
  subst ha
  exact if_neg (by simp [h])

theorem execDramLineRead_merge (hdata : y ≠ .data) (hcheck : ∀ n, y ≠ .check n) :
    execDramLineRead t c l r ⟨.uncorrectable, y⟩ s = .next ((a.request c).mergeBad c l y) := by
  subst ha
  cases y with
  | data => exact absurd rfl hdata
  | check n => exact absurd rfl (hcheck n)
  | surface | list | staging => exact if_neg (by simp [h])

end

end

/-- Settles O30: each event is taken or ignored by the state of its channel, and the window of the Breakwater by the local
time. -/
theorem dramRefreshAndErrors : Obligations.DramRefreshAndErrors := by
  unfold Obligations.DramRefreshAndErrors
  intro s a t ha
  exact ⟨fun _ => execRefreshDue_ignored ha, fun _ => execRefreshDue_owes ha, fun _ => execRefreshDue_forced ha,
    fun _ => execRefpbIssue_refreshes ha, fun _ => execRefpbIssue_ignored ha,
    fun _ _ => execMr4Read_ignored ha, fun _ _ => execMr4Read_answered ha, fun _ _ => execMr4Read_missed ha,
    fun _ _ _ _ _ hw => execRowActivation_waits ha hw, fun _ _ _ _ _ _ _ _ _ hw => execRowActivation_counts ha hw,
    fun h => (execBreakwaterWindowClear_eq ha).trans (congrArg _ (State.bwClear_sameWindow h)),
    fun _ hw h => (execBreakwaterWindowClear_eq ha).trans (congrArg _ (State.bwClear_newWindow hw h)),
    fun _ l r _ _ => execDramLineRead_ignored ha l r _, fun _ l r y => execDramLineRead_clean ha l r y,
    fun _ l r y => execDramLineRead_corrected ha l r y, fun _ l r => execDramLineRead_data ha l r,
    fun _ l r y => execDramLineRead_merge ha l r y, fun _ l r n => execDramLineRead_check ha l r n⟩

/-! ## Low power (R383, R384) -/

section
variable {s a : State} {t : Cyc} (ha : a = s.at t) {c : Nat}
include ha

theorem execPowerDownEntry_ignored {k : LowPower}
    (h : (a.chan c).serves = false ∨ (a.chan c).sweep.isSome = true ∨ (a.chan c).change.isSome = true) :
    execPowerDownEntry t c k s = .next a := by
  subst ha
  exact if_pos (by simpa using h)

section
variable (hserves : (a.chan c).serves = true) (hsweep : (a.chan c).sweep = none) (hchange : (a.chan c).change = none)
include hserves hsweep hchange

theorem execPowerDownEntry_powerDown : execPowerDownEntry t c .powerDown s =
    .next (if a.memv F.PD_EN = 1 ∧ (a.chan c).state = 1 ∧ 3 ≤ a.scan.slack ∧
      a.idleFor c (a.memv F.PD_IDLE_NS) = true then a.modChan c (fun x => { x with state := 2 }) else a) := by
  subst ha
  exact if_neg (by simp [hserves, hsweep, hchange])

theorem execPowerDownEntry_selfRefresh : execPowerDownEntry t c .selfRefresh s =
    .next (if a.memv F.SR_EN = 1 ∧ 15 ≤ a.scan.slack ∧ (a.chan c).owed ≤ 0 ∧
      a.idleFor c (1000 * a.memv F.SR_IDLE_US) = true then a.modChan c (fun x => { x with state := 3 }) else a) := by
  subst ha
  exact if_neg (by simp [hserves, hsweep, hchange])

end

theorem execLowPowerExit_ignored (h : (a.chan c).serves = false ∨ a.dram.selfRefresh = true) :
    execLowPowerExit t c s = .next a := by
  subst ha
  exact if_pos (by simpa using h)

/-- R383: of a channel in no low-power state there is nothing to leave. -/
theorem execLowPowerExit_open (hpd : (a.chan c).state ≠ 2) (hsr : (a.chan c).state ≠ 3) :
    execLowPowerExit t c s = .next a := by
  subst ha
  simp only [execLowPowerExit, if_neg hpd, if_neg hsr, ite_self, nextOf]

section
variable (hserves : (a.chan c).serves = true) (hlantern : a.dram.selfRefresh = false)
include hserves hlantern

theorem execLowPowerExit_selfRefresh (hstate : (a.chan c).state = 3) :
    execLowPowerExit t c s = .next (a.modChan c (fun x => { x with state := 1, owed := 0 })) := by
  subst ha
  exact (if_neg (by simp [hserves, hlantern])).trans (if_pos hstate)

theorem execLowPowerExit_powerDown (hstate : (a.chan c).state = 2) :
    execLowPowerExit t c s = .next (a.modChan c (fun x => { x with state := 1 })) := by
  subst ha
  exact (if_neg (by simp [hserves, hlantern])).trans ((if_neg (by omega)).trans (if_pos hstate))

end

/-! ## Frequency changes (R374) -/

theorem execFrequencyChangeStart_notWanted (h : ∀ g, (a.chan c).change ≠ some (.wanted g)) :
    execFrequencyChangeStart t c s = .next a := by
  subst ha
  unfold execFrequencyChangeStart
  dsimp only
  split
  next g hchange => exact absurd hchange (h g)
  next => rfl

theorem execFrequencyChangeStart_waits (h : (a.chan c).serves = false ∨ (a.chan c).sweep.isSome = true) :
    execFrequencyChangeStart t c s = .next a := by
  subst ha
  unfold execFrequencyChangeStart
  dsimp only
  split
  next =>
    refine if_neg fun ⟨hserves, hsweep⟩ => ?_
    simp [hserves, Option.isNone_iff_eq_none.1 hsweep] at h
  next => rfl

theorem execFrequencyChangeStart_switches {g : Nat} (hchange : (a.chan c).change = some (.wanted g))
    (hserves : (a.chan c).serves = true) (hsweep : (a.chan c).sweep = none) :
    execFrequencyChangeStart t c s = .next (a.modChan c (fun x => { x.refreshOwed a.refreshBanks with
      change := some (.switching g), state := 1, owed := if x.state = 3 then 0 else min x.owed 0 })) := by
  subst ha
  simp only [execFrequencyChangeStart, hchange]
  exact if_pos ⟨hserves, by simp [hsweep]⟩

theorem execFrequencySwitchDone_ignored (h : ∀ g, (a.chan c).change ≠ some (.switching g)) :
    execFrequencySwitchDone t c s = .next a := by
  subst ha
  unfold execFrequencySwitchDone
  dsimp only
  split
  next g hchange => exact absurd hchange (h g)
  next => rfl

theorem execFrequencySwitchDone_retrains {g : Nat} (hchange : (a.chan c).change = some (.switching g)) :
    execFrequencySwitchDone t c s = .next (a.modChan c (fun x => { x with
      fsp := g, change := some (.retraining g), sweep := some { why := .retrain, full := false } })) := by
  subst ha
  simp only [execFrequencySwitchDone, hchange, nextOf]

/-! ## Sweeps (R371, R372, R375) -/

section
variable {ls : List SweepLane}

theorem execDramSweepDone_ignored (h : (a.chan c).sweep = none ∨ (a.chan c).serves = false) :
    execDramSweepDone t c ls s = .next a := by
  subst ha
  unfold execDramSweepDone
  dsimp only
  split
  next => rfl
  next w hsweep => exact if_pos (by simpa [hsweep] using h)

section
variable {w : Sweep} (hsweep : (a.chan c).sweep = some w) (hserves : (a.chan c).serves = true)
include hsweep hserves

section
variable (hfull : w.full = true)
include hfull

theorem execDramSweepDone_eyes {l : List (Nat × Nat)}
    (heyes : allSome ((List.range 4).map (fun k => eyeOf (nth ls k { firstCode := 0, passes := [] }))) = some l) :
    execDramSweepDone t c ls s = .next ((a.modChan c (fun x =>
      { x.putSets (l.map (·.1)) with eyeMin := (l.map (·.2)).foldl min 128 })).sweepEnd c w true) := by
  subst ha
  simp only [execDramSweepDone, hsweep, hserves, hfull, heyes, not_true_eq_false, ↓reduceIte, nextOf]

theorem execDramSweepDone_noEye
    (heyes : allSome ((List.range 4).map (fun k => eyeOf (nth ls k { firstCode := 0, passes := [] }))) = none) :
    execDramSweepDone t c ls s = .next (a.sweepEnd c w false) := by
  subst ha
  simp only [execDramSweepDone, hsweep, hserves, hfull, heyes, not_true_eq_false, ↓reduceIte, nextOf]

end

section
variable (hrecentre : w.full = false)
include hrecentre

theorem execDramSweepDone_centres {l : List Nat}
    (hcentres : allSome ((List.range 4).map (fun k =>
      centreOf (nth ((a.chan c).sets (a.chan c).fsp) k 0) (nth ls k { firstCode := 0, passes := [] }))) = some l) :
    execDramSweepDone t c ls s = .next ((a.modChan c (fun x => x.putSets l)).sweepEnd c w true) := by
  subst ha
  simp [execDramSweepDone, hsweep, hserves, hrecentre, hcentres, nextOf]

/-- R372: a re-centre that finds no centre on some lane goes on as a full sweep. -/
theorem execDramSweepDone_noCentre
    (hcentres : allSome ((List.range 4).map (fun k =>
      centreOf (nth ((a.chan c).sets (a.chan c).fsp) k 0) (nth ls k { firstCode := 0, passes := [] }))) = none) :
    execDramSweepDone t c ls s = .next (a.modChan c (fun x => { x with sweep := some { w with full := true } })) := by
  subst ha
  simp [execDramSweepDone, hsweep, hserves, hrecentre, hcentres, nextOf]

end

end

end

end

/-! ## Scrub and recalibration units (R181, R184, R372, R386) -/

/-- R181, R184, R386: a scrub unit may run on a channel. -/
def State.mayScrub (s : State) (c : Nat) : Prop :=
  s.serving = true ∧ s.scan.lantern = false ∧ s.dram.selfRefresh = false ∧ (s.chan c).present = true ∧
    (s.chan c).sweep = none ∧ s.otherRoom 1048576 = true ∧ ¬ (s.recalTarget = c ∧ s.bgYields 1 2 = true)

/-- R181, R184, R372: a recalibration unit may run on a channel. -/
def State.mayRecal (s : State) (c : Nat) : Prop :=
  s.serving = true ∧ s.scan.lantern = false ∧ s.dram.selfRefresh = false ∧ (s.chan c).serves = true ∧
    (s.chan c).sweep = none ∧ (s.chan c).sweepNext = none ∧ ¬ (s.scrubTarget.1 = c ∧ s.bgYields 2 1 = true)

section
variable {s a : State} {t : Cyc} (ha : a = s.at t) {c : Nat}
include ha

section
variable {corr mib : Nat} {bad : List Nat} {wrapped : Bool} (htarget : a.scrubTarget = (c, mib, wrapped))
include htarget

theorem execPatrolScrubUnit_ignored (h : ¬ a.mayScrub c) : execPatrolScrubUnit t corr bad s = .next a := by
  subst ha
  unfold execPatrolScrubUnit
  simp only [htarget]
  exact if_neg (by simpa [State.mayScrub] using h)

section
variable (h : a.mayScrub c)
include h

theorem execPatrolScrubUnit_noRoom (hunit : a.bgUnit 1 c 1048576 = none) : execPatrolScrubUnit t corr bad s = .next a := by
  subst ha
  unfold execPatrolScrubUnit
  simp only [htarget, hunit]
  exact if_pos (by simpa [State.mayScrub] using h)

theorem execPatrolScrubUnit_scrubs {p q u v : State} {last : Bool} {n : Nat × Bool}
    (hunit : a.bgUnit 1 c 1048576 = some p) (hq : q = (p.request c).otherMoved 1048576)
    (hu : u = (if (q.chan c).serves then (bad.filter (fun l => l / 16384 == mib)).foldl (fun x l => x.lineBad c l 30)
      (q.lineCorrected c corr) else q))
    (hv : v = u.bgDid 1) (hlast : last = decide (dataMib v.density ≤ mib + 1)) (hn : n = v.nextChan c) :
    execPatrolScrubUnit t corr bad s = .next { v with
      dram := { v.dram with
        scrubCh := if last then n.1 else c, scrubMib := if last then 0 else mib + 1,
        passes := satN (v.dram.passes + b2n wrapped + b2n (last && n.2)) 16 } } := by
  subst ha hq hu hv hlast hn
  unfold execPatrolScrubUnit
  simp only [htarget, hunit]
  exact if_pos (by simpa [State.mayScrub] using h)

end

end

section
variable (hc : c = a.recalTarget)
include hc

theorem execDramRecalUnit_ignored (h : ¬ a.mayRecal c) : execDramRecalUnit t s = .next a := by
  subst ha hc
  exact if_neg (by simpa [State.mayRecal] using h)

section
variable (h : a.mayRecal c)
include h

theorem execDramRecalUnit_noRoom
    (hunit : a.bgUnit 2 c (chanCeiling a.scan.rate a.presentCount * a.scan.rate * 40 / 1000000) = none) :
    execDramRecalUnit t s = .next a := by
  subst ha hc
  unfold execDramRecalUnit
  simp only [hunit]
  exact if_pos (by simpa [State.mayRecal] using h)

theorem execDramRecalUnit_begins {p : State}
    (hunit : a.bgUnit 2 c (chanCeiling a.scan.rate a.presentCount * a.scan.rate * 40 / 1000000) = some p) :
    execDramRecalUnit t s = .next
      (State.startSweep { p with dram := { p.dram with recalNext := c } } c { why := .unit, full := false }) := by
  subst ha hc
  unfold execDramRecalUnit
  simp only [hunit]
  exact if_pos (by simpa [State.mayRecal] using h)

end

end

/-! ## Training at start (R370) -/

theorem execDramTrainingDone_trains {r : List ChannelTraining}
    (h : a.start.phase = .running ∧ a.start.dramDone = false) : execDramTrainingDone t r s = .next (a.dramTrained r) := by
  subst ha
  exact if_pos (by simpa using h)

theorem execDramTrainingDone_ignored {r : List ChannelTraining}
    (h : ¬ (a.start.phase = .running ∧ a.start.dramDone = false)) : execDramTrainingDone t r s = .next a := by
  subst ha
  exact if_neg (by simpa using h)

end

/-- Settles O31: a mode is left or entered by the state of its channel, a sweep ends by what it finds on its four lanes, and
a background unit runs where its class may and finds room. -/
theorem dramModes : Obligations.DramModes := by
  unfold Obligations.DramModes
  intro s a t ha
  refine ⟨fun _ _ => execPowerDownEntry_ignored ha, fun _ => execPowerDownEntry_powerDown ha,
    fun _ => execPowerDownEntry_selfRefresh ha, fun _ => execLowPowerExit_ignored ha,
    fun _ => execLowPowerExit_selfRefresh ha, fun _ => execLowPowerExit_powerDown ha, fun _ => execLowPowerExit_open ha,
    fun _ => execFrequencyChangeStart_notWanted ha, fun _ => execFrequencyChangeStart_waits ha,
    fun _ _ => execFrequencyChangeStart_switches ha, fun _ => execFrequencySwitchDone_ignored ha,
    fun _ _ => execFrequencySwitchDone_retrains ha, fun _ _ => execDramSweepDone_ignored ha,
    fun _ _ _ _ hsweep hserves hfull => execDramSweepDone_eyes ha hsweep hserves hfull,
    fun _ _ _ hsweep hserves hfull => execDramSweepDone_noEye ha hsweep hserves hfull,
    fun _ _ _ _ hsweep hserves hfull => execDramSweepDone_centres ha hsweep hserves hfull,
    fun _ _ _ hsweep hserves hfull => execDramSweepDone_noCentre ha hsweep hserves hfull,
    fun corr bad c mib wrapped htarget => ⟨execPatrolScrubUnit_ignored ha htarget, fun hunit => ?scrubRoom,
      fun p q u v last n hserving hlantern hawake hpresent hsweep hroom hyields =>
        execPatrolScrubUnit_scrubs ha htarget ⟨hserving, hlantern, hawake, hpresent, hsweep, hroom, hyields⟩⟩,
    fun c hc => ⟨fun p hserving hlantern hawake hserves hsweep hnext hyields =>
        execDramRecalUnit_begins ha hc ⟨hserving, hlantern, hawake, hserves, hsweep, hnext, hyields⟩,
      fun hunit => ?recalRoom, execDramRecalUnit_ignored ha hc⟩,
    fun _ => execDramTrainingDone_trains ha, fun _ => execDramTrainingDone_ignored ha⟩
  case scrubRoom =>
    exact (em (a.mayScrub c)).elim (execPatrolScrubUnit_noRoom ha htarget · hunit) (execPatrolScrubUnit_ignored ha htarget)
  case recalRoom =>
    exact (em (a.mayRecal c)).elim (execDramRecalUnit_noRoom ha hc · hunit) (execDramRecalUnit_ignored ha hc)

end Sys2Proof.Machine
end

section
/-! SUPPORT. Commands (13_commands): packets refused or answered again before steps 6 to 10, what each query, session command
and deferred command does, the transactions of the SPI gangway, the presence inputs, and the queues of events. -/

namespace Sys2Proof.Machine

/-! ## Queries (R424, R321) -/

/-- R321: LINK_QUERY answers for a panel port or a backbone port. -/
theorem cardLinkQuery_run {s : State} {c : Caller} {pl : List Byte} : cardLinkQuery.run s c pl =
    (s, Status.OK, if num pl 0 1 = 0
      then ofWords (s.obj (0x1900 + num pl 1 1)) ++ slice (s.statusBytes (0x2B00 + num pl 1 1)) 0 24
      else ofWords (s.obj (0x1910 + num pl 1 1)) ++ slice (s.statusBytes (0x2B10 + num pl 1 1)) 0 24) := by
  by_cases h : num pl 0 1 = 0 <;> simp only [cardLinkQuery, h, if_true, if_false]

/-- Settles O3: each of these cards is immediate, and its run leaves the state as it is, but for what OBJECT_READ clears. -/
theorem queriesAnswerAndChangeNothingElse : Obligations.QueriesAnswerAndChangeNothingElse := by
  unfold Obligations.QueriesAnswerAndChangeNothingElse
  intro s p n
  refine ⟨fun h => runCommand_done h rfl, fun h => runCommand_done h rfl, fun h => runCommand_done h rfl,
    fun h => runCommand_done h rfl, fun h => runCommand_done h rfl, fun h => ?link, fun h => runCommand_done h rfl,
    fun h => runCommand_done h rfl, fun h => runCommand_done h rfl, fun h => runCommand_done h rfl,
    fun h => runCommand_done h rfl, fun h => runCommand_done h rfl, fun h => runCommand_done h rfl,
    fun h => runCommand_done h rfl,
    fun h => ⟨_, _, _, _, _, rfl, rfl, rfl, rfl, rfl, runCommand_done h rfl⟩⟩
  case link => exact (runCommand_done h rfl).trans (by rw [cardLinkQuery_run])

/-! ## Session commands (R406, R407, R408, R417, R419) -/

section
variable {s : State} {c : Caller} {pl : List Byte}

/-- R407: PAIR is judged OK only where a slot is free for it. -/
theorem pairSlot_of_cardPair_judge (h : cardPair.judge s c pl = Status.OK) : ∃ k, s.pairSlot c = some k := by
  refine Option.ne_none_iff_exists'.1 fun hnone => ?_
  have hrefused : cardPair.judge s c pl = Status.NO_RESOURCE := if_pos (by rw [hnone]; rfl)
  rw [hrefused] at h
  exact absurd h (by decide)

/-- R406, R407: PAIR queues the pairing record of the slot it takes, and its reply carries the new token. -/
theorem cardPair_run {k : Nat} (hk : s.pairSlot c = some k) {hi m : Nat}
    (hhi : hi = (Config.tokenRandom s.time.freeCount).toNat) (hm : m = (s.took.pairSerial + 1) % 2 ^ 28) :
    cardPair.run s c pl =
      (s.took.pushTxn {
          purpose := .pairing k (newSession hi m (num pl 0 2) (slice pl 4 16) c.srcIp c.srcPort)
          steps := fixedSteps k (pairBytes true hi m (num pl 0 2) (slice pl 4 16)) },
        Status.OK, le 8 (hi * 2 ^ 32 + m * 16 + k) ++ [byte k, 0, 0, 0]) := by
  subst hhi hm
  simp only [cardPair, hk, Option.getD_some, State.putPairing]

theorem cardEventAck_run_sent {n : Nat} (hc : c.slot = some n) (hn : n ≠ 15) (hsent : (s.sess n).evSent = true) :
    cardEventAck.run s c pl =
      done (s.modSess n (fun e => { e with unacked := e.unacked.filter (fun x => newer8 x.seq (num pl 0 1)) })) := by
  simp only [cardEventAck, hc, Option.getD_some, hn, hsent, not_true_eq_false, or_self, if_false]

theorem cardEventAck_run_nothing {n : Nat} (hc : c.slot = some n) (h : n = 15 ∨ (s.sess n).evSent = false) :
    cardEventAck.run s c pl = done s := by
  simp only [cardEventAck, hc, Option.getD_some, Bool.not_eq_true, h, if_true]

end

/-- Settles O4: PAIR and UNPAIR hold their reply for their record, and the run of each card is what the statement names. -/
theorem sessionCommands : Obligations.SessionCommands := by
  unfold Obligations.SessionCommands
  intro s p n
  refine ⟨fun h => ?pair, fun h => runCommand_open h rfl (.inr rfl), fun h => runCommand_done h rfl,
    fun h => ⟨_, rfl, runCommand_held h rfl rfl⟩, fun h hn hsent => ?ack, fun h hnothing => ?ackNothing⟩
  case pair =>
    obtain ⟨k, hk⟩ := pairSlot_of_cardPair_judge (State.judge_of_verdict h.verdict)
    refine ⟨k, _, _, _, _, hk, rfl, rfl, rfl, rfl, (runCommand_openHeld h rfl (.inl rfl) rfl).trans ?_⟩
    rw [cardPair_run hk rfl rfl]
    rfl
  case ack => exact (runCommand_done h rfl).trans (by rw [cardEventAck_run_sent rfl hn hsent]; rfl)
  case ackNothing => exact (runCommand_done h rfl).trans (by rw [cardEventAck_run_nothing rfl hnothing]; rfl)

/-! ## Deferred commands of the display (R202) -/

/-- R202: CORR_MAP_COMMIT begins its check anew: the staging units that an earlier check lost are forgotten. -/
theorem exec_corrMapCommit {s : State} {p : Packet} {n : Nat} (h : s.Passes cardCorrMapCommit p n) {a : State}
    (ha : a = s.accepted cardCorrMapCommit p n []) : exec (.corrMapCommit p) s = .next { a with
      optics := { a.optics with
        commit := some (p.token.toNat % 2 ^ 32, p.tag.toNat, num p.payload 0 4, a.obj 0x1823), lost := [] } } := by
  subst ha
  exact runCommand_accepted h rfl

/-- A running device that takes commands over SPI from session 15. The check of an earlier correction map lost unit 0 of the
staging bytes (R385), and its commit has ended. -/
def afterLostUnit : State where
  start := { phase := .running }
  nvm := { interpreting := true }
  time := { cyc := 1000000000000, clk := 50240000 * 2 ^ 32, state := .locked, carryFmt := false }
  harbour := { lastCut := some 12 }
  scan := { ticked := true, field := 12, latchField := some 12 }
  gw := { sessions := List.replicate 16 { paired := true } }
  optics := { lost := [0] }

/-- CORR_MAP_COMMIT of a map of 18 bytes, SEQ 1 and TAG 1, over SPI. -/
def commitPacket : Packet where
  t := 0
  via := .spi true
  count := 24
  magic := 0xC7
  version := 1
  tag := 1
  seq := 1
  length := 24
  token := 15
  payload := [18, 0, 0, 0]
  crc := 0x7FDC5D6E

theorem afterLostUnit_passes : afterLostUnit.Passes cardCorrMapCommit commitPacket 15 where
  whole := by decide
  header := by decide
  crc := by decide +kernel
  token := by decide
  session := by decide
  newer := by decide
  room := by decide
  pilot := by decide
  unheld := by decide
  verdict := by decide

theorem afterLostUnit_accepted_lost : (afterLostUnit.accepted cardCorrMapCommit commitPacket 15 []).optics.lost = [0] := by
  decide

/-- Refutes O6: CORR_MAP_COMMIT also clears the staging units that an earlier check lost, which the statement leaves as they
are. -/
theorem not_deferredDisplayCommands : ¬ Obligations.DeferredDisplayCommands := by
  unfold Obligations.DeferredDisplayCommands
  intro h
  obtain ⟨-, -, -, hcommit, -⟩ := h afterLostUnit commitPacket 15
  obtain ⟨a, u, ha, hexec, hu⟩ := hcommit afterLostUnit_passes
  rw [exec_corrMapCommit afterLostUnit_passes ha] at hexec
  have hcleared : u.optics.lost = [] := by
    cases hexec
    rfl
  have hleft : u.optics.lost = [0] := by
    rw [hu, ← afterLostUnit_accepted_lost, ha]
  rw [hleft] at hcleared
  cases hcleared

/-! ## Deferred commands of storage and service (R446, R448, R449, R525, R536) -/

section
variable {s : State} {c : Caller} {pl : List Byte}

theorem cardImageActivate_run_activate (h : num pl 0 1 = 0) :
    cardImageActivate.run s c pl = done (s.activate c.owner c.tag (num pl 1 1 == 1)) := by
  simp only [cardImageActivate, h]

theorem cardImageActivate_run_confirm (h : num pl 0 1 = 1) : cardImageActivate.run s c pl = done { s with
    nvm := { s.nvm with hostConfirmed := true, actionTags := s.nvm.actionTags ++ [(c.owner, c.tag, 1)] } } := by
  simp only [cardImageActivate, h]

/-- R449: a trial that is live is handed back; any other is abandoned at the next boot. -/
theorem cardImageActivate_run_abandon (h : num pl 0 1 = 2) {u : Nvm}
    (hu : u = { s.nvm with actionTags := s.nvm.actionTags ++ [(c.owner, c.tag, 2)] }) :
    cardImageActivate.run s c pl = done { s with
      nvm := if s.nvm.liveTrial then { u with phase := .handback, handback := some 3 } else u } := by
  subst hu
  simp only [cardImageActivate, h]
  split <;> rfl

/-- R525: a restart waits for the record that is being written. -/
theorem cardDeviceRestart_run : cardDeviceRestart.run s c pl = done (if s.nvm.queue.any (·.begun) then
    { s with start := { s.start with restartTag := some (c.owner, c.tag) } } else s.restartSoon c.owner c.tag) := by
  simp only [cardDeviceRestart]
  split <;> rfl

theorem cardSelfTest_run_mram (h : num pl 0 1 = 0) :
    cardSelfTest.run s c pl = done { s with nvm := { s.nvm with scan := some (c.owner, c.tag) } } := if_pos h

theorem cardSelfTest_run_scanout (h : num pl 0 1 ≠ 0) :
    cardSelfTest.run s c pl = done (s.queueReq (.selfTest (num pl 2 2)) c.owner c.tag) := if_neg h

end

/-- Settles O7: each of these cards is deferred, and its run on the accepted state is the work that the statement names. -/
theorem deferredStorageAndServiceCommands : Obligations.DeferredStorageAndServiceCommands := by
  unfold Obligations.DeferredStorageAndServiceCommands
  intro s p n
  refine ⟨fun h => runCommand_accepted h rfl, fun h => ⟨_, rfl, runCommand_accepted h rfl⟩,
    fun h => runCommand_accepted h rfl, fun h => ⟨_, _, rfl, runCommand_accepted h rfl, rfl⟩, fun h hsel => ?activate,
    fun h hsel => ?confirm, fun h hsel => ?abandon, fun h => ?restart, fun h => runCommand_accepted h rfl,
    fun h => ⟨_, _, rfl, runCommand_accepted h rfl, rfl⟩, fun h hsel => ?mram, fun h hsel => ?scanout⟩
  case activate => exact (runCommand_accepted h rfl).trans (by rw [cardImageActivate_run_activate hsel]; rfl)
  case confirm =>
    exact ⟨_, _, rfl, (runCommand_accepted h rfl).trans (by rw [cardImageActivate_run_confirm hsel]; rfl), rfl⟩
  case abandon =>
    exact ⟨_, _, rfl, rfl, (runCommand_accepted h rfl).trans (by rw [cardImageActivate_run_abandon hsel rfl]; rfl)⟩
  case restart => exact ⟨_, _, rfl, (runCommand_accepted h rfl).trans (by rw [cardDeviceRestart_run]; rfl), rfl⟩
  case mram => exact ⟨_, _, rfl, (runCommand_accepted h rfl).trans (by rw [cardSelfTest_run_mram hsel]; rfl), rfl⟩
  case scanout => exact (runCommand_accepted h rfl).trans (by rw [cardSelfTest_run_scanout hsel]; rfl)

/-! ## SPI transactions (R400 to R402) -/

/-- R400: what a READ clocks out of a packet: the lead, its length and its bytes. -/
def spiStream (head : List Byte) : List Byte := [0xFF, 0xFF, 0xFF, 0xFF] ++ le 2 head.length ++ head

theorem length_spiStream {head : List Byte} : (spiStream head).length = 6 + head.length := by
  simp only [spiStream, List.length_append, length_le, List.length_cons, List.length_nil]

/-- R400: GW_MISO after a transaction of `n` bytes after the first has clocked out a stream. -/
def State.clocked (h : State) (n : Nat) (stream : List Byte) : State :=
  { h with gw := { h.gw with miso := (stream ++ List.replicate n 0xFF).take (n + 1) } }

/-- R401: a reply goes before every event. -/
theorem State.outbound_reply {h : State} {head : List Byte} {rest : List (List Byte)} (hr : h.gw.spiReplies = head :: rest) :
    h.outbound.head? = some head := by
  simp [State.outbound, hr]

section
variable {s h : State} {t : Cyc} (hh : h = s.hostAt t)
include hh

theorem execSpiStatus_silent {n : Nat} (hoff : h.spiAnswers = false) : execSpiStatus t n s = .next h.misoOff := by
  subst hh
  exact if_pos (by simp [hoff])

theorem execSpiStatus_answers {n : Nat} (hon : h.spiAnswers = true) : execSpiStatus t n s = .next (h.clocked n
    ([0xFF, 0xFF, 0xFF, 0xFF] ++
      (le 2 ((h.outbound.head?).getD []).length ++ [byte (min 255 h.outbound.length), 0]))) := by
  subst hh
  exact if_neg (by simp [hon])

theorem execSpiRead_silent {n : Nat} (hoff : h.spiAnswers = false) : execSpiRead t n s = .next h.misoOff := by
  subst hh
  exact if_pos (by simp [hoff])

section
variable {n : Nat} {head : List Byte} (hon : h.spiAnswers = true) (hhead : (h.outbound.head?).getD [] = head)
include hon hhead

/-- R400, R402: a READ takes what it reads from the queue where it clocks out the whole of a packet. -/
theorem execSpiRead_answers : execSpiRead t n s =
    if head ≠ [] ∧ 6 + head.length ≤ n + 1 then
      match h.gw.spiReplies with
      | _ :: r => nextOf (State.irq { h.clocked n (spiStream head) with
          gw := { (h.clocked n (spiStream head)).gw with spiReplies := r } })
      | [] => nextOf ((h.clocked n (spiStream head)).modSess 15 (fun e => { e with unacked := e.unacked.drop 1 })).irq
    else nextOf (h.clocked n (spiStream head)) := by
  subst hh hhead
  rw [← length_spiStream]
  exact if_neg (by simp [hon])

theorem execSpiRead_part (hpart : ¬ (head ≠ [] ∧ 6 + head.length ≤ n + 1)) :
    execSpiRead t n s = .next (h.clocked n (spiStream head)) := by
  rw [execSpiRead_answers hh hon hhead, if_neg hpart]
  rfl

section
variable (hne : head ≠ []) (hwhole : 6 + head.length ≤ n + 1)
include hne hwhole

theorem execSpiRead_reply {first : List Byte} {rest : List (List Byte)} (hr : h.gw.spiReplies = first :: rest) :
    execSpiRead t n s = .next (State.irq { h.clocked n (spiStream head) with
      gw := { (h.clocked n (spiStream head)).gw with spiReplies := rest } }) := by
  rw [execSpiRead_answers hh hon hhead, if_pos ⟨hne, hwhole⟩, hr]
  rfl

theorem execSpiRead_event (hr : h.gw.spiReplies = []) : execSpiRead t n s = .next
    ((h.clocked n (spiStream head)).modSess 15 (fun e => { e with unacked := e.unacked.drop 1 })).irq := by
  rw [execSpiRead_answers hh hon hhead, if_pos ⟨hne, hwhole⟩, hr]
  rfl

end

end

end

/-! ## Resends and presence (R412, R414, R415, R417) -/

section
variable {s a : State} {t : Cyc} (ha : a = s.at t)
include ha

section
variable {k : Nat} {x : EventPkt} {r : List EventPkt} (hx : (a.sess k).unacked = x :: r)
include hx

theorem execEventResend_due (h : a.serving = true ∧ k < 15 ∧ (a.sess k).paired = true ∧ a.get F.UDP_EN = 1 ∧
    x.sentAt + msCyc (a.get F.EVENT_RESEND_MS) ≤ a.time.cyc) : execEventResend t k s = .next (a.resend k) := by
  subst ha
  simp only [execEventResend, hx]
  exact if_pos h

theorem execEventResend_notDue (h : ¬ (a.serving = true ∧ k < 15 ∧ (a.sess k).paired = true ∧ a.get F.UDP_EN = 1 ∧
    x.sentAt + msCyc (a.get F.EVENT_RESEND_MS) ≤ a.time.cyc)) : execEventResend t k s = .next a := by
  subst ha
  simp only [execEventResend, hx]
  exact if_neg h

end

theorem execEventResend_nothing {k : Nat} (h : (a.sess k).unacked = []) : execEventResend t k s = .next a := by
  subst ha
  simp only [execEventResend, h, nextOf]

theorem execKeyDebounced_ignored {b : Bool} (h : a.alive = false ∨ a.gw.key = b) : execKeyDebounced t b s = .next a := by
  subst ha
  exact if_pos (by simpa using h)

theorem execSealDebounced_ignored {b : Bool} (h : a.alive = false ∨ a.gw.sealOpen = b) :
    execSealDebounced t b s = .next a := by
  subst ha
  exact if_pos (by simpa using h)

section
variable {b : Bool} (halive : a.alive = true)
include halive

theorem execKeyDebounced_changes (hkey : a.gw.key ≠ b) {u : State} (hu : u = { a with gw := { a.gw with key := b } }) :
    execKeyDebounced t b s = .next (if a.serving then u.notify 0x01F0 u.presenceBytes else u) := by
  subst ha hu
  exact if_neg (by simp [halive, hkey])

theorem execSealDebounced_changes (hseal : a.gw.sealOpen ≠ b) {u : State}
    (hu : u = { a with gw := { a.gw with sealOpen := b } }) : execSealDebounced t b s =
      if a.serving then .next ((u.sealChange b a.ns).notify 0x01F0 u.presenceBytes)
      else .next { a with gw := { a.gw with
        sealOpen := b
        sealEarly := a.gw.sealEarly ++ [(if a.time.cyc ≤ a.time.releaseCyc + msCyc 20 then 0 else a.ns, b)] } } := by
  subst ha hu
  exact if_neg (by simp [halive, hseal])

end

end

/-- Settles O8: a READ by the packet at the head of the queue and the bytes that it clocks; each input by its one condition. -/
theorem spiTransactionsAndPresence : Obligations.SpiTransactionsAndPresence := by
  unfold Obligations.SpiTransactionsAndPresence
  intro s a h t ha hh
  refine ⟨fun _ => execSpiStatus_silent hh, fun _ hon => ?status, fun _ => execSpiRead_silent hh, fun _ hon hnone => ?empty,
    fun _ head _ hon hq hshort => ?short, fun _ head _ hon hr hne hwhole => ?reply,
    fun _ head _ hon hr hq hne hwhole => ?event,
    fun _ _ _ hx hserves hslot hpaired hudp hwaited => execEventResend_due ha hx ⟨hserves, hslot, hpaired, hudp, hwaited⟩,
    fun _ _ _ hx => execEventResend_notDue ha hx, fun _ => execEventResend_nothing ha, fun _ => execKeyDebounced_ignored ha,
    fun _ halive hkey hserves => ?keyEarly, fun _ halive hkey hserves => ?key, fun _ => execSealDebounced_ignored ha,
    fun _ halive hseal hserves => ?sealEarly, fun _ halive hseal hserves => ?sealed⟩
  case status => exact execSpiStatus_answers hh hon
  case empty => exact execSpiRead_part (head := []) hh hon (by rw [hnone]; rfl) (by simp)
  case short => exact execSpiRead_part (head := head) hh hon (by rw [hq]; rfl) (by omega)
  case reply => exact execSpiRead_reply (head := head) hh hon (by rw [State.outbound_reply hr]; rfl) hne hwhole hr
  case event => exact execSpiRead_event (head := head) hh hon (by rw [hq]; rfl) hne hwhole hr
  case keyEarly => exact (execKeyDebounced_changes ha halive hkey rfl).trans (by rw [if_neg (by simp [hserves])])
  case key => exact (execKeyDebounced_changes ha halive hkey rfl).trans (by rw [if_pos hserves])
  case sealEarly => exact (execSealDebounced_changes ha halive hseal rfl).trans (if_neg (by simp [hserves]))
  case sealed => exact (execSealDebounced_changes ha halive hseal rfl).trans (if_pos hserves)

/-! ## The ends of IMAGE_VERIFY and of the MRAM scan (R444, R536) -/

section
variable {s a : State} {t : Cyc} (ha : a = s.at t)
include ha

theorem execImageVerifyDone_nothing (h : a.nvm.verify = none) : execImageVerifyDone t s = .next a := by
  subst ha
  simp only [execImageVerifyDone, h, nextOf]

theorem execMramScanDone_nothing (h : a.nvm.scan = none) : execMramScanDone t s = .next a := by
  subst ha
  simp only [execMramScanDone, h, nextOf]

/-- R536: the scan tallies the records that it finds, and reports whether the running slot fails its check. -/
theorem execMramScanDone_ends {o g : Nat} (h : a.nvm.scan = some (o, g)) {bad : Bool}
    (hbad : bad = (a.checkSlot a.nvm.runSlot != SlotCheck.ok)) : execMramScanDone t s =
      .next ((State.tallyRecords { a with nvm := { a.nvm with scan := none } } (journal a.mram)).finalEvent o g 0x0F01
        (if bad then Status.CHECK_FAILED else Status.OK)
        ([byte (b2n bad), 0, 0, 0] ++ le 8 0 ++
          le 4 (a.mram.slotA.state.code + 8 * a.mram.slotB.state.code + 65536 * satN (failedCopies (journal a.mram)) 16))) := by
  subst ha hbad
  simp only [execMramScanDone, h, nextOf]

end

/-- R444: the status of the final event of IMAGE_VERIFY by what the check finds. -/
def SlotCheck.status : SlotCheck → Nat
  | .ok => Status.OK
  | .fault => Status.CHECK_FAILED
  | .rollback => Status.ROLLBACK_REFUSED

/-- R444: the final event of IMAGE_VERIFY on slot `k`: what the check found, and what the slot holds. -/
def State.verifyEnds (u : State) (o g k : Nat) (c : SlotCheck) : State :=
  u.finalEvent o g 0x0B02 c.status
    (le 4 (u.fwVersion k) ++ le 4 (u.secVersion k) ++ [byte (u.writeGen k), byte (b2n (u.migratable k)), 0, 0])

section
variable {s a : State} {t : Cyc} (ha : a = s.at t) {o g k : Nat} (hv : a.nvm.verify = some (o, g)) (hk : k = a.otherSlot)
include ha hv hk

theorem execImageVerifyDone_marks (ht : (a.slot k).state ≠ .trial) (hf : (a.slot k).state ≠ .fallback) {u : State}
    (hu : u = State.setSlot { a with nvm := { a.nvm with verify := none } } k
      (if a.checkSlot k = SlotCheck.ok then .valid else .invalid)) :
    execImageVerifyDone t s = .next (u.verifyEnds o g k (a.checkSlot k)) := by
  subst ha hk hu
  simp only [execImageVerifyDone, hv]
  split
  · next h => exact absurd h ht
  · next h => exact absurd h hf
  · rfl

/-- R448: a slot that has become a trial or fall-back slot keeps its state. -/
theorem execImageVerifyDone_leaves (h : (a.slot k).state = .trial ∨ (a.slot k).state = .fallback) {u : State}
    (hu : u = { a with nvm := { a.nvm with verify := none } }) :
    execImageVerifyDone t s = .next (u.verifyEnds o g k (a.checkSlot k)) := by
  subst ha hk hu
  simp only [execImageVerifyDone, hv]
  split
  · rfl
  · rfl
  · next ht hf => exact absurd h (not_or.2 ⟨ht, hf⟩)

end

/-- Settles O18: each of the two ends finds a check or a scan awaited or none, and the slot on trial or not. -/
theorem verificationAndScanEnd : Obligations.VerificationAndScanEnd := by
  unfold Obligations.VerificationAndScanEnd
  intro s a t ha
  refine ⟨execImageVerifyDone_nothing ha, fun _ _ _ _ hv hk ht hf hu => ?marks, fun _ _ _ _ hv hk hstate hu => ?leaves,
    execMramScanDone_nothing ha, fun _ _ _ hscan hbad => execMramScanDone_ends ha hscan hbad⟩
  case marks => exact execImageVerifyDone_marks ha hv hk ht hf hu
  case leaves => exact execImageVerifyDone_leaves ha hv hk hstate hu

/-! ## Commands without a session (R403, R404, R406) -/

section
variable {s : State} {p : Packet} {op : Nat} {c : Option Card}

/-- R403: a packet that passes steps 1 to 3 goes on to step 4. -/
theorem State.arrive_whole (h : (s.heard p).front p = .pass) (hh : headerOk p = true)
    (hc : p.crc.toNat = commandCrc op p) : s.arrive c op p = (s.heard p).take c op p := by
  simp only [State.arrive, h, hh, hc, ne_eq, not_true_eq_false, if_false]

section
variable (hopen : ¬ (p.token = 0 ∧ (op = 0x0101 ∨ op = 0x0105))) (hslot : s.slotOf p.token.toNat p.spi = none)
include hopen hslot

/-- R403 step 4, R404: a token of no session is answered NOT_PAIRED within the limit. -/
theorem State.take_notPaired : s.take c op p =
    if s.unauthRoom then ((s.tally T.GW_NOT_PAIRED).unauthCount).sendReply ((s.tally T.GW_NOT_PAIRED).callerOf p none)
      (replyPacket op p.tag.toNat p.seq.toNat Status.NOT_PAIRED (p.token.toNat % 2 ^ 32) [])
    else (s.tally T.GW_NOT_PAIRED).tally T.GW_UNAUTH_DROP := by
  simp only [State.take, if_neg hopen, hslot]
  rfl

end

/-- R404: a TOKEN 0 command past the limit of session-less replies is dropped. -/
theorem State.take_openPastLimit (htoken : p.token = 0) (hop : op = 0x0101 ∨ op = 0x0105) (hroom : s.berthRoom p.spi = true)
    (hpilot : s.nvm.interpreting = true) (hheld : s.nvm.held = none) (hlimit : s.unauthRoom = false) :
    s.take c op p = s.tally T.GW_UNAUTH_DROP := by
  have hserved : s.nvm.interpreting = true ∧ s.nvm.held.isNone = true := ⟨hpilot, by rw [hheld]; rfl⟩
  simp only [State.take, htoken, hop, hroom, and_self, if_true, State.dispatch, hserved, true_or]
  exact if_neg (by simp [hlimit])

end

/-- R404: the reply just sent is counted from its instant on. -/
theorem State.cyc_mem_unauthCount (s : State) : s.time.cyc ∈ s.unauthCount.gw.unauthAt := by simp [State.unauthCount]

/-- Settles O46: step 4 finds no session, and answers or drops by the limit of R404. -/
theorem commandsWithoutASessionAreRefused : Obligations.CommandsWithoutASessionAreRefused := by
  unfold Obligations.CommandsWithoutASessionAreRefused
  intro s p k i hrow hwhole hheader hcrc
  have hexec : exec i s = .next ((s.heard p).take (some k) k.opcode p) := by
    rw [exec_commandRow hrow, ← State.arrive_whole hwhole hheader hcrc]
    rfl
  rw [hexec]
  refine ⟨fun hopen hslot => ⟨fun hroom => ?answered, fun hroom => ?dropped⟩,
    fun htoken hop hroom hpilot hheld hlimit => congrArg _ (State.take_openPastLimit htoken hop hroom hpilot hheld hlimit),
    decide_eq_true_iff, State.cyc_mem_unauthCount _⟩
  case answered => rw [State.take_notPaired hopen hslot, if_pos hroom]
  case dropped => rw [State.take_notPaired hopen hslot, if_neg (by simp [hroom])]

/-! ## Retransmissions (R409, R410) -/

section
variable {s : State} {op k : Nat} {p : Packet}

/-- R410: the command kept in session `k` with the SEQ, LENGTH and CRC of a packet. -/
def State.keptLike (s : State) (p : Packet) (k : Nat) : Option Kept :=
  (s.sess k).kept.find? (fun x => x.seq == p.seq.toNat && x.length == p.length.toNat && x.crc == p.crc)

theorem State.notNewer_replayed {x : Kept} {bs : List Byte} (hx : s.keptLike p k = some x) (hbs : x.reply = some bs) :
    s.notNewer op p k = (s.tally T.GW_REPLAY).sendReply (s.callerOf p (some k)) bs := by
  unfold State.keptLike at hx
  simp only [State.notNewer, hx, hbs]

theorem State.notNewer_waits {x : Kept} (hx : s.keptLike p k = some x) (hnone : x.reply = none) :
    s.notNewer op p k = s := by
  unfold State.keptLike at hx
  simp only [State.notNewer, hx, hnone]

theorem State.notNewer_stale (hx : s.keptLike p k = none) :
    s.notNewer op p k = (s.tally T.GW_STALE).sendReply (s.callerOf p (some k))
      (replyPacket op p.tag.toNat p.seq.toNat Status.STALE_SEQUENCE (p.token.toNat % 2 ^ 32) []) := by
  unfold State.keptLike at hx
  simp only [State.notNewer, hx, State.callerOf]

end

/-- R403, R410: a command row, GANGWAY_RETRANSMISSION and an unassigned opcode arrive alike, each with the card that the
opcode index gives. -/
theorem exec_arrives {s : State} {p : Packet} {op : BitVec 16} {i : Instr}
    (hi : i = .gangwayRetransmission op p ∨ i = .unassignedOpcode op p ∨ ∃ k, (k, i) ∈ commandRows p ∧ k.opcode = op.toNat) :
    ∃ c, exec i s = .next (s.arrive c op.toNat p) := by
  rcases hi with rfl | rfl | ⟨k, hrow, hop⟩
  · exact ⟨_, rfl⟩
  · exact ⟨_, rfl⟩
  · rw [exec_commandRow hrow, ← hop]
    exact ⟨_, rfl⟩

/-- Settles O47: such a packet is decided by R410 alone, from what its session keeps. -/
theorem retransmissionsAreNotExecutedAgain : Obligations.RetransmissionsAreNotExecutedAgain := by
  unfold Obligations.RetransmissionsAreNotExecutedAgain
  intro s p n op i hi hk hfresh hold
  obtain ⟨c, hexec⟩ := exec_arrives (s := s) hi
  rw [hexec, State.arrive_notNewer hk hfresh hold]
  exact ⟨fun x bs hx hbs => congrArg _ (State.notNewer_replayed hx hbs),
    fun x hx hnone => congrArg _ (State.notNewer_waits hx hnone), fun hx => congrArg _ (State.notNewer_stale hx)⟩

/-! ## Refused commands (R398, R403, R426) -/

/-- R410: GANGWAY_RETRANSMISSION of an opcode of the index is judged as the opcode's own row. -/
theorem exec_gangwayRetransmission {s : State} {p : Packet} {k : Card} {i : Instr} (hrow : (k, i) ∈ commandRows p) :
    exec (.gangwayRetransmission (BitVec.ofNat 16 k.opcode) p) s = exec i s := by
  obtain ⟨hcard, hlt⟩ := cardOf_commandRow hrow
  have hop : (BitVec.ofNat 16 k.opcode).toNat = k.opcode := by
    rw [BitVec.toNat_ofNat, Nat.mod_eq_of_lt hlt]
  rw [exec_commandRow hrow]
  simp only [exec, execGangwayRetransmission, runCommand, hop, hcard]

/-- R403 step 6: an opcode that the index does not list is answered BAD_OPCODE. -/
theorem exec_unassignedOpcode {s : State} {p : Packet} {n : Nat} {op : BitVec 16} (hk : s.Known op.toNat p n)
    (ht : s.Takes p n) : exec (.unassignedOpcode op p) s =
      .next ((s.served p n).reply op.toNat p (s.senderOf p n) Status.BAD_OPCODE []) :=
  congrArg nextOf (State.arrive_served hk ht.newer ht.room ht.pilot ht.unheld)

/-- Settles O48, from the one lemma on what a refused command leaves and the card that the opcode index gives. -/
theorem refusedCommandsOnlyAnswerTheirStatus : Obligations.RefusedCommandsOnlyAnswerTheirStatus := by
  unfold Obligations.RefusedCommandsOnlyAnswerTheirStatus
  exact fun s p n => ⟨fun k i st hrow hk hnew hroom hpilot hheld => exec_refused hrow hk ⟨hnew, hroom, hpilot, hheld⟩,
    fun op hk hnew hroom hpilot hheld => exec_unassignedOpcode hk ⟨hnew, hroom, hpilot, hheld⟩,
    fun k i hrow => exec_gangwayRetransmission hrow⟩

/-! ## Events (R402, R416 to R418) -/

section
variable {s : State} {k opcode tag status : Nat} {pl : List Byte}

theorem State.queueEvent_unpaired (h : (s.sess k).paired = false) : s.queueEvent k opcode tag status pl = s :=
  if_pos (by simp [h])

section
variable (hpaired : (s.sess k).paired = true)
include hpaired

theorem State.queueEvent_lost (hfull : 64 ≤ (s.sess k).unacked.length ∨
    s.berthTakes ((s.sess k).berthUsed (opcode / 256)) 0 = false) : s.queueEvent k opcode tag status pl =
      (s.modSess k (fun e => { e with
        lost := Tab.put e.lost (opcode / 256) (satN (Tab.getD e.lost (opcode / 256) 0 + 1) 16)
        lostTotal := satN (e.lostTotal + 1) 32 })).tally T.GW_EVENT_LOST := by
  unfold State.queueEvent
  dsimp only
  rw [if_neg (by simp [hpaired]), if_pos (by simpa using hfull)]

/-- R402, R417: an event that is kept is shown by GW_IRQ_N for SPI, and sent once over UDP while UDP_EN is 1. -/
theorem State.queueEvent_kept (hroom : (s.sess k).unacked.length < 64)
    (hberth : s.berthTakes ((s.sess k).berthUsed (opcode / 256)) 0 = true) {bs : List Byte} {u : State}
    (hbs : bs = eventPacket opcode tag (s.sess k).evSeq status (Tab.getD (s.sess k).lost (opcode / 256) 0)
      ((s.sess k).tokenLo k) pl)
    (hu : u = s.modSess k (fun e => { e with
      unacked := e.unacked ++ [{ seq := (s.sess k).evSeq, cls := opcode / 256, sentAt := s.time.cyc, bytes := bs }],
      evSeq := (e.evSeq + 1) % 256, evSent := true, lost := Tab.put e.lost (opcode / 256) 0 })) :
    s.queueEvent k opcode tag status pl =
      if k = 15 then u.irq
      else if s.get F.UDP_EN = 1 then
        u.sendUdp 2069 (s.get F.CMD_TC) (s.sess k).evIp (s.get F.GANGWAY_PORT) (s.sess k).evPort bs
      else u := by
  subst hu hbs
  unfold State.queueEvent
  dsimp only
  rw [if_neg (by simp [hpaired]), if_neg (by simp [hroom, hberth])]
  rfl

end

end

/-- Settles O60: a session is paired or not, its berth takes the event or not, and the event goes by the session's transport. -/
theorem eventsAreQueuedOrCountedLost : Obligations.EventsAreQueuedOrCountedLost := by
  unfold Obligations.EventsAreQueuedOrCountedLost
  refine fun s k opcode tag status pl => ⟨State.queueEvent_unpaired, State.queueEvent_lost,
    fun bs u hbs hu hpaired hroom hberth => ?_⟩
  rw [State.queueEvent_kept hpaired hroom hberth hbs hu]
  exact ⟨fun hspi => if_pos hspi, fun hudp hon => (if_neg hudp).trans (if_pos hon),
    fun hudp hoff => (if_neg hudp).trans (if_neg hoff)⟩

end Sys2Proof.Machine
end

section
/-! SUPPORT. Persistence and updates (14_persistence_update): fixed records and their interrupted updates, the bucket of
store tokens, the MRAM's events, the health of a trial image, and ROM recovery. -/

namespace Sys2Proof.Machine

/-! ## Fixed records (R429, R430) -/

section
variable {r : FixedRec} {x : Nat × List Byte} {m n : Nat} {old new : List Byte}

theorem FixedRec.read_agreeing (ha : r.a = some x) (hb : r.b = some x) : r.read = (some x, false) := by
  simp [FixedRec.read, ha, hb]

theorem FixedRec.read_onlyA (ha : r.a = some x) (hb : r.b = none) : r.read = (some x, true) := by
  simp [FixedRec.read, ha, hb]

theorem FixedRec.read_onlyB (ha : r.a = none) (hb : r.b = some x) : r.read = (some x, true) := by
  simp [FixedRec.read, ha, hb]

theorem FixedRec.read_newerA (ha : r.a = some (m, new)) (hb : r.b = some (n, old)) (hnewer : newer32 m n = true) :
    r.read = (some (m, new), false) := by
  have hne : m ≠ n := by
    rintro rfl
    simp [newer32_iff, wrap] at hnewer
  simp [FixedRec.read, ha, hb, hne, hnewer]

/-- R430: copy A is written with the serial that the record reads raised by 1. -/
theorem FixedRec.writeCopy_a (h : r.read.1 = some x) :
    r.writeCopy new false = { r with a := some ((x.1 + 1) % 2 ^ 32, new) } := by
  simp [FixedRec.writeCopy, h]

/-- R430: copy B is written with the serial of copy A. -/
theorem FixedRec.writeCopy_b (h : r.a = some x) : r.writeCopy new true = { r with b := some (x.1, new) } := by
  simp [FixedRec.writeCopy, h]

end

/-- Settles O55: of two whole copies the newer one is read, of two that agree either, and of one torn the other. -/
theorem anInterruptedUpdateLeavesOldOrNew : Obligations.AnInterruptedUpdateLeavesOldOrNew := by
  unfold Obligations.AnInterruptedUpdateLeavesOldOrNew
  rintro r ser old new hser ha hb r1 r2 hr1 rfl
  have hread : r.read = (some (ser, old), false) := FixedRec.read_agreeing ha hb
  rw [FixedRec.writeCopy_a (by rw [hread])] at hr1
  have ha1 : r1.a = some ((ser + 1) % 2 ^ 32, new) := by rw [hr1]
  have hb1 : r1.b = some (ser, old) := by rw [hr1, hb]
  have hnewer : newer32 ((ser + 1) % 2 ^ 32) ser = true := newer32_add hser (by decide) (by decide)
  have ha2 : (r1.writeCopy new true).a = some ((ser + 1) % 2 ^ 32, new) := by rw [FixedRec.writeCopy_b ha1, ha1]
  have hb2 : (r1.writeCopy new true).b = some ((ser + 1) % 2 ^ 32, new) := by rw [FixedRec.writeCopy_b ha1]
  exact ⟨congrArg Prod.fst hread, congrArg Prod.fst (FixedRec.read_onlyB (r := { r with a := none }) rfl hb),
    congrArg Prod.fst (FixedRec.read_newerA ha1 hb1 hnewer),
    congrArg Prod.fst (FixedRec.read_onlyA (r := { r1 with b := none }) ha1 rfl), FixedRec.read_agreeing ha2 hb2⟩

/-! ## What sending leaves of the MRAM's state (R327, R329, R416) -/

theorem State.foldl_nvm {α : Type} {f : State → α → State} (hf : ∀ s x, (f s x).nvm = s.nvm) (l : List α)
    (s : State) : (l.foldl f s).nvm = s.nvm :=
  List.foldlRecOn (motive := fun u => u.nvm = s.nvm) l f rfl fun u hu x _ => (hf u x).trans hu

section
variable (s : State)

@[simp] theorem State.viaBbi_nvm (out : List Nat) (f : Frame) (stamp : Option (Nat × Int)) :
    (s.viaBbi out f stamp).nvm = s.nvm := by
  unfold State.viaBbi
  exact State.foldl_nvm (fun _ _ => State.enqueue_nvm _ _ _) _ _

@[simp] theorem State.pumpBerth_nvm (berth : Nat) (l : List Frame) : (s.pumpBerth berth l).nvm = s.nvm := by
  induction l generalizing s with
  | nil => rfl
  | cons f r ih =>
    rw [State.pumpBerth]
    dsimp only
    split
    · rw [ih, State.viaBbi_nvm]
    · rfl

@[simp] theorem State.fillBerth_nvm (berth : Nat) (l : List Frame) : (s.fillBerth berth l).nvm = s.nvm := by
  induction l generalizing s with
  | nil => rfl
  | cons f r ih =>
    rw [State.fillBerth]
    dsimp only
    split
    · rw [ih, State.pumpBerth_nvm]
    · rfl

@[simp] theorem State.pumpPorts_nvm (l : List (Nat × Frame × Option (Nat × Int))) : (s.pumpPorts l).nvm = s.nvm := by
  induction l generalizing s with
  | nil => rfl
  | cons e r ih =>
    rw [State.pumpPorts]
    dsimp only
    split
    · rw [ih, State.viaBbi_nvm]
    · rw [ih]

@[simp] theorem State.pumpOne_nvm (berth : Nat) : (s.pumpOne berth).nvm = s.nvm := by
  unfold State.pumpOne
  simp

@[simp] theorem State.pump_nvm : s.pump.nvm = s.nvm := by
  have hberths : ((List.range 8).foldl (fun s k => s.pumpOne (2064 + k)) s).nvm = s.nvm :=
    State.foldl_nvm (fun s k => s.pumpOne_nvm (2064 + k)) _ _
  simp only [State.pump, State.pumpPorts_nvm, hberths]

@[simp] theorem State.send_nvm (berth : Nat) (f : Frame) : (s.send berth f).nvm = s.nvm := by
  unfold State.send
  rw [State.pump_nvm]

@[simp] theorem State.sendPort_nvm (b : Nat) (f : Frame) : (s.sendPort b f).nvm = s.nvm := by
  unfold State.sendPort State.sendStamped
  rw [State.pump_nvm]

@[simp] theorem State.askArp_nvm (ip : Nat) : (s.askArp ip).nvm = s.nvm := by
  unfold State.askArp State.sendOwn
  exact State.foldl_nvm (fun s b => s.sendPort_nvm b _) _ _

@[simp] theorem State.sendUdp_nvm (berth tc dst sport dport : Nat) (data : List Byte) :
    (s.sendUdp berth tc dst sport dport data).nvm = s.nvm := by
  have hcrc : (s.txCrc berth data).nvm = s.nvm := rfl
  unfold State.sendUdp
  dsimp only
  repeat' split
  all_goals simp [hcrc]

@[simp] theorem State.queueEvent_nvm (k opcode tag status : Nat) (pl : List Byte) :
    (s.queueEvent k opcode tag status pl).nvm = s.nvm := by
  unfold State.queueEvent
  dsimp only
  repeat' split
  all_goals simp

@[simp] theorem State.finalEvent_nvm (owner tag opcode status : Nat) (pl : List Byte) :
    (s.finalEvent owner tag opcode status pl).nvm = s.nvm := by
  unfold State.finalEvent
  dsimp only
  split
  · simp
  · rfl

end

/-! ## Store tokens (R438, R439, R440) -/

/-- R440: inside the window the head of the queue is begun, waits, or lets a compaction go first. -/
theorem State.beginHead_tokens {s : State} (h : s.inWindow = true) : s.beginHead.nvm.tokens = s.nvm.tokens := by
  unfold State.beginHead
  split
  next => rfl
  next x rest hq =>
    dsimp only
    rw [if_neg (not_not.2 h)]
    repeat' split
    all_goals rfl

theorem State.pushTxn_tokens {s : State} {x : Txn} (h : s.inWindow = true) : (s.pushTxn x).nvm.tokens = s.nvm.tokens :=
  State.beginHead_tokens (s := { s with nvm := { s.nvm with queue := s.nvm.queue ++ [x] } }) h

theorem State.storeRun_tokens {s : State} {owner tag : Nat} (h : s.inWindow = true) :
    (s.storeRun owner tag).nvm.tokens = if s.isDirty then s.nvm.tokens - 1 else s.nvm.tokens := by
  unfold State.storeRun State.isDirty
  dsimp only
  cases s.dirty with
  | nil => simp
  | cons e r => exact State.pushTxn_tokens h

theorem State.refuseTxn_tokens {s : State} {x : Txn} {owner tag k : Nat} (h : x.purpose = .store owner tag k) :
    (s.refuseTxn x).nvm.tokens = if x.wrote then s.nvm.tokens else min 8 (s.nvm.tokens + 1) := by
  simp only [State.refuseTxn, h, State.finalEvent_nvm]
  split <;> rfl

theorem b2n_le_one (b : Bool) : b2n b ≤ 1 := by cases b <;> decide

/-- R457: TOKENS stands in bits 8 to 11 of the first word, between the flags. -/
theorem State.nvmStatus_tokens {s : State} (h : s.nvm.tokens ≤ 8) :
    bits (nth s.nvmStatus 0 0).toNat 8 4 = s.nvm.tokens := by
  have hdirty := b2n_le_one s.isDirty
  have hprot := b2n_le_one s.dirtyProtected
  have hcalib := b2n_le_one s.calibDirty
  have hbusy := b2n_le_one (s.nvm.queue.any (·.begun))
  have hwindow := b2n_le_one s.inWindow
  have hlost := b2n_le_one s.nvm.dirtyLost
  have hrecord := b2n_le_one s.nvm.recordLost
  have htxn := b2n_le_one s.nvm.txnDiscarded
  simp only [State.nvmStatus, nth, List.getD_cons_zero, pk, bits, sumN, List.map, List.foldl, BitVec.toNat_ofNat,
    Nat.shiftRight_eq_div_pow]
  omega

/-- R439: a STORE that finds the bucket empty is judged BUSY, whatever it would write. -/
theorem cardStore_judge_empty {s : State} {c : Caller} {pl : List Byte} (h : s.nvm.tokens = 0) :
    cardStore.judge s c pl = Status.BUSY := if_pos (.inr h)

/-- Settles O51, from what each operation of the store does to the bucket. -/
theorem storeTokensPaceTheStores : Obligations.StoreTokensPaceTheStores := by
  unfold Obligations.StoreTokensPaceTheStores
  refine ⟨fun s => rfl, fun s a t ha hserving => ?refill, fun s owner tag => State.storeRun_tokens,
    fun s x owner tag k => State.refuseTxn_tokens,
    fun s p n hk hnew hroom hpilot hheld hpl hpresence htag hout hempty => ?busy, fun s => State.nvmStatus_tokens⟩
  case refill =>
    subst ha
    exact if_pos hserving
  case busy =>
    have hrow : (cardStore, Instr.store p) ∈ commandRows p := by simp [commandRows]
    have hjudge : cardStore.judge (s.served p n) (s.senderOf p n) p.payload = Status.BUSY := cardStore_judge_empty hempty
    have hdefer : cardStore.deferred = true →
        tagOk ((s.served p n).senderSess (s.senderOf p n)) (s.senderOf p n).tag = true ∧
        ((s.served p n).senderSess (s.senderOf p n)).outstanding.length < 32 := fun _ => ⟨htag, hout⟩
    have hverdict : (s.served p n).verdict (some cardStore) (s.senderOf p n) p.payload = Status.BUSY :=
      (State.verdict_judge (by rw [hpl]; rfl) (by rw [hpl]; exact hpresence) rfl hdefer).trans hjudge
    have hrefused := exec_refusedWith hrow hk ⟨hnew, hroom, hpilot, hheld⟩ hverdict (by decide) (by decide)
    exact hrefused

/-! ## Records of the MRAM (R428, R436, R440, R525) -/

/-- R428: the phases in which one record is followed by the next; in a shutdown or restart it is the last. -/
def State.writesOn (s : State) : Prop :=
  s.start.phase = .running ∨ s.start.phase = .pilotBoot ∨ s.start.phase = .bridge ∨ s.start.phase = .recovery

/-- R428, R525: what follows the end of a transaction: the migration of a start ends start-up, and a restart that waited
for it begins. -/
theorem State.afterTxn_eq {u v w y : State} {x : Txn} (hv : v = (u.committed x).txnEnd x)
    (hw : w = if v.start.phase = .pilotBoot ∧ x.purpose = .migration then v.endStartup else v)
    (hy : y = w.start.restartTag.elim w fun z => w.restartSoon z.1 z.2) : u.afterTxn x = y.beginHead.drain := by
  subst hv
  unfold State.afterTxn
  dsimp only
  rw [← hw, hy]
  cases w.start.restartTag <;> rfl

section
variable {s a : State} {t : Cyc} (ha : a = s.at t)
include ha

section
variable {u : State} {e : Option Txn} (hdone : a.recordDone = (u, e))
include hdone

theorem execMramRecordDone_last (h : ¬ a.writesOn) : execMramRecordDone t s = .next u := by
  subst ha
  unfold State.writesOn at h
  simp only [execMramRecordDone, hdone]
  cases hphase : (s.at t).start.phase <;> simp_all [nextOf]

theorem execMramRecordDone_writesOn (h : a.writesOn) :
    execMramRecordDone t s = .next (e.elim u.beginHead u.afterTxn) := by
  subst ha
  simp only [execMramRecordDone, hdone]
  rcases h with h | h | h | h
  all_goals
    rw [h]
    cases e <;> rfl

end

theorem execStoreTokenRefill_serving (h : a.serving = true) : execStoreTokenRefill t s =
    .next { a with nvm := { a.nvm with tokens := min 8 (a.nvm.tokens + 1) } } := by
  subst ha
  exact if_pos h

theorem execStoreTokenRefill_ignored (h : ¬ a.serving = true) : execStoreTokenRefill t s = .next a := by
  subst ha
  exact if_neg h

theorem execJournalCompactionUnit_ignored (h : a.compactable = false) : execJournalCompactionUnit t s = .next a := by
  subst ha
  exact if_pos (by simp [h])

section
variable (h : a.compactable = true)
include h

theorem execJournalCompactionUnit_inSlice (hslice : a.harbour.cur.slice = 0 ∧ a.sliceHad = 0) :
    execJournalCompactionUnit t s =
      .next ((a.sliceTaken 4096).pushTxn { purpose := .compaction true, steps := [] }) := by
  subst ha
  exact (if_neg (not_not.2 h)).trans (if_pos hslice)

/-- R183: outside the slice of the field a compaction is queued only while nothing else is. -/
theorem execJournalCompactionUnit_offSlice (hslice : ¬ (a.harbour.cur.slice = 0 ∧ a.sliceHad = 0)) :
    execJournalCompactionUnit t s =
      .next (if a.nvm.queue = [] then a.pushTxn { purpose := .compaction true, steps := [] } else a) := by
  subst ha
  refine (if_neg (not_not.2 h)).trans ((if_neg hslice).trans ?_)
  simp only [List.isEmpty_iff]
  split <;> rfl

end

theorem execNvmWindowRetry_serving (h : a.serving = true) : execNvmWindowRetry t s = .next a.beginHead := by
  subst ha
  exact if_pos h

theorem execNvmWindowRetry_ignored (h : ¬ a.serving = true) : execNvmWindowRetry t s = .next a := by
  subst ha
  exact if_neg h

end

/-- Settles O32: the phase tells whether writing goes on after a record, and the record whether its transaction has ended. -/
theorem storageEvents : Obligations.StorageEvents := by
  unfold Obligations.StorageEvents
  intro s a t ha
  refine ⟨fun u e hdone hrun hboot hbridge hrec => ?last, fun u hdone h => execMramRecordDone_writesOn ha hdone h,
    fun u x v w y hdone h hv hw hy => ?ends, execStoreTokenRefill_serving ha, execStoreTokenRefill_ignored ha,
    execJournalCompactionUnit_ignored ha, execJournalCompactionUnit_inSlice ha, fun h hslice hq => ?queued,
    fun h hslice hq => ?busy, execNvmWindowRetry_serving ha, execNvmWindowRetry_ignored ha⟩
  case last => exact execMramRecordDone_last ha hdone (by simp [State.writesOn, hrun, hboot, hbridge, hrec])
  case ends =>
    have hafter := State.afterTxn_eq hv hw (hy.trans (by cases w.start.restartTag <;> rfl))
    exact (execMramRecordDone_writesOn ha hdone h).trans (congrArg _ hafter)
  case queued => exact (execJournalCompactionUnit_offSlice ha h hslice).trans (by rw [if_pos hq])
  case busy => exact (execJournalCompactionUnit_offSlice ha h hslice).trans (by rw [if_neg hq])

/-! ## The health of a trial (R446, R448, R449) -/

theorem State.beforeDeadline_iff {s : State} {d : Nat} (hd : s.nvm.deadline = some d) :
    s.beforeDeadline = true ↔ s.time.cyc < d := by
  simp [State.beforeDeadline, hd]

section
variable {s a : State} {t : Cyc} (ha : a = s.at t)
include ha

theorem execImageReady_ready (h : a.serving = true ∧ a.nvm.phase = .migrating ∧ a.nvm.migrated = true) :
    execImageReady t s = .next { a with nvm := { a.nvm with phase := .ready } } := by
  subst ha
  exact if_pos h

theorem execImageReady_ignored (h : ¬ (a.serving = true ∧ a.nvm.phase = .migrating ∧ a.nvm.migrated = true)) :
    execImageReady t s = .next a := by
  subst ha
  exact if_neg h

theorem execHealthConfirm_noDeadline (hnone : a.nvm.deadline = none) : execHealthConfirm t s = .next a := by
  subst ha
  exact if_neg (by simp [State.beforeDeadline, hnone])

theorem execHealthDeadline_noDeadline (hnone : a.nvm.deadline = none) : execHealthDeadline t s = .next a := by
  subst ha
  exact if_pos (by simp [hnone])

section
variable {d : Nat} (hd : a.nvm.deadline = some d)
include hd

theorem execHealthConfirm_confirms (h : a.serving = true ∧ a.inTrial = true ∧ a.nvm.interpreting = true ∧
    a.time.cyc < d ∧ a.clearing = false ∧ a.nvm.migrated = true ∧ a.nvm.trialSince + msCyc 10000 ≤ a.time.cyc ∧
    (a.nvm.confirmByHost = true → a.nvm.hostConfirmed = true) ∧ a.confirming = false) :
    execHealthConfirm t s = .next (a.pushTxn { purpose := .confirm, steps := a.confirmSteps }) := by
  subst ha
  exact if_pos (by simpa [State.beforeDeadline_iff hd] using h)

theorem execHealthConfirm_ignored (h : ¬ (a.serving = true ∧ a.inTrial = true ∧ a.nvm.interpreting = true ∧
    a.time.cyc < d ∧ a.clearing = false ∧ a.nvm.migrated = true ∧ a.nvm.trialSince + msCyc 10000 ≤ a.time.cyc ∧
    (a.nvm.confirmByHost = true → a.nvm.hostConfirmed = true) ∧ a.confirming = false)) :
    execHealthConfirm t s = .next a := by
  subst ha
  exact if_neg (by simpa [State.beforeDeadline_iff hd] using h)

theorem execHealthDeadline_ignored (h : a.serving = false ∨ a.inTrial = false ∨ a.time.cyc < d ∨
    a.nvm.queue.any (fun x => x.purpose == WriteFor.confirm && x.begun) = true) : execHealthDeadline t s = .next a := by
  subst ha
  exact if_pos (by simpa [hd] using h)

/-- R449: past the deadline a queued confirmation is dropped, and the trial handed back or ended. -/
theorem execHealthDeadline_missed {u : State} (hserving : a.serving = true) (htrial : a.inTrial = true)
    (hpast : d ≤ a.time.cyc) (hqueue : a.nvm.queue.any (fun x => x.purpose == WriteFor.confirm && x.begun) = false)
    (hu : u = { a with nvm := { a.nvm with queue := a.nvm.queue.filter (fun x => x.purpose != WriteFor.confirm) } }) :
    execHealthDeadline t s =
      .next (if a.nvm.liveTrial then { u with nvm := { u.nvm with phase := .handback, handback := some 2 } }
        else u.trialBootEnds) := by
  subst ha hu
  exact (if_neg (by simpa [hd, hserving, htrial, hpast] using hqueue)).trans (apply_ite nextOf _ _ _).symm

end

/-! ## The watchdog and the takeover (R450, R451) -/

theorem execPilotWatchdogExpiry_ignored (h : a.serving = false ∨ a.nvm.interpreting = false) :
    execPilotWatchdogExpiry t s = .next a := by
  subst ha
  exact if_pos (by simpa using h)

section
variable (hserving : a.serving = true) (hpilot : a.nvm.interpreting = true)
include hserving hpilot

theorem execPilotWatchdogExpiry_trial (h : a.inTrial = true ∨ a.nvm.phase = .handback) : execPilotWatchdogExpiry t s =
    .next (if a.nvm.liveTrial then { a.pilotStops with nvm := { a.pilotStops.nvm with
        phase := .handback, handback := some 4, handbackAt := some a.pilotStops.scan.field } }
      else a.pilotStops.trialBootEnds) := by
  subst ha
  exact (if_neg (by simp [hserving, hpilot])).trans ((if_pos h).trans (apply_ite nextOf _ _ _).symm)

/-- R451: outside a trial the other pilot takes over, an activation in progress ended first. -/
theorem execPilotWatchdogExpiry_takeover {u : State} (htrial : a.inTrial = false) (hback : a.nvm.phase ≠ .handback)
    (hu : u = if a.nvm.phase = .none then a.pilotStops else (a.pilotStops.slotsBack .valid).endActivation) :
    execPilotWatchdogExpiry t s =
      .next (State.tally { u with nvm := { u.nvm with takeover := true } } T.FW_PILOT_RESTART) := by
  subst ha hu
  refine (if_neg (by simp [hserving, hpilot])).trans ((if_neg (by simp [htrial, hback])).trans ?_)
  by_cases hphase : (s.at t).nvm.phase = .none
  · simp [hphase, nextOf]
  · simp [hphase, nextOf]

end

theorem execPilotTakeover_takes (h : a.serving = true ∧ a.nvm.takeover = true) :
    execPilotTakeover t s = .next a.takeoverDone.drain := by
  subst ha
  exact if_pos h

theorem execPilotTakeover_ignored (h : ¬ (a.serving = true ∧ a.nvm.takeover = true)) : execPilotTakeover t s = .next a := by
  subst ha
  exact if_neg h

end

/-- Settles O17: each event by its one condition; a missed deadline and a watchdog by whether the trial is live. -/
theorem firmwareHealthEvents : Obligations.FirmwareHealthEvents := by
  unfold Obligations.FirmwareHealthEvents
  intro s a t ha
  refine ⟨execImageReady_ready ha, execImageReady_ignored ha,
    fun d hd hserving htrial hpilot hbefore hclear hmigrated hsince hhost hnone =>
      execHealthConfirm_confirms ha hd ⟨hserving, htrial, hpilot, hbefore, hclear, hmigrated, hsince, hhost, hnone⟩,
    fun _ => execHealthConfirm_ignored ha, execHealthConfirm_noDeadline ha, execHealthDeadline_noDeadline ha,
    fun _ => execHealthDeadline_ignored ha, fun d hd hserving htrial hpast hq hlive => ?handback,
    fun d hd hserving htrial hpast hq hlive => ?bootEnds, execPilotWatchdogExpiry_ignored ha,
    fun hserving hpilot h hlive => ?stopsLive, fun hserving hpilot h hlive => ?stopsBoot,
    fun hserving hpilot htrial hphase => ?idle, fun u hserving hpilot htrial hback hphase hu => ?active,
    execPilotTakeover_takes ha, execPilotTakeover_ignored ha⟩
  case handback => exact (execHealthDeadline_missed ha hd hserving htrial hpast hq rfl).trans (by rw [if_pos hlive])
  case bootEnds =>
    exact (execHealthDeadline_missed ha hd hserving htrial hpast hq rfl).trans (by rw [if_neg (by simp [hlive])])
  case stopsLive => exact (execPilotWatchdogExpiry_trial ha hserving hpilot h).trans (by rw [if_pos hlive])
  case stopsBoot => exact (execPilotWatchdogExpiry_trial ha hserving hpilot h).trans (by rw [if_neg (by simp [hlive])])
  case idle => exact execPilotWatchdogExpiry_takeover ha hserving hpilot htrial (by simp [hphase]) (if_pos hphase).symm
  case active => exact execPilotWatchdogExpiry_takeover ha hserving hpilot htrial hback (hu.trans (if_neg hphase).symm)

/-! ## ROM recovery (R440, R454, R455) -/

/-- R455: the SPI pins write and finish only in recovery with no verification running. -/
theorem State.spiClosed_iff {s : State} : (¬ s.recovering = true ∨ s.start.recSlot.isSome = true) ↔
    ¬ (s.recovering = true ∧ s.start.recSlot = none) := by
  rw [not_and_or, Option.isSome_iff_ne_none]

section
variable {s a : State} {t : Cyc} (ha : a = s.at t)
include ha

section
variable {ip port : Nat} {n m : List Byte} {z : Option Nat}

theorem execTftpWriteRequest_ignored (h : a.recovering = false) : execTftpWriteRequest t ip port n m z s = .next a := by
  subst ha
  exact if_pos (by simp [h])

section
variable (hrec : a.recovering = true)
include hrec

theorem execTftpWriteRequest_noSlot (hslot : tftpSlot n = none) :
    execTftpWriteRequest t ip port n m z s = .next (a.romRefuse ip port (tftpError 4 "")) := by
  subst ha
  refine (if_neg (by simp [hrec])).trans ?_
  rw [hslot]
  rfl

section
variable {k : Nat} (hslot : tftpSlot n = some k)
include hslot

theorem execTftpWriteRequest_refused (h : isOctet m = false ∨ a.tftpBusy ip port = true) :
    execTftpWriteRequest t ip port n m z s = .next (a.romRefuse ip port (tftpError 4 "")) := by
  subst ha
  refine (if_neg (by simp [hrec])).trans ?_
  rw [hslot]
  exact if_pos (by simpa using h)

/-- R454: a block size from 512 to 1,428 is taken and acknowledged; without one the size is 512. -/
theorem execTftpWriteRequest_opens {x : Option Nat} (hmode : isOctet m = true) (hfree : a.tftpBusy ip port = false)
    (hx : x = z.filter fun j => decide (512 ≤ j ∧ j ≤ 1428)) : execTftpWriteRequest t ip port n m z s =
      .next ((State.took { a with start := { a.start with
          tftp := some (ip, port, k, x.getD 512, 1), tftpTid := (Config.tftpTid a.time.freeCount).toNat, tftpLast := false,
          rstate := 1 } }).tftpSend (x.elim (tftpAck 0) tftpOack)) := by
  subst ha hx
  refine (if_neg (by simp [hrec])).trans ?_
  rw [hslot]
  refine (if_neg (by simp [hmode, hfree])).trans ?_
  cases z with
  | none => rfl
  | some j =>
    simp only [Option.filter_some, decide_eq_true_eq]
    split <;> rfl

end

end

end

section
variable {ip port b : Nat} {d : List Byte}

theorem execTftpDataBlock_ignored (h : a.recovering = false) : execTftpDataBlock t ip port b d s = .next a := by
  subst ha
  exact if_pos (by simp [h])

section
variable (hrec : a.recovering = true)
include hrec

theorem execTftpDataBlock_noTransfer (hnone : a.start.tftp = none) :
    execTftpDataBlock t ip port b d s = .next (a.romRefuse ip port (tftpError 5 "")) := by
  subst ha
  refine (if_neg (by simp [hrec])).trans ?_
  rw [hnone]
  rfl

theorem execTftpDataBlock_otherSender {i q k z n : Nat} (htftp : a.start.tftp = some (i, q, k, z, n))
    (h : i ≠ ip ∨ q ≠ port) : execTftpDataBlock t ip port b d s = .next (a.romRefuse ip port (tftpError 5 "")) := by
  subst ha
  refine (if_neg (by simp [hrec])).trans ?_
  rw [htftp]
  exact if_pos h

section
variable {k z n : Nat} (htftp : a.start.tftp = some (ip, port, k, z, n))
include htftp

/-- R454: what becomes of a block of the transfer's own sender. -/
theorem execTftpDataBlock_ofTransfer : execTftpDataBlock t ip port b d s =
    .next (if a.start.recSlot.isSome = true ∨ z < d.length then a
      else if b = n % 65536 then a.tftpTake k z n d
      else if 2 ≤ n ∧ b = (n - 1) % 65536 then a.tftpSend (tftpAck (n - 1)) else a) := by
  subst ha
  refine (if_neg (by simp [hrec])).trans ?_
  rw [htftp]
  refine (if_neg (by simp)).trans ?_
  simp only [nextOf, apply_ite Host.Outcome.next]

theorem execTftpDataBlock_notTaken (h : a.start.recSlot.isSome = true ∨ z < d.length) :
    execTftpDataBlock t ip port b d s = .next a := by
  rw [execTftpDataBlock_ofTransfer ha hrec htftp, if_pos h]

theorem execTftpDataBlock_outOfOrder (hnext : b ≠ n % 65536) (hagain : ¬ (2 ≤ n ∧ b = (n - 1) % 65536)) :
    execTftpDataBlock t ip port b d s = .next a := by
  rw [execTftpDataBlock_ofTransfer ha hrec htftp, if_neg hnext, if_neg hagain, ite_self]

section
variable (hidle : a.start.recSlot = none) (hsize : d.length ≤ z)
include hidle hsize

theorem execTftpDataBlock_next (hnext : b = n % 65536) : execTftpDataBlock t ip port b d s = .next (a.tftpTake k z n d) := by
  rw [execTftpDataBlock_ofTransfer ha hrec htftp, if_neg (by simp [hidle, hsize]), if_pos hnext]

theorem execTftpDataBlock_again (hnext : b ≠ n % 65536) (hn : 2 ≤ n) (hagain : b = (n - 1) % 65536) :
    execTftpDataBlock t ip port b d s = .next (a.tftpSend (tftpAck (n - 1))) := by
  rw [execTftpDataBlock_ofTransfer ha hrec htftp, if_neg (by simp [hidle, hsize]), if_neg hnext, if_pos ⟨hn, hagain⟩]

end

end

end

end

theorem execRecoverySpiWrite_writes {k o : Nat} {d : List Byte} (h : a.recovering = true ∧ a.start.recSlot = none) :
    execRecoverySpiWrite t k o d s = .next (State.slotWrite { a with
      start := { a.start with rstate := if a.inWindow then 1 else 6 } } k o d) := by
  subst ha
  exact if_neg (mt State.spiClosed_iff.1 (not_not.2 h))

theorem execRecoverySpiWrite_ignored {k o : Nat} {d : List Byte} (h : ¬ (a.recovering = true ∧ a.start.recSlot = none)) :
    execRecoverySpiWrite t k o d s = .next a := by
  subst ha
  exact if_pos (State.spiClosed_iff.2 h)

theorem execRecoverySpiFinish_begins {k z : Nat} (h : a.recovering = true ∧ a.start.recSlot = none) :
    execRecoverySpiFinish t k z s = .next (a.beginVerify k z) := by
  subst ha
  exact if_neg (mt State.spiClosed_iff.1 (not_not.2 h))

theorem execRecoverySpiFinish_ignored {k z : Nat} (h : ¬ (a.recovering = true ∧ a.start.recSlot = none)) :
    execRecoverySpiFinish t k z s = .next a := by
  subst ha
  exact if_pos (State.spiClosed_iff.2 h)

theorem execRecoverySpiStatus_answers (h : a.start.phase = .recovery) : execRecoverySpiStatus t s =
    .next { a with gw := { a.gw with irqN := true, miso := [0xFF, 0xFF, 0xFF, 0xFF] ++ le 4 a.start.rstate } } := by
  subst ha
  exact if_pos h

theorem execRecoverySpiStatus_ignored (h : ¬ a.start.phase = .recovery) : execRecoverySpiStatus t s = .next a := by
  subst ha
  exact if_neg h

/-! ## The end of a verification in recovery (R454 to R456) -/

theorem execRecoveryVerifyDone_ignored (h : a.start.recSlot = none ∨ a.recovering = false) :
    execRecoveryVerifyDone t s = .next a := by
  subst ha
  unfold execRecoveryVerifyDone
  dsimp only
  cases hslot : (s.at t).start.recSlot with
  | none => rfl
  | some e => exact if_pos (by simpa [hslot] using h)

theorem execRecoveryVerifyDone_ends {k z r : Nat} {u v w : State} (hslot : a.start.recSlot = some (k, z))
    (hrec : a.recovering = true) (hr : r = a.verified k z)
    (hu : u = if r = 3 then a.setSlot k .valid else if r = 6 then a else a.setSlot k .invalid)
    (hv : v = { u with start := { u.start with recSlot := none, rstate := r }, gw := { u.gw with irqN := false } })
    (hw : w = if v.start.tftpLast then v.tftpVerified r else v) :
    execRecoveryVerifyDone t s = .next (if r = 3 then w.recovered k else w) := by
  subst ha hr hw hv hu
  unfold execRecoveryVerifyDone
  dsimp only
  rw [hslot]
  exact if_neg (not_not.2 hrec)

end

/-- Settles O36: outside recovery nothing happens; in it a request, a block, the SPI pins and a verification each by their
own condition. -/
theorem recoveryEvents : Obligations.RecoveryEvents := by
  unfold Obligations.RecoveryEvents
  intro s a t ha
  refine ⟨fun _ _ _ _ _ => execTftpWriteRequest_ignored ha, fun _ _ _ _ _ => execTftpWriteRequest_noSlot ha,
    fun _ _ _ _ _ _ hrec => execTftpWriteRequest_refused ha hrec, fun ip port n m z k x hrec hslot hmode hfree hx => ?opens,
    fun _ _ _ _ => execTftpDataBlock_ignored ha, fun _ _ _ _ => execTftpDataBlock_noTransfer ha,
    fun _ _ _ _ _ _ _ _ _ hrec => execTftpDataBlock_otherSender ha hrec,
    fun _ _ _ _ _ _ _ hrec => execTftpDataBlock_notTaken ha hrec,
    fun _ _ _ _ _ _ _ hrec => execTftpDataBlock_next ha hrec, fun _ _ _ _ _ _ _ hrec => execTftpDataBlock_again ha hrec,
    fun _ _ _ _ _ _ _ hrec => execTftpDataBlock_outOfOrder ha hrec, fun _ _ _ => execRecoverySpiWrite_writes ha,
    fun _ _ _ => execRecoverySpiWrite_ignored ha, execRecoverySpiStatus_answers ha, execRecoverySpiStatus_ignored ha,
    fun _ _ => execRecoverySpiFinish_begins ha, fun _ _ => execRecoverySpiFinish_ignored ha,
    execRecoveryVerifyDone_ignored ha, fun _ _ _ _ _ _ => execRecoveryVerifyDone_ends ha⟩
  case opens =>
    exact (execTftpWriteRequest_opens ha hrec hslot hmode hfree hx).trans (by cases x <;> rfl)

end Sys2Proof.Machine
end

section
/-! SUPPORT. Power and thermal management (15_power_thermal): the rails' sequences and faults, the critical margin and the
end of a shutdown. -/

namespace Sys2Proof.Machine

/-! ## Rail sequences (R460, R461) -/

section
variable {s a : State} {t : Cyc} (ha : a = s.at t)
include ha

theorem execRailUpStep_notDue (h : a.power.seqs.find? (fun q => a.seqDue true q) = none) :
    execRailUpStep t s = .next a := by
  subst ha
  simp only [execRailUpStep, h, nextOf]

theorem execRailDownStep_notDue (h : a.power.seqs.find? (fun q => a.seqDue false q) = none) :
    execRailDownStep t s = .next a := by
  subst ha
  simp only [execRailDownStep, h, nextOf]

section
variable {q q2 : RailSeq} {r : Nat}

theorem execRailUpStep_raises (h : a.power.seqs.find? (fun q => a.seqDue true q) = some q)
    (hstep : stepSeq q = (q2, some r)) : execRailUpStep t s = .next (State.modRail { a with
      power := { a.power with seqs := a.power.seqs.map (fun x =>
        if x = q then { q2 with wait := some r, since := a.time.cyc } else x) } } r
      (fun x => { x with enable := true, pg := false })) := by
  subst ha
  simp only [execRailUpStep, h, hstep, nextOf]

theorem execRailDownStep_lowers (h : a.power.seqs.find? (fun q => a.seqDue false q) = some q)
    (hstep : stepSeq q = (q2, some r)) : execRailDownStep t s = .next (State.modRail { a with
      power := { a.power with seqs := a.power.seqs.map (fun x => if x = q then { q2 with since := a.time.cyc } else x) } } r
      (fun x => { x with enable := false, pg := false })).endSeqs := by
  subst ha
  simp only [execRailDownStep, h, hstep, nextOf]

end

/-! ## Power-good (R460, R463) -/

theorem execRailPgRise_alive {r : Nat} (h : a.alive = true) : execRailPgRise t r s = .next (a.pgRise r) := by
  subst ha
  exact if_pos h

theorem execRailPgRise_ignored {r : Nat} (h : ¬ a.alive = true) : execRailPgRise t r s = .next a := by
  subst ha
  exact if_neg h

theorem execRailPgTimeout_none (h : (a.power.seqs.find? fun q => q.up && q.wait.isSome &&
    decide (q.since + msCyc (a.get F.PG_TIMEOUT_MS) ≤ a.time.cyc)) = none) : execRailPgTimeout t s = .next a := by
  subst ha
  simp only [execRailPgTimeout, h, Option.bind_none, nextOf]

theorem execRailPgTimeout_faults {q : RailSeq} {r : Nat} (h : (a.power.seqs.find? fun q => q.up && q.wait.isSome &&
    decide (q.since + msCyc (a.get F.PG_TIMEOUT_MS) ≤ a.time.cyc)) = some q) (hwait : q.wait = some r) :
    execRailPgTimeout t s = .next (a.railFault r) := by
  subst ha
  simp only [execRailPgTimeout, h, Option.bind_some, hwait, nextOf]

/-- R463: a power-good lost by a rail that is enabled, in use and not falling is a rail fault. -/
theorem execRailPgLost_eq {r : Nat} {u : State} (hu : u = a.modRail r (fun x => { x with pg := false })) :
    execRailPgLost t r s = .next (if (nth a.power.rails r {}).enable = true ∧ (nth a.power.rails r {}).pg = true ∧
      u.railUsed r = true ∧ u.power.railSeq ≠ 3 ∧ u.falling r = false then u.railFault r else u) := by
  subst ha hu
  simp only [execRailPgLost, Bool.not_eq_true, nextOf, apply_ite Host.Outcome.next]

/-! ## Retries, the critical margin and the end of a shutdown (R463, R473, R485) -/

theorem execRailRetry_ignored (h : a.start.phase ≠ .running) : execRailRetry t s = .next a := by
  subst ha
  exact if_pos h

theorem execRailRetry_raises {due : List (Nat × List Nat)} (h : a.start.phase = .running)
    (hdue : due = a.power.retry.filter (fun e => decide (e.1 + msCyc 1000 ≤ a.time.cyc))) :
    execRailRetry t s = .next (due.foldl (fun x e =>
      x.startPartSeq true (e.2.filter (fun r => decide ((nth x.power.rails r {}).attempts < 3))))
      { a with power := { a.power with retry := a.power.retry.filter (fun e => !due.contains e) } }) := by
  subst ha hdue
  exact if_neg (not_not.2 h)

theorem execAvsCriticalMargin_ignored {r : Readings} (h : a.serving = false ∨ Config.avsCritical ≤ r.margin) :
    execAvsCriticalMargin t r s = .next a := by
  subst ha
  exact if_pos (by simpa using h)

theorem execAvsCriticalMargin_takes {r : Readings} {u : State} (hserving : a.serving = true)
    (hmargin : r.margin < Config.avsCritical)
    (hu : u = State.settleVcore { a with power := { a.power with margin := r.margin } } r.late) :
    execAvsCriticalMargin t r s = .next (if u.roundv F.AVS_EN = 1 ∧ u.power.avsFail = false
      then (u.setVcore (min 800 (u.power.vcore + 10)) r.acks).floor else u.floor) := by
  subst ha hu
  refine (if_neg (by simp [hserving, hmargin])).trans ?_
  simp only [Bool.not_eq_true, nextOf, apply_ite Host.Outcome.next]

theorem execShutdownHalt_halts (h : a.start.phase = .shuttingDown ∧ a.power.rails.all (fun r => !r.enable) = true) :
    execShutdownHalt t s = .next { a.finishRecord with
      start := { a.finishRecord.start with phase := .halted }, bb := a.finishRecord.bb.map (fun _ => {}) } := by
  subst ha
  exact if_pos h

theorem execShutdownHalt_ignored (h : ¬ (a.start.phase = .shuttingDown ∧ a.power.rails.all (fun r => !r.enable) = true)) :
    execShutdownHalt t s = .next a := by
  subst ha
  exact if_neg h

end

/-- Settles O33: each event by its own condition; a lost power-good by whether the rail had to stay up. -/
theorem railSequenceEvents : Obligations.RailSequenceEvents := by
  unfold Obligations.RailSequenceEvents
  intro s a t ha
  refine ⟨execRailUpStep_notDue ha, fun _ _ _ => execRailUpStep_raises ha, execRailDownStep_notDue ha,
    fun _ _ _ => execRailDownStep_lowers ha, fun _ => execRailPgRise_alive ha, fun _ => execRailPgRise_ignored ha,
    execRailPgTimeout_none ha, fun _ _ => execRailPgTimeout_faults ha,
    fun r u hu henable hpg hused hseq hfall => ?fault, fun r u hu h => ?noFault, execRailRetry_ignored ha,
    fun _ => execRailRetry_raises ha, fun _ => execAvsCriticalMargin_ignored ha,
    fun _ _ => execAvsCriticalMargin_takes ha, execShutdownHalt_halts ha, execShutdownHalt_ignored ha⟩
  case fault => exact (execRailPgLost_eq ha hu).trans (by rw [if_pos ⟨henable, hpg, hused, hseq, hfall⟩])
  case noFault => exact (execRailPgLost_eq ha hu).trans (by rw [if_neg h])

end Sys2Proof.Machine
end

section
/-! SUPPORT. Observation (17_observation) and start-up (18_startup_pins_electrical): the tallies, the state in reset, and the
events of reset and start-up. -/

namespace Sys2Proof.Machine

/-! ## Tallies (R508) -/

theorem satN_eq_min (v b : Nat) : satN v b = min v (2 ^ b - 1) := by
  unfold satN
  split <;> omega

/-- Settles O58: the table of tallies takes the saturated sum at one ID. -/
theorem talliesCountUpAndSaturate : Obligations.TalliesCountUpAndSaturate := by
  unfold Obligations.TalliesCountUpAndSaturate
  exact fun s id k => ⟨fun j => (Tab.getD_put _ _ _ _ _).trans (by rw [satN_eq_min]), rfl⟩

/-! ## The state in reset (R516, R526) -/

theorem nth_replicate_default {α : Type} (n k : Nat) (d : α) : nth (List.replicate n d) k d = d := by
  unfold nth
  rw [List.getD_eq_getElem?_getD, List.getElem?_replicate]
  split <;> rfl

/-- Settles O42: sessions, rails and ports are lists of parts in their initial state, and no object has been written. -/
theorem resetLeavesTheStatedValues : Obligations.ResetLeavesTheStatedValues := by
  unfold Obligations.ResetLeavesTheStatedValues
  refine ⟨rfl, rfl, rfl, rfl, fun _ => rfl, fun _ => rfl, rfl, fun k => ?sessions, rfl, fun r hr => ?rails, rfl,
    fun k => ?ports, fun b => ?backbone, fun l hl => ?evt, fun l hl => ?te, rfl⟩
  case sessions =>
    have h : State.reset.sess k = {} := nth_replicate_default 16 k ({} : Session)
    exact ⟨by rw [h], by rw [h]⟩
  case rails => rw [(List.mem_replicate.1 hr).2]
  case ports => exact congrArg Port.state (nth_replicate_default 16 k {})
  case backbone => exact congrArg Backbone.link (nth_replicate_default 2 b {})
  case evt => exact (List.mem_replicate (n := 4).1 hl).2
  case te => exact (List.mem_replicate.1 hl).2

/-! ## Reset and restart (R516, R518, R519, R525) -/

section
variable {s a : State} {t : Cyc} (ha : a = s.at t)
include ha

theorem execResetRelease_ignored {r : Bool} (h : a.releasable = false) : execResetRelease t r s = .next a := by
  subst ha
  exact if_neg (by simp [h])

theorem execResetRelease_releases {r : Bool} {u : State} (h : a.releasable = true) (hu : u = a.takeSecurity) :
    execResetRelease t r s = .next { u with
      start := { u.start with phase := .rom, recoverLow := r }, time := { u.time with releaseCyc := u.time.cyc },
      bridge := { u.bridge with mac := u.macStored } } := by
  subst ha hu
  exact if_pos h

theorem execResetAssert_ended {c : ResetCause}
    (h : a.start.phase = .unpowered ∨ a.start.phase = .shuttingDown ∨ a.start.phase = .halted) :
    execResetAssert t c s = .next a := by
  subst ha
  unfold execResetAssert
  rcases h with h | h | h
  all_goals
    dsimp only
    rw [h]
    rfl

theorem execResetAssert_heldByPin (h : a.start.phase = .held) : execResetAssert t .pin s = .next a := by
  subst ha
  simp only [execResetAssert, h]
  rfl

/-- R518: a brown-out while reset holds is noted as its source. -/
theorem execResetAssert_heldInBrownOut (h : a.start.phase = .held) : execResetAssert t .brownOut s =
    .next { a with start := { a.start with source := 0, restartFor := 0 } } := by
  subst ha
  simp only [execResetAssert, h]
  rfl

/-- R518: the source of a reset that the device notes. -/
def resetSource : ResetCause → Nat
  | .pin => 1
  | .brownOut => 0

theorem execResetAssert_resets {c : ResetCause} (hoff : a.start.phase ≠ .unpowered)
    (hdown : a.start.phase ≠ .shuttingDown) (hhalt : a.start.phase ≠ .halted) (hheld : a.start.phase ≠ .held) :
    execResetAssert t c s = .next (a.finishRecord.intoReset (resetSource c) 0) := by
  subst ha
  unfold execResetAssert
  dsimp only
  split
  next h => exact absurd h hoff
  next h => exact absurd h hdown
  next h => exact absurd h hhalt
  next h => exact absurd h hheld
  next => cases c <;> rfl

theorem execSupplyRemoved_eq {u : State} (hu : u = a.tear.intoReset 0 0) :
    execSupplyRemoved t s = .next { u with start := { u.start with phase := .unpowered } } := by
  subst ha hu
  rfl

theorem execRestartReset_resets (h : a.start.phase = .restarting ∧ a.power.rails.all (fun r => !r.enable) = true ∧
    a.start.restartAt + msCyc 20 ≤ a.time.cyc) :
    execRestartReset t s = .next (a.finishRecord.intoReset 2 a.start.restartFor) := by
  subst ha
  exact if_pos h

theorem execRestartReset_ignored (h : ¬ (a.start.phase = .restarting ∧ a.power.rails.all (fun r => !r.enable) = true ∧
    a.start.restartAt + msCyc 20 ≤ a.time.cyc)) : execRestartReset t s = .next a := by
  subst ha
  exact if_neg h

/-! ## The ROM's steps (R453, R520) -/

theorem execSramTestDone_ends {r f : Bool} (h : a.start.phase = .rom) : execSramTestDone t r f s =
    .next (State.beginSlot { a with start := { a.start with
      repaired := r, sramFault := f, phase := if f then .sramFault else .bridge } }) := by
  subst ha
  exact if_neg (not_not.2 h)

theorem execSramTestDone_ignored {r f : Bool} (h : ¬ a.start.phase = .rom) : execSramTestDone t r f s = .next a := by
  subst ha
  exact if_pos h

/-- R453: the ROM samples presence once, 20 ms after a release with RECOVER_N low. -/
theorem execRecoveryPresenceSample_samples (h : (a.start.phase = .rom ∨ a.start.phase = .bridge) ∧
    a.start.recoverLow = true ∧ a.start.sampled = false ∧ a.time.releaseCyc + msCyc 20 ≤ a.time.cyc) :
    execRecoveryPresenceSample t s = .next (State.beginSlot { a with
      start := { a.start with sampled := true, recover := a.presence == 2 },
      nvm := { a.nvm with recoveryDenied := a.nvm.recoveryDenied || !(a.presence == 2) } }) := by
  subst ha
  obtain ⟨hphase | hphase, hlow, hsampled, hlate⟩ := h
  all_goals exact if_neg (by simp [hphase, hlow, hsampled, hlate])

theorem execRecoveryPresenceSample_ignored (h : ¬ ((a.start.phase = .rom ∨ a.start.phase = .bridge) ∧
    a.start.recoverLow = true ∧ a.start.sampled = false ∧ a.time.releaseCyc + msCyc 20 ≤ a.time.cyc)) :
    execRecoveryPresenceSample t s = .next a := by
  subst ha
  refine if_pos ?_
  contrapose! h
  obtain ⟨hearly, hlow, hsampled, hlate⟩ := h
  refine ⟨?_, hlow, by simpa using hsampled, hlate⟩
  cases hphase : (s.at t).start.phase <;> simp [hphase] at hearly ⊢

section
variable (hphase : a.start.phase = .bridge)
include hphase

theorem execSlotCheckDone_boot {k : Nat} (hq : a.nvm.queue = []) (hslot : a.nvm.bootSlot = some k) :
    execSlotCheckDone t s = .next (if a.checkSlot k = SlotCheck.ok then a.bootPassed k else a.bootFailed k) := by
  subst ha
  refine (if_pos ⟨hphase, by simp [hq]⟩).trans ?_
  rw [hslot]
  rfl

theorem execSlotCheckDone_waits (h : a.nvm.queue ≠ [] ∨ a.nvm.bootSlot = none) : execSlotCheckDone t s = .next a := by
  subst ha
  have hnotServing : (s.at t).serving = false := by simp [State.serving, hphase]
  unfold execSlotCheckDone
  dsimp only
  by_cases hq : (s.at t).nvm.queue = []
  · rw [if_pos ⟨hphase, by simp [hq]⟩, h.resolve_left (not_not.2 hq)]
    rfl
  · rw [if_neg (by simp [hq]), if_neg (by simp [hnotServing])]
    rfl

end

section
variable (hphase : a.start.phase ≠ .bridge)
include hphase

theorem execSlotCheckDone_activation (h : a.serving = true ∧ a.nvm.phase = .booting ∧
    (a.slot a.otherSlot).state = .trial) : execSlotCheckDone t s = .next a.activationCheck := by
  subst ha
  exact (if_neg fun hb => hphase hb.1).trans (if_pos h)

theorem execSlotCheckDone_ignored (h : ¬ (a.serving = true ∧ a.nvm.phase = .booting ∧
    (a.slot a.otherSlot).state = .trial)) : execSlotCheckDone t s = .next a := by
  subst ha
  exact (if_neg fun hb => hphase hb.1).trans (if_neg h)

end

/-! ## The end of a start (R521, R522) -/

theorem execPilotBootDone_ignored
    (h : a.start.phase ≠ .pilotBoot ∨ a.nvm.queue.any (fun x => x.purpose == .migration) = true) :
    execPilotBootDone t s = .next a := by
  subst ha
  exact if_pos h

theorem execPilotBootDone_boots {u : State} (hphase : a.start.phase = .pilotBoot)
    (hq : a.nvm.queue.any (fun x => x.purpose == .migration) = false) (hu : u = a.readMram.startMigration) :
    execPilotBootDone t s = .next (if u.nvm.queue.any (·.begun) then u else u.endStartup.drain) := by
  subst ha
  unfold execPilotBootDone
  dsimp only
  rw [if_neg (by simp [hphase, hq]), ← hu]
  exact (apply_ite nextOf _ _ _).symm

end

/-- Settles O35: reset by the phase that it finds, each step of the ROM by its own condition, and the end of a start by the
migration that is being written. -/
theorem startAndResetEvents : Obligations.StartAndResetEvents := by
  unfold Obligations.StartAndResetEvents
  intro s a t ha
  exact ⟨fun _ => execResetRelease_ignored ha, fun _ _ => execResetRelease_releases ha, fun _ => execResetAssert_ended ha,
    execResetAssert_heldByPin ha, execResetAssert_heldInBrownOut ha, execResetAssert_resets (c := .pin) ha,
    execResetAssert_resets (c := .brownOut) ha, fun _ => execSupplyRemoved_eq ha, execRestartReset_resets ha,
    execRestartReset_ignored ha, fun _ _ => execSramTestDone_ends ha, fun _ _ => execSramTestDone_ignored ha,
    execRecoveryPresenceSample_samples ha, execRecoveryPresenceSample_ignored ha,
    fun _ hphase => execSlotCheckDone_boot ha hphase, execSlotCheckDone_waits ha,
    fun hphase hserving hboot htrial => execSlotCheckDone_activation ha hphase ⟨hserving, hboot, htrial⟩,
    execSlotCheckDone_ignored ha, execPilotBootDone_ignored ha, fun _ => execPilotBootDone_boots ha⟩

end Sys2Proof.Machine
end
